-- ==== Sys2Proof/Word.lean ====
section
/-! DEFINITION. The numbers the FH1236 counts with (spec/00, Numbering and Fixed quantities): transmitters, columns,
banks, members and lines as bounded numbers, bytes, and the plainest operations on vectors and bit sets. -/

namespace Sys2Proof

/-- One byte on the host link. -/
abbrev Byte := BitVec 8
/-- Transmitters 0-11, which are also the matrix rows. -/
abbrev Tx := Fin 12
/-- Matrix columns 0-35: antennas 0-31, dummy loads 32-35. -/
abbrev Col := Fin 36
/-- Season banks 0 and 1. -/
abbrev Bank := Fin 2
/-- Entry pages 0-63 of a bank. -/
abbrev Page := Fin 64
/-- Interlock members 0-23. -/
abbrev Member := Fin 24
/-- Field lines 0-31. -/
abbrev Line := Fin 32
/-- The 16 bytes of one schedule entry slot, first byte most significant (R32). -/
abbrev Slot := BitVec 128
/-- The six bytes of a season code as a bank header carries it (R30). -/
abbrev SeasonCode := Vector Byte 6

/-- The transmitters in order. -/
def allTx : List Tx := [0, 1, 2, 3, 4, 5, 6, 7, 8, 9, 10, 11]
/-- The antenna columns and the dummy loads in order. -/
def allCols : List Col :=
  [0, 1, 2, 3, 4, 5, 6, 7, 8, 9, 10, 11, 12, 13, 14, 15, 16, 17] ++
  [18, 19, 20, 21, 22, 23, 24, 25, 26, 27, 28, 29, 30, 31, 32, 33, 34, 35]
/-- The interlock members in order. -/
def allMembers : List Member :=
  [0, 1, 2, 3, 4, 5, 6, 7, 8, 9, 10, 11, 12, 13, 14, 15, 16, 17, 18, 19, 20, 21, 22, 23]
/-- The field lines in order. -/
def allLines : List Line :=
  [0, 1, 2, 3, 4, 5, 6, 7, 8, 9, 10, 11, 12, 13, 14, 15] ++
  [16, 17, 18, 19, 20, 21, 22, 23, 24, 25, 26, 27, 28, 29, 30, 31]

/-- `v` with `x` at place `i`. -/
def upd {α : Type} {n : Nat} (v : Vector α n) (i : Fin n) (x : α) : Vector α n := v.set i.val x i.isLt

/-- `f` on every place of `v`, by way of its list so that the kernel can evaluate it. -/
def mapV {α β : Type} {n : Nat} (f : α → β) (v : Vector α n) : Vector β n :=
  ⟨⟨v.toArray.toList.map f⟩, by simp⟩

/-- The numbers `0 .. k-1`. -/
def upTo : Nat → List Nat
  | 0 => []
  | k + 1 => upTo k ++ [k]

/-- The bit set `s` with bit `i` set. -/
def setBit {n : Nat} (s : BitVec n) (i : Nat) : BitVec n := s ||| (BitVec.ofNat n (2 ^ i))
/-- The bit set `s` without the bits of `r`. -/
def without {n : Nat} (s r : BitVec n) : BitVec n := s &&& (~~~ r)
/-- The bit set whose one bit is `i`. -/
def oneBit (n i : Nat) : BitVec n := BitVec.ofNat n (2 ^ i)

end Sys2Proof
end

