-- ==== Sys2Proof/Config.lean ====
section
/-! DEFINITION. The fixed quantities of the part (spec/00, Fixed quantities) and the values the spec leaves open:
uninterpreted constants, of which nothing in Lean can compute or prove a value (notes/assumptions). -/

namespace Sys2Proof.Config

/-- Frames the request queue holds (R188). -/
def requestQueueSize : Nat := 4
/-- Notices the notice queue holds (R192). -/
def noticeQueueSize : Nat := 16
/-- Records the Transmission Log holds (R200). -/
def logSize : Nat := 256
/-- Firings the Upcoming List holds (R69). -/
def upcomingSize : Nat := 128
/-- Fault records a check report holds (R61). -/
def faultListSize : Nat := 16
/-- The largest total of a check (R61). -/
def faultTotalMax : Nat := 65535
/-- Motor slots (R103). -/
def motorSlots : Nat := 3
/-- Phase ticks of a status polling interval, 2 s (R119). -/
def pollTicks : Nat := 200
/-- Phase ticks of the pulse watch, 3 s (R24). -/
def pulseWatchTicks : Nat := 300
/-- Phase ticks of the receiver's gap count (R187). -/
def gapTicks : Nat := 3
/-- Phase ticks for which the reference is seen good before it is judged present (R20). -/
def referenceTicks : Nat := 100
/-- Phase ticks start-up waits after the last POLL, 1 s (R207). -/
def startupPollTicks : Nat := 100
/-- The tick at which a page write has completed: within 8 ms (R35), so within one phase tick (log 2). -/
def pageWriteTicks : Nat := 1
/-- Phase ticks within which a bank erase completes, 400 ms (R35; log 2). -/
def eraseTicks : Nat := 40
/-- Phase ticks within which a check completes, 2 s (R51; log 2). -/
def checkTicks : Nat := 200

/-- The part identity that READ_STATUS returns: the family, the part number and the revision (R196). -/
def partFamily : String := "FALBRIX"
/-- See `partFamily`. -/
def partNumber : Nat := 1236
/-- See `partFamily`. -/
def partRevision : Nat := 1

/-- The level of the rate strap: true for 460,800 bit/s (R186). Not the part's to choose (log 7). -/
opaque rateStrap : Bool
/-- The condition in which a reset leaves a page whose write or erase it cuts, R46's three cases: 0 unprogrammed
(erased), 1 programmed (or its former contents, for an erase), 2 partly programmed. A free value for each number of
the machine's counter (log 8). -/
opaque cutPage : Nat → Fin 3
/-- How many of the state cell writes of the event that a reset cuts had completed. A free value (log 8). -/
opaque cellsDone : Nat → Nat
/-- Whether the cell write after those had begun: its copy then fails its check (R34). A free value (log 8). -/
opaque cellCut : Nat → Bool
/-- How many visits of its passes a check makes in one phase tick. A free value (log 9): the spec says only that a
check completes within 2 s. -/
opaque checkPace : Nat → Nat
/-- The activation number of a state cell neither of whose copies passes its check. A free value (log 10). -/
opaque lostActivation : Nat → BitVec 32
/-- The erase pending item of such a cell. A free value (log 10). -/
opaque lostErasePending : Nat → Bool
/-- The values that the body of a request of a kind carries, in the order the request's rule names them, or none
where the body's length is wrong for the kind. The spec does not lay these bodies out (log 4). -/
opaque bodyValues : Byte → List Byte → Option (List Nat)

end Sys2Proof.Config
end

