-- ==== Sys2Proof/Syntax.lean ====
section
/-! DEFINITION. The commands of the FH1236: one constructor of `Instr` for each row of spec/opcode_table.json, with
the values its rule names as operands (log 3), and the small types those operands are made of. A request's value that
its rule compares with a list of named values is an `Option`: `none` is a value outside the list. Numbers that a rule
tests against a range are plain numbers. -/

namespace Sys2Proof.Machine

/-- A taken request's tag, and whether its body has the length its rule gives. -/
structure Head where
  tag : Byte
  sized : Bool
deriving DecidableEq, Repr

/-- What a column carries (R8). -/
inductive ColKind where | curtain | logPeriodic | other | load
deriving DecidableEq, Repr
/-- A contact reading that a module reports (R93). -/
inductive Contacts where | openContact | closedContact | neither | both
deriving DecidableEq, Repr
/-- The direction of a drive (R93). -/
inductive Direction where | opening | closing
deriving DecidableEq, Repr
/-- The row condition CSQ reports to MXC (R97). -/
inductive RowCondition where | quiet | ramp | onAir | held | tripped
deriving DecidableEq, Repr
/-- Why a drive failed (R105, R107, R108). -/
inductive DriveFailure where | routeUnknown | rowBusy | columnBusy | driveTimeout | suspended
deriving DecidableEq, Repr
/-- One source of a hold set or of the suspension set (R108, R115). -/
inductive Source where
  | member (m : Member)
  | emergency
  | mains
deriving DecidableEq, Repr
/-- A set of sources: the hold set of a transmitter, or the suspension set (R108, R115). -/
structure Sources where
  members : BitVec 24
  emergency : Bool
  mains : Bool
deriving DecidableEq, Repr
/-- One window of one entry of a bank: the work of the schedule on a transmitter (R115). Days are counted from
2000-01-01, the window end in minutes from 2000-01-01 00:00. -/
structure SchedRef where
  bank : Bank
  entry : Nat
  day : Nat
  windowEnd : Nat
deriving DecidableEq, Repr
/-- The kind of a minute boundary (R27). -/
inductive BoundaryKind where | advance | step
deriving DecidableEq, Repr
/-- A minute boundary (R27): the minute as it stands after the change, and for STEP the reading before it, both in
minutes from 2000-01-01 00:00. -/
structure Boundary where
  kind : BoundaryKind
  now : Nat
  clockSet : Bool
  previous : Option Nat
deriving DecidableEq, Repr
/-- The eight limits of SET_LIMITS (R136): in a request, milliseconds; in the part, phase ticks. -/
structure Limits where
  claimWait : Nat
  mute : Nat
  settle : Nat
  tune : Nat
  travel : Nat
  hold : Nat
  ramp : Nat
  arming : Nat
deriving DecidableEq, Repr
/-- The six protection settings (R165): times in milliseconds in a request, in phase ticks in the part. -/
structure Protection where
  restrikeLimit : Nat
  restrikeDelay : Nat
  restrikeWindow : Nat
  carrierLoss : Nat
  mainsLevel : Nat
  mainsRecovery : Nat
deriving DecidableEq, Repr
/-- Which monitor SET_MONITOR names (R151). -/
inductive MonitorName where | reflected | forward
deriving DecidableEq, Repr
/-- A monitor's edge selection (R150). -/
inductive Edges where | rise | fall | both
deriving DecidableEq, Repr
/-- The forward monitor's source (R149). -/
inductive Coupler where | transmitter | line
deriving DecidableEq, Repr
/-- The kind SET_LINE names (R170). -/
inductive LineUse where | unused | input | output | lamp | pulse | interlock
deriving DecidableEq, Repr
/-- The scope and scope parameter that SET_MEMBER carries (R176), as the request gives them. -/
inductive ScopeArg where
  | transmitters (set : BitVec 16)
  | antenna (column : Nat)
  | matrix
  | other
deriving DecidableEq, Repr
/-- The clock source (R17). -/
inductive ClockSource where | reference | internal
deriving DecidableEq, Repr
/-- The start kind (R205). -/
inductive StartKind where | cold | warm
deriving DecidableEq, Repr
/-- The expected column of MANUAL_TUNE: not given, NONE, or a column (R137). -/
inductive Expected where
  | absent
  | noColumn
  | column (c : Nat)
deriving DecidableEq, Repr
/-- The arguments of MANUAL_TUNE (R137). -/
structure TuneOrder where
  transmitter : Nat
  column : Nat
  kHz : Nat
  kW : Nat
  programme : Nat
  expected : Expected
  override : Option Bool
deriving DecidableEq, Repr
/-- A settled level of an interlock member, or UNSETTLED (R176). -/
inductive MemberLevel where | active | released | unsettled
deriving DecidableEq, Repr

end Sys2Proof.Machine

namespace Sys2Proof

open Sys2Proof.Machine

/-- The commands: the 128 rows of spec/opcode_table.json. -/
inductive Instr where
  -- host requests taken (R189)
  | setTransmitter (h : Head) (t : Nat) (present : Bool) (rated step low high programmes : Nat)
  | setAntenna (h : Head) (c : Nat) (present : Bool) (kind : ColKind) (bands : BitVec 16)
  | setAvailability (h : Head) (t : Nat) (available : Option Bool)
  | setLimits (h : Head) (l : Limits)
  | setMonitor (h : Head) (t : Nat) (which : Option MonitorName) (level : Nat) (filter : Option Bool) (n : Nat)
      (edges : Option Edges) (source : Option Coupler)
  | setProtection (h : Head) (p : Protection)
  | setLine (h : Head) (line : Nat) (kind : Option LineUse) (parameter : Nat)
  | setMember (h : Head) (m line : Nat) (activeHigh : Option Bool) (scope : ScopeArg)
  | setMemberRemove (h : Head) (m : Nat)
  | writeLines (h : Head) (writes : List (Nat × Nat))
  | setTime (h : Head) (year month day minute second tenth : Nat)
  | setClockSource (h : Head) (source : Option ClockSource)
  | eraseBank (h : Head) (b : Nat)
  | openBank (h : Head) (b : Nat) (code : SeasonCode) (year month day minute : Nat)
  | writeEntries (h : Head) (b page : Nat) (entries : List Slot)
  | closeBank (h : Head) (b : Nat)
  | checkBank (h : Head) (b : Nat)
  | cancelCheck (h : Head) (b : Nat)
  | readBank (h : Head) (b : Nat)
  | readEntries (h : Head) (b page : Nat)
  | run (h : Head)
  | haltDrain (h : Head) (named : Bool)
  | haltStop (h : Head)
  | readUpcoming (h : Head) (index : Nat)
  | manualTune (h : Head) (o : TuneOrder)
  | manualEnd (h : Head) (t : Nat)
  | resumeSchedule (h : Head) (t : Nat)
  | releaseTransmitter (h : Head) (t : Nat)
  | readTransmitter (h : Head) (t : Nat)
  | withdrawAntenna (h : Head) (c : Nat) (force : Option Bool)
  | restoreAntenna (h : Head) (c : Nat)
  | pollMatrix (h : Head) (module : Option Nat)
  | readRoutes (h : Head)
  | readAntenna (h : Head) (c : Nat)
  | readLines (h : Head)
  | readInterlock (h : Head)
  | interlockClearGroup (h : Head) (named : Bool)
  | interlockClearEmergency (h : Head)
  | readStatus (h : Head)
  | readLog (h : Head)
  | setNoticeEnables (h : Head) (enables : Byte)
  | clearSources (h : Head) (classes : Byte)
  | saveSettings (h : Head) (autorun warmAdopt : Option Bool)
  | setStartKind (h : Head) (kind : Option StartKind)
  | restart (h : Head)
  | unknownKind (h : Head) (kind : Byte)
  -- the host link
  | frameReceived (bytes : List Byte)
  | linkGapExpiry
  | outgoingFrameBegin
  | outgoingFrameEnd
  -- the clock
  | clockTenthAdvance
  | referenceJudgedPresent
  | referenceInputFailure
  | secondPulse
  | pulseWatchExpiry
  -- the schedule engine
  | minuteBoundary (b : Boundary)
  | scheduleWorkEnded (t : Tx) (work : SchedRef)
  -- the store and the check
  | headerWriteComplete
  | entryPageWriteComplete
  | settingsWriteComplete
  | eraseComplete
  | checkComplete
  -- the matrix controller
  | position (t : Tx) (c : Col) (k : Contacts)
  | travelLimitExpiry (t : Tx) (c : Col)
  | claim (t : Tx) (c : Col)
  | release (t : Tx) (c : Col)
  | withdrawClaim (t : Tx) (c : Col)
  | driveRequest (t row : Tx) (c : Col) (d : Direction) (priority : Fin 4)
  | cancelDrive (t : Tx)
  | rowConditionReport (t : Tx) (r : RowCondition)
  | muteConfirmedReport (t : Tx) (yes : Bool)
  | suspectMark (c : Col)
  | suspensionSourceAdd (a : Source)
  | suspensionSourceRemove (r : Sources)
  | gateMemberAdd (c : Col) (m : Member)
  | gateMemberRemove (c : Col) (ms : BitVec 24)
  -- the sequencer: answers and reports of MXC, holds
  | claimGranted (t : Tx) (c : Col)
  | claimListed (t : Tx) (c : Col)
  | claimRefused (t : Tx) (c : Col)
  | driveStarted (t row : Tx) (c : Col)
  | driveDone (t row : Tx) (c : Col)
  | driveFailed (t row : Tx) (c : Col) (why : DriveFailure)
  | matrixFault (t : Tx)
  | serviceChanged (t : Tx) (c : Col) (inService : Bool)
  | withdrawEndOrder (t : Tx)
  | holdAdd (t : Tx) (a : Source)
  | holdRemove (t : Tx) (r : Sources)
  | rfAbsent (t : Tx)
  | rfPresent (t : Tx)
  -- the transmitter ports
  | statPollInstant (t : Tx)
  | statReady (t : Tx)
  | statOff (t : Tx)
  | statFault (t : Tx)
  | fault (t : Tx) (code : Nat)
  | ok (t : Tx)
  | tuned (t : Tx) (kHz : Nat)
  | tunefail (t : Tx)
  | unknownPortLine (t : Tx)
  -- the sequencer's limits
  | claimWaitExpiry (t : Tx)
  | muteLimitExpiry (t : Tx)
  | settleExpiry (t : Tx)
  | tuneLimitExpiry (t : Tx)
  | openTuneExpiry (t : Tx)
  | holdTimeExpiry (t : Tx)
  | rampLimitExpiry (t : Tx)
  | restrikeRampLimitExpiry (t : Tx)
  -- the monitors
  | reflectedRisingCrossing (t : Tx)
  | reflectedFallingCrossing (t : Tx)
  | forwardRisingCrossing (t : Tx)
  | forwardFallingCrossing (t : Tx)
  | armingDelayExpiry (t : Tx)
  | restrikeDelayExpiry (t : Tx)
  | tripMuteWatchExpiry (t : Tx)
  | restrikeWindowExpiry (t : Tx)
  | carrierLossExpiry (t : Tx)
  | mainsSample (percent : Nat)
  | mainsRecoveryExpiry
  -- the lines and the interlocks
  | fieldLineLevelChange (line : Line) (high : Bool)
  | memberLevelChange (m : Member) (level : MemberLevel)
  | emergencyInputChange (active : Bool)
  -- resets and start-up
  | powerOn
  | resetLineAssert
  | resetLineRelease
  | startupPollTimeout
  | startupHallEvaluation (mainsPercent : Nat)
  | startupAdoption
  | startupEnd
  | receivedByte (b : Byte)
deriving DecidableEq, Repr

end Sys2Proof
end

