-- ==== Sys2Proof/WellFormed.lean ====
section
/-! DEFINITION. When a command is one that its sender can send: the shapes that the operands' types leave open. A
host request is always well formed, since the part answers an ill-formed request by a refusal (R190). -/

namespace Sys2Proof

/-- Minutes from 2000-01-01 00:00 to the end of 2099 (R17). -/
def minutesOfCentury : Nat := 36525 * 1440

/-- A minute boundary lies in 2000-2099, and one of kind STEP alone carries the reading before it (R27). -/
def Machine.Boundary.wf (b : Machine.Boundary) : Bool :=
  decide (b.now < minutesOfCentury) &&
    match b.kind, b.previous with
    | .advance, none => true
    | .step, some p => decide (p < minutesOfCentury)
    | _, _ => false

/-- A window reference names an entry 0-511 and a window of the century or just past it (R115). -/
def Machine.SchedRef.wf (r : Machine.SchedRef) : Bool :=
  decide (r.entry < 512) && decide (r.day < 36525) && decide (r.day * 1440 < r.windowEnd)

/-- The value of the two length bytes of a frame (R186), for the bytes after its marker. -/
def lengthField : List Byte → Option Nat
  | a :: b :: _ => some (a.toNat * 256 + b.toNat)
  | _ => none

/-- The bytes after the marker are a whole frame: as many as the length bytes say, 2-514 (R186). -/
def frameShape (bytes : List Byte) : Bool :=
  match lengthField bytes with
  | some n => decide (2 ≤ n) && decide (n ≤ 514) && decide (bytes.length = n + 4)
  | none => false

/-- The command is one that its sender can send. -/
def Instr.wf : Instr → Bool
  | .minuteBoundary b => b.wf
  | .scheduleWorkEnded _ w => w.wf
  | .frameReceived bytes => frameShape bytes
  | .fault _ code => decide (code ≤ 9999)
  | _ => true

end Sys2Proof
end

