-- ==== Sys2Proof/Machine/State.lean ====
section
/-! DEFINITION. Everything the spec gives the FH1236 to hold, block by block, as plain data, and the machine right
after POWER_ON, before start-up's first step. Dates are year, month and day where the spec returns them as such, and
days from 2000-01-01 where it compares them; times of the schedule are minutes from 2000-01-01 00:00. -/

namespace Sys2Proof.Machine

/-- A count of phase ticks and the count at which it expires (R19). -/
structure Timer where
  count : Nat
  limit : Nat
deriving DecidableEq, Repr

/-! ### Details, events and replies -/

/-- The detail codes of the log record layout, in code order (R199). -/
inductive Detail where
  | none | late | continued | reserve | adopted | followed | season | superseded | window | manual | withdrawn
  | hold | reflection | restrike | exhausted | preMute | description | transmitterDark | transmitterLocked
  | manualHold | halted | tooLate | clockStep | noAntenna | antennaHeld | routeUnknown | routeLost | rowBusy
  | columnBusy | driveTimeout | suspended | tuneFailed | tuneTimeout | matrixFault | abandoned | muteFailed
  | txFault | txOff | portSilent | noCarrier | carrierLost
deriving DecidableEq, Repr

/-- The events, in the order of R192. -/
inductive EventKind where
  | changeoverDone | changeoverFailed
  | missed | lateStart | seasonSwitched | seasonMissed | horizonOverflow
  | trip | antennaSuspect | reflectedHigh | reflectedNormal | carrierLow | carrierNormal | txLocked
  | interlockLatched | memberActive | interlockCleared | emergencyStop | mainsLow | mainsNormal
  | strayMove | driveTimeout | matrixSuspended | matrixResumed
  | writeDone | eraseDone | checkDone | bankDamaged | bankMismatch | descriptionChanged | settingsDefaulted
  | referenceLost | pulseLost | timeSet
  | linkFrameFault
deriving DecidableEq, Repr

/-- The subject of an event (R193). -/
inductive Subject where
  | none
  | transmitter (t : Tx)
  | column (c : Col)
  | bank (b : Bank)
  | member (m : Member)
  | line (l : Line)
  | settings
  | group
  | emergency
deriving DecidableEq, Repr

/-- An event as raised, its detail as the bytes a notice carries (R193). -/
structure Event where
  kind : EventKind
  subject : Subject
  detail : List Byte
deriving DecidableEq, Repr

/-- The reasons of a refusal, in code order from 1 (R190). -/
inductive Reason where
  | busy | badLength | badField | outOfRange | wrongState | wrongBank | stale | queueFull | unknownKind | inUse
  | held | clockNotSet | noSeason | scheduleOwned | stillActive | pageWritten | lineClaimed
deriving DecidableEq, Repr

/-! ### The clock (02) -/

/-- A date of the calendar (R17). -/
structure Date where
  year : Nat
  month : Nat
  day : Nat
deriving DecidableEq, Repr

/-- The clock's reading (R17). -/
structure Reading where
  date : Date
  minute : Nat
  second : Nat
  tenth : Nat
deriving DecidableEq, Repr

/-- The condition of second-pulse alignment (R17). -/
inductive PulseState where | none | locked | lost
deriving DecidableEq, Repr

/-- The Hall Clock (R17). `watch` is none while the pulse watch is stopped; `seen` is the count of R20, the phase ticks
since power-on or the latest failure of the reference input, held at 100 (log 42). -/
structure Clock where
  reading : Reading
  divider : Nat
  isSet : Bool
  source : ClockSource
  present : Bool
  seen : Nat
  pulse : PulseState
  watch : Option Timer
deriving DecidableEq, Repr

/-! ### Descriptions, configurations and the settings block (01, 08, 09, 11) -/

/-- A transmitter description (R2). -/
structure TxDesc where
  present : Bool
  rated : Nat
  step : Nat
  low : Nat
  high : Nat
  programmes : Nat
  available : Bool
deriving DecidableEq, Repr

/-- A column description (R8). -/
structure ColDesc where
  present : Bool
  kind : ColKind
  bands : BitVec 14
deriving DecidableEq, Repr

/-- The configuration of one monitor (R145); the source is the forward monitor's. -/
structure MonitorConfig where
  level : Fin 16
  filter : Bool
  divisor : Nat
  edges : Edges
  source : Coupler
deriving DecidableEq, Repr

/-- The kind of a field line, a LAMP with its parameter (R170). -/
inductive LineKind where
  | unused | input | output
  | lamp (t : Tx)
  | pulse | interlock
deriving DecidableEq, Repr

/-- What a member's effect reaches (R176). -/
inductive Scope where
  | transmitters (set : BitVec 12)
  | antenna (c : Col)
  | matrix
deriving DecidableEq, Repr

/-- The configuration of a member (R176). -/
structure MemberConfig where
  line : Line
  activeHigh : Bool
  scope : Scope
deriving DecidableEq, Repr

/-- The settings block's contents (R202). -/
structure Settings where
  transmitters : Vector TxDesc 12
  columns : Vector ColDesc 36
  serial : BitVec 32
  withdrawn : BitVec 36
  suspect : BitVec 36
  limits : Limits
  reflected : Vector MonitorConfig 12
  forward : Vector MonitorConfig 12
  protection : Protection
  lines : Vector LineKind 32
  members : Vector (Option MemberConfig) 24
  enables : Byte
  autorun : Bool
  warmAdopt : Bool
deriving DecidableEq, Repr

/-! ### The store and the check (03, 04) -/

/-- A bank header (R30). -/
structure Header where
  code : SeasonCode
  date : Date
  minute : Nat
deriving DecidableEq, Repr

/-- The condition of the header page (R29, R46). -/
inductive HeaderPage where
  | erased
  | programmed
  | failing
deriving DecidableEq, Repr

/-- The condition of an entry page (R29, R41, R46). -/
inductive EntryPage where
  | erased
  | programmed (slots : Vector Slot 8)
  | failing
deriving DecidableEq, Repr

/-- The bank states (R29, R33). -/
inductive BankState where
  | erased | opened | closed | checking | valid | rejected | active | retired | damaged
deriving DecidableEq, Repr

/-- The fault kinds of a check, in the order of R52. -/
inductive FaultKind where
  | fieldRange | timeShape | duplicateNumber | raster | outOfBand | txRange | powerRange | antennaBand | reserveBand
  | txOverlap | antennaOverlap | horizonCrowded
deriving DecidableEq, Repr

/-- A slot's place and the entry number it holds (R61). -/
structure SlotName where
  entry : Nat
  page : Nat
  slot : Nat
deriving DecidableEq, Repr

/-- A fault record (R61). -/
structure FaultRecord where
  kind : FaultKind
  entry : SlotName
  other : Option SlotName
deriving DecidableEq, Repr

/-- The outcome of a check (R61). -/
inductive CheckOutcome where | valid | rejected | cancelled | aborted
deriving DecidableEq, Repr

/-- A check report (R61). -/
structure CheckReport where
  outcome : CheckOutcome
  serial : BitVec 32
  total : Nat
  faults : List FaultRecord
deriving DecidableEq, Repr

/-- The items of a state cell (R29). -/
structure Cell where
  state : BankState
  erasePending : Bool
  activation : BitVec 32
  report : Option CheckReport
deriving DecidableEq, Repr

/-- One copy of a state cell: its contents, its sequence mark and whether its check value agrees (R34). -/
structure CellCopy where
  contents : Cell
  mark : BitVec 16
  good : Bool
deriving DecidableEq, Repr

/-- A state cell in its two copies (R34). -/
structure StateCell where
  latest : CellCopy
  other : CellCopy
deriving DecidableEq, Repr

/-- A season bank (R29). `headerWritten` and `written` are the pages-written set. -/
structure SeasonBank where
  header : Option Header
  headerPage : HeaderPage
  pages : Vector EntryPage 64
  headerWritten : Bool
  written : BitVec 64
  cell : StateCell
deriving DecidableEq, Repr

/-- The operation the store controller has in flight, with what it writes (R35). -/
inductive StoreOp where
  | header (b : Bank)
  | page (b : Bank) (p : Page) (slots : Vector Slot 8)
  | settings (block : Settings)
  | erase (b : Bank)
deriving DecidableEq, Repr

/-- The Schedule Store: the banks, the controller's operation (none when IDLE) and its phase ticks, the settings
block (none when it fails its check), and the working copies of the options and of the description serial number.
`cellWrites` are the state cell writes of the latest event in order, each with the cell as it stood before it: those
that a reset may cut (R34, log 8). -/
structure Store where
  banks : Vector SeasonBank 2
  cellWrites : List (Bank × StateCell)
  op : Option StoreOp
  opTicks : Nat
  settings : Option Settings
  autorun : Bool
  warmAdopt : Bool
  serial : BitVec 32
deriving DecidableEq, Repr

/-- The passes of a check (R52). -/
inductive Pass where | entry | pair | horizon
deriving DecidableEq, Repr

/-- The context of the running check (R49). `place` is page times 8 plus slot. -/
structure CheckContext where
  bank : Bank
  serial : BitVec 32
  pass : Pass
  place : Nat
  faults : List FaultRecord
  total : Nat
  ticks : Nat
deriving DecidableEq, Repr

/-! ### The schedule engine (05) -/

/-- The engine states (R67). -/
inductive EngineState where | halted | running | draining
deriving DecidableEq, Repr

/-- START or END (R68). -/
inductive FiringKind where | start | end_
deriving DecidableEq, Repr

/-- A firing record (R69). -/
structure Firing where
  time : Nat
  kind : FiringKind
  bank : Bank
  entry : Nat
  day : Nat
  t : Tx
deriving DecidableEq, Repr

/-- The fill point (R70): every minute before `next` has been placed, and the first `placed` firings of `next`. -/
structure FillPoint where
  next : Nat
  placed : Nat
deriving DecidableEq, Repr

/-- A carried record (R89). -/
structure Carried where
  t : Tx
  bank : Bank
  entry : Nat
  day : Nat
  endTime : Nat
deriving DecidableEq, Repr

/-- The Schedule Engine (R67). The active bank is read from the state cells. -/
structure Engine where
  state : EngineState
  upcoming : List Firing
  fill : Option FillPoint
  leftOut : Bool
  fired : Vector (Option Nat) 512
  carried : List Carried
  armed : Bool
deriving DecidableEq, Repr

/-! ### The matrix controller (06) -/

/-- The crosspoint states (R92). -/
inductive XState where | opened | closed | movingOpen | movingClose | unknown
deriving DecidableEq, Repr

/-- The drive in motion on a crosspoint (R92): who asked, the travel count and the limit it runs against. -/
structure Drive where
  t : Tx
  travel : Timer
deriving DecidableEq, Repr

/-- A crosspoint record (R92). `contacts` is none for NOT_REPORTED; a drive's direction is that of its state. -/
structure Crosspoint where
  state : XState
  contacts : Option Contacts
  drive : Option Drive
deriving DecidableEq, Repr

/-- A column's entry in the antenna table (R8, R99); use and service are derived (R98, R99). -/
structure Column where
  desc : ColDesc
  withdrawn : Bool
  suspect : Bool
  position : Bool
  gates : BitVec 24
  holder : Option Tx
  claimant : Option Tx
deriving DecidableEq, Repr

/-- A row record (R97). -/
structure RowRecord where
  condition : RowCondition
  muteConfirmed : Bool
deriving DecidableEq, Repr

/-- A listed claim (R100). -/
structure Claim where
  t : Tx
  column : Col
deriving DecidableEq, Repr

/-- A waiting drive request (R103). -/
structure SlotRequest where
  t : Tx
  row : Tx
  column : Col
  direction : Direction
  priority : Fin 4
deriving DecidableEq, Repr

/-- The Matrix Controller: the crosspoint table by row and column, the antenna table, the row records, the Claim
List, the slot queue, the free motor slots, the suspension set (R92, R97, R99, R100, R103, R108), and whether it may
grant slots (R210: not before start-up has ended). -/
structure Matrix where
  points : Vector (Vector Crosspoint 36) 12
  columns : Vector Column 36
  rows : Vector RowRecord 12
  claims : List Claim
  queue : List SlotRequest
  free : Nat
  suspension : Sources
  granting : Bool
deriving DecidableEq, Repr

/-- The orders on the matrix link (R93). -/
inductive MatrixOrder where
  | drive (row : Tx) (c : Col) (d : Direction)
  | stop (row : Tx) (c : Col)
  | poll (module : Fin 6)
deriving DecidableEq, Repr

/-! ### The sequencer (07) and the monitors (08) -/

/-- Why a transmitter is DARK (R115). -/
inductive DarkReason where | absent | withheld | portSilent | off
deriving DecidableEq, Repr

/-- Why a transmitter is LOCKED (R115). -/
inductive LockReason where | muteFailed | txFault | carrierLost
deriving DecidableEq, Repr

/-- The transmitter states with their reasons (R115, R116). -/
inductive TxState where
  | dark (why : DarkReason)
  | ready | changing | onAir | held | tripped
  | locked (why : LockReason)
deriving DecidableEq, Repr

/-- A transmission record (R115). `work` is none for origin MANUAL. -/
structure Transmission where
  work : Option SchedRef
  start : Reading
  column : Col
  kHz : Nat
  kW : Nat
  programme : Nat
  priority : Fin 4
  reserve : Option Col
  reserveUsed : Bool
  late : Bool
deriving DecidableEq, Repr

/-- A start request: of the schedule when it names its work, else a manual order (R79, R137). -/
structure StartRequest where
  work : Option SchedRef
  late : Bool
  column : Col
  reserve : Option Col
  kHz : Nat
  kW : Nat
  programme : Nat
  priority : Fin 4
deriving DecidableEq, Repr

/-- The origins of a changeover context, in the order of R121. -/
inductive Origin where | schedule | manual | reserve | resume | end_
deriving DecidableEq, Repr

/-- The phases of a context (R121). -/
inductive Phase where | claim | mute | settle | drive | hold | ramp | windUp
deriving DecidableEq, Repr

/-- Where a context's claim stands (R121): sent, listed or granted. -/
inductive ClaimStatus where | sent | listed | granted
deriving DecidableEq, Repr

/-- The claim in flight (R121). -/
structure ClaimInFlight where
  column : Col
  status : ClaimStatus
deriving DecidableEq, Repr

/-- The steps of a drive plan (R121). -/
inductive StepKind where | openOwn | openHolder | closeTarget
deriving DecidableEq, Repr

/-- The status of a step (R121), and a step cancelled at wind-up (R130): R121 lists the first four alone, and the fifth,
which READ_TRANSMITTER then returns, is the model's choice (log 66). -/
inductive StepStatus where | planned | waitingSlot | moving | done | cancelled
deriving DecidableEq, Repr

/-- One step of a drive plan (R121). -/
structure PlanStep where
  kind : StepKind
  row : Tx
  column : Col
  status : StepStatus
deriving DecidableEq, Repr

/-- The tune status (R121). -/
inductive TuneStatus where | none | sent | tuned | failed
deriving DecidableEq, Repr

/-- A changeover context (R121). `deadline` none in phase HOLD is a context waiting at the RAMP threshold (R128,
log 15). `started`: its transmission has been recorded as started. `closing` is the detail its END record carries
when it ends a started transmission (R133, R140). `faultCode` is the code of the FAULT line it failed by (R116). -/
structure Context where
  origin : Origin
  work : Option SchedRef
  late : Bool
  target : Col
  reserve : Option Col
  reserveUsed : Bool
  kHz : Nat
  kW : Nat
  programme : Nat
  priority : Fin 4
  phase : Phase
  deadline : Option Timer
  claim : Option ClaimInFlight
  plan : List PlanStep
  tune : TuneStatus
  outcome : Option Detail
  started : Bool
  closing : Detail
  faultCode : Option Nat
deriving DecidableEq, Repr

/-- The restrike stage with the count it runs (R115, R157, R158). -/
inductive Restrike where
  | none
  | delay (t : Timer)
  | waitMute
  | ramp (t : Timer)
deriving DecidableEq, Repr

/-- An unanswered continuation TUNE (R122). -/
structure OpenTune where
  kHz : Nat
  deadline : Timer
deriving DecidableEq, Repr

/-- The closed transmission whose carrier a transmitter may still radiate, until the MUTE phase (R121, R155). -/
structure Radiated where
  column : Col
  kHz : Nat
  kW : Nat
deriving DecidableEq, Repr

/-- A transmitter's place in start-up's query and adoption (R207, R209). -/
inductive StartupPlace where
  | none
  | asked
  | candidate
  | muting (t : Timer)
  | done
deriving DecidableEq, Repr

/-- The orders on a transmitter port (R118). -/
inductive PortOrder where
  | mute
  | tune (kHz programme : Nat)
  | pwr (kW : Nat)
  | unmute
  | stat
deriving DecidableEq, Repr

/-- A Transmitter Record (R115). `rf` is none until the first report, then whether RF is PRESENT. `poll` is none while
the transmitter is not polled. `reported` is the row condition last reported to MXC (R117, log 14). `mutedOnce`: MUTE
has been sent since the reset (R207). -/
structure TxRecord where
  desc : TxDesc
  state : TxState
  lock : Option LockReason
  current : Option Transmission
  context : Option Context
  slot : Option StartRequest
  holds : Sources
  manualHold : Bool
  unmuted : Bool
  rf : Option Bool
  muteConfirmed : Bool
  silence : Nat
  poll : Option Nat
  openTune : Option OpenTune
  restrikes : Nat
  windowStart : Option Reading
  window : Option Timer
  stage : Restrike
  tripWatch : Option Timer
  radiated : Option Radiated
  reported : RowCondition
  startup : StartupPlace
  mutedOnce : Bool
deriving DecidableEq, Repr

/-- The side a monitor last accepted (R145). -/
inductive Side where | low | high
deriving DecidableEq, Repr

/-- The states of the reflected monitor (R145). -/
inductive ReflectedState where | off | waiting | armed
deriving DecidableEq, Repr

/-- The states of the forward monitor (R145). -/
inductive ForwardState where | off | ramp | armed
deriving DecidableEq, Repr

/-- A reflected monitor (R145). `tripped`: it is left ARMED by a trip until the trip's mute is confirmed (R156). -/
structure Reflected where
  config : MonitorConfig
  state : ReflectedState
  side : Option Side
  pending : Bool
  arming : Option Timer
  tripped : Bool
deriving DecidableEq, Repr

/-- A forward monitor (R145). -/
structure Forward where
  config : MonitorConfig
  state : ForwardState
  side : Option Side
  pending : Bool
  loss : Option Timer
deriving DecidableEq, Repr

/-- An absent comparator (R145, R147). -/
structure Comparator where
  side : Option Side
  pending : Bool
deriving DecidableEq, Repr

/-- One transmitter's record with its monitors. -/
structure Station where
  tr : TxRecord
  refl : Reflected
  fwd : Forward
  absent : Comparator
deriving DecidableEq, Repr

/-- The mains states (R145). -/
inductive MainsState where | normal | low | recovering
deriving DecidableEq, Repr

/-- The mains monitor (R145, R166). -/
structure MainsMonitor where
  state : MainsState
  recovery : Option Timer
deriving DecidableEq, Repr

/-! ### Interlocks and field lines (09) -/

/-- A member record (R176). -/
structure MemberRecord where
  config : Option MemberConfig
  level : MemberLevel
  applied : BitVec 12
deriving DecidableEq, Repr

/-- The Interlock Unit (R176, R179, R182). The group is LATCHED while `firstOut` is not none. `input` is none while
the emergency input is UNSETTLED, then whether it is ACTIVE; `inputLast` is what its last sample read (R171). -/
structure Interlocks where
  members : Vector MemberRecord 24
  firstOut : Option Member
  latchedSet : List Member
  emergency : Bool
  input : Option Bool
  inputLast : Option Bool
deriving DecidableEq, Repr

/-- A field line (R170): the pin level is none while UNSETTLED, then whether it is HIGH; `last` is what the last sample
of the pin read (R171). -/
structure FieldLine where
  kind : LineKind
  latch : Bool
  pin : Option Bool
  last : Option Bool
deriving DecidableEq, Repr

/-! ### The Transmission Log (11) -/

/-- The kinds of log record (R198). -/
inductive LogKind where | start | end_ | trip | failed | missed
deriving DecidableEq, Repr

/-- A log record (R198). -/
structure LogRecord where
  kind : LogKind
  date : Date
  second : Nat
  t : Tx
  manual : Bool
  work : Option (Bank × Nat)
  column : Option Col
  kHz : Option Nat
  kW : Option Nat
  detail : Detail
  sequence : BitVec 32
deriving DecidableEq, Repr

/-- The Transmission Log (R200): the read position stands `unread` records before the end. -/
structure Log where
  records : List LogRecord
  unread : Nat
  overrun : Bool
  next : BitVec 32
deriving DecidableEq, Repr

/-! ### The host link (10) -/

/-- A received frame (R188). -/
structure Frame where
  kind : Byte
  tag : Byte
  body : List Byte
deriving DecidableEq, Repr

/-- A request in the request queue (R188): a received frame, or a request command given while no request may be taken
(R189, log 21). -/
inductive Request where
  | frame (f : Frame)
  | spelled (i : Instr)
deriving DecidableEq, Repr

/-- The receiver (R187): hunting, or receiving with the bytes after the marker. -/
inductive Receiver where
  | hunting
  | receiving (bytes : List Byte)
deriving DecidableEq, Repr

/-- A QUEUE_FULL refusal (R188). -/
structure QueueFull where
  tag : Byte
  kind : Byte
deriving DecidableEq, Repr

/-- The column use that MXC derives (R98). -/
inductive ColumnUse where | live | claimed | idle | free
deriving DecidableEq, Repr

/-- What an accepted request's reply carries, by the rule of the request (log 5 where the spec gives no layout). -/
inductive Answer where
  | empty
  | serial (n : BitVec 32)
  | step (tenths : Int)
  | latches (set : BitVec 32)
  | cleared (members : List Member)
  | sources (flags : Byte)
  | logRecords (overrun : Bool) (left : Nat) (records : List LogRecord)
  | bank (state : BankState) (header : Option Header) (headerWritten : Bool) (written : BitVec 64) (count : Nat)
      (op : Option StoreOp) (report : Option CheckReport)
  | entries (written : Bool) (slots : List Slot)
  | upcoming (state : EngineState) (active : Option Bank) (length : Nat) (fill : Option FillPoint) (carried : Nat)
      (firings : List Firing)
  | transmitter (station : Station) (mains : MainsState)
  | routes (rows : List (List Col)) (exceptions : Nat) (first : List (Tx × Col × Crosspoint)) (suspension : Sources)
      (free : Nat) (queue : List SlotRequest) (claims : List Claim)
  | antenna (column : Column) (inService : Bool) (use : ColumnUse) (claims : List Tx)
  | lines (all : List (LineKind × Bool × Option Bool)) (emergency : Option Bool)
  | interlock (firstOut : Option Member) (latched : List (Member × BitVec 12)) (members : List MemberRecord)
      (emergency : Bool) (input : Option Bool)
  | status (family : String) (part revision : Nat) (engine : EngineState) (active : Option Bank) (clock : Clock)
      (suspended : Bool) (op : Option StoreOp) (sources enables : Byte) (notices : Nat) (noticeLost : Bool)
      (requests : Nat) (kind : StartKind) (cause : Nat)
deriving DecidableEq, Repr

/-- Accepted with an answer, or refused with a reason and items (R190). -/
inductive Verdict where
  | accepted (a : Answer)
  | refused (r : Reason) (items : List Byte)
deriving DecidableEq, Repr

/-- A reply: the request's kind and tag, and what the owning block decided (R190). -/
structure Reply where
  kind : Byte
  tag : Byte
  verdict : Verdict
deriving DecidableEq, Repr

/-- The frame being sent (R191). -/
inductive LineFrame where
  | refusal (f : QueueFull)
  | reply (r : Reply)
  | notice (lost : Bool) (e : Event)
deriving DecidableEq, Repr

/-- The Host Link Interface but for its record of events (R187-R191). `fast` is the rate as the strap read; `taking`:
the request at hand is the one just taken from the head of the queue (log 21). -/
structure HostLink where
  receiver : Receiver
  gap : Option Timer
  queue : List Request
  taking : Bool
  refusal : Option QueueFull
  reply : Option Reply
  line : Option LineFrame
  fast : Bool
deriving DecidableEq, Repr

/-- What the blocks put out: messages on their way between blocks (log 1), the record of events (R192), the
Transmission Log, and the orders sent on the transmitter ports and the matrix link, oldest first (log 26). -/
structure Outbox where
  handed : List Instr
  sources : Byte
  enables : Byte
  notices : List Event
  noticeLost : Bool
  log : Log
  port : List (Tx × PortOrder)
  link : List MatrixOrder
deriving DecidableEq, Repr

/-! ### Start-up (11) -/

/-- The step of start-up in progress (R207). -/
inductive BootPhase where | load | table | evaluate | query | adopt | done
deriving DecidableEq, Repr

/-- The kinds of reset (R205). -/
inductive ResetCause where | powerOn | resetLine | restart
deriving DecidableEq, Repr

/-- Reset and start-up: the step in progress, the second after the last POLL, the reset cause, the start kind and
whether the reset line is asserted (R205, R207). -/
structure Boot where
  phase : BootPhase
  poll : Option Timer
  cause : ResetCause
  kind : StartKind
  asserted : Bool
deriving DecidableEq, Repr

/-! ### The inputs that the part samples (08, 09, 02) -/

/-- What the detectors of one transmitter read, in watts: forward and reflected of the transmitter coupler, forward of
the line coupler (R148, R149). -/
structure Detectors where
  forward : Nat
  reflected : Nat
  line : Nat
deriving DecidableEq, Repr

/-- What the sampled inputs read at one sample instant: the detectors, the mains in percent of nominal (R166), the
field line pins and the emergency input with 1 for HIGH (R171), and whether the reference input is good (R20). -/
structure Inputs where
  detectors : Vector Detectors 12
  mains : Nat
  pins : BitVec 32
  emergency : Bool
  reference : Bool
deriving DecidableEq, Repr

/-- The sampling of inputs: the number of the coming sample instant, one every 5 ms, counted round from 7 to 0, and what
the inputs are going to read at the coming instants. `feed` is the world's, as `pending` is; with none left, nothing is
sampled (log 11). -/
structure Sampling where
  instant : Nat
  feed : List Inputs
deriving DecidableEq, Repr

/-! ### The machine -/

/-- Everything the FH1236 holds, the queue of commands that wait for it, and what its inputs are going to read. -/
structure State where
  pending : List Instr
  sampling : Sampling
  out : Outbox
  link : HostLink
  clock : Clock
  store : Store
  check : Option CheckContext
  engine : Engine
  matrix : Matrix
  stations : Vector Station 12
  limits : Limits
  protection : Protection
  mains : MainsMonitor
  ilu : Interlocks
  lines : Vector FieldLine 32
  boot : Boot
  freeCount : Nat
deriving DecidableEq, Repr

/-- The machine never stops with a fault: every command is answered, refused to its sender by a frame, or without
effect. No constructor. -/
inductive Fault where
deriving DecidableEq, Repr

/-- Why the model gives a command no meaning. -/
inductive Refusal where
  /-- Raised by an arm of `exec` whose command has no meaning yet; safe: nothing is computed. No arm raises it. -/
  | notModelled (mnemonic : String)
deriving DecidableEq, Repr

/-! ### Values at reset -/

/-- The default transmitter description (R15). -/
def TxDesc.default : TxDesc :=
  { present := false, rated := 10, step := 1, low := 2300, high := 26100, programmes := 1, available := true }

/-- The default column description (R15). -/
def ColDesc.default (c : Col) : ColDesc :=
  if c.val < 32 then { present := false, kind := .other, bands := 0 }
  else { present := false, kind := .load, bands := BitVec.allOnes 14 }

/-- The default configuration of the reflected monitor (R148, R150, R168). -/
def MonitorConfig.reflectedDefault : MonitorConfig :=
  { level := 6, filter := true, divisor := 1, edges := .both, source := .transmitter }

/-- The default configuration of the forward monitor (R149, R150, R168). The spec names no default source: DESIGN
CHOICE TRANSMITTER_COUPLER (log 6). -/
def MonitorConfig.forwardDefault : MonitorConfig :=
  { level := 4, filter := true, divisor := 1, edges := .both, source := .transmitter }

/-- The default limits, in phase ticks (R136). -/
def Limits.default : Limits :=
  { claimWait := 3000, mute := 200, settle := 20, tune := 4500, travel := 800, hold := 30, ramp := 500, arming := 50 }

/-- The default protection settings, times in phase ticks (R165). -/
def Protection.default : Protection :=
  { restrikeLimit := 3, restrikeDelay := 300, restrikeWindow := 6000, carrierLoss := 1000, mainsLevel := 88,
    mainsRecovery := 200 }

/-- The columns in a vector. -/
def colVector {α : Type} (f : Col → α) : Vector α 36 := ⟨⟨allCols.map f⟩, by simp [allCols]⟩

/-- No source. -/
def Sources.none : Sources := { members := 0, emergency := false, mains := false }

/-- The settings that a failing block is replaced by (R204). -/
def Settings.default : Settings :=
  { transmitters := Vector.replicate 12 TxDesc.default
    columns := colVector ColDesc.default
    serial := 0, withdrawn := 0, suspect := 0
    limits := Limits.default
    reflected := Vector.replicate 12 MonitorConfig.reflectedDefault
    forward := Vector.replicate 12 MonitorConfig.forwardDefault
    protection := Protection.default
    lines := Vector.replicate 32 LineKind.unused
    members := Vector.replicate 24 Option.none
    enables := BitVec.allOnes 8
    autorun := false, warmAdopt := false }

/-- The clock at POWER_ON (R28). -/
def Clock.powerOn : Clock :=
  { reading := { date := { year := 2000, month := 1, day := 1 }, minute := 0, second := 0, tenth := 0 }
    divider := 0, isSet := false, source := .internal, present := false, seen := 0, pulse := .none
    watch := Option.none }

/-- An empty log (R200). -/
def Log.empty : Log := { records := [], unread := 0, overrun := false, next := 0 }

/-- The outbox after every reset (R197, R200), with the enables all set until the settings are loaded. -/
def Outbox.empty : Outbox :=
  { handed := [], sources := 0, enables := BitVec.allOnes 8, notices := [], noticeLost := false, log := Log.empty,
    port := [], link := [] }

/-- The host link after every reset (R197). -/
def HostLink.reset : HostLink :=
  { receiver := .hunting, gap := none, queue := [], taking := false, refusal := none, reply := none,
    line := none, fast := Config.rateStrap }

/-- The schedule engine after every reset (R67). -/
def Engine.reset : Engine :=
  { state := .halted, upcoming := [], fill := none, leftOut := false, fired := Vector.replicate 512 none,
    carried := [], armed := false }

/-- A crosspoint after every reset (R114). -/
def Crosspoint.reset : Crosspoint := { state := .unknown, contacts := none, drive := none }

/-- A column after every reset with its loaded description and reasons (R114). -/
def Column.reset (d : ColDesc) (withdrawn suspect : Bool) : Column :=
  { desc := d, withdrawn := withdrawn, suspect := suspect, position := true, gates := 0, holder := none,
    claimant := none }

/-- The matrix after every reset, with the columns as loaded (R114). -/
def Matrix.reset (g : Settings) : Matrix :=
  { points := Vector.replicate 12 (Vector.replicate 36 Crosspoint.reset)
    columns := colVector fun c => Column.reset (g.columns.get c) (g.withdrawn.getLsbD c.val) (g.suspect.getLsbD c.val)
    rows := Vector.replicate 12 { condition := .quiet, muteConfirmed := false }
    claims := [], queue := [], free := Config.motorSlots, suspension := Sources.none, granting := false }

/-- The state start-up's first step builds from a description (R207). -/
def startState (d : TxDesc) : TxState :=
  if d.present then (if d.available then .dark .portSilent else .dark .withheld) else .dark .absent

/-- A Transmitter Record after every reset (R144, R207). -/
def TxRecord.reset (d : TxDesc) : TxRecord :=
  { desc := d, state := startState d, lock := none, current := none, context := none, slot := none,
    holds := Sources.none, manualHold := false, unmuted := true, rf := none, muteConfirmed := false, silence := 0,
    poll := none, openTune := none, restrikes := 0, windowStart := none, window := none, stage := .none,
    tripWatch := none, radiated := none, reported := .quiet, startup := .none, mutedOnce := false }

/-- A transmitter's record and monitors after every reset (R144, R168). -/
def Station.reset (d : TxDesc) (r f : MonitorConfig) : Station :=
  { tr := TxRecord.reset d
    refl := { config := r, state := .off, side := none, pending := false, arming := none, tripped := false }
    fwd := { config := f, state := .off, side := none, pending := false, loss := none }
    absent := { side := none, pending := false } }

/-- The transmitters in a vector. -/
def txVector {α : Type} (f : Tx → α) : Vector α 12 := ⟨⟨allTx.map f⟩, by simp [allTx]⟩

/-- The transmitters' records after every reset from the settings in force. -/
def stationsReset (g : Settings) : Vector Station 12 :=
  txVector fun t => Station.reset (g.transmitters.get t) (g.reflected.get t) (g.forward.get t)

/-- The interlock members in a vector. -/
def memberVector {α : Type} (f : Member → α) : Vector α 24 := ⟨⟨allMembers.map f⟩, by simp [allMembers]⟩

/-- The Interlock Unit after every reset (R185). -/
def Interlocks.reset (g : Settings) : Interlocks :=
  { members := memberVector fun m => { config := g.members.get m, level := .unsettled, applied := 0 }
    firstOut := none, latchedSet := [], emergency := false, input := none, inputLast := none }

/-- The field lines in a vector. -/
def lineVector {α : Type} (f : Line → α) : Vector α 32 := ⟨⟨allLines.map f⟩, by simp [allLines]⟩

/-- The field lines after every reset (R170). -/
def linesReset (g : Settings) : Vector FieldLine 32 :=
  lineVector fun l => { kind := g.lines.get l, latch := false, pin := none, last := none }

/-- A state cell that reads ERASED (R29). -/
def StateCell.erased : StateCell :=
  let c : CellCopy := { contents := { state := .erased, erasePending := false, activation := 0, report := none },
                        mark := 0, good := true }
  { latest := c, other := c }

/-- A bank of a part never loaded: every page erased (DESIGN CHOICE, log 6). -/
def SeasonBank.blank : SeasonBank :=
  { header := none, headerPage := .erased, pages := Vector.replicate 64 EntryPage.erased, headerWritten := false,
    written := 0, cell := StateCell.erased }

/-- The store of a part never loaded: blank banks and a settings block never written (log 6). -/
def Store.blank : Store :=
  { banks := Vector.replicate 2 SeasonBank.blank, cellWrites := [], op := none, opTicks := 0, settings := none
    autorun := false, warmAdopt := false, serial := 0 }

/-- The machine right after POWER_ON, before the first step of start-up (log 6). -/
def State.reset : State :=
  { pending := []
    sampling := { instant := 0, feed := [] }
    out := Outbox.empty
    link := HostLink.reset
    clock := Clock.powerOn
    store := Store.blank
    check := none
    engine := Engine.reset
    matrix := Matrix.reset Settings.default
    stations := stationsReset Settings.default
    limits := Limits.default
    protection := Protection.default
    mains := { state := .normal, recovery := none }
    ilu := Interlocks.reset Settings.default
    lines := linesReset Settings.default
    boot := { phase := .load, poll := none, cause := .powerOn, kind := .cold, asserted := false }
    freeCount := 0 }

end Sys2Proof.Machine
end

