-- ==== Sys2Proof/Machine/Calendar.lean ====
section
/-! DEFINITION. The Hall Clock's calendar (R17) and the date and time arithmetic that the schedule, the check and the
log use: day numbers from 2000-01-01, minutes from 2000-01-01 00:00, weekdays with Monday 0. -/

namespace Sys2Proof.Machine

/-- A leap year of 2000-2099: divisible by 4 (R17). -/
def leapYear (year : Nat) : Bool := year % 4 == 0

/-- The length of a month (R17); 0 for a month outside 1-12. -/
def monthLength (year month : Nat) : Nat :=
  match month with
  | 1 | 3 | 5 | 7 | 8 | 10 | 12 => 31
  | 4 | 6 | 9 | 11 => 30
  | 2 => if leapYear year then 29 else 28
  | _ => 0

/-- The date is one of the calendar (R17). -/
def Date.valid (d : Date) : Bool :=
  decide (2000 ≤ d.year) && decide (d.year ≤ 2099) && decide (1 ≤ d.day) && decide (d.day ≤ monthLength d.year d.month)

/-- Days of the months before a month of the year. -/
def daysBeforeMonth (year : Nat) : Nat → Nat
  | 0 => 0
  | m + 1 => daysBeforeMonth year m + monthLength year m

/-- The number of a date, 2000-01-01 being day 0. -/
def Date.number (d : Date) : Nat :=
  let y := d.year - 2000
  365 * y + (y + 3) / 4 + daysBeforeMonth d.year d.month + d.day - 1

/-- The month and day of a day of the year, searching from a month over at most `fuel` months. -/
def monthOf (year : Nat) : Nat → Nat → Nat → Nat × Nat
  | 0, month, n => (month, n + 1)
  | fuel + 1, month, n =>
    if n < monthLength year month then (month, n + 1) else monthOf year fuel (month + 1) (n - monthLength year month)

/-- The date of a day number. -/
def dateOf (n : Nat) : Date :=
  let q := n / 1461
  let r := n % 1461
  let y := if r < 366 then 2000 + 4 * q else 2001 + 4 * q + (r - 366) / 365
  let k := if r < 366 then r else (r - 366) % 365
  let md := monthOf y 11 1 k
  { year := y, month := md.1, day := md.2 }

/-- The weekday of a day number, Monday 0 to Sunday 6, counting from Saturday 2000-01-01 (R17). -/
def weekday (n : Nat) : Nat := (n + 5) % 7

/-- The minute of a reading, from 2000-01-01 00:00. -/
def Reading.minutes (r : Reading) : Nat := r.date.number * 1440 + r.minute

/-- The tenth of a reading, from 2000-01-01 00:00:00.0. -/
def Reading.tenths (r : Reading) : Nat := (r.minutes * 60 + r.second) * 10 + r.tenth

/-- The second of the day of a reading (R199). -/
def Reading.secondOfDay (r : Reading) : Nat := r.minute * 60 + r.second

/-- The date after a date, through month and year ends (R18). -/
def Date.succ (d : Date) : Date :=
  if d.day < monthLength d.year d.month then { d with day := d.day + 1 }
  else if d.month < 12 then { d with month := d.month + 1, day := 1 }
  else { year := d.year + 1, month := 1, day := 1 }

/-- A date in the 16 bits of a date field (R32). -/
def Date.field (d : Date) : BitVec 16 := BitVec.ofNat 16 ((d.year - 2000) * 512 + d.month * 32 + d.day)

/-- The values of a date field's 16 bits: year, month, day (R32). -/
def fieldDate (f : BitVec 16) : Date :=
  { year := 2000 + f.toNat / 512, month := f.toNat / 32 % 16, day := f.toNat % 32 }

end Sys2Proof.Machine
end

