-- ==== Sys2Proof/Machine/Flags.lean ====
section
/-! DEFINITION. The record of events (R192, R193): event codes and classes, the source flags and the notice queue, and
the bytes in which a notice carries its subject and detail. -/

namespace Sys2Proof.Machine

/-- The code of an event (R192): the class number in the high four bits. -/
def EventKind.code : EventKind → Nat
  | .changeoverDone => 0x00 | .changeoverFailed => 0x01
  | .missed => 0x10 | .lateStart => 0x11 | .seasonSwitched => 0x12 | .seasonMissed => 0x13 | .horizonOverflow => 0x14
  | .trip => 0x20 | .antennaSuspect => 0x21 | .reflectedHigh => 0x22 | .reflectedNormal => 0x23
  | .carrierLow => 0x24 | .carrierNormal => 0x25 | .txLocked => 0x26
  | .interlockLatched => 0x30 | .memberActive => 0x31 | .interlockCleared => 0x32 | .emergencyStop => 0x33
  | .mainsLow => 0x34 | .mainsNormal => 0x35
  | .strayMove => 0x40 | .driveTimeout => 0x41 | .matrixSuspended => 0x42 | .matrixResumed => 0x43
  | .writeDone => 0x50 | .eraseDone => 0x51 | .checkDone => 0x52 | .bankDamaged => 0x53 | .bankMismatch => 0x54
  | .descriptionChanged => 0x55 | .settingsDefaulted => 0x56
  | .referenceLost => 0x60 | .pulseLost => 0x61 | .timeSet => 0x62
  | .linkFrameFault => 0x70

/-- The class number of an event (R192). -/
def EventKind.class (k : EventKind) : Nat := k.code / 16

/-- The code of a detail (R199). -/
def Detail.code : Detail → Nat
  | .none => 0 | .late => 1 | .continued => 2 | .reserve => 3 | .adopted => 4 | .followed => 5 | .season => 6
  | .superseded => 7 | .window => 8 | .manual => 9 | .withdrawn => 10 | .hold => 11 | .reflection => 12
  | .restrike => 13 | .exhausted => 14 | .preMute => 15 | .description => 16 | .transmitterDark => 17
  | .transmitterLocked => 18 | .manualHold => 19 | .halted => 20 | .tooLate => 21 | .clockStep => 22
  | .noAntenna => 23 | .antennaHeld => 24 | .routeUnknown => 25 | .routeLost => 26 | .rowBusy => 27
  | .columnBusy => 28 | .driveTimeout => 29 | .suspended => 30 | .tuneFailed => 31 | .tuneTimeout => 32
  | .matrixFault => 33 | .abandoned => 34 | .muteFailed => 35 | .txFault => 36 | .txOff => 37 | .portSilent => 38
  | .noCarrier => 39 | .carrierLost => 40

/-- The code of a refusal reason (R190). -/
def Reason.code : Reason → Nat
  | .busy => 1 | .badLength => 2 | .badField => 3 | .outOfRange => 4 | .wrongState => 5 | .wrongBank => 6
  | .stale => 7 | .queueFull => 8 | .unknownKind => 9 | .inUse => 10 | .held => 11 | .clockNotSet => 12
  | .noSeason => 13 | .scheduleOwned => 14 | .stillActive => 15 | .pageWritten => 16 | .lineClaimed => 17

/-- One byte of a detail. -/
def b1 (n : Nat) : List Byte := [BitVec.ofNat 8 n]
/-- A number in two bytes, most significant first. -/
def b2 (n : Nat) : List Byte := [BitVec.ofNat 8 (n / 256), BitVec.ofNat 8 n]
/-- A number in four bytes, most significant first. -/
def b4 (n : Nat) : List Byte :=
  [BitVec.ofNat 8 (n / 16777216), BitVec.ofNat 8 (n / 65536), BitVec.ofNat 8 (n / 256), BitVec.ofNat 8 n]

/-- The subject kind of a notice (R193). -/
def Subject.kind : Subject → Nat
  | .none => 0 | .transmitter _ => 1 | .column _ => 2 | .bank _ => 3 | .member _ => 4 | .line _ => 5 | .settings => 6
  | .group => 7 | .emergency => 8

/-- The subject value of a notice (R193). -/
def Subject.value : Subject → Nat
  | .transmitter t => t.val | .column c => c.val | .bank b => b.val | .member m => m.val | .line l => l.val | _ => 0

/-- The body of an EVENT notice (R193). -/
def Event.body (e : Event) (lost : Bool) : List Byte :=
  b1 e.kind.code ++ b1 lost.toNat ++ b1 e.subject.kind ++ b1 e.subject.value ++ e.detail

/-- The codes of the named values that a detail carries, numbered from 0 in the order of their table (R193, log 12). -/
def Origin.code : Origin → Nat
  | .schedule => 0 | .manual => 1 | .reserve => 2 | .resume => 3 | .end_ => 4
/-- In the order of R29. -/
def BankState.code : BankState → Nat
  | .erased => 0 | .opened => 1 | .closed => 2 | .checking => 3 | .valid => 4 | .rejected => 5 | .active => 6
  | .retired => 7 | .damaged => 8
/-- In the order of R61. -/
def CheckOutcome.code : CheckOutcome → Nat
  | .valid => 0 | .rejected => 1 | .cancelled => 2 | .aborted => 3
/-- In the order of R92. -/
def XState.code : XState → Nat
  | .opened => 0 | .closed => 1 | .movingOpen => 2 | .movingClose => 3 | .unknown => 4
/-- In the order of R93. -/
def Direction.code : Direction → Nat
  | .opening => 0 | .closing => 1
/-- EMERGENCY, MAINS, then the members, in the order of R108. -/
def Source.code : Source → Nat
  | .emergency => 0 | .mains => 1 | .member m => 2 + m.val
/-- A member's scope and scope parameter in a detail (R179), the scope in the order of R176. -/
def Scope.bytes : Scope → List Byte
  | .transmitters set => b1 0 ++ b2 set.toNat
  | .antenna c => b1 1 ++ b1 c.val
  | .matrix => b1 2 ++ b1 0xFF
/-- The stage ON_AIR or CHANGEOVER of CHANGEOVER_FAILED (R193). -/
def stageCode (onAir : Bool) : Nat := if onAir then 1 else 0

/-- A drive failure as a detail (R126). -/
def DriveFailure.detail : DriveFailure → Detail
  | .routeUnknown => .routeUnknown | .rowBusy => .rowBusy | .columnBusy => .columnBusy
  | .driveTimeout => .driveTimeout | .suspended => .suspended

/-- HLI takes a raised event (R192): the source flag; then, for an enabled class, a notice or the notice-lost flag. -/
def Outbox.raise (o : Outbox) (e : Event) : Outbox :=
  { o with
    sources := setBit o.sources e.kind.class
    notices :=
      if o.enables.getLsbD e.kind.class ∧ o.notices.length < Config.noticeQueueSize then o.notices ++ [e]
      else o.notices
    noticeLost :=
      o.noticeLost || (o.enables.getLsbD e.kind.class && decide (Config.noticeQueueSize ≤ o.notices.length)) }

end Sys2Proof.Machine
end

