-- ==== Sys2Proof/Machine/Ops.lean ====
section
/-! DEFINITION. The shared operations: what a block puts out (messages, orders, log records), how a request is tested
and answered (R190), and how an operation on one block is made on the whole machine. Raising an interrupt or taking an
exception has no counterpart here: a block tells the host what it did by an event (Flags.lean). -/

namespace Sys2Proof.Machine

/-! ### Putting out -/

/-- Hands a message to another block: it is taken as a command of its own, after those handed before it (log 1). -/
def Outbox.hand (o : Outbox) (i : Instr) : Outbox := { o with handed := o.handed ++ [i] }
/-- Hands messages in order. -/
def Outbox.handAll (o : Outbox) (is : List Instr) : Outbox := { o with handed := o.handed ++ is }
/-- Sends an order on a transmitter port (R118). -/
def Outbox.order (o : Outbox) (t : Tx) (p : PortOrder) : Outbox := { o with port := o.port ++ [(t, p)] }
/-- Sends an order on the matrix link (R93). -/
def Outbox.send (o : Outbox) (m : MatrixOrder) : Outbox := { o with link := o.link ++ [m] }
/-- Raises an event. -/
def Outbox.event (o : Outbox) (k : EventKind) (subject : Subject) (detail : List Byte) : Outbox :=
  o.raise { kind := k, subject := subject, detail := detail }

/-- Writes a record into the log (R198, R200): it takes the next sequence number, and the oldest record's place when
the log is full. -/
def Log.write (l : Log) (r : LogRecord) : Log :=
  let stamped := { r with sequence := l.next }
  if l.records.length < Config.logSize then
    { records := l.records ++ [stamped], unread := l.unread + 1, overrun := l.overrun, next := l.next + 1 }
  else
    { records := l.records.drop 1 ++ [stamped], unread := min (l.unread + 1) Config.logSize, overrun := true,
      next := l.next + 1 }

/-- Writes a log record stamped with the clock's date and time to the second (R198). -/
def Outbox.recordAs (o : Outbox) (now : Reading) (kind : LogKind) (t : Tx) (manual : Bool) (work : Option SchedRef)
    (column : Option Col) (kHz kW : Option Nat) (detail : Detail) : Outbox :=
  let r : LogRecord :=
    { kind := kind, date := now.date, second := now.secondOfDay, t := t, manual := manual,
      work := work.map (fun w => (w.bank, w.entry)), column := column, kHz := kHz, kW := kW, detail := detail,
      sequence := 0 }
  { o with log := o.log.write r }

/-- A log record whose origin is SCHEDULE exactly when it names a work of the schedule (R198). -/
def Outbox.record (o : Outbox) (now : Reading) (kind : LogKind) (t : Tx) (work : Option SchedRef)
    (column : Option Col) (kHz kW : Option Nat) (detail : Detail) : Outbox :=
  o.recordAs now kind t work.isNone work column kHz kW detail

/-- A MISSED outcome: its record and its event (R82). -/
def Outbox.missed (o : Outbox) (now : Reading) (t : Tx) (work : Option SchedRef) (c : Col) (kHz : Nat)
    (why : Detail) : Outbox :=
  (o.record now .missed t work (some c) (some kHz) none why).event .missed (.transmitter t) (b1 why.code)

/-! ### Sets of sources -/

/-- The set with a source added. -/
def Sources.add (s : Sources) : Source → Sources
  | .member m => { s with members := setBit s.members m.val }
  | .emergency => { s with emergency := true }
  | .mains => { s with mains := true }
/-- The set without the sources of another. -/
def Sources.remove (s r : Sources) : Sources :=
  { members := without s.members r.members, emergency := s.emergency && !r.emergency, mains := s.mains && !r.mains }
/-- The set is empty. -/
def Sources.empty (s : Sources) : Bool := s.members == 0 && !s.emergency && !s.mains

/-! ### Requests -/

/-- The reason of the first test that fails; a test is whether it fails, with its reason. -/
def firstFailing : List (Bool × Reason) → Option Reason
  | [] => none
  | (fails, r) :: rest => if fails then some r else firstFailing rest

/-- Places the reply of a taken request in the reply slot (R189). -/
def State.answer (s : State) (kind tag : Byte) (v : Verdict) : State :=
  { s with link := { s.link with reply := some { kind := kind, tag := tag, verdict := v } } }
/-- Answers a request with a refusal that carries no items (R190). -/
def State.refuse (s : State) (kind tag : Byte) (r : Reason) : State := s.answer kind tag (.refused r [])

/-- Takes a request: the body length test and the rule's tests in order, the first failing one giving the refusal,
which changes nothing but the reply slot; else the rule's effect and its answer (R189, R190). -/
def State.request (s : State) (kind : Byte) (h : Head) (tests : List (Bool × Reason)) (effect : State → State)
    (answer : State → Answer) : State :=
  match firstFailing ((!h.sized, .badLength) :: tests) with
  | some r => s.refuse kind h.tag r
  | none => (effect s).answer kind h.tag (.accepted (answer (effect s)))

/-- The machine as a new event finds it: the state cell writes of the event before are complete (R34, log 8). -/
def State.settled (s : State) : State := { s with store := { s.store with cellWrites := [] } }

/-- A command is taken unless the reset line is asserted (R205). -/
def State.take (s : State) (f : State → State) : Host.Outcome State Fault Refusal :=
  .next (if s.boot.asserted then s else f s.settled)

/-- The transmitter, column, bank, member or line of a number that a range test has passed. -/
def tx (n : Nat) : Tx := Fin.ofNat 12 n
/-- See `tx`. -/
def col (n : Nat) : Col := Fin.ofNat 36 n
/-- See `tx`. -/
def bank (n : Nat) : Bank := Fin.ofNat 2 n

/-! ### The banks' state cells -/

/-- Writes a state cell: the copy that is not the latest, with a mark one above (R34). -/
def StateCell.write (c : StateCell) (new : Cell) : StateCell :=
  { latest := { contents := new, mark := c.latest.mark + 1, good := true }, other := c.latest }
/-- The bank's state cell contents. -/
def SeasonBank.read (b : SeasonBank) : Cell := b.cell.latest.contents
/-- The bank's state (R29). -/
def SeasonBank.state (b : SeasonBank) : BankState := b.read.state
/-- The bank with its cell changed (R33, R34). -/
def SeasonBank.change (b : SeasonBank) (f : Cell → Cell) : SeasonBank := { b with cell := b.cell.write (f b.read) }
/-- The bank with its state changed. -/
def SeasonBank.goto (b : SeasonBank) (x : BankState) : SeasonBank := b.change fun c => { c with state := x }
/-- The other bank. -/
def otherBank (b : Bank) : Bank := if b = 0 then 1 else 0
/-- A bank of the store. -/
def Store.bank (s : Store) (b : Bank) : SeasonBank := s.banks.get b
/-- The store with a bank changed in what is no state cell. -/
def Store.onBank (s : Store) (b : Bank) (f : SeasonBank → SeasonBank) : Store :=
  { s with banks := upd s.banks b (f (s.bank b)) }
/-- The store with a bank changed by an operation that writes its state cell: the write joins those of the event
(R34). -/
def Store.writeCell (s : Store) (b : Bank) (f : SeasonBank → SeasonBank) : Store :=
  { s.onBank b f with cellWrites := s.cellWrites ++ [(b, (s.bank b).cell)] }
/-- The active bank: the one whose state cell reads ACTIVE, or none (R67). -/
def Store.active (s : Store) : Option Bank :=
  if (s.bank 0).state = .active then some 0 else if (s.bank 1).state = .active then some 1 else none

/-! ### Operations on one block of the machine -/

/-- What a transmitter's work reads of the other blocks. -/
structure Env where
  t : Tx
  reading : Reading
  matrix : Matrix
  limits : Limits
  protection : Protection
  active : Option Bank

/-- One transmitter's record and monitors, with what it puts out. -/
structure Bench where
  u : Station
  o : Outbox

/-- The matrix, with what it puts out. -/
structure Board where
  m : Matrix
  o : Outbox

/-- What transmitter `t`'s work reads. -/
def State.env (s : State) (t : Tx) : Env :=
  { t := t, reading := s.clock.reading, matrix := s.matrix, limits := s.limits, protection := s.protection,
    active := s.store.active }

/-- Makes a transmitter's operation on the machine: it changes that station and the outbox, nothing else. -/
def State.onStation (s : State) (t : Tx) (f : Env → Bench → Bench) : State :=
  let b := f (s.env t) { u := s.stations.get t, o := s.out }
  { s with stations := upd s.stations t b.u, out := b.o }

/-- Makes the matrix's operation on the machine: it changes the matrix and the outbox, nothing else. -/
def State.onMatrix (s : State) (f : Board → Board) : State :=
  let b := f { m := s.matrix, o := s.out }
  { s with matrix := b.m, out := b.o }

/-- Makes an operation of each transmitter in turn, from 0 to 11: where the rule of the operation names no order, that is
the model's (log 54). -/
def State.onEach (s : State) (f : Env → Bench → Bench) : State :=
  allTx.foldl (fun s t => s.onStation t f) s

/-- Makes an operation on the outbox alone. -/
def State.onOut (s : State) (f : Outbox → Outbox) : State := { s with out := f s.out }

/-- The record of a transmitter. -/
def State.tr (s : State) (t : Tx) : TxRecord := (s.stations.get t).tr

/-- A count of phase ticks that starts now. -/
def Timer.start (limit : Nat) : Timer := { count := 0, limit := limit }

/-- The clock's reading in minutes. -/
def State.now (s : State) : Nat := s.clock.reading.minutes

/-- A new free value's number, and the machine with its counter advanced. -/
def State.fresh (s : State) : Nat × State := (s.freeCount, { s with freeCount := s.freeCount + 1 })

end Sys2Proof.Machine
end

