-- ==== Sys2Proof/Machine/Operands.lean ====
section
/-! DEFINITION. Every operand form: the fields of a schedule entry slot (R32), the fixed tables (R1, R148, R149), the
power sent (R6), the description tests (R7), and the request command that a queued frame spells (R189, R190). -/

namespace Sys2Proof.Machine

/-! ### Schedule entry slots (R32) -/

/-- The `n` bits of a slot from bit `lo`, bit 127 being the first bit of byte 0. -/
def Slot.bits (w : Slot) (lo n : Nat) : Nat := w.toNat / 2 ^ lo % 2 ^ n
/-- The empty mark in a slot's entry number (R31). -/
def emptyMark : Nat := 0xFFFF
/-- An empty slot: the empty mark and 0xFF in every other byte (R41, R44). -/
def emptySlot : Slot := BitVec.allOnes 128

/-- The fields of a slot. -/
structure Entry where
  number : Nat
  start : Nat
  duration : Nat
  priority : Nat
  dayZero : Nat
  days : Nat
  validFrom : Nat
  validTo : Nat
  transmitter : Nat
  programme : Nat
  kHz : Nat
  kW : Nat
  primary : Nat
  hasReserve : Nat
  reserve : Nat
  zero : Nat
deriving DecidableEq, Repr

/-- The fields of a slot in the layout of R32. -/
def Slot.entry (w : Slot) : Entry :=
  { number := Slot.bits w 112 16
    start := Slot.bits w 101 11, duration := Slot.bits w 90 11, priority := Slot.bits w 88 2
    dayZero := Slot.bits w 87 1, days := Slot.bits w 80 7
    validFrom := Slot.bits w 64 16, validTo := Slot.bits w 48 16
    transmitter := Slot.bits w 44 4, programme := Slot.bits w 40 4, kHz := Slot.bits w 24 16
    kW := Slot.bits w 15 9, primary := Slot.bits w 10 5, hasReserve := Slot.bits w 9 1
    reserve := Slot.bits w 4 5, zero := Slot.bits w 0 4 }

/-- A date bound as a day number, or none where absent (R32). -/
def dateBound (f : Nat) : Option Nat :=
  if f = 0xFFFF then none else some (fieldDate (BitVec.ofNat 16 f)).number

/-- The entry's reserve column, or none. -/
def Entry.reserveCol (e : Entry) : Option Col := if e.hasReserve = 1 then some (col e.reserve) else none

/-- The entry is in effect on a day: its weekday is in the day set and the day within its date bounds (R68). -/
def Entry.inEffect (e : Entry) (day : Nat) : Bool :=
  e.days.testBit (weekday day) &&
    (match dateBound e.validFrom with | some f => decide (f ≤ day) | none => true) &&
    (match dateBound e.validTo with | some t => decide (day ≤ t) | none => true)

/-- The window of an entry on a day, from its beginning up to but not including its end (R68). -/
def Entry.begins (e : Entry) (day : Nat) : Nat := day * 1440 + e.start
/-- See `Entry.begins`. -/
def Entry.ends (e : Entry) (day : Nat) : Nat := day * 1440 + e.start + e.duration

/-- The slots of a page as a reader sees it: an unwritten page is eight empty slots (R41, R44, R45). -/
def EntryPage.slots : EntryPage → List Slot
  | .programmed v => v.toArray.toList
  | _ => List.replicate 8 emptySlot

/-- The used slots of a list, each with its place, from place `n` on (R52). -/
def usedFrom : Nat → List Slot → List (Nat × Entry)
  | _, [] => []
  | n, w :: ws =>
    if Slot.bits w 112 16 = emptyMark then usedFrom (n + 1) ws else (n, Slot.entry w) :: usedFrom (n + 1) ws

/-- All 512 slots of a bank in walk order (R52). -/
def SeasonBank.slots (b : SeasonBank) : List Slot := b.pages.toArray.toList.flatMap EntryPage.slots
/-- The used slots of a bank in walk order, each with its place (R52). -/
def SeasonBank.used (b : SeasonBank) : List (Nat × Entry) := usedFrom 0 b.slots

/-! ### The fixed tables -/

/-- The band table (R1): lowest and highest kHz of bands 0-13. -/
def bandTable : List (Nat × Nat) :=
  [(2300, 2495), (3200, 3400), (3900, 4000), (4750, 5060), (5900, 6200), (7200, 7450), (9400, 9900)] ++
  [(11600, 12100), (13570, 13870), (15100, 15800), (17480, 17900), (18900, 19020), (21450, 21850), (25670, 26100)]

/-- The number of the first band of a table that encloses a frequency. -/
def bandIn : Nat → List (Nat × Nat) → Nat → Option Nat
  | _, [], _ => none
  | n, (lo, hi) :: rest, f => if lo ≤ f ∧ f ≤ hi then some n else bandIn (n + 1) rest f

/-- The band of a frequency (R1). -/
def bandOf (f : Nat) : Option Nat := bandIn 0 bandTable f

/-- A frequency is on the raster (R1). -/
def onRaster (f : Nat) : Bool := f % 5 == 0

/-- The levels of the reflected monitor in percent (R148). -/
def reflectedLevel (i : Fin 16) : Nat := [2, 3, 4, 5, 6, 8, 10, 12, 14, 17, 20, 24, 28, 33, 40, 50].getD i.val 0
/-- The levels of the forward monitor in percent of the power sent (R149). -/
def forwardLevel (i : Fin 16) : Nat := [50, 55, 60, 65, 70, 75, 80, 82, 84, 86, 88, 90, 92, 94, 96, 98].getD i.val 0

/-! ### Descriptions -/

/-- The power sent for a power asked (R6). -/
def TxDesc.powerSent (d : TxDesc) (asked : Nat) : Nat :=
  let p := min asked d.rated / d.step * d.step
  if p = 0 then d.step else p

/-- The transmitter test (R7). -/
def TxDesc.fits (d : TxDesc) (kHz programme : Nat) : Bool :=
  decide (d.low ≤ kHz) && decide (kHz ≤ d.high) && decide (programme < d.programmes)

/-- The column test (R7). -/
def ColDesc.permits (d : ColDesc) (kHz : Nat) : Bool :=
  d.present && (match bandOf kHz with | some b => d.bands.getLsbD b | none => false)

/-! ### Frames to request commands (R189, R190) -/

/-- Sixteen bytes as a slot, first byte most significant (R32). -/
def slotOf (bytes : List Byte) : Slot := BitVec.ofNat 128 (bytes.foldl (fun n b => n * 256 + b.toNat) 0)

/-- The 16-byte entries of a body after its first two bytes (R40). -/
def entriesOf : Nat → List Byte → List Slot
  | 0, _ => []
  | n + 1, bytes => slotOf (bytes.take 16) :: entriesOf n (bytes.drop 16)

/-- The value that stands for NONE, ALL or an argument not given in the values of a body (log 4). -/
def noValue : Nat := 65535

/-- The named value of a number, the values numbered from 0 in the order of their table (log 4). -/
def named {α : Type} (values : List α) (n : Nat) : Option α := values[n]?
/-- yes or no (log 4). -/
def yesNo (n : Nat) : Option Bool := named [false, true] n
/-- A member's scope and parameter from their two values (log 4). -/
def scopeArg (scope parameter : Nat) : ScopeArg :=
  match scope with
  | 0 => .transmitters (BitVec.ofNat 16 parameter)
  | 1 => .antenna parameter
  | 2 => .matrix
  | _ => .other
/-- An expected column (log 4): 65535 not given, 65534 NONE. -/
def expectedOf (n : Nat) : Expected := if n = noValue then .absent else if n = 65534 then .noColumn else .column n
/-- The pairs of a list of values. -/
def pairs : List Nat → List (Nat × Nat)
  | a :: b :: rest => (a, b) :: pairs rest
  | _ => []

/-- The request command of a kind whose body the spec lays out: no arguments, one byte, or WRITE_ENTRIES. -/
def laidOut (tag : Byte) (body : List Byte) : Nat → Option Instr
  | 0x40 => some (.run ⟨tag, body.isEmpty⟩)
  | 0x63 => some (.readRoutes ⟨tag, body.isEmpty⟩)
  | 0x64 => some (.readLines ⟨tag, body.isEmpty⟩)
  | 0x65 => some (.readInterlock ⟨tag, body.isEmpty⟩)
  | 0x60 => some (.readStatus ⟨tag, body.isEmpty⟩)
  | 0x66 => some (.readLog ⟨tag, body.isEmpty⟩)
  | 0x74 => some (.restart ⟨tag, body.isEmpty⟩)
  | 0x70 => some (.setNoticeEnables ⟨tag, body.length == 1⟩ (body.headD 0))
  | 0x71 => some (.clearSources ⟨tag, body.length == 1⟩ (body.headD 0))
  | 0x32 =>
    let n := (body.length - 2) / 16
    some (.writeEntries ⟨tag, body.length == 2 + 16 * n⟩ (body.headD 0).toNat ((body.drop 1).headD 0).toNat
      (entriesOf n (body.drop 2)))
  | _ => none

/-- The request command of a kind whose body the spec does not lay out, from the values it carries (log 4). -/
def fromValues (h : Head) (v : List Nat) (kind : Nat) : Option Instr :=
  let a (i : Nat) : Nat := v.getD i 0
  match kind with
  | 0x10 => some (.setTransmitter h (a 0) (a 1 == 1) (a 2) (a 3) (a 4) (a 5) (a 6))
  | 0x11 => some (.setAntenna h (a 0) (a 1 == 1) ([ColKind.curtain, .logPeriodic, .other, .load].getD (a 2) .other)
      (BitVec.ofNat 16 (a 3)))
  | 0x12 => some (.setAvailability h (a 0) (named [true, false] (a 1)))
  | 0x13 => some (.setLimits h ⟨a 0, a 1, a 2, a 3, a 4, a 5, a 6, a 7⟩)
  | 0x14 => some (.setMonitor h (a 0) (named [.reflected, .forward] (a 1)) (a 2) (named [true, false] (a 3)) (a 4)
      (named [.rise, .fall, .both] (a 5)) (named [.transmitter, .line] (a 6)))
  | 0x15 => some (.setProtection h ⟨a 0, a 1, a 2, a 3, a 4, a 5⟩)
  | 0x16 => some (.setLine h (a 0) (named [.unused, .input, .output, .lamp, .pulse, .interlock] (a 1)) (a 2))
  | 0x17 =>
    if a 1 = noValue then some (.setMemberRemove h (a 0))
    else some (.setMember h (a 0) (a 1) (named [true, false] (a 2)) (scopeArg (a 3) (a 4)))
  | 0x18 => some (.writeLines h (pairs v))
  | 0x20 => some (.setTime h (a 0) (a 1) (a 2) (a 3) (a 4) (a 5))
  | 0x21 => some (.setClockSource h (named [.reference, .internal] (a 0)))
  | 0x30 => some (.eraseBank h (a 0))
  | 0x31 =>
    let b (i : Nat) : Byte := BitVec.ofNat 8 (a i)
    some (.openBank h (a 0) #v[b 1, b 2, b 3, b 4, b 5, b 6] (a 7) (a 8) (a 9) (a 10))
  | 0x33 => some (.closeBank h (a 0))
  | 0x34 => some (.checkBank h (a 0))
  | 0x35 => some (.cancelCheck h (a 0))
  | 0x36 => some (.readBank h (a 0))
  | 0x37 => some (.readEntries h (a 0) (a 1))
  | 0x41 => if a 0 = 1 then some (.haltStop h) else some (.haltDrain h (a 0 == 0))
  | 0x42 => some (.readUpcoming h (a 0))
  | 0x50 => some (.manualTune h ⟨a 0, a 1, a 2, a 3, a 4, expectedOf (a 5), yesNo (a 6)⟩)
  | 0x51 => some (.manualEnd h (a 0))
  | 0x52 => some (.resumeSchedule h (a 0))
  | 0x53 => some (.releaseTransmitter h (a 0))
  | 0x54 => some (.withdrawAntenna h (a 0) (yesNo (a 1)))
  | 0x55 => some (.restoreAntenna h (a 0))
  | 0x56 => some (.pollMatrix h (if a 0 = noValue then none else some (a 0)))
  | 0x57 => if a 0 = 1 then some (.interlockClearEmergency h) else some (.interlockClearGroup h (a 0 == 0))
  | 0x61 => some (.readTransmitter h (a 0))
  | 0x62 => some (.readAntenna h (a 0))
  | 0x72 => some (.saveSettings h (yesNo (a 0)) (yesNo (a 1)))
  | 0x73 => some (.setStartKind h (named [.cold, .warm] (a 0)))
  | _ => none

/-- The request command that a queued frame spells; a kind outside the catalogue is UNKNOWN_KIND (R189, R190). -/
def Frame.command (f : Frame) : Instr :=
  match laidOut f.tag f.body f.kind.toNat with
  | some i => i
  | none =>
    match Config.bodyValues f.kind f.body with
    | some v => (fromValues ⟨f.tag, true⟩ v f.kind.toNat).getD (.unknownKind ⟨f.tag, true⟩ f.kind)
    | none => (fromValues ⟨f.tag, false⟩ [] f.kind.toNat).getD (.unknownKind ⟨f.tag, true⟩ f.kind)

/-- The kind code and the head of a host request (R190); none for the other commands. -/
def requestOf : Instr → Option (Byte × Head)
  | .setTransmitter h _ _ _ _ _ _ _ => some (0x10, h)
  | .setAntenna h _ _ _ _ => some (0x11, h)
  | .setAvailability h _ _ => some (0x12, h)
  | .setLimits h _ => some (0x13, h)
  | .setMonitor h _ _ _ _ _ _ _ => some (0x14, h)
  | .setProtection h _ => some (0x15, h)
  | .setLine h _ _ _ => some (0x16, h)
  | .setMember h _ _ _ _ => some (0x17, h)
  | .setMemberRemove h _ => some (0x17, h)
  | .writeLines h _ => some (0x18, h)
  | .setTime h _ _ _ _ _ _ => some (0x20, h)
  | .setClockSource h _ => some (0x21, h)
  | .eraseBank h _ => some (0x30, h)
  | .openBank h _ _ _ _ _ _ => some (0x31, h)
  | .writeEntries h _ _ _ => some (0x32, h)
  | .closeBank h _ => some (0x33, h)
  | .checkBank h _ => some (0x34, h)
  | .cancelCheck h _ => some (0x35, h)
  | .readBank h _ => some (0x36, h)
  | .readEntries h _ _ => some (0x37, h)
  | .run h => some (0x40, h)
  | .haltDrain h _ => some (0x41, h)
  | .haltStop h => some (0x41, h)
  | .readUpcoming h _ => some (0x42, h)
  | .manualTune h _ => some (0x50, h)
  | .manualEnd h _ => some (0x51, h)
  | .resumeSchedule h _ => some (0x52, h)
  | .releaseTransmitter h _ => some (0x53, h)
  | .withdrawAntenna h _ _ => some (0x54, h)
  | .restoreAntenna h _ => some (0x55, h)
  | .pollMatrix h _ => some (0x56, h)
  | .interlockClearGroup h _ => some (0x57, h)
  | .interlockClearEmergency h => some (0x57, h)
  | .readStatus h => some (0x60, h)
  | .readTransmitter h _ => some (0x61, h)
  | .readAntenna h _ => some (0x62, h)
  | .readRoutes h => some (0x63, h)
  | .readLines h => some (0x64, h)
  | .readInterlock h => some (0x65, h)
  | .readLog h => some (0x66, h)
  | .setNoticeEnables h _ => some (0x70, h)
  | .clearSources h _ => some (0x71, h)
  | .saveSettings h _ _ => some (0x72, h)
  | .setStartKind h _ => some (0x73, h)
  | .restart h => some (0x74, h)
  | .unknownKind h kind => some (kind, h)
  | _ => none

/-! ### Taking and waiting (R188, R189) -/

/-- The command that a queued request spells. -/
def Request.command : Request → Instr
  | .frame f => f.command
  | .spelled i => i

/-- The kind and tag of a request as its QUEUE_FULL refusal carries them (R188). -/
def Request.header : Request → QueueFull
  | .frame f => { tag := f.tag, kind := f.kind }
  | .spelled i => match requestOf i with
    | some (kind, h) => { tag := h.tag, kind := kind }
    | none => { tag := 0, kind := 0 }

/-- The host link changed. -/
def State.onLink (s : State) (f : HostLink → HostLink) : State := { s with link := f s.link }

/-- LINK_FRAME_FAULT: 0 GAP, 1 LENGTH, 2 CHECK, 3 OVERRUN (R187, R188, R193). -/
def State.frameFault (s : State) (detail : Nat) : State :=
  { s with out := s.out.event .linkFrameFault .none (b1 detail) }

/-- A request joins the request queue, is refused QUEUE_FULL, or is discarded (R188). -/
def State.enqueue (s : State) (r : Request) : State :=
  if s.link.queue.length < Config.requestQueueSize then s.onLink fun k => { k with queue := k.queue ++ [r] }
  else if s.link.refusal.isNone then s.onLink fun k => { k with refusal := some r.header }
  else s.frameFault 3

/-- A request may be taken: start-up has ended and the reply slot is empty (R189). -/
def State.mayTake (s : State) : Bool := s.boot.phase == .done && s.link.reply.isNone

/-- A request given as a command is taken: it is the one just taken from the head of the queue, or one may be taken and
none waits before it (R189). -/
def State.serves (s : State) : Bool := s.mayTake && (s.link.taking || s.link.queue.isEmpty)

/-- A host request: taken by the block that owns it, or, while it may not be taken, one more request of the queue
(R188, R189, log 21). -/
def State.host (s : State) (i : Instr) (f : State → State) : Host.Outcome State Fault Refusal :=
  s.take fun s => if s.serves then f (s.onLink fun k => { k with taking := false }) else s.enqueue (.spelled i)

end Sys2Proof.Machine
end

