-- ==== Sys2Proof/Machine/MatrixOps.lean ====
section
/-! DEFINITION. The Matrix Controller's shared operations (06): column use and service, holders, claims, the motor slot
pool and the start of a drive. -/

namespace Sys2Proof.Machine

/-! ### Reading the matrix -/

/-- A crosspoint record. -/
def Matrix.point (m : Matrix) (t : Tx) (c : Col) : Crosspoint := (m.points.get t).get c
/-- The state of a crosspoint. -/
def Matrix.xstate (m : Matrix) (t : Tx) (c : Col) : XState := (m.point t c).state
/-- A column's entry. -/
def Matrix.column (m : Matrix) (c : Col) : Column := m.columns.get c
/-- A row record. -/
def Matrix.row (m : Matrix) (t : Tx) : RowRecord := m.rows.get t

/-- The crosspoint is in motion (R92). -/
def XState.moving (x : XState) : Bool := x == .movingOpen || x == .movingClose
/-- The crosspoint is OPEN or CLOSED. -/
def XState.known (x : XState) : Bool := x == .opened || x == .closed
/-- The state that a contact reading outside a drive gives (R92). -/
def Contacts.state : Contacts → XState
  | .openContact => .opened
  | .closedContact => .closed
  | .neither => .unknown
  | .both => .unknown
/-- The state of a crosspoint in motion in a direction, and at its end. -/
def Direction.moving : Direction → XState | .opening => .movingOpen | .closing => .movingClose
/-- See `Direction.moving`. -/
def Direction.reached : Direction → XState | .opening => .opened | .closing => .closed
/-- The direction of a crosspoint in motion. -/
def XState.direction (x : XState) : Direction := if x = .movingOpen then .opening else .closing
/-- The reading matches the drive's direction (R94). -/
def XState.reachedBy (x : XState) (k : Contacts) : Bool :=
  (x == .movingOpen && k == .openContact) || (x == .movingClose && k == .closedContact)

/-- A column is IN_SERVICE exactly when its out reasons are empty (R99). -/
def Column.inService (k : Column) : Bool := !k.withdrawn && !k.suspect && !k.position && k.gates == 0
/-- The row condition counts as live (R98). -/
def RowCondition.live (r : RowCondition) : Bool := r != .quiet

/-- A column's use, the first row of R98's table that applies. -/
def Matrix.use (m : Matrix) (c : Col) : ColumnUse :=
  let k := m.column c
  match k.holder with
  | some h =>
    if (m.row h).condition.live then .live else if k.claimant.isSome then .claimed else .idle
  | none => if k.claimant.isSome then .claimed else .free

/-- The matrix is SUSPENDED exactly when the suspension set is not empty (R108). -/
def Matrix.suspended (m : Matrix) : Bool := !m.suspension.empty

/-- Every crosspoint of the row but column `c`'s satisfies the test. -/
def Matrix.restOfRow (m : Matrix) (t : Tx) (c : Col) (p : XState → Bool) : Bool :=
  allCols.all fun d => d == c || p (m.xstate t d)
/-- Every crosspoint of the column but row `t`'s satisfies the test. -/
def Matrix.restOfColumn (m : Matrix) (t : Tx) (c : Col) (p : XState → Bool) : Bool :=
  allTx.all fun u => u == t || p (m.xstate u c)
/-- Every crosspoint of the column is OPEN or CLOSED (R96). -/
def Matrix.columnKnown (m : Matrix) (c : Col) : Bool := allTx.all fun t => (m.xstate t c).known
/-- The CLOSED columns of a row, in column order. -/
def Matrix.closedIn (m : Matrix) (t : Tx) : List Col := allCols.filter fun c => m.xstate t c == .closed
/-- The crosspoints with a drive, in row order, each with the transmitter that asked for it. -/
def Matrix.drives (m : Matrix) : List (Tx × Col × Tx) :=
  allTx.flatMap fun t => allCols.filterMap fun c => (m.point t c).drive.map fun d => (t, c, d.t)

/-! ### Changing the matrix -/

/-- The matrix with a crosspoint changed. -/
def Matrix.onPoint (m : Matrix) (t : Tx) (c : Col) (f : Crosspoint → Crosspoint) : Matrix :=
  { m with points := upd m.points t (upd (m.points.get t) c (f (m.point t c))) }
/-- The matrix with a column's entry changed. -/
def Matrix.onColumn (m : Matrix) (c : Col) (f : Column → Column) : Matrix :=
  { m with columns := upd m.columns c (f (m.column c)) }
/-- The matrix with a row record changed. -/
def Matrix.onRow (m : Matrix) (t : Tx) (f : RowRecord → RowRecord) : Matrix :=
  { m with rows := upd m.rows t (f (m.row t)) }
/-- The matrix with a column's claimant set. -/
def Matrix.setClaimant (m : Matrix) (c : Col) (t : Option Tx) : Matrix := m.onColumn c fun k => { k with claimant := t }

/-- The column's holder (R98): the one it has while that crosspoint is CLOSED, else the lowest row whose crosspoint in
the column is CLOSED (log 33), else none. -/
def Matrix.reholder (m : Matrix) (c : Col) : Matrix :=
  let closed (t : Tx) : Bool := m.xstate t c == .closed
  m.onColumn c fun k =>
    { k with holder := match k.holder with
        | some h => if closed h then some h else allTx.find? closed
        | none => allTx.find? closed }

/-- The transmitters told of a column's service change: its claimant, then its holder if it is another (R99). -/
def Column.told (k : Column) : List Tx :=
  match k.claimant, k.holder with
  | some a, some h => if a = h then [a] else [a, h]
  | some a, none => [a]
  | none, some h => [h]
  | none, none => []

/-- Grants the oldest claim listed for a column that is IN_SERVICE and FREE or IDLE (R101). -/
def Board.pass (c : Col) (b : Board) : Board :=
  let u := b.m.use c
  if (b.m.column c).inService && (u == .free || u == .idle) then
    match b.m.claims.find? fun q => q.column == c with
    | some q =>
      { m := { b.m with claims := b.m.claims.erase q }.setClaimant c (some q.t)
        o := b.o.hand (.claimGranted q.t c) }
    | none => b
  else b

/-- Changes a column's out reasons and tells of the change of service it makes, if any (R99): SERVICE_CHANGED to the
claimant and the holder; a column that goes out of service refuses the claims listed for it, in list order, and one
that comes into service may pass to a listed claim (R101). -/
def Board.service (c : Col) (f : Column → Column) (b : Board) : Board :=
  let before := b.m.column c
  let m := b.m.onColumn c f
  let after := m.column c
  if before.inService = after.inService then { b with m := m }
  else
    let o := b.o.handAll (after.told.map fun t => .serviceChanged t c after.inService)
    if after.inService then Board.pass c { m := m, o := o }
    else
      { m := { m with claims := m.claims.filter fun q => q.column != c }
        o := o.handAll ((m.claims.filter fun q => q.column == c).map fun q => .claimRefused q.t c) }

/-- The POSITION reason after a crosspoint of the column has become `x` (R96). -/
def Board.positionReason (c : Col) (x : XState) (b : Board) : Board :=
  if x = .unknown then b.service c fun k => { k with position := true }
  else if x.known && b.m.columnKnown c then b.service c fun k => { k with position := false }
  else b

/-- The column's POSITION reason and waiting claims follow a crosspoint that has become `x` (R96, R101). -/
def Board.settle (c : Col) (x : XState) (b : Board) : Board := (Board.positionReason c x b).pass c

/-- Sets a crosspoint's state and drive; then the column's holder, POSITION reason and waiting claims follow
(R96, R98, R101). -/
def Board.setPoint (t : Tx) (c : Col) (x : XState) (d : Option Drive) (b : Board) : Board :=
  Board.settle c x { b with m := (b.m.onPoint t c fun p => { p with state := x, drive := d }).reholder c }

/-- Makes a transmitter a column's holder (R106 step 2). -/
def Matrix.hold (m : Matrix) (t : Tx) (c : Col) : Matrix := m.onColumn c fun k => { k with holder := some t }

/-- A drive in motion is complete: the crosspoint is OPEN or CLOSED without a drive, a close makes its row's transmitter
the column's holder, and the column follows (R98, R106 steps 1 to 3). -/
def Board.completePoint (t : Tx) (c : Col) (d : Direction) (b : Board) : Board :=
  match d with
  | .opening => b.setPoint t c .opened none
  | .closing =>
    let m := (b.m.onPoint t c fun p => { p with state := .closed, drive := none }).hold t c
    Board.settle c .closed { b with m := m }

/-! ### Motor slots and drives (R103-R107) -/

/-- The row has mute confirmed and is not in RAMP, ON_AIR or TRIPPED (R105 test 4). -/
def RowRecord.mayMove (r : RowRecord) : Bool :=
  r.muteConfirmed && r.condition != .ramp && r.condition != .onAir && r.condition != .tripped

/-- What the tests of R105 find for a request, in their order. -/
inductive StartTest where
  | fails (why : DriveFailure)
  | already
  | starts
deriving DecidableEq, Repr

/-- The tests of R105 against the matrix as it stands. -/
def Matrix.startTest (m : Matrix) (r : SlotRequest) : StartTest :=
  let x := m.xstate r.row r.column
  let holderMay : Bool := match (m.column r.column).holder with
    | some h => h == r.row || (m.row h).mayMove
    | none => true
  if x = .unknown ∨ x.moving then .fails .routeUnknown
  else if x = r.direction.reached then .already
  else if r.direction = .closing ∧ ¬ m.restOfRow r.row r.column (· == .opened) then .fails .rowBusy
  else if r.direction = .closing ∧ ¬ m.restOfColumn r.row r.column (· == .opened) then .fails .columnBusy
  else if ¬ (m.row r.row).mayMove then .fails .rowBusy
  else if ¬ holderMay then .fails .columnBusy
  else .starts

/-- Gives a request a motor slot: starts the drive, or answers it and returns the slot at once (R105). -/
def Board.startDrive (travel : Nat) (r : SlotRequest) (b : Board) : Board :=
  match b.m.startTest r with
  | .fails why => { b with o := b.o.hand (.driveFailed r.t r.row r.column why) }
  | .already => { b with o := b.o.hand (.driveDone r.t r.row r.column) }
  | .starts =>
    let d : Drive := { t := r.t, travel := Timer.start travel }
    let b := b.setPoint r.row r.column r.direction.moving (some d)
    { m := { b.m with free := b.m.free - 1 }
      o := (b.o.send (.drive r.row r.column r.direction)).hand (.driveStarted r.t r.row r.column) }

/-- Slots may be granted: one is free, the matrix is NORMAL and start-up has ended (R103, R210). -/
def Matrix.mayGrant (m : Matrix) : Bool := decide (0 < m.free) && !m.suspended && m.granting

/-- Grants waiting requests from the head of the queue, at most `n` of them, while slots may be granted (R103). -/
def Board.grantUpTo (travel : Nat) : Nat → Board → Board
  | 0, b => b
  | n + 1, b =>
    if b.m.mayGrant then
      match b.m.queue with
      | r :: rest => Board.grantUpTo travel n ((Board.startDrive travel r { b with m := { b.m with queue := rest } }))
      | [] => b
    else b

/-- Grants from the queue (R103). -/
def Board.grant (travel : Nat) (b : Board) : Board := b.grantUpTo travel b.m.queue.length

/-- Places a request behind those of its priority or a higher one (R103). -/
def enqueue (r : SlotRequest) : List SlotRequest → List SlotRequest
  | [] => [r]
  | q :: qs => if q.priority < r.priority then r :: q :: qs else q :: enqueue r qs

/-- The matrix with one more free slot. -/
def Matrix.returnSlot (m : Matrix) : Matrix := { m with free := m.free + 1 }

/-- Stops a drive in motion, as travel expiry and suspension do: STOP is sent, the crosspoint becomes UNKNOWN and the
column takes POSITION (R107, R108). -/
def Board.stopDrive (row : Tx) (c : Col) (b : Board) : Board :=
  Board.setPoint row c .unknown none { b with o := b.o.send (.stop row c) }

/-- Releases a grant or removes a listed claim of a transmitter for a column (R102). -/
def Board.dropClaim (t : Tx) (c : Col) (b : Board) : Board :=
  if (b.m.column c).claimant = some t then Board.pass c { b with m := b.m.setClaimant c none }
  else { b with m := { b.m with claims := b.m.claims.filter fun q => !(q.t == t && q.column == c) } }

/-- MATRIX_FAULT for the row's transmitter, and for the column's former holder if it is another, each when it is live
(R95). -/
def Board.faults (t : Tx) (former : Option Tx) (b : Board) : Board :=
  let told := match former with
    | some h => if h = t then [t] else [t, h]
    | none => [t]
  { b with o := b.o.handAll ((told.filter fun u => (b.m.row u).condition.live).map fun u => .matrixFault u) }

end Sys2Proof.Machine
end

