-- ==== Sys2Proof/Machine/Monitors.lean ====
section
/-! DEFINITION. The RF monitors' shared operations (08): arming and disarming (R152), and the crossings that raise
events (R150). -/

namespace Sys2Proof.Machine

/-- Disarms the reflected monitor (R152). -/
def Reflected.disarm (r : Reflected) : Reflected :=
  { r with state := .off, side := none, pending := false, arming := none, tripped := false }
/-- Disarms the forward monitor (R152). -/
def Forward.disarm (f : Forward) : Forward := { f with state := .off, side := none, pending := false, loss := none }

/-- The reflected monitor at the end of its arming delay (R152). -/
def Reflected.ready (r : Reflected) : Reflected :=
  { r with state := .armed, side := some .low, pending := false, arming := none, tripped := false }
/-- An arming order to the reflected monitor; a delay of 0 arms it at once (R152). -/
def Reflected.arm (r : Reflected) (delay : Nat) : Reflected :=
  if delay = 0 then r.ready
  else { r with state := .waiting, side := none, pending := false, arming := some (Timer.start delay), tripped := false }
/-- An arming order to the forward monitor (R152). -/
def Forward.arm (f : Forward) : Forward := { f with state := .ramp, side := some .low, pending := false, loss := none }

/-- A trip leaves the reflected monitor as it is until its mute is confirmed (R156). -/
def Station.tripped (u : Station) : Station := { u with refl := { u.refl with tripped := true } }
/-- Disarms the forward monitor alone. -/
def Station.disarmForward (u : Station) : Station := { u with fwd := u.fwd.disarm }
/-- Disarms the reflected monitor that a trip has left ARMED; any other stays as it is (R152, R156). -/
def Station.endTrip (u : Station) : Station := if u.refl.tripped then { u with refl := u.refl.disarm } else u
/-- Disarms both monitors. -/
def Station.disarm (u : Station) : Station := { u with fwd := u.fwd.disarm, refl := u.refl.disarm }
/-- The arming order at the start of a ramp (R152). -/
def Station.arm (u : Station) (delay : Nat) : Station := { u with fwd := u.fwd.arm, refl := u.refl.arm delay }
/-- The monitors of an adopted transmitter: armed at once (R168). -/
def Station.armAdopted (u : Station) : Station :=
  { u with
    fwd := { u.fwd with state := .armed, side := some .high, pending := false, loss := none }
    refl := u.refl.ready }

/-- The edge selection lets a rising crossing raise its event (R150). -/
def Edges.rises : Edges → Bool | .fall => false | _ => true
/-- The edge selection lets a falling crossing raise its event (R150). -/
def Edges.falls : Edges → Bool | .rise => false | _ => true

/-- The monitor state's block changed. -/
def Bench.tr (b : Bench) (f : TxRecord → TxRecord) : Bench := { b with u := { b.u with tr := f b.u.tr } }
/-- The outbox changed. -/
def Bench.out (b : Bench) (f : Outbox → Outbox) : Bench := { b with o := f b.o }
/-- The station changed. -/
def Bench.station (b : Bench) (f : Station → Station) : Bench := { b with u := f b.u }

/-- Raises an event of a monitor, its level in percent as detail (R150). -/
def Bench.monitorEvent (e : Env) (k : EventKind) (level : Nat) (b : Bench) : Bench :=
  b.out fun o => o.event k (.transmitter e.t) (b1 level)

/-- REFLECTED_HIGH, when the selection allows it (R150). -/
def Bench.reflectedHigh (e : Env) (b : Bench) : Bench :=
  if b.u.refl.config.edges.rises then b.monitorEvent e .reflectedHigh (reflectedLevel b.u.refl.config.level) else b
/-- REFLECTED_NORMAL, when the selection allows it (R150). -/
def Bench.reflectedNormal (e : Env) (b : Bench) : Bench :=
  if b.u.refl.config.edges.falls then b.monitorEvent e .reflectedNormal (reflectedLevel b.u.refl.config.level) else b
/-- CARRIER_NORMAL, when the selection allows it (R150). -/
def Bench.carrierNormal (e : Env) (b : Bench) : Bench :=
  if b.u.fwd.config.edges.rises then b.monitorEvent e .carrierNormal (forwardLevel b.u.fwd.config.level) else b
/-- CARRIER_LOW, when the selection allows it (R150). -/
def Bench.carrierLow (e : Env) (b : Bench) : Bench :=
  if b.u.fwd.config.edges.falls then b.monitorEvent e .carrierLow (forwardLevel b.u.fwd.config.level) else b

end Sys2Proof.Machine
end

