-- ==== Sys2Proof/Machine/HallClock.lean ====
section
/-! DEFINITION. The Hall Clock (02): advancing, the 2099 wrap, second-pulse alignment, the reference, and the host's
clock requests. -/

namespace Sys2Proof.Machine

/-- The clock changed. -/
def State.onClock (s : State) (f : Clock → Clock) : State := { s with clock := f s.clock }

/-- A signed step held within four bytes (R25). -/
def heldStep (n : Int) : Int := if 2147483647 < n then 2147483647 else if n < -2147483648 then -2147483648 else n

/-- The step from one reading to another, in tenths (R25). -/
def clockStep (old new : Reading) : Int := heldStep ((new.tenths : Int) - (old.tenths : Int))

/-- Raises a minute boundary of kind STEP (R27). -/
def State.stepBoundary (s : State) (old : Reading) : State :=
  s.onOut fun o => o.hand (.minuteBoundary
    { kind := .step, now := s.clock.reading.minutes, clockSet := s.clock.isSet, previous := some old.minutes })

/-- Raises a minute boundary of kind ADVANCE (R27). -/
def State.advanceBoundary (s : State) : State :=
  s.onOut fun o => o.hand (.minuteBoundary
    { kind := .advance, now := s.clock.reading.minutes, clockSet := s.clock.isSet, previous := none })

/-- Sets the clock to a reading, as SET_TIME and the 2099 wrap do: TIME_SET with the step, and a STEP boundary
(R18, R25). -/
def State.setClock (s : State) (old new : Reading) (flag : Bool) : State :=
  let s := s.onClock fun k => { k with reading := new, divider := 0, isSet := flag }
  (s.onOut fun o => o.event .timeSet .none (b4 (BitVec.ofInt 32 (clockStep old new)).toNat)).stepBoundary old

/-- The reading that follows the end of 2099 (R18). -/
def wrapReading : Reading := Clock.powerOn.reading

/-- Advances the second of a reading whose tenth and divider have returned to 0, with its carries; `old` is the reading
before (R18, R23). -/
def State.carrySecond (s : State) (old : Reading) : State :=
  let r := s.clock.reading
  if r.second < 59 then s.onClock fun k => { k with reading := { r with second := r.second + 1 } }
  else if r.minute < 1439 then
    (s.onClock fun k => { k with reading := { r with second := 0, minute := r.minute + 1 } }).advanceBoundary
  else if r.date.year = 2099 ∧ r.date.month = 12 ∧ r.date.day = 31 then s.setClock old wrapReading s.clock.isSet
  else (s.onClock fun k => { k with reading := { r with second := 0, minute := 0, date := r.date.succ } }).advanceBoundary

/-- The tenth advances by one and the divider returns to 0 (R18). -/
def State.advanceTenth (s : State) : State :=
  let r := s.clock.reading
  if r.tenth < 9 then s.onClock fun k => { k with divider := 0, reading := { r with tenth := r.tenth + 1 } }
  else (s.onClock fun k => { k with divider := 0, reading := { r with tenth := 0 } }).carrySecond r

/-- CLOCK_TENTH_ADVANCE (R18); the clock runs on while the reset line is asserted (R205). The command is the completion of
a tenth itself, whatever the divider stands at (log 52). -/
def execClockTenthAdvance (s : State) : Host.Outcome State Fault Refusal := .next s.settled.advanceTenth

/-- The reference has been seen good for the whole second of R20. -/
def Clock.referenceSeen (k : Clock) : Bool := decide (Config.referenceTicks ≤ k.seen)

/-- The reference input is found good: once it has been seen for its second it is PRESENT, which selects nothing (R20,
R21). -/
def Clock.referenceGood (k : Clock) : Clock := if k.referenceSeen then { k with present := true } else k

/-- REFERENCE_JUDGED_PRESENT (R20, R21): judged only after 100 phase ticks without a failure (log 42); presence goes on
being judged through a reset (R28). -/
def execReferenceJudgedPresent (s : State) : Host.Outcome State Fault Refusal :=
  .next (s.settled.onClock Clock.referenceGood)

/-- The reference input fails: its count restarts, presence is ABSENT, and a clock that ran on it runs on the internal
oscillator, with REFERENCE_LOST (R20, R21). -/
def State.referenceFails (s : State) : State :=
  if s.clock.source = .reference then
    (s.onClock fun k => { k with present := false, seen := 0, source := .internal }).onOut fun o =>
      o.event .referenceLost .none []
  else s.onClock fun k => { k with present := false, seen := 0 }

/-- REFERENCE_INPUT_FAILURE (R21). -/
def execReferenceInputFailure (s : State) : Host.Outcome State Fault Refusal := .next s.settled.referenceFails

/-- The PULSE line, if a line is of that kind (R172). -/
def State.pulseLine (s : State) : Option Line := allLines.find? fun l => (s.lines.get l).kind == .pulse

/-- Aligns the clock to a second pulse (R23) and restarts the pulse watch (R24). -/
def State.align (s : State) : State :=
  let r := s.clock.reading
  let s := s.onClock fun k =>
    { k with divider := 0, reading := { r with tenth := 0 }, pulse := .locked
             watch := some (Timer.start Config.pulseWatchTicks) }
  if 5 ≤ r.tenth then s.carrySecond r else s

/-- The second pulse of a rising edge on the PULSE line; its pin then stands HIGH (R23, R24, R171). -/
def State.secondPulse (s : State) (l : Line) : State :=
  let s := s.align
  { s with lines := upd s.lines l { s.lines.get l with pin := some true, last := some true } }

/-- SECOND_PULSE: taken when a line is of kind PULSE. The command is a rising edge in itself, whatever level the pin was
recorded at (log 44). -/
def execSecondPulse (s : State) : Host.Outcome State Fault Refusal :=
  s.take fun s => match s.pulseLine with
    | some l => s.secondPulse l
    | none => s

/-- PULSE_WATCH_EXPIRY (R24): the command is the running-out itself, whatever the running watch stands at (log 52). -/
def execPulseWatchExpiry (s : State) : Host.Outcome State Fault Refusal :=
  s.take fun s =>
    if s.clock.watch.isSome then
      (s.onClock fun k => { k with pulse := .lost, watch := none }).onOut fun o =>
        o.event .pulseLost (match s.pulseLine with | some l => .line l | none => .none) []
    else s

/-- SET_TIME (R25). -/
def execSetTime (h : Head) (year month day minute second tenth : Nat) (s : State) :
    Host.Outcome State Fault Refusal :=
  s.host (.setTime h year month day minute second tenth) fun s =>
    let d : Date := { year := year, month := month, day := day }
    let new : Reading := { date := d, minute := minute, second := second, tenth := tenth }
    let old := s.clock.reading
    let ranges : Bool := decide (year < 2000) || decide (2099 < year) || decide (month < 1) || decide (12 < month) ||
      decide (day < 1) || decide (31 < day) || decide (1439 < minute) || decide (59 < second) || decide (9 < tenth)
    s.request 0x20 h [(ranges, .outOfRange), (!d.valid, .badField)]
      (fun s => s.setClock old new true) (fun _ => .step (clockStep old new))

/-- SET_CLOCK_SOURCE (R22). -/
def execSetClockSource (h : Head) (source : Option ClockSource) (s : State) : Host.Outcome State Fault Refusal :=
  s.host (.setClockSource h source) fun s =>
    s.request 0x21 h
      [(source.isNone, .badField), (source == some .reference && !s.clock.present, .wrongState)]
      (fun s => s.onClock fun k => { k with source := source.getD .internal }) (fun _ => .empty)

end Sys2Proof.Machine
end

