-- ==== Sys2Proof/Machine/SequencerOps.lean ====
section
/-! DEFINITION. The Changeover Sequencer's shared operations (07, and restrike from 08): carrier orders and mute
confirmation, row reports, the creation, phases and ends of a changeover context, holding, tripping and restriking. -/

namespace Sys2Proof.Machine

/-! ### Orders and reports -/

/-- Sends an order on the transmitter's port. -/
def Bench.order (e : Env) (p : PortOrder) (b : Bench) : Bench := b.out fun o => o.order e.t p

/-- Writes the mute-confirmed item and reports a change of it to MXC (R117, log 13). -/
def Bench.setConfirmed (e : Env) (v : Bool) (b : Bench) : Bench :=
  if b.u.tr.muteConfirmed = v then b
  else (b.tr fun r => { r with muteConfirmed := v }).out fun o => o.hand (.muteConfirmedReport e.t v)

/-- What mute confirmed becoming yes does at once: a reflected monitor left ARMED by a trip is disarmed (R156), the trip
mute watch stops (R157). A monitor that no trip has left ARMED stays as it is (R152), and the transmission under it
stays known to R155. -/
def Bench.quieten (b : Bench) : Bench := (b.station Station.endTrip).tr fun r => { r with tripWatch := none }

/-- Sends MUTE (R117): mute confirmed becomes no, or yes in the same event if RF is already ABSENT. -/
def Bench.sendMute (e : Env) (b : Bench) : Bench :=
  let b := (b.order e .mute).tr fun r => { r with unmuted := false, mutedOnce := true }
  let absent : Bool := b.u.tr.rf == some false
  let b := b.setConfirmed e absent
  if absent then b.quieten else b

/-- Sends PWR and then UNMUTE (R128, R158); mute confirmed becomes no (R117). -/
def Bench.raiseCarrier (e : Env) (kW : Nat) (b : Bench) : Bench :=
  (((b.order e (.pwr kW)).order e .unmute).tr fun r => { r with unmuted := true }).setConfirmed e false

/-- The row condition of a record (R116). -/
def TxRecord.condition (r : TxRecord) : RowCondition :=
  match r.state with
  | .onAir => .onAir
  | .held => .held
  | .tripped => .tripped
  | .changing => if r.context.any fun c => c.phase == .ramp then .ramp else .quiet
  | _ => .quiet

/-- The schedule work of a transmitter: of its current transmission, else of the one its changeover builds (R75). -/
def TxRecord.work (r : TxRecord) : Option SchedRef :=
  match r.current.bind (·.work) with
  | some w => some w
  | none => r.context.bind (·.work)

/-- The state is DARK or LOCKED. -/
def TxState.off : TxState → Bool | .dark _ => true | .locked _ => true | _ => false

/-- Reports the row condition if it has changed; a change to QUIET waits until mute is confirmed or the transmitter is
DARK or LOCKED (R117, log 14). R117 says 'when mute confirmed becomes yes': where it is yes already, as for a HELD or
TRIPPED transmitter it may be, QUIET is reported at once, the model's choice (log 14). -/
def Bench.reportRow (e : Env) (b : Bench) : Bench :=
  let r := b.u.tr
  let c := r.condition
  if c = r.reported ∨ (c = .quiet ∧ ¬ (r.muteConfirmed ∨ r.state.off)) then b
  else (b.tr fun r => { r with reported := c }).out fun o => o.hand (.rowConditionReport e.t c)

/-- Reports to SEN that a work of the schedule has ended (R75). -/
def Bench.workEnded (e : Env) (work : Option SchedRef) (b : Bench) : Bench :=
  match work with
  | some w => b.out fun o => o.hand (.scheduleWorkEnded e.t w)
  | none => b

/-- Removes a waiting request and records it MISSED (R82, R132). -/
def Bench.missSlot (e : Env) (why : Detail) (b : Bench) : Bench :=
  match b.u.tr.slot with
  | some q => (b.tr fun r => { r with slot := none }).out fun o => o.missed e.reading e.t q.work q.column q.kHz why
  | none => b

/-- The detail of a lock reason. -/
def LockReason.detail : LockReason → Detail
  | .muteFailed => .muteFailed | .txFault => .txFault | .carrierLost => .carrierLost

/-- The detail of TX_LOCKED: the lock reason, and for TX_FAULT the code of the FAULT line or 0xFFFF (R116, R193). -/
def lockDetail (why : LockReason) (code : Option Nat) : List Byte :=
  b1 why.detail.code ++ (if why = .txFault then b2 (code.getD 0xFFFF) else [])

/-- The transmitter becomes LOCKED: TX_LOCKED is raised (R116), and a waiting request is missed (R132). -/
def Bench.lock (e : Env) (why : LockReason) (code : Option Nat) (b : Bench) : Bench :=
  (((b.tr fun r => { r with state := .locked why, lock := some why }).out fun o =>
      o.event .txLocked (.transmitter e.t) (lockDetail why code)).missSlot e .transmitterLocked)

/-- The transmitter becomes DARK, and a waiting request is missed (R132). A kept lock reason stays. -/
def Bench.darken (e : Env) (why : DarkReason) (b : Bench) : Bench :=
  (b.tr fun r => { r with state := .dark why }).missSlot e .transmitterDark

/-! ### Ends of a transmission -/

/-- Writes the END record of the current transmission (R198). No rule that writes one names a column or a frequency: that
the record has both, the transmission's, is the model's reading (log 64). -/
def Bench.endRecord (e : Env) (detail : Detail) (b : Bench) : Bench :=
  match b.u.tr.current with
  | some x => b.out fun o => o.record e.reading .end_ e.t x.work (some x.column) (some x.kHz) (some x.kW) detail
  | none => b

/-- Stops a restrike, its watch and the restrike window count (R159, R163). -/
def TxRecord.stopRestrike (r : TxRecord) : TxRecord :=
  { r with stage := .none, tripWatch := none, window := none }

/-- The current transmission is no more: monitors, open tune, restrike and window count end with it (R122, R152). -/
def Bench.drop (b : Bench) : Bench :=
  (b.station Station.disarm).tr fun r => { r.stopRestrike with current := none, openTune := none, radiated := none }

/-- CHANGEOVER_FAILED with a reason and a stage (R120, R131). -/
def Bench.changeoverFailed (e : Env) (why : Detail) (onAir : Bool) (b : Bench) : Bench :=
  b.out fun o => o.event .changeoverFailed (.transmitter e.t) (b1 why.code ++ b1 (stageCode onAir))

/-- CHANGEOVER_DONE with origin, column and frequency (R129). -/
def Bench.changeoverDone (e : Env) (origin : Origin) (c : Col) (kHz : Nat) (b : Bench) : Bench :=
  b.out fun o => o.event .changeoverDone (.transmitter e.t) (b1 origin.code ++ b1 c.val ++ b2 kHz)

/-- Ends the current transmission with a failure reason outside any context: END record, CHANGEOVER_FAILED at stage
ON_AIR and the schedule work report (R119, R120, R157). -/
def Bench.endFailed (e : Env) (why : Detail) (b : Bench) : Bench :=
  let work := b.u.tr.current.bind (·.work)
  (((b.endRecord e why).changeoverFailed e why true).drop).workEnded e work

/-- Sends MUTE and ends the current transmission with a failure reason. -/
def Bench.muteAndEnd (e : Env) (why : Detail) (b : Bench) : Bench := (b.sendMute e).endFailed e why

/-! ### Starts -/

/-- A context of an origin in phase CLAIM for a start request (R121). -/
def StartRequest.context (q : StartRequest) (origin : Origin) : Context :=
  { origin := origin, work := q.work, late := q.late, target := q.column, reserve := q.reserve, reserveUsed := false,
    kHz := q.kHz, kW := q.kW, programme := q.programme, priority := q.priority, phase := .claim, deadline := none,
    claim := some { column := q.column, status := .sent }, plan := [], tune := .none, outcome := none,
    started := false, closing := .none, faultCode := none }

/-- The context that carries a transmission on (R133, R134, R135). -/
def Transmission.context (x : Transmission) (origin : Origin) (phase : Phase) : Context :=
  { origin := origin, work := x.work, late := false, target := x.column, reserve := x.reserve,
    reserveUsed := x.reserveUsed, kHz := x.kHz, kW := x.kW, programme := x.programme, priority := x.priority,
    phase := phase, deadline := none, claim := none, plan := [], tune := .none, outcome := none, started := true,
    closing := .none, faultCode := none }

/-- Installs a context: the transmitter is CHANGING. -/
def Bench.install (c : Context) (b : Bench) : Bench :=
  b.tr fun r => { r with state := .changing, context := some c }

/-- Changes the context. -/
def Bench.ctx (f : Context → Context) (b : Bench) : Bench := b.tr fun r => { r with context := r.context.map f }

/-- The start is a continuation of the current transmission (R122). -/
def isContinuation (e : Env) (q : StartRequest) (r : TxRecord) : Bool :=
  r.state == .onAir &&
    r.current.any fun x =>
      x.column == q.column && (e.matrix.column x.column).inService && x.kHz == q.kHz

/-- The origin of the transmission that a start request builds. -/
def StartRequest.origin (q : StartRequest) : Origin := if q.work.isSome then .schedule else .manual

/-- Makes the start a continuation: PWR and TUNE as they differ, the transmission replaced, START(CONTINUED) and
CHANGEOVER_DONE; no context (R122). That the record has the column and the frequency is the model's reading (log 64). -/
def Bench.continue_ (e : Env) (q : StartRequest) (x : Transmission) (b : Bench) : Bench :=
  let kW := b.u.tr.desc.powerSent q.kW
  let b := if kW = x.kW then b else b.order e (.pwr kW)
  let b := b.tr fun r => { r with openTune := none }
  let b :=
    if q.programme = x.programme then b
    else (b.order e (.tune q.kHz q.programme)).tr fun r =>
      { r with openTune := some { kHz := q.kHz, deadline := Timer.start e.limits.tune } }
  let y : Transmission :=
    { work := q.work, start := e.reading, column := q.column, kHz := q.kHz, kW := kW, programme := q.programme,
      priority := q.priority, reserve := q.reserve, reserveUsed := false, late := false }
  let b := b.tr fun r => { r with current := some y }
  let b := b.out fun o => o.record e.reading .start e.t y.work (some y.column) (some y.kHz) (some y.kW) .continued
  b.changeoverDone e q.origin q.column q.kHz

/-- Creates a SCHEDULE or MANUAL context: a current transmission is closed, its END record having been written by the
caller, the restrike is abandoned, the forward monitor disarmed, and CLAIM is sent (R121, R123, R152). On a HELD
transmitter whose trip's MUTE is unconfirmed the reflected monitor stays ARMED, as R156 has it, though R152 disarms both
at every end of a transmission: the model's choice (log 62). -/
def Bench.createStart (e : Env) (q : StartRequest) (b : Bench) : Bench :=
  let b :=
    match b.u.tr.current with
    | some x =>
      (b.station Station.disarmForward).tr fun r =>
        { r.stopRestrike with
          current := none, openTune := none
          radiated := some { column := x.column, kHz := x.kHz, kW := x.kW } }
    | none => b
  (b.install (q.context q.origin)).out fun o => o.hand (.claim e.t q.column)

/-- Takes a newly handed start on a transmitter that is READY, ON_AIR, HELD or TRIPPED (R121, R122). -/
def Bench.begin_ (e : Env) (q : StartRequest) (b : Bench) : Bench :=
  match b.u.tr.current with
  | some x => if isContinuation e q b.u.tr then b.continue_ e q x else b.createStart e q
  | none => b.createStart e q

/-- The detail of the END record of a transmission that a taken-up request replaces (R132), by R80's test of the bank
(log 50). -/
def replacedDetail (e : Env) (x : Transmission) : Detail :=
  match x.work with
  | some w => if e.active = some w.bank then .superseded else .season
  | none => .superseded

/-- Takes up a waiting request (R132): the slot empties, a current transmission is closed with its END record, and the
request is treated as a newly handed start. A late one raises LATE_START now (log 16). -/
def Bench.takeUp (e : Env) (b : Bench) : Bench :=
  match b.u.tr.slot with
  | none => b
  | some q =>
    let b := b.tr fun r => { r with slot := none }
    let b := match b.u.tr.current with
      | some x => (b.endRecord e (replacedDetail e x)).workEnded e x.work
      | none => b
    let b := if q.late then b.out fun o => o.event .lateStart (.transmitter e.t) [] else b
    b.begin_ e q

/-! ### Wind-up (R130, R131) -/

/-- Releases the context's grant or listed claim (R130 step 3). -/
def Bench.releaseClaim (e : Env) (b : Bench) : Bench :=
  match b.u.tr.context with
  | some c =>
    match c.claim with
    | some q => (b.ctx fun c => { c with claim := none }).out fun o => o.hand (.release e.t q.column)
    | none => b
  | none => b

/-- The outcome leaves the transmitter READY (R131). -/
def Detail.leavesReady : Detail → Bool
  | .muteFailed => false | .txFault => false | .portSilent => false | .txOff => false | _ => true

/-- The state that follows an outcome (R131). -/
def Bench.outcomeState (e : Env) (why : Detail) (code : Option Nat) (b : Bench) : Bench :=
  match why with
  | .muteFailed => b.lock e .muteFailed none
  | .txFault => b.lock e .txFault code
  | .portSilent => b.darken e .portSilent
  | .txOff => b.darken e .off
  | _ => b.tr fun r => { r with state := .ready }

/-- Applies the outcome of a wound-up context (R131): its FAILED record, or the END record of a started transmission;
CHANGEOVER_FAILED; the schedule work report; the state that follows; and a waiting request (R132). A reflected monitor
that R152 kept WAITING or ARMED in CLAIM is disarmed here when the context never reached its MUTE phase: the spec names
no moment for it (log 51). -/
def Bench.applyOutcome (e : Env) (b : Bench) : Bench :=
  match b.u.tr.context with
  | none => b
  | some c =>
    let why := c.outcome.getD .abandoned
    let b :=
      if c.started then b.endRecord e c.closing
      else b.out fun o => o.record e.reading .failed e.t c.work (some c.target) (some c.kHz) none why
    let work := b.u.tr.work
    let b := b.changeoverFailed e why false
    let b := (b.drop).tr fun r => { r with context := none }
    let b := b.workEnded e work
    let b := (b.outcomeState e why c.faultCode).reportRow e
    if why.leavesReady then b.takeUp e else b

/-- A step of the plan is MOVING. -/
def Context.stepMoving (c : Context) : Bool := c.plan.any fun p => p.status == .moving

/-- Takes a winding-up context as far as it goes: past a moving step it releases its claim, sends MUTE where R130 says,
waits for mute confirmed where the outcome leaves READY, and applies its outcome (R130 steps 2 to 6). A deadline tells
that step 4 has been passed. -/
def Bench.proceed (e : Env) (b : Bench) : Bench :=
  match b.u.tr.context with
  | none => b
  | some c =>
    if c.stepMoving then b
    else
      let b := b.releaseClaim e
      let b := if c.deadline.isNone ∧ (b.u.tr.unmuted ∨ b.u.tr.rf = some true) then b.sendMute e else b
      if (c.outcome.getD .abandoned).leavesReady ∧ ¬ b.u.tr.muteConfirmed then
        if c.deadline.isSome then b else b.ctx fun c => { c with deadline := some (Timer.start e.limits.mute) }
      else b.applyOutcome e

/-- Cancels the steps that wait for a slot (R130 step 1). -/
def Bench.cancelWaiting (e : Env) (b : Bench) : Bench :=
  match b.u.tr.context with
  | some c =>
    if c.plan.any fun p => p.status == .waitingSlot then
      (b.ctx fun c => { c with plan := c.plan.map fun p =>
          if p.status = .waitingSlot then { p with status := .cancelled } else p }).out
        fun o => o.hand (.cancelDrive e.t)
    else b
  | none => b

/-- The context fails, or is abandoned, with an outcome and the detail that the END record of a started transmission
carries (R130, R140). In WIND_UP, an outcome that leaves DARK or LOCKED replaces one that leaves READY. The spec names no
moment within WIND_UP at which the monitors of a ramp that fails are disarmed (R152): both are at its beginning, the
model's choice (log 51). -/
def Bench.failAs (e : Env) (why closing : Detail) (code : Option Nat) (b : Bench) : Bench :=
  match b.u.tr.context with
  | none => b
  | some c =>
    if c.phase = .windUp then
      if (c.outcome.getD .abandoned).leavesReady ∧ ¬ why.leavesReady then
        (b.ctx fun c => { c with outcome := some why, closing := closing, faultCode := code }).proceed e
      else b
    else
      let b := if c.phase = .ramp then b.station Station.disarm else b
      let b := b.ctx fun c =>
        { c with phase := .windUp, deadline := none, outcome := some why, closing := closing, faultCode := code }
      (b.cancelWaiting e).proceed e

/-- The context fails with a reason, which is also the detail of an END record. -/
def Bench.fail (e : Env) (why : Detail) (b : Bench) : Bench := b.failAs e why why none

/-! ### END contexts (R133) -/

/-- The cause of an END context is a failure (R133). -/
def Detail.failureCause : Detail → Bool
  | .matrixFault => true | .tuneFailed => true | .tuneTimeout => true | .routeLost => true | .reflection => true
  | _ => false

/-- An END context ends: the END record, the event of its cause, the schedule work report, and a waiting request. -/
def Bench.finishEnd (e : Env) (b : Bench) : Bench :=
  match b.u.tr.context with
  | none => b
  | some c =>
    let work := b.u.tr.work
    let b := b.endRecord e c.closing
    let b := (b.drop).tr fun r => { r with context := none, state := .ready }
    let b := b.reportRow e
    let b := if c.closing.failureCause then b.changeoverFailed e c.closing true
      else b.changeoverDone e .end_ c.target c.kHz
    (b.workEnded e work).takeUp e

/-- The mute limit of an END context expires (R133): END(MUTE_FAILED) and LOCKED(MUTE_FAILED). -/
def Bench.endUnmuted (e : Env) (b : Bench) : Bench :=
  match b.u.tr.context with
  | none => b
  | some _ =>
    let work := b.u.tr.work
    let b := b.endRecord e .muteFailed
    let b := (b.drop).tr fun r => { r with context := none }
    (b.workEnded e work).lock e .muteFailed none

/-- Creates an END context of a cause on a transmitter that carries a transmission (R133): MUTE, both monitors
disarmed, the restrike abandoned; it ends at once if RF is already ABSENT. Its transmission item is none (R121): the
transmission it ends stays the current one until it has ended. -/
def Bench.createEnd (e : Env) (cause : Detail) (b : Bench) : Bench :=
  match b.u.tr.current with
  | none => b
  | some x =>
    let c : Context :=
      { x.context .end_ .mute with
        work := none, deadline := some (Timer.start e.limits.mute), closing := cause }
    let b := (b.station Station.disarm).tr fun r => { r.stopRestrike with openTune := none }
    let b := (b.install c).sendMute e
    if b.u.tr.muteConfirmed then b.finishEnd e else b

/-! ### RAMP (R128, R129) -/

/-- The transmission that a context's ramp starts (R128). -/
def Context.transmission (c : Context) (start : Reading) (kW : Nat) : Transmission :=
  { work := c.work, start := start, column := c.target, kHz := c.kHz, kW := kW, programme := c.programme,
    priority := c.priority, reserve := c.reserve, reserveUsed := c.reserveUsed, late := false }

/-- The detail of the START record of a ramp (R128, R135, R198). -/
def Context.startDetail (c : Context) : Detail :=
  if c.origin = .reserve then .reserve else if c.late then .late else .none

/-- Enters RAMP (R128): PWR and UNMUTE, the ramp limit, the transmission and its START record but for RESUME, the
monitors armed, and the restrike count cleared (R159). That the record has the column and the frequency is the model's
reading (log 64). -/
def Bench.enterRamp (e : Env) (c : Context) (b : Bench) : Bench :=
  let kW := b.u.tr.desc.powerSent c.kW
  let b := b.raiseCarrier e kW
  let x := c.transmission e.reading kW
  let b :=
    if c.origin = .resume then b
    else (b.tr fun r => { r with current := some x }).out fun o =>
      o.record e.reading .start e.t x.work (some x.column) (some x.kHz) (some x.kW) c.startDetail
  let b := (b.station fun u => u.arm e.limits.arming).tr fun r => { r with restrikes := 0 }
  (b.ctx fun c =>
    { c with phase := .ramp, deadline := some (Timer.start e.limits.ramp), started := true }).reportRow e

/-- The context waits at the RAMP threshold: phase HOLD without a deadline (log 15). -/
def Context.atThreshold (c : Context) : Bool := c.phase == .hold && c.deadline.isNone

/-- Crosses the RAMP threshold if the context waits at it, the hold set is empty and the target column IN_SERVICE
(R128). -/
def Bench.tryCross (e : Env) (b : Bench) : Bench :=
  match b.u.tr.context with
  | some c =>
    if c.atThreshold ∧ b.u.tr.holds.empty ∧ (e.matrix.column c.target).inService then b.enterRamp e c else b
  | none => b

/-- The transmitter becomes ON_AIR: the restrike window count starts (R159). -/
def Bench.goOnAir (e : Env) (b : Bench) : Bench :=
  (b.tr fun r =>
    { r with state := .onAir, window := some (Timer.start e.protection.restrikeWindow)
             windowStart := some e.reading }).reportRow e

/-- A changeover's ramp succeeds (R129). -/
def Bench.rampSucceeded (e : Env) (c : Context) (b : Bench) : Bench :=
  let b := b.goOnAir e
  let b := (b.tr fun r => { r with restrikes := 0 }).releaseClaim e
  let b := b.changeoverDone e c.origin c.target c.kHz
  (b.tr fun r => { r with context := none }).takeUp e

/-- A RAMP context is discarded, its grant released (R128, R141, R143, R154). -/
def Bench.discardRamp (e : Env) (b : Bench) : Bench :=
  (b.releaseClaim e).tr fun r => { r with context := none }

/-! ### CLAIM to HOLD (R123-R127) -/

/-- Enters HOLD (R126, R127). -/
def Bench.enterHold (e : Env) (b : Bench) : Bench :=
  b.ctx fun c => { c with phase := .hold, deadline := some (Timer.start e.limits.hold) }

/-- Sends the first PLANNED step as a drive request if no step is in progress (R126). -/
def Bench.nextStep (e : Env) (b : Bench) : Bench :=
  match b.u.tr.context with
  | none => b
  | some c =>
    if c.plan.any fun p => p.status == .waitingSlot || p.status == .moving then b
    else match c.plan.find? fun p => p.status == .planned with
      | none => b
      | some p =>
        let d : Direction := if p.kind = .closeTarget then .closing else .opening
        (b.ctx fun c => { c with plan := c.plan.map fun q => if q = p then { q with status := .waitingSlot } else q }).out
          fun o => o.hand (.driveRequest e.t p.row p.column d c.priority)

/-- Every step is DONE and the tune is TUNED (R126). -/
def Context.driveDone (c : Context) : Bool := (c.plan.all fun p => p.status == .done) && c.tune == .tuned

/-- Begins HOLD when the DRIVE phase is done (R126). -/
def Bench.checkDrive (e : Env) (b : Bench) : Bench :=
  match b.u.tr.context with
  | some c => if c.phase = .drive ∧ c.driveDone then b.enterHold e else b
  | none => b

/-- A crosspoint of the row or of the target column is UNKNOWN or in motion (R125). -/
def Matrix.routeUnknown (m : Matrix) (t : Tx) (c : Col) : Bool :=
  (allCols.any fun d => !(m.xstate t d).known) || (allTx.any fun u => !(m.xstate u c).known)

/-- The drive plan (R125). -/
def Matrix.plan (m : Matrix) (t : Tx) (target : Col) : List PlanStep :=
  let own : List PlanStep := match allCols.find? fun d => d != target && m.xstate t d == .closed with
    | some d => [⟨.openOwn, t, d, .planned⟩]
    | none => []
  let holder : List PlanStep := match (m.column target).holder with
    | some h => if h = t then [] else [⟨.openHolder, h, target, .planned⟩]
    | none => []
  let close : List PlanStep := if m.xstate t target = .closed then [] else [⟨.closeTarget, t, target, .planned⟩]
  own ++ holder ++ close

/-- Enters DRIVE: the plan, TUNE, the tune limit and the first step; ROUTE_UNKNOWN before any order (R125, R126). -/
def Bench.enterDrive (e : Env) (b : Bench) : Bench :=
  match b.u.tr.context with
  | none => b
  | some c =>
    let b := b.ctx fun c => { c with phase := .drive, deadline := none }
    if e.matrix.routeUnknown e.t c.target then b.fail e .routeUnknown
    else
      let b := b.ctx fun c =>
        { c with plan := e.matrix.plan e.t c.target, tune := .sent, deadline := some (Timer.start e.limits.tune) }
      (b.order e (.tune c.kHz c.programme)).nextStep e

/-- Enters SETTLE (R124, R125): the row condition QUIET is reported; a settle time of 0 ends the phase at once. -/
def Bench.enterSettle (e : Env) (b : Bench) : Bench :=
  let b := (b.ctx fun c => { c with phase := .settle, deadline := some (Timer.start e.limits.settle) }).reportRow e
  if e.limits.settle = 0 then b.enterDrive e else b

/-- Enters MUTE (R124). A RESERVE context passes over it: it sends no MUTE and waits only for the trip's (R135, R161).
The spec names no phase for that wait; that it shows phase MUTE without a deadline is the model's choice (log 15). -/
def Bench.enterMute (e : Env) (b : Bench) : Bench :=
  if b.u.tr.context.any fun c => c.origin == .reserve then
    let b := b.ctx fun c => { c with phase := .mute, deadline := none }
    if b.u.tr.muteConfirmed then b.enterSettle e else b
  else
    let b := b.ctx fun c => { c with phase := .mute, deadline := some (Timer.start e.limits.mute) }
    let b := ((b.station Station.disarm).tr fun r => { r with radiated := none }).sendMute e
    if b.u.tr.muteConfirmed then b.enterSettle e else b

/-- Retargets to an unused reserve and claims it, or fails with a reason (R123). -/
def Bench.retarget (e : Env) (why : Detail) (b : Bench) : Bench :=
  match b.u.tr.context with
  | none => b
  | some c =>
    match c.reserve with
    | some r =>
      if c.reserveUsed then b.fail e why
      else
        (b.ctx fun c =>
          { c with target := r, reserveUsed := true, deadline := none, claim := some { column := r, status := .sent } }).out
            fun o => o.hand (.claim e.t r)
    | none => b.fail e why

/-! ### Holding and resuming (R132, R134, R141, R142) -/

/-- A hold or an out-of-service column takes the transmitter to HELD (R141, R142, R158, R163). -/
def Bench.goHeld (e : Env) (b : Bench) : Bench :=
  let r := b.u.tr
  let ramping : Bool := r.context.any fun c => c.phase == .ramp
  let up : Bool := r.state == .onAir || ramping || (match r.stage with | .ramp _ => true | _ => false)
  let b := if up then (b.sendMute e).station Station.disarm else b.station Station.disarmForward
  let b := if ramping then b.discardRamp e else b
  (b.tr fun r => { r.stopRestrike with state := .held }).reportRow e

/-- A held transmission whose window has passed ends (R134). -/
def Bench.endHeld (e : Env) (b : Bench) : Bench :=
  let work := b.u.tr.current.bind (·.work)
  let b := b.endRecord e .hold
  let b := ((b.drop).tr fun r => { r with state := .ready }).reportRow e
  b.workEnded e work

/-- The transmission still has time to run: a window end after the current minute, or no window end (R134). -/
def Transmission.runs (x : Transmission) (now : Nat) : Bool :=
  match x.work with
  | some w => decide (now < w.windowEnd)
  | none => true

/-- The hold set is empty or the column is back in service: R132, R134 and R128 decide in that order (R142). -/
def Bench.afterRelease (e : Env) (b : Bench) : Bench :=
  let r := b.u.tr
  if r.state = .held then
    if ¬ r.holds.empty then b
    else if r.slot.isSome then b.takeUp e
    else match r.current with
      | none => b
      | some x =>
        if ¬ (e.matrix.column x.column).inService then b
        else if x.runs e.reading.minutes then (b.install (x.context .resume .hold)).tryCross e
        else b.endHeld e
  else b.tryCross e

/-! ### Trip, restrike and exhaustion (R154-R161) -/

/-- Creates a RESERVE context for an exhausted transmission (R135, R161). -/
def Bench.createReserve (e : Env) (x : Transmission) (c : Col) (b : Bench) : Bench :=
  let k : Context :=
    { x.context .reserve .claim with
      target := c, reserveUsed := true, started := false, claim := some { column := c, status := .sent } }
  (((b.tr fun r => { r with stage := .none, openTune := none }).install k).out fun o => o.hand (.claim e.t c))

/-- The steps 1 and 2 of an exhaustion: the suspect mark and ANTENNA_SUSPECT (R160). -/
def Bench.suspect (e : Env) (c : Col) (b : Bench) : Bench :=
  b.out fun o => (o.hand (.suspectMark c)).event .antennaSuspect (.column c) (b1 e.t.val)

/-- The steps 3 and 4 of an exhaustion (R160). -/
def Bench.giveUp (e : Env) (x : Transmission) (b : Bench) : Bench :=
  match x.reserve with
  | some c => if x.reserveUsed then b.createEnd e .reflection else b.createReserve e x c
  | none => b.createEnd e .reflection

/-- A reflected trip (R154). -/
def Bench.trip (e : Env) (x : Transmission) (b : Bench) : Bench :=
  let fromRamp : Bool := b.u.tr.context.isSome
  let b := (b.station Station.tripped).sendMute e
  let b := if b.u.tr.muteConfirmed then b
    else b.tr fun r => { r with tripWatch := some (Timer.start e.limits.mute) }
  let b := (b.station Station.disarmForward).tr fun r =>
    { r with window := none, restrikes := r.restrikes + 1 }
  let b := if fromRamp then b.discardRamp e else b
  let n := b.u.tr.restrikes
  let exhausted : Bool := decide (e.protection.restrikeLimit < n)
  let b := (b.tr fun r =>
    { r with state := .tripped, stage := .delay (Timer.start e.protection.restrikeDelay) }).reportRow e
  let b := (b.out fun o => o.event .trip (.transmitter e.t) (b1 n ++ b1 x.column.val)).reflectedHigh e
  let b := b.out fun o =>
    o.record e.reading .trip e.t x.work (some x.column) (some x.kHz) (some x.kW)
      (if exhausted then .exhausted else .restrike)
  let b := if exhausted then b.suspect e x.column else b
  if fromRamp ∧ b.u.tr.slot.isSome then b.takeUp e
  else if exhausted then b.giveUp e x
  else b

/-- A pre-mute trip (R155). It counts as a trip for R156: its mute's confirmation disarms the reflected monitor
(log 45). -/
def Bench.preMuteTrip (e : Env) (c : Context) (x : Radiated) (b : Bench) : Bench :=
  let b := ((b.station Station.tripped).sendMute e).station Station.disarmForward
  let b := (b.out fun o => o.event .trip (.transmitter e.t) (b1 0 ++ b1 x.column.val)).reflectedHigh e
  b.out fun o =>
    o.recordAs e.reading .trip e.t (c.origin != .schedule) none (some x.column) (some x.kHz) (some x.kW) .preMute

/-- The restrike ramp begins (R158). -/
def Bench.restrikeRamp (e : Env) (x : Transmission) (b : Bench) : Bench :=
  ((b.raiseCarrier e x.kW).station fun u => u.arm e.limits.arming).tr fun r =>
    { r with stage := .ramp (Timer.start e.limits.ramp) }

/-- The test at the expiry of the restrike delay, and again at mute confirmation in WAIT_MUTE (R157). A hold or an
out-of-service column that has not been taken yet keeps the ramp from beginning (R158). -/
def Bench.restrikeTest (e : Env) (b : Bench) : Bench :=
  match b.u.tr.current with
  | none => b
  | some x =>
    if ¬ b.u.tr.muteConfirmed then b.tr fun r => { r with stage := .waitMute }
    else if e.matrix.xstate e.t x.column ≠ .closed then b.createEnd e .routeLost
    else if b.u.tr.holds.empty ∧ (e.matrix.column x.column).inService then b.restrikeRamp e x
    else b.tr fun r => { r with stage := .waitMute }

/-! ### Mute confirmation -/

/-- A start-up candidate that was muted becomes READY and polling goes on (R207, R209): that its interval count starts at
0 here, which the spec leaves open, is the model's choice (log 20). -/
def Bench.candidateReady (b : Bench) : Bench :=
  b.tr fun r => { r with state := .ready, startup := .done, poll := some 0 }

/-- What waits for mute confirmed goes on (R124, R130, R133, R157, R161, R209). -/
def Bench.confirmed (e : Env) (b : Bench) : Bench :=
  let r := b.u.tr
  match r.startup with
  | .muting _ => b.candidateReady
  | _ =>
    match r.context with
    | some c =>
      if c.phase = .windUp then b.proceed e
      else if c.phase = .mute then (if c.origin = .end_ then b.finishEnd e else b.enterSettle e)
      else b
    | none => if r.state = .tripped ∧ r.stage = .waitMute then b.restrikeTest e else b

/-- Makes a sequencer operation on the machine, and then reports the row condition it leaves (R117). -/
def State.csq (s : State) (t : Tx) (f : Env → Bench → Bench) : State :=
  s.onStation t fun e b => (f e b).reportRow e

end Sys2Proof.Machine
end

