-- ==== Sys2Proof/Machine/Sequencer.lean ====
section
/-! DEFINITION. The meanings of the Changeover Sequencer's commands (07): the answers and reports of MXC, holds, RF
reports, the lines of the transmitter ports and the limits of a changeover. -/

namespace Sys2Proof.Machine

/-! ### Answers to claims (R123) -/

/-- The context's claim in flight names the column (R123: another column's answer is discarded). -/
def Context.claims (c : Context) (k : Col) : Bool := c.phase == .claim && c.claim.any fun q => q.column == k

/-- CLAIM_GRANTED leads to the MUTE phase (R123). -/
def Bench.claimGranted (c : Col) (e : Env) (b : Bench) : Bench :=
  match b.u.tr.context with
  | some k =>
    if k.claims c then
      (b.ctx fun k => { k with deadline := none, claim := some { column := c, status := .granted } }).enterMute e
    else b
  | none => b

/-- CLAIM_GRANTED (R123). -/
def execClaimGranted (t : Tx) (c : Col) (s : State) : Host.Outcome State Fault Refusal :=
  s.take fun s => s.csq t (Bench.claimGranted c)

/-- CLAIM_LISTED starts the claim wait (R123). -/
def Bench.claimListed (c : Col) (e : Env) (b : Bench) : Bench :=
  match b.u.tr.context with
  | some k =>
    if k.claims c then
      b.ctx fun k =>
        { k with deadline := some (Timer.start e.limits.claimWait), claim := some { column := c, status := .listed } }
    else b
  | none => b

/-- CLAIM_LISTED (R123). -/
def execClaimListed (t : Tx) (c : Col) (s : State) : Host.Outcome State Fault Refusal :=
  s.take fun s => s.csq t (Bench.claimListed c)

/-- CLAIM_REFUSED retargets to the reserve or fails NO_ANTENNA (R123). -/
def Bench.claimRefused (c : Col) (e : Env) (b : Bench) : Bench :=
  match b.u.tr.context with
  | some k => if k.claims c then (b.ctx fun k => { k with claim := none }).retarget e .noAntenna else b
  | none => b

/-- CLAIM_REFUSED (R123). -/
def execClaimRefused (t : Tx) (c : Col) (s : State) : Host.Outcome State Fault Refusal :=
  s.take fun s => s.csq t (Bench.claimRefused c)

/-- The claim wait expires: WITHDRAW_CLAIM, then the reserve or ANTENNA_HELD (R123). -/
def Bench.claimWaitExpired (e : Env) (b : Bench) : Bench :=
  match b.u.tr.context with
  | some k =>
    match k.phase, k.claim with
    | .claim, some q =>
      if q.status = .listed then
        ((b.ctx fun k => { k with claim := none }).out fun o => o.hand (.withdrawClaim e.t q.column)).retarget e
          .antennaHeld
      else b
    | _, _ => b
  | none => b

/-- CLAIM_WAIT_EXPIRY (R123). -/
def execClaimWaitExpiry (t : Tx) (s : State) : Host.Outcome State Fault Refusal :=
  s.take fun s => s.csq t Bench.claimWaitExpired

/-! ### Answers to drive requests (R126, R130) -/

/-- Gives the steps on a crosspoint whose status passes the test a new status. -/
def Context.mark (row : Tx) (c : Col) (p : StepStatus → Bool) (x : StepStatus) (k : Context) : Context :=
  { k with plan := k.plan.map fun q => if q.row = row ∧ q.column = c ∧ p q.status then { q with status := x } else q }

/-- A step on the crosspoint has a status that passes the test. -/
def Context.has (row : Tx) (c : Col) (p : StepStatus → Bool) (k : Context) : Bool :=
  k.plan.any fun q => q.row == row && q.column == c && p q.status

/-- DRIVE_STARTED: the step is MOVING; so is one cancelled at wind-up (R126, R130). -/
def Bench.driveStarted (row : Tx) (c : Col) (_e : Env) (b : Bench) : Bench :=
  b.ctx (Context.mark row c (fun x => x == .waitingSlot || x == .cancelled) .moving)

/-- DRIVE_STARTED (R126). -/
def execDriveStarted (t row : Tx) (c : Col) (s : State) : Host.Outcome State Fault Refusal :=
  s.take fun s => s.csq t (Bench.driveStarted row c)

/-- The step waits for an answer of its drive request. -/
def StepStatus.asked (x : StepStatus) : Bool := x == .waitingSlot || x == .moving

/-- DRIVE_DONE: the next step, HOLD, or the wind-up's next step (R126, R130). -/
def Bench.driveDone (row : Tx) (c : Col) (e : Env) (b : Bench) : Bench :=
  match b.u.tr.context with
  | some k =>
    if k.has row c StepStatus.asked then
      let b := b.ctx (Context.mark row c StepStatus.asked .done)
      if k.phase = .windUp then b.proceed e else (b.nextStep e).checkDrive e
    else b
  | none => b

/-- DRIVE_DONE (R126). -/
def execDriveDone (t row : Tx) (c : Col) (s : State) : Host.Outcome State Fault Refusal :=
  s.take fun s => s.csq t (Bench.driveDone row c)

/-- DRIVE_FAILED: the context fails with its reason; in wind-up the step is over (R126, R130). That a failed step shows
DONE is the model's choice (log 66). -/
def Bench.driveFailed (row : Tx) (c : Col) (why : DriveFailure) (e : Env) (b : Bench) : Bench :=
  match b.u.tr.context with
  | some k =>
    if k.has row c StepStatus.asked then
      let b := b.ctx (Context.mark row c StepStatus.asked .done)
      if k.phase = .windUp then b.proceed e else b.fail e why.detail
    else b
  | none => b

/-- DRIVE_FAILED (R126). -/
def execDriveFailed (t row : Tx) (c : Col) (why : DriveFailure) (s : State) : Host.Outcome State Fault Refusal :=
  s.take fun s => s.csq t (Bench.driveFailed row c why)

/-! ### Reports of MXC -/

/-- The transmitter carries a transmission outside a changeover: ON_AIR, HELD or TRIPPED. -/
def TxState.carries (x : TxState) : Bool := x == .onAir || x == .held || x == .tripped

/-- MATRIX_FAULT (R143). -/
def Bench.matrixFault (e : Env) (b : Bench) : Bench :=
  let r := b.u.tr
  if r.state.carries then b.createEnd e .matrixFault
  else match r.context with
    | some c => if c.phase = .ramp then (b.discardRamp e).createEnd e .matrixFault else b.fail e .matrixFault
    | none => b

/-- MATRIX_FAULT (R143). -/
def execMatrixFault (t : Tx) (s : State) : Host.Outcome State Fault Refusal :=
  s.take fun s => s.csq t Bench.matrixFault

/-- The column of the transmitter's route: of its transmission, or the target of a context in RAMP (R142, R149). -/
def TxRecord.route (r : TxRecord) : Option Col :=
  match r.context with
  | some c => if c.phase = .ramp then some c.target else none
  | none => r.current.map (·.column)

/-- SERVICE_CHANGED (R142, R128, R163). -/
def Bench.serviceChanged (c : Col) (inService : Bool) (e : Env) (b : Bench) : Bench :=
  let r := b.u.tr
  if inService then
    (if r.state = .held then (if r.route = some c then b.afterRelease e else b) else b.tryCross e)
  else if r.route = some c ∧ r.state ≠ .held then b.goHeld e
  else b

/-- SERVICE_CHANGED (R142). -/
def execServiceChanged (t : Tx) (c : Col) (inService : Bool) (s : State) : Host.Outcome State Fault Refusal :=
  s.take fun s => s.csq t (Bench.serviceChanged c inService)

/-- Abandons a changeover with an outcome and the END detail of a started transmission; an END context runs on
(R140). -/
def Bench.abandon (e : Env) (why closing : Detail) (b : Bench) : Bench :=
  match b.u.tr.context with
  | some c => if c.origin = .end_ ∨ c.phase = .windUp then b else b.failAs e why closing none
  | none => b

/-- Ends the transmitter's work: an END context, or the changeover abandoned (R133, R138, R140). -/
def Bench.endWork (e : Env) (cause why : Detail) (b : Bench) : Bench :=
  if b.u.tr.state.carries then b.createEnd e cause else b.abandon e why cause

/-- WITHDRAW_END_ORDER (R140). -/
def execWithdrawEndOrder (t : Tx) (s : State) : Host.Outcome State Fault Refusal :=
  s.take fun s => s.csq t fun e b => b.endWork e .withdrawn .withdrawn

/-! ### Holds (R141, R142) -/

/-- A source is added to the hold set (R141). -/
def Bench.holdAdd (a : Source) (e : Env) (b : Bench) : Bench :=
  let b := b.tr fun r => { r with holds := r.holds.add a }
  let r := b.u.tr
  match r.state with
  | .onAir => b.goHeld e
  | .tripped => b.goHeld e
  | .changing =>
    match r.context with
    | some c =>
      if c.phase = .ramp then b.goHeld e
      else if c.phase = .windUp ∨ c.origin = .end_ ∨ ¬ r.unmuted then b
      else b.sendMute e
    | none => b
  | _ => b

/-- HOLD_ADD (R141). -/
def execHoldAdd (t : Tx) (a : Source) (s : State) : Host.Outcome State Fault Refusal :=
  s.take fun s => s.csq t (Bench.holdAdd a)

/-- Sources are removed from the hold set; one that becomes empty resumes, ends or lets a ramp cross (R142). -/
def Bench.holdRemove (g : Sources) (e : Env) (b : Bench) : Bench :=
  let before := b.u.tr.holds
  let b := b.tr fun r => { r with holds := r.holds.remove g }
  if ¬ before.empty ∧ b.u.tr.holds.empty then b.afterRelease e else b

/-- HOLD_REMOVE (R142). -/
def execHoldRemove (t : Tx) (g : Sources) (s : State) : Host.Outcome State Fault Refusal :=
  s.take fun s => s.csq t (Bench.holdRemove g)

/-! ### RF (R117) -/

/-- RF ABSENT: a pending mute is confirmed (R117). -/
def Bench.rfAbsent (e : Env) (b : Bench) : Bench :=
  let b := (b.tr fun r => { r with rf := some false }).station fun u =>
    { u with absent := { side := some .low, pending := false } }
  if b.u.tr.unmuted ∨ b.u.tr.muteConfirmed then b
  else (((b.setConfirmed e true).quieten).reportRow e).confirmed e

/-- RF_ABSENT (R117). -/
def execRfAbsent (t : Tx) (s : State) : Host.Outcome State Fault Refusal :=
  s.take fun s => s.csq t Bench.rfAbsent

/-- A transmission outside a context ends with its mute failed, and the transmitter locks (R117, R157, R163). -/
def Bench.endMuteFailed (e : Env) (b : Bench) : Bench := (b.endFailed e .muteFailed).lock e .muteFailed none

/-- RF PRESENT: with the carrier muted and confirmed it is an unbidden carrier (R117, R163). -/
def Bench.rfPresent (e : Env) (b : Bench) : Bench :=
  let unbidden : Bool := !b.u.tr.unmuted && b.u.tr.muteConfirmed
  let b := (b.tr fun r => { r with rf := some true }).station fun u =>
    { u with absent := { side := some .high, pending := false } }
  if ¬ unbidden then b
  else
    let b := b.sendMute e
    match b.u.tr.state with
    | .ready => b.lock e .muteFailed none
    | .changing => b.fail e .muteFailed
    | .held => b.endMuteFailed e
    | .tripped => b.endMuteFailed e
    | _ => b

/-- RF_PRESENT (R117). -/
def execRfPresent (t : Tx) (s : State) : Host.Outcome State Fault Refusal :=
  s.take fun s => s.csq t Bench.rfPresent

/-! ### The transmitter port (R118-R120) -/

/-- The effect of a silent port, STAT OFF or a fault on the transmitter's work (R119, R120): a changeover fails with
the reason, a transmission is muted and ends with it; then the state that follows. -/
def Bench.lose (e : Env) (why : Detail) (code : Option Nat) (after : Bench → Bench) (b : Bench) : Bench :=
  match b.u.tr.state with
  | .changing => b.failAs e why why code
  | .onAir => after (b.muteAndEnd e why)
  | .held => after (b.muteAndEnd e why)
  | .tripped => after (b.muteAndEnd e why)
  | _ => after b

/-- A poll instant: STAT?, and the port silence count (R119). In start-up's query the fourth one ends the step for the
transmitter (R207). -/
def Bench.pollInstant (e : Env) (b : Bench) : Bench :=
  let b := (b.order e .stat).tr fun r => { r with poll := some 0 }
  if b.u.tr.silence < 3 then b.tr fun r => { r with silence := r.silence + 1 }
  else
    let b := b.tr fun r => { r with startup := if r.startup = .asked then .done else r.startup }
    if b.u.tr.state = .dark .portSilent then b
    else b.lose e .portSilent none (fun b => b.darken e .portSilent)

/-- STAT_POLL_INSTANT of a polled transmitter (R119). -/
def execStatPollInstant (t : Tx) (s : State) : Host.Outcome State Fault Refusal :=
  s.take fun s => s.csq t fun e b => if b.u.tr.poll.isSome then b.pollInstant e else b

/-- A STAT reply sets the port silence count to 0 (R119). -/
def Bench.replied (b : Bench) : Bench := b.tr fun r => { r with silence := 0 }

/-- The transmitter is waiting for its first STAT reply in start-up's query (R207). -/
def TxRecord.asked (r : TxRecord) : Bool := r.startup == .asked

/-- The transmitter is a candidate, or a candidate being muted (R207, R209). -/
def TxRecord.inAdoption (r : TxRecord) : Bool :=
  match r.startup with | .candidate => true | .muting _ => true | _ => false

/-- A DARK transmitter is taken on by STAT READY (R120): LOCKED with its kept reason, or muted and READY. -/
def Bench.takenOn (e : Env) (b : Bench) : Bench :=
  match b.u.tr.lock with
  | some why => b.lock e why none
  | none => (b.sendMute e).tr fun r => { r with state := .ready }

/-- The state is DARK. -/
def TxState.isDark : TxState → Bool | .dark _ => true | _ => false

/-- The transmitter leaves start-up's query or adoption; polling goes on (R207). -/
def Bench.leaveStartup (b : Bench) : Bench :=
  b.tr fun r =>
    { r with startup := if r.startup = .none then .none else .done
             poll := if r.startup = .none then r.poll else some (r.poll.getD 0) }

/-- STAT READY (R120, R207). In start-up's query the first reply of a DARK transmitter makes it a candidate, which is
DARK(PORT_SILENT); any other first reply only ends the query for it. -/
def Bench.statReady (e : Env) (b : Bench) : Bench :=
  let b := b.replied
  if b.u.tr.asked ∧ b.u.tr.state.isDark then
    b.tr fun r => { r with state := .dark .portSilent, startup := .candidate, poll := none }
  else if b.u.tr.inAdoption then b
  else
    let b := if b.u.tr.asked then b.leaveStartup else b
    match b.u.tr.state with
    | .dark .portSilent => b.takenOn e
    | .dark .off => b.takenOn e
    | _ => b

/-- STAT_READY (R120). -/
def execStatReady (t : Tx) (s : State) : Host.Outcome State Fault Refusal :=
  s.take fun s => s.csq t Bench.statReady

/-- STAT OFF (R120, R207). -/
def Bench.statOff (e : Env) (b : Bench) : Bench :=
  match b.u.tr.state with
  | .dark .absent => b
  | .dark .withheld => b
  | .dark .off => b.replied.leaveStartup
  | _ => b.replied.leaveStartup.lose e .txOff none (fun b => b.darken e .off)

/-- STAT_OFF (R120). -/
def execStatOff (t : Tx) (s : State) : Host.Outcome State Fault Refusal :=
  s.take fun s => s.csq t Bench.statOff

/-- STAT FAULT (R120); in start-up's query it also sends MUTE (R207). -/
def Bench.statFault (e : Env) (b : Bench) : Bench :=
  match b.u.tr.state with
  | .dark .absent => b
  | .dark .withheld => b
  | .locked _ => b.replied.leaveStartup
  | _ =>
    let b := if b.u.tr.asked then b.sendMute e else b
    b.replied.leaveStartup.lose e .txFault none (fun b => b.lock e .txFault none)

/-- STAT_FAULT (R120). -/
def execStatFault (t : Tx) (s : State) : Host.Outcome State Fault Refusal :=
  s.take fun s => s.csq t Bench.statFault

/-- FAULT with a code; discarded in DARK and LOCKED (R120). R207 discards one of start-up's step 5 'as for a DARK
transmitter': that a transmitter which R120 has made READY by then is locked by it is the model's reading (log 67). -/
def Bench.faultLine (code : Nat) (e : Env) (b : Bench) : Bench :=
  if b.u.tr.state.off then b else b.lose e .txFault (some code) (fun b => b.lock e .txFault (some code))

/-- FAULT (R120). -/
def execFault (t : Tx) (code : Nat) (s : State) : Host.Outcome State Fault Refusal :=
  s.take fun s => s.csq t (Bench.faultLine code)

/-- OK is taken and changes nothing (R118). -/
def execOk (_t : Tx) (s : State) : Host.Outcome State Fault Refusal := s.take id

/-- A fault of the open tune: MUTE and the end of the transmission with a cause (R122). An open tune that was kept
through HELD into a RESUME context ends the transmission in the same way; the context's ramp, if any, is discarded. -/
def Bench.openTuneFault (e : Env) (cause : Detail) (b : Bench) : Bench :=
  if b.u.tr.state.carries then b.createEnd e cause
  else match b.u.tr.context with
    | some c => if c.origin = .resume ∧ c.phase ≠ .windUp then (b.discardRamp e).createEnd e cause else b
    | none => b

/-- The context's tune has failed (R126). -/
def Bench.tuneFailed (e : Env) (why : Detail) (b : Bench) : Bench :=
  (b.ctx fun c => { c with tune := .failed }).fail e why

/-- The context's tune is SENT. -/
def TxRecord.tuneSent (r : TxRecord) : Bool := r.context.any fun c => c.tune == .sent

/-- TUNED (R118, R122, R126). -/
def Bench.tunedLine (kHz : Nat) (e : Env) (b : Bench) : Bench :=
  if b.u.tr.tuneSent then
    if b.u.tr.context.any fun c => c.kHz == kHz then
      (b.ctx fun c =>
        { c with tune := .tuned, deadline := if c.phase = .drive then none else c.deadline }).checkDrive e
    else b.tuneFailed e .tuneFailed
  else match b.u.tr.openTune with
    | some o => if o.kHz = kHz then b.tr fun r => { r with openTune := none } else b.openTuneFault e .tuneFailed
    | none => b

/-- TUNED (R126). -/
def execTuned (t : Tx) (kHz : Nat) (s : State) : Host.Outcome State Fault Refusal :=
  s.take fun s => s.csq t (Bench.tunedLine kHz)

/-- TUNEFAIL (R118, R122, R126). -/
def Bench.tunefailLine (e : Env) (b : Bench) : Bench :=
  if b.u.tr.tuneSent then b.tuneFailed e .tuneFailed
  else if b.u.tr.openTune.isSome then b.openTuneFault e .tuneFailed
  else b

/-- TUNEFAIL (R126). -/
def execTunefail (t : Tx) (s : State) : Host.Outcome State Fault Refusal :=
  s.take fun s => s.csq t Bench.tunefailLine

/-- An unknown or overlong line is discarded (R118). -/
def execUnknownPortLine (_t : Tx) (s : State) : Host.Outcome State Fault Refusal := s.take id

/-! ### Limits -/

/-- The mute limit expires in WIND_UP: the outcome becomes MUTE_FAILED (R130). -/
def Bench.windUpUnmuted (e : Env) (b : Bench) : Bench :=
  (b.ctx fun c => { c with outcome := some .muteFailed, closing := .muteFailed }).applyOutcome e

/-- The mute limit expires (R124, R130, R133, R209). A muted candidate's poll interval starts at 0 here (log 20). -/
def Bench.muteLimitExpired (e : Env) (b : Bench) : Bench :=
  match b.u.tr.startup with
  | .muting _ => (b.tr fun r => { r with startup := .done, poll := some 0 }).lock e .muteFailed none
  | _ =>
    match b.u.tr.context with
    | some c =>
      if c.deadline.isNone then b
      else match c.phase with
        | .mute => if c.origin = .end_ then b.endUnmuted e else b.fail e .muteFailed
        | .windUp => b.windUpUnmuted e
        | _ => b
    | none => b

/-- MUTE_LIMIT_EXPIRY (R124). -/
def execMuteLimitExpiry (t : Tx) (s : State) : Host.Outcome State Fault Refusal :=
  s.take fun s => s.csq t Bench.muteLimitExpired

/-- The settle time ends (R125). -/
def Bench.settled (e : Env) (b : Bench) : Bench :=
  match b.u.tr.context with
  | some c => if c.phase = .settle then b.enterDrive e else b
  | none => b

/-- SETTLE_EXPIRY (R125). -/
def execSettleExpiry (t : Tx) (s : State) : Host.Outcome State Fault Refusal :=
  s.take fun s => s.csq t Bench.settled

/-- The tune limit expires while the tune is SENT (R126). -/
def Bench.tuneLimitExpired (e : Env) (b : Bench) : Bench :=
  match b.u.tr.context with
  | some c => if c.phase = .drive ∧ c.tune = .sent then b.tuneFailed e .tuneTimeout else b
  | none => b

/-- TUNE_LIMIT_EXPIRY (R126). -/
def execTuneLimitExpiry (t : Tx) (s : State) : Host.Outcome State Fault Refusal :=
  s.take fun s => s.csq t Bench.tuneLimitExpired

/-- OPEN_TUNE_EXPIRY (R122). -/
def execOpenTuneExpiry (t : Tx) (s : State) : Host.Outcome State Fault Refusal :=
  s.take fun s => s.csq t fun e b => if b.u.tr.openTune.isSome then b.openTuneFault e .tuneTimeout else b

/-- The hold time ends: the RAMP threshold, or ROUTE_LOST (R127). -/
def Bench.holdEnded (e : Env) (b : Bench) : Bench :=
  match b.u.tr.context with
  | some c =>
    if c.phase = .hold ∧ c.deadline.isSome then
      if e.matrix.xstate e.t c.target = .closed then (b.ctx fun c => { c with deadline := none }).tryCross e
      else b.fail e .routeLost
    else b
  | none => b

/-- HOLD_TIME_EXPIRY (R127). -/
def execHoldTimeExpiry (t : Tx) (s : State) : Host.Outcome State Fault Refusal :=
  s.take fun s => s.csq t Bench.holdEnded

/-- The ramp limit expires without carrier: MUTE, the transmission ends NO_CARRIER and the transmitter locks
(R128). -/
def Bench.rampExpired (e : Env) (b : Bench) : Bench :=
  match b.u.tr.context with
  | some c =>
    if c.phase = .ramp then
      (((b.sendMute e).discardRamp e).endFailed e .noCarrier).lock e .carrierLost none
    else b
  | none => b

/-- RAMP_LIMIT_EXPIRY (R128). -/
def execRampLimitExpiry (t : Tx) (s : State) : Host.Outcome State Fault Refusal :=
  s.take fun s => s.csq t Bench.rampExpired

end Sys2Proof.Machine
end

