-- ==== Sys2Proof/Machine/Protection.lean ====
section
/-! DEFINITION. The meanings of the RF monitors' commands (08): crossings, arming, restrike, carrier loss, the mains
monitor, and the host requests that configure monitors, protection and limits. -/

namespace Sys2Proof.Machine

/-- The transmitter's restrike ramp is in progress (R158). -/
def TxRecord.restrikeRamping (r : TxRecord) : Bool :=
  r.state == .tripped && match r.stage with | .ramp _ => true | _ => false

/-- The transmitter's context is in RAMP. -/
def TxRecord.ramping (r : TxRecord) : Bool := r.context.any fun c => c.phase == .ramp

/-! ### Crossings -/

/-- What an accepted rising crossing of an ARMED reflected monitor is (R154-R156). -/
def Bench.reflectedRise (e : Env) (b : Bench) : Bench :=
  if b.u.refl.state ≠ .armed then b
  else
    let b := b.station fun u => { u with refl := { u.refl with side := some .high, pending := false } }
    let r := b.u.tr
    match r.current, r.context with
    | some x, k =>
      if r.state = .onAir ∨ r.ramping ∨ r.restrikeRamping then b.trip e x
      else match k with
        | some c =>
          match r.radiated with
          | some y => if c.phase = .claim ∧ (c.origin = .schedule ∨ c.origin = .manual) then b.preMuteTrip e c y else b.reflectedHigh e
          | none => b.reflectedHigh e
        | none => b.reflectedHigh e
    | none, some c =>
      match r.radiated with
      | some y => if c.phase = .claim then b.preMuteTrip e c y else b.reflectedHigh e
      | none => b.reflectedHigh e
    | none, none => b.reflectedHigh e

/-- REFLECTED_RISING_CROSSING (R154). -/
def execReflectedRisingCrossing (t : Tx) (s : State) : Host.Outcome State Fault Refusal :=
  s.take fun s => s.csq t Bench.reflectedRise

/-- An accepted falling crossing of an ARMED reflected monitor (R156). -/
def Bench.reflectedFall (e : Env) (b : Bench) : Bench :=
  if b.u.refl.state ≠ .armed then b
  else (b.station fun u => { u with refl := { u.refl with side := some .low, pending := false } }).reflectedNormal e

/-- REFLECTED_FALLING_CROSSING (R156). -/
def execReflectedFallingCrossing (t : Tx) (s : State) : Host.Outcome State Fault Refusal :=
  s.take fun s => s.csq t Bench.reflectedFall

/-- The forward monitor reads the line coupler and the transmitter's crosspoint in its route column is not CLOSED: it
reads 0% (R149). -/
def Bench.lineOpen (e : Env) (b : Bench) : Bool :=
  b.u.fwd.config.source == .line && !(b.u.tr.route.any fun c => e.matrix.xstate e.t c == .closed)

/-- An accepted rising crossing of the forward monitor: the ramp's confirmation, or the end of a dip (R153, R164). A
monitor that reads 0% off an open route has none (R149). -/
def Bench.forwardRise (e : Env) (b : Bench) : Bench :=
  if b.lineOpen e then b
  else match b.u.fwd.state with
  | .off => b
  | .armed =>
    (b.station fun u =>
      { u with fwd := { u.fwd with side := some .high, pending := false, loss := none } }).carrierNormal e
  | .ramp =>
    let b := b.station fun u =>
      { u with fwd := { u.fwd with state := .armed, side := some .high, pending := false, loss := none } }
    match b.u.tr.context with
    | some c => if c.phase = .ramp then b.rampSucceeded e c else b
    | none => if b.u.tr.restrikeRamping then (b.tr fun r => { r with stage := .none }).goOnAir e else b

/-- FORWARD_RISING_CROSSING (R153). -/
def execForwardRisingCrossing (t : Tx) (s : State) : Host.Outcome State Fault Refusal :=
  s.take fun s => s.csq t Bench.forwardRise

/-- An accepted falling crossing of an ARMED forward monitor starts the loss count (R164). -/
def Bench.forwardFall (e : Env) (b : Bench) : Bench :=
  if b.u.fwd.state ≠ .armed then b
  else
    (b.station fun u =>
      { u with fwd := { u.fwd with side := some .low, pending := false
                                   loss := some (Timer.start e.protection.carrierLoss) } }).carrierLow e

/-- FORWARD_FALLING_CROSSING (R164). -/
def execForwardFallingCrossing (t : Tx) (s : State) : Host.Outcome State Fault Refusal :=
  s.take fun s => s.csq t Bench.forwardFall

/-! ### Counts -/

/-- ARMING_DELAY_EXPIRY (R152). -/
def execArmingDelayExpiry (t : Tx) (s : State) : Host.Outcome State Fault Refusal :=
  s.take fun s => s.csq t fun _ b =>
    if b.u.refl.state = .waiting then b.station fun u => { u with refl := u.refl.ready } else b

/-- The restrike delay runs. -/
def Restrike.delaying : Restrike → Bool | .delay _ => true | _ => false

/-- RESTRIKE_DELAY_EXPIRY (R157). -/
def execRestrikeDelayExpiry (t : Tx) (s : State) : Host.Outcome State Fault Refusal :=
  s.take fun s => s.csq t fun e b =>
    if b.u.tr.state = .tripped ∧ b.u.tr.stage.delaying then b.restrikeTest e else b

/-- The restrike ramp's limit expires: MUTE, NO_CARRIER, LOCKED(CARRIER_LOST) (R158). -/
def Bench.restrikeRampExpired (e : Env) (b : Bench) : Bench :=
  if b.u.tr.restrikeRamping then (b.muteAndEnd e .noCarrier).lock e .carrierLost none else b

/-- RESTRIKE_RAMP_LIMIT_EXPIRY (R158). -/
def execRestrikeRampLimitExpiry (t : Tx) (s : State) : Host.Outcome State Fault Refusal :=
  s.take fun s => s.csq t Bench.restrikeRampExpired

/-- The trip mute watch expires (R157, R161). -/
def Bench.tripWatchExpired (e : Env) (b : Bench) : Bench :=
  if b.u.tr.tripWatch.isNone then b
  else
    let b := b.tr fun r => { r with tripWatch := none }
    if b.u.tr.state = .tripped then b.endMuteFailed e
    else if b.u.tr.context.any fun c => c.origin == .reserve && c.phase != .windUp then b.fail e .muteFailed
    else b

/-- TRIP_MUTE_WATCH_EXPIRY (R157). -/
def execTripMuteWatchExpiry (t : Tx) (s : State) : Host.Outcome State Fault Refusal :=
  s.take fun s => s.csq t Bench.tripWatchExpired

/-- RESTRIKE_WINDOW_EXPIRY: the restrike count is cleared (R159). -/
def execRestrikeWindowExpiry (t : Tx) (s : State) : Host.Outcome State Fault Refusal :=
  s.take fun s => s.csq t fun _ b =>
    if b.u.tr.window.isSome then b.tr fun r => { r with restrikes := 0, window := none, windowStart := none } else b

/-- CARRIER_LOSS_EXPIRY: MUTE, CARRIER_LOST, LOCKED(CARRIER_LOST) (R164). -/
def execCarrierLossExpiry (t : Tx) (s : State) : Host.Outcome State Fault Refusal :=
  s.take fun s => s.csq t fun e b =>
    if b.u.fwd.state = .armed ∧ b.u.fwd.loss.isSome ∧ b.u.tr.state = .onAir then
      (b.muteAndEnd e .carrierLost).lock e .carrierLost none
    else b

/-! ### The mains monitor (R166, R167) -/

/-- Hands a hold source for addition to the hold set of each transmitter of a list. -/
def holdAdds (ts : List Tx) (a : Source) : List Instr := ts.map fun t => .holdAdd t a

/-- Hands MAINS for addition to every hold set and the suspension set, and raises MAINS_LOW (R166). -/
def State.mainsDip (s : State) : State :=
  { s with
    mains := { state := .low, recovery := none }
    out := ((s.out.handAll (holdAdds allTx .mains)).hand (.suspensionSourceAdd .mains)).event .mainsLow .none
      (b1 s.protection.mainsLevel) }

/-- A mains sample (R166); the mains is not sampled before start-up's evaluation (R168). -/
def State.mainsSample (percent : Nat) (s : State) : State :=
  let high : Bool := decide (s.protection.mainsLevel ≤ percent)
  match s.boot.phase with
  | .load => s
  | .table => s
  | .evaluate => s
  | _ =>
    match s.mains.state with
    | .normal => if high then s else s.mainsDip
    | .low =>
      if high then
        { s with mains := { state := .recovering, recovery := some (Timer.start s.protection.mainsRecovery) } }
      else s
    | .recovering => if high then s else { s with mains := { state := .low, recovery := none } }

/-- MAINS_SAMPLE (R166). -/
def execMainsSample (percent : Nat) (s : State) : Host.Outcome State Fault Refusal :=
  s.take (State.mainsSample percent)

/-- The set whose one source is MAINS. -/
def Sources.justMains : Sources := { Sources.none with mains := true }

/-- MAINS_RECOVERY_EXPIRY (R167). -/
def execMainsRecoveryExpiry (s : State) : Host.Outcome State Fault Refusal :=
  s.take fun s =>
    if s.mains.state = .recovering then
      { s with
        mains := { state := .normal, recovery := none }
        out := ((s.out.handAll (allTx.map fun t => .holdRemove t Sources.justMains)).hand
          (.suspensionSourceRemove Sources.justMains)).event .mainsNormal .none (b1 s.protection.mainsLevel) }
    else s

/-! ### Host requests -/

/-- A value lies outside a range. -/
def outside (lo hi n : Nat) : Bool := decide (n < lo) || decide (hi < n)

/-- Some limit lies outside its range, in milliseconds (R136). -/
def Limits.outOfRange (l : Limits) : Bool :=
  outside 1000 600000 l.claimWait || outside 100 10000 l.mute || outside 0 2000 l.settle ||
  outside 5000 120000 l.tune || outside 1000 30000 l.travel || outside 50 1000 l.hold ||
  outside 1000 20000 l.ramp || outside 0 5000 l.arming

/-- The limits in phase ticks, rounded down to 10 ms (R136). -/
def Limits.ticks (l : Limits) : Limits :=
  { claimWait := l.claimWait / 10, mute := l.mute / 10, settle := l.settle / 10, tune := l.tune / 10
    travel := l.travel / 10, hold := l.hold / 10, ramp := l.ramp / 10, arming := l.arming / 10 }

/-- SET_LIMITS (R136). -/
def execSetLimits (h : Head) (l : Limits) (s : State) : Host.Outcome State Fault Refusal :=
  s.host (.setLimits h l) fun s =>
    s.request 0x13 h [(l.outOfRange, .outOfRange), (allTx.any fun t => (s.tr t).state == .changing, .busy)]
      (fun s => { s with limits := l.ticks }) (fun _ => .empty)

/-- The divisors a monitor may have (R145). -/
def legalDivisor (n : Nat) : Bool := n == 1 || n == 2 || n == 4 || n == 8

/-- A monitor of a transmitter may not be reconfigured now (R151 test 4). -/
def TxRecord.monitored (r : TxRecord) : Bool := r.state == .onAir || r.ramping || r.restrikeRamping

/-- The configuration that SET_MONITOR gives, if every field is legal (R151 test 3). -/
def monitorConfig (which : Option MonitorName) (level : Nat) (filter : Option Bool) (n : Nat) (edges : Option Edges)
    (source : Option Coupler) : Option (MonitorName × MonitorConfig) :=
  match which, filter, edges, source with
  | some w, some f, some g, some c =>
    if legalDivisor n ∧ (w = .reflected → c = .transmitter) then
      some (w, { level := Fin.ofNat 16 level, filter := f, divisor := n, edges := g, source := c })
    else none
  | _, _, _, _ => none

/-- Writes a monitor's configuration; its pending count becomes 0 (R151). -/
def Station.configure (w : MonitorName) (g : MonitorConfig) (u : Station) : Station :=
  match w with
  | .reflected => { u with refl := { u.refl with config := g, pending := false } }
  | .forward => { u with fwd := { u.fwd with config := g, pending := false } }

/-- SET_MONITOR (R151). -/
def execSetMonitor (h : Head) (t : Nat) (which : Option MonitorName) (level : Nat) (filter : Option Bool) (n : Nat)
    (edges : Option Edges) (source : Option Coupler) (s : State) : Host.Outcome State Fault Refusal :=
  s.host (.setMonitor h t which level filter n edges source) fun s =>
    let g := monitorConfig which level filter n edges source
    s.request 0x14 h
      [(decide (11 < t) || decide (15 < level), .outOfRange), (g.isNone, .badField),
       ((s.tr (tx t)).monitored, .inUse)]
      (fun s => match g with
        | some (w, g) => s.onStation (tx t) fun _ b => b.station (Station.configure w g)
        | none => s)
      (fun _ => .empty)

/-- A mains level that may be set (R165). -/
def legalMainsLevel (n : Nat) : Bool := n == 85 || n == 88 || n == 90 || n == 93

/-- Some protection setting lies outside its range, times in milliseconds (R165). -/
def Protection.outOfRange (p : Protection) : Bool :=
  outside 0 9 p.restrikeLimit || outside 1000 30000 p.restrikeDelay || outside 10000 600000 p.restrikeWindow ||
  outside 1000 60000 p.carrierLoss || outside 500 10000 p.mainsRecovery

/-- The settings with their times in phase ticks (R165). -/
def Protection.ticks (p : Protection) : Protection :=
  { p with restrikeDelay := p.restrikeDelay / 10, restrikeWindow := p.restrikeWindow / 10
           carrierLoss := p.carrierLoss / 10, mainsRecovery := p.mainsRecovery / 10 }

/-- SET_PROTECTION (R165). -/
def execSetProtection (h : Head) (p : Protection) (s : State) : Host.Outcome State Fault Refusal :=
  s.host (.setProtection h p) fun s =>
    s.request 0x15 h [(p.outOfRange, .outOfRange), (!legalMainsLevel p.mainsLevel, .badField)]
      (fun s => { s with protection := p.ticks }) (fun _ => .empty)

end Sys2Proof.Machine
end

