-- ==== Sys2Proof/Machine/Interlock.lean ====
section
/-! DEFINITION. Field lines and interlocks (09): line kinds, latches and levels, the members and their shared latch, the
emergency stop. -/

namespace Sys2Proof.Machine

/-! ### Field lines -/

/-- A line record changed. -/
def State.onLine (s : State) (l : Line) (f : FieldLine → FieldLine) : State :=
  { s with lines := upd s.lines l (f (s.lines.get l)) }
/-- The line of a number that a range test has passed. -/
def line (n : Nat) : Line := Fin.ofNat 32 n
/-- The member of a number that a range test has passed. -/
def member (n : Nat) : Member := Fin.ofNat 24 n

/-- FLU drives the pin of a line of the kind (R170). -/
def LineKind.drives : LineKind → Bool | .output => true | .lamp _ => true | _ => false

/-- What FLU drives onto the pin of a line: none where the pin is an input (R170). -/
def State.drive (s : State) (l : Line) : Option Bool :=
  let k := s.lines.get l
  match k.kind with
  | .output => some k.latch
  | .lamp t => some ((s.tr t).state == .onAir)
  | _ => none

/-- The level READ_LINES returns: the drive of a driven line, else the pin level (R175). -/
def State.lineLevel (s : State) (l : Line) : Option Bool :=
  match s.drive l with
  | some v => some v
  | none => (s.lines.get l).pin

/-- The member configured on a line, if any (R176). -/
def Interlocks.memberOn (u : Interlocks) (l : Line) : Option Member :=
  allMembers.find? fun m => (u.members.get m).config.any fun g => g.line == l

/-- A pin level read against a member's active level (R176). -/
def MemberConfig.levelOf (g : MemberConfig) (pin : Option Bool) : MemberLevel :=
  match pin with
  | none => .unsettled
  | some high => if high = g.activeHigh then .active else .released

/-- A level of an undriven line is accepted: a member's line hands the change to ILU (R171). -/
def State.acceptLevel (s : State) (l : Line) (high : Bool) : State :=
  let k := s.lines.get l
  let s := s.onLine l fun k => { k with pin := some high, last := some high }
  if k.kind = .interlock then
    match s.ilu.memberOn l with
    | some m => match (s.ilu.members.get m).config with
      | some g => s.onOut fun o => o.hand (.memberLevelChange m (g.levelOf (some high)))
      | none => s
    | none => s
  else s

/-- FIELD_LINE_LEVEL_CHANGE: the accepted level of an undriven line (R171). On a PULSE line a change from LOW to HIGH is a
rising edge: the Hall Clock takes its second pulse in the same event, so the pin level stays the present one whatever is
waiting; a change from UNSETTLED to HIGH only records the level (log 44). -/
def execFieldLineLevelChange (l : Line) (high : Bool) (s : State) : Host.Outcome State Fault Refusal :=
  s.take fun s =>
    let k := s.lines.get l
    if k.kind.drives ∨ k.pin = some high then s
    else if k.kind = .pulse ∧ k.pin = some false then s.secondPulse l
    else s.acceptLevel l high

/-! ### Members -/

/-- The interlocks changed. -/
def State.onIlu (s : State) (f : Interlocks → Interlocks) : State := { s with ilu := f s.ilu }
/-- A member record changed. -/
def Interlocks.onMember (u : Interlocks) (m : Member) (f : MemberRecord → MemberRecord) : Interlocks :=
  { u with members := upd u.members m (f (u.members.get m)) }
/-- The start-up evaluation of the interlocks is over: level changes latch (R185). -/
def BootPhase.evaluated : BootPhase → Bool
  | .load => false | .table => false | .evaluate => false | _ => true

/-- The transmitters of a set, in order. -/
def txOf (set : BitVec 12) : List Tx := allTx.filter fun t => set.getLsbD t.val

/-- The applied set that a member takes as it joins the Latched Set (R178). -/
def State.appliedSet (s : State) : Scope → BitVec 12
  | .transmitters set => set
  | .antenna c => match (s.matrix.column c).holder with | some h => oneBit 12 h.val | none => 0
  | .matrix => BitVec.allOnes 12

/-- What a member hands as its effect is put in force (R178). -/
def effectMessages (m : Member) (scope : Scope) (applied : BitVec 12) : List Instr :=
  let holds := holdAdds (txOf applied) (.member m)
  match scope with
  | .transmitters _ => holds
  | .antenna c => .gateMemberAdd c m :: holds
  | .matrix => .suspensionSourceAdd (.member m) :: holds

/-- A member reaches its active level: it latches an ARMED group as first-out, or joins a LATCHED one, with its effect
put in force and its event raised (R179, R180). -/
def State.joinLatched (s : State) (m : Member) (g : MemberConfig) : State :=
  if m ∈ s.ilu.latchedSet then s
  else
    let first := s.ilu.firstOut.isNone
    let applied := s.appliedSet g.scope
    let s := s.onIlu fun u =>
      { (u.onMember m fun k => { k with applied := applied }) with
        firstOut := some (u.firstOut.getD m), latchedSet := u.latchedSet ++ [m] }
    s.onOut fun o => (o.handAll (effectMessages m g.scope applied)).event
      (if first then .interlockLatched else .memberActive) (.member m) g.scope.bytes

/-- MEMBER_LEVEL_CHANGE (R179, R180); before start-up's evaluation the level is only recorded (R185). -/
def execMemberLevelChange (m : Member) (level : MemberLevel) (s : State) : Host.Outcome State Fault Refusal :=
  s.take fun s =>
    match (s.ilu.members.get m).config with
    | none => s
    | some g =>
      let old := (s.ilu.members.get m).level
      let s := s.onIlu fun u => u.onMember m fun k => { k with level := level }
      if level = .active ∧ old ≠ .active ∧ s.boot.phase.evaluated then s.joinLatched m g else s

/-- The level changes of a member that are on their way are void: its level is read anew from its line, or it has none
(R177, R185). -/
def Outbox.forget (o : Outbox) (m : Member) : Outbox :=
  { o with handed := o.handed.filter fun i => match i with | .memberLevelChange n _ => n != m | _ => true }

/-- A member becomes unconfigured: its line is released (R177). Its record then holds no line, active level and scope
(log 58). -/
def State.unconfigure (s : State) (m : Member) : State :=
  { s with
    ilu := s.ilu.onMember m fun _ => { config := none, level := .unsettled, applied := 0 }
    out := s.out.forget m }

/-- The scope that SET_MEMBER's arguments give, if they are in range and legal (R176 tests 2 and 3). -/
def ScopeArg.scope : ScopeArg → Option Scope
  | .transmitters set => some (.transmitters (set.setWidth 12))
  | .antenna c => some (.antenna (col c))
  | .matrix => some .matrix
  | .other => none
/-- The scope parameter is out of range (R176 test 2). -/
def ScopeArg.outOfRange : ScopeArg → Bool
  | .transmitters set => decide (4095 < set.toNat)
  | .antenna c => decide (35 < c)
  | _ => false
/-- The scope is none of the three, or an empty transmitter set (R176 test 3). -/
def ScopeArg.illegal : ScopeArg → Bool
  | .other => true
  | .transmitters set => set == 0
  | _ => false

/-- The configuration that SET_MEMBER gives. -/
def memberConfig (l : Nat) (activeHigh : Option Bool) (scope : ScopeArg) : Option MemberConfig :=
  match activeHigh, scope.scope with
  | some a, some x => some { line := line l, activeHigh := a, scope := x }
  | _, _ => none

/-- A line is carried by a configured member other than `m` (R176 test 6). -/
def Interlocks.carried (u : Interlocks) (l : Line) (m : Member) : Bool :=
  allMembers.any fun n => n != m && (u.members.get n).config.any fun g => g.line == l

/-- SET_MEMBER accepted with a line: the member's earlier line is released, and its level is read from the new one
(R177). -/
def State.configure (s : State) (m : Member) (g : MemberConfig) : State :=
  let level := g.levelOf (s.lines.get g.line).pin
  let s := (s.onIlu fun u => u.onMember m fun _ => { config := some g, level := level, applied := 0 }).onOut
    fun o => o.forget m
  if level = .active then s.joinLatched m g else s

/-- SET_MEMBER with a line (R176, R177). -/
def execSetMember (h : Head) (m l : Nat) (activeHigh : Option Bool) (scope : ScopeArg) (s : State) :
    Host.Outcome State Fault Refusal :=
  s.host (.setMember h m l activeHigh scope) fun s =>
    s.request 0x17 h
      [(decide (23 < m) || decide (31 < l) || scope.outOfRange, .outOfRange),
       (activeHigh.isNone || scope.illegal, .badField),
       (decide (member m ∈ s.ilu.latchedSet), .held),
       ((s.lines.get (line l)).kind != .interlock, .wrongState),
       (s.ilu.carried (line l) (member m), .lineClaimed)]
      (fun s => match memberConfig l activeHigh scope with
        | some g => s.configure (member m) g
        | none => s)
      (fun _ => .empty)

/-- SET_MEMBER with line NONE (R176, R177). -/
def execSetMemberRemove (h : Head) (m : Nat) (s : State) : Host.Outcome State Fault Refusal :=
  s.host (.setMemberRemove h m) fun s =>
    s.request 0x17 h [(decide (23 < m), .outOfRange), (decide (member m ∈ s.ilu.latchedSet), .held)]
      (fun s => s.unconfigure (member m)) (fun _ => .empty)

/-! ### Line requests -/

/-- The kind that SET_LINE's arguments give (R172). -/
def lineKind (k : LineUse) (parameter : Nat) : LineKind :=
  match k with
  | .unused => .unused | .input => .input | .output => .output | .lamp => .lamp (tx parameter) | .pulse => .pulse
  | .interlock => .interlock

/-- The Hall Clock is told that a line is given, or no longer of, kind PULSE (R24, R173). -/
def Clock.pulseKind (k : Clock) (given : Bool) : Clock :=
  { k with pulse := .none, watch := if given then some (Timer.start Config.pulseWatchTicks) else none }

/-- SET_LINE accepted with a new kind or parameter: the latch stays, a line that starts or stops driving loses its pin
level, and the neighbours are told (R173). A line that stops being filtered, given kind PULSE, keeps its accepted level
until the next sample of its pin (log 57). -/
def State.relabel (s : State) (l : Line) (k : LineKind) : State :=
  let old := (s.lines.get l).kind
  let s := s.onLine l fun r =>
    { r with
      kind := k, pin := if old.drives ∨ k.drives then none else r.pin
      last := if old.drives ∨ k.drives then none else r.last }
  let s := if k = .pulse then s.onClock (Clock.pulseKind · true)
    else if old = .pulse then s.onClock (Clock.pulseKind · false) else s
  if old = .interlock ∧ k ≠ .interlock then
    match s.ilu.memberOn l with
    | some m => s.unconfigure m
    | none => s
  else s

/-- SET_LINE (R172, R173). -/
def execSetLine (h : Head) (l : Nat) (kind : Option LineUse) (parameter : Nat) (s : State) :
    Host.Outcome State Fault Refusal :=
  s.host (.setLine h l kind parameter) fun s =>
    let old := (s.lines.get (line l)).kind
    s.request 0x16 h
      [(decide (31 < l) || (kind == some .lamp && decide (11 < parameter)), .outOfRange),
       (kind.isNone, .badField),
       (kind == some .pulse && (s.pulseLine.any fun q => q != line l), .lineClaimed),
       (old == .interlock && kind != some .interlock && s.ilu.firstOut.isSome, .held)]
      (fun s => match kind with
        | some k => if lineKind k parameter = old then s else s.relabel (line l) (lineKind k parameter)
        | none => s)
      (fun _ => .empty)

/-- The output latches of all lines, bit n for line n (R174). -/
def State.latches (s : State) : BitVec 32 :=
  allLines.foldl (fun v l => if (s.lines.get l).latch then setBit v l.val else v) 0

/-- WRITE_LINES (R174). Of two pairs that name one line the last decides: R174 has no test for them, and this is the
model's choice (log 63). -/
def execWriteLines (h : Head) (writes : List (Nat × Nat)) (s : State) : Host.Outcome State Fault Refusal :=
  s.host (.writeLines h writes) fun s =>
    s.request 0x18 h [(writes.any fun w => decide (31 < w.1) || decide (1 < w.2), .outOfRange)]
      (fun s => writes.foldl (fun s w => s.onLine (line w.1) fun k => { k with latch := w.2 == 1 }) s)
      (fun s => .latches s.latches)

/-- READ_LINES (R175). -/
def execReadLines (h : Head) (s : State) : Host.Outcome State Fault Refusal :=
  s.host (.readLines h) fun s => s.request 0x64 h [] id fun s =>
    .lines (allLines.map fun l => ((s.lines.get l).kind, (s.lines.get l).latch, s.lineLevel l)) s.ilu.input

/-! ### Clearing and the emergency stop -/

/-- The members of the Latched Set whose level is ACTIVE, in member order (R181). -/
def Interlocks.stillActive (u : Interlocks) : List Member :=
  allMembers.filter fun m => decide (m ∈ u.latchedSet) && (u.members.get m).level == .active

/-- The members of a list that satisfy a test, as a set. -/
def memberSet (ms : List Member) (p : Member → Bool) : BitVec 24 :=
  ms.foldl (fun v m => if p m then setBit v m.val else v) 0

/-- Removal messages of a cleared group (R181): one for each transmitter, then one for each column, then one for the
suspension set, each of all the members concerned. -/
def Interlocks.clearMessages (u : Interlocks) : List Instr :=
  let latched := u.latchedSet
  let scopeIs (x : Scope) (m : Member) : Bool := (u.members.get m).config.any fun g => g.scope == x
  let holds := allTx.filterMap fun t =>
    let ms := memberSet latched fun m => (u.members.get m).applied.getLsbD t.val
    if ms = 0 then none else some (.holdRemove t { Sources.none with members := ms })
  let gates := allCols.filterMap fun c =>
    let ms := memberSet latched (scopeIs (.antenna c))
    if ms = 0 then none else some (.gateMemberRemove c ms)
  let ms := memberSet latched (scopeIs .matrix)
  let suspension : List Instr := if ms = 0 then [] else [.suspensionSourceRemove { Sources.none with members := ms }]
  holds ++ gates ++ suspension

/-- INTERLOCK_CLEAR(GROUP) accepted (R181). -/
def State.clearGroup (s : State) : State :=
  let u := s.ilu
  { s with
    ilu := { u with
      members := memberVector fun m => { u.members.get m with applied := 0 }
      firstOut := none, latchedSet := [] }
    out := (s.out.handAll u.clearMessages).event .interlockCleared .group (b1 u.latchedSet.length) }

/-- INTERLOCK_CLEAR with target GROUP (R181); `named` false is a target that is neither GROUP nor EMERGENCY. -/
def execInterlockClearGroup (h : Head) (named : Bool) (s : State) : Host.Outcome State Fault Refusal :=
  s.host (.interlockClearGroup h named) fun s =>
    let active := s.ilu.stillActive
    if h.sized ∧ named ∧ s.ilu.firstOut.isSome ∧ active ≠ [] then
      s.answer 0x57 h.tag (.refused .stillActive (active.map fun m => BitVec.ofNat 8 m.val))
    else
      let cleared := s.ilu.latchedSet
      s.request 0x57 h [(!named, .badField), (s.ilu.firstOut.isNone, .wrongState)] State.clearGroup
        (fun _ => .cleared cleared)

/-- The set whose one source is EMERGENCY. -/
def Sources.justEmergency : Sources := { Sources.none with emergency := true }

/-- INTERLOCK_CLEAR(EMERGENCY) accepted (R183). -/
def State.clearEmergency (s : State) : State :=
  { s with
    ilu := { s.ilu with emergency := false }
    out := ((s.out.handAll (allTx.map fun t => .holdRemove t Sources.justEmergency)).hand
      (.suspensionSourceRemove Sources.justEmergency)).event .interlockCleared .emergency [] }

/-- INTERLOCK_CLEAR with target EMERGENCY (R181, R183). -/
def execInterlockClearEmergency (h : Head) (s : State) : Host.Outcome State Fault Refusal :=
  s.host (.interlockClearEmergency h) fun s =>
    if h.sized ∧ s.ilu.emergency ∧ s.ilu.input ≠ some false then
      s.answer 0x57 h.tag (.refused .stillActive [0xFF])
    else s.request 0x57 h [(!s.ilu.emergency, .wrongState)] State.clearEmergency (fun _ => .empty)

/-- The emergency stop latches (R182). -/
def State.latchEmergency (s : State) : State :=
  { s with
    ilu := { s.ilu with emergency := true }
    out := ((s.out.handAll (holdAdds allTx .emergency)).hand (.suspensionSourceAdd .emergency)).event .emergencyStop
      .none [] }

/-- A level of the emergency input is accepted (R182); before start-up's evaluation it is only recorded (R185). -/
def State.emergencyLevel (s : State) (active : Bool) : State :=
  let s := s.onIlu fun u => { u with input := some active, inputLast := some active }
  if active ∧ ¬ s.ilu.emergency ∧ s.boot.phase.evaluated then s.latchEmergency else s

/-- EMERGENCY_INPUT_CHANGE (R182). -/
def execEmergencyInputChange (active : Bool) (s : State) : Host.Outcome State Fault Refusal :=
  s.take fun s => s.emergencyLevel active

/-- READ_INTERLOCK (R184). -/
def execReadInterlock (h : Head) (s : State) : Host.Outcome State Fault Refusal :=
  s.host (.readInterlock h) fun s => s.request 0x65 h [] id fun s =>
    .interlock s.ilu.firstOut (s.ilu.latchedSet.map fun m => (m, (s.ilu.members.get m).applied))
      (allMembers.map fun m => s.ilu.members.get m) s.ilu.emergency s.ilu.input

end Sys2Proof.Machine
end

