-- ==== Sys2Proof/Machine/SeasonCheck.lean ====
section
/-! DEFINITION. The Check Unit (04): the tests of an entry, overlaps, horizon crowding, and how a check starts, runs and
ends. -/

namespace Sys2Proof.Machine

/-- The descriptions that a check reads (R51). -/
structure Hall where
  transmitters : Tx → TxDesc
  columns : Col → ColDesc

/-- The descriptions in force. -/
def State.hall (s : State) : Hall :=
  { transmitters := fun t => (s.tr t).desc, columns := fun c => (s.matrix.column c).desc }

/-! ### Tests of one entry (R53-R57) -/

/-- A date field is absent or a date of the calendar, as R53 tests it: a year up to 2099, a month of 1-12 and a day of
its month. -/
def legalDateField (f : Nat) : Bool := f == 0xFFFF || (fieldDate (BitVec.ofNat 16 f)).valid

/-- FIELD_RANGE (R53). -/
def Entry.fieldRange (e : Entry) : Bool :=
  decide (511 < e.number) || decide (1439 < e.start) || e.dayZero != 0 || !legalDateField e.validFrom ||
  !legalDateField e.validTo || decide (11 < e.transmitter) || decide (e.kHz < 2300) || decide (26100 < e.kHz) ||
  e.kW == 0 || decide (500 < e.kW) || (e.hasReserve == 1 && e.reserve == e.primary) ||
  (e.hasReserve == 0 && e.reserve != 0) || e.zero != 0

/-- TIME_SHAPE (R54). -/
def Entry.timeShape (e : Entry) : Bool :=
  decide (e.duration < 5) || decide (1440 < e.duration) || e.days == 0 ||
  match dateBound e.validFrom, dateBound e.validTo with
  | some f, some t => decide (t < f)
  | _, _ => false

/-- An entry is sound when it shows neither FIELD_RANGE nor TIME_SHAPE (R52). -/
def Entry.sound (e : Entry) : Bool := !e.fieldRange && !e.timeShape

/-- The name of a used slot (R61). -/
def slotName (place : Nat) (e : Entry) : SlotName := { entry := e.number, page := place / 8, slot := place % 8 }

/-- The shape fault of an entry, if any (R53, R54). -/
def Entry.shapeFaults (e : Entry) : List FaultKind :=
  if e.fieldRange then [.fieldRange] else if e.timeShape then [.timeShape] else []

/-- The earliest used slot before a place that holds the same entry number (R55). -/
def duplicateOf (used : List (Nat × Entry)) (place : Nat) (e : Entry) : Option SlotName :=
  if 511 < e.number then none
  else (used.find? fun q => decide (q.1 < place) && q.2.number == e.number).map fun q => slotName q.1 q.2

/-- The description faults of a sound entry, in the order of R56 and R57. -/
def Entry.hallFaults (g : Hall) (e : Entry) : List FaultKind :=
  let d := g.transmitters (tx e.transmitter)
  let p (b : Bool) (k : FaultKind) : List FaultKind := if b then [k] else []
  p (!onRaster e.kHz) .raster ++ p (bandOf e.kHz).isNone .outOfBand ++
  p (!d.present || !d.fits e.kHz e.programme) .txRange ++
  p (decide (d.rated < e.kW) || decide (e.kW < d.step)) .powerRange ++
  p (!(g.columns (col e.primary)).permits e.kHz) .antennaBand ++
  p (e.hasReserve == 1 && !(g.columns (col e.reserve)).permits e.kHz) .reserveBand

/-- The faults of the ENTRY pass at a used slot, in order (R52-R57). -/
def entryFaults (g : Hall) (used : List (Nat × Entry)) (place : Nat) (e : Entry) : List FaultRecord :=
  let own (k : FaultKind) : FaultRecord := { kind := k, entry := slotName place e, other := none }
  (e.shapeFaults.map own) ++
  (match duplicateOf used place e with
    | some o => [{ kind := .duplicateNumber, entry := slotName place e, other := some o }]
    | none => []) ++
  (if e.sound then (e.hallFaults g).map own else [])

/-! ### Overlaps (R58, R59) -/

/-- A part of an entry (R58). -/
structure Part where
  days : Nat
  first : Option Nat
  last : Option Nat
  lo : Nat
  hi : Nat
deriving DecidableEq, Repr

/-- Each day of a set replaced by the following weekday, Sunday by Monday (R58). -/
def nextDays (days : Nat) : Nat := (days * 2) % 128 + days / 64 % 2

/-- The parts of an entry (R58). The second part of a window that reaches 2099-12-31 goes on to a day after the last date
of the calendar, which the model counts as a date (log 53). -/
def Entry.parts (e : Entry) : List Part :=
  let f := dateBound e.validFrom
  let t := dateBound e.validTo
  if e.start + e.duration ≤ 1440 then [⟨e.days, f, t, e.start, e.start + e.duration⟩]
  else [⟨e.days, f, t, e.start, 1440⟩,
        ⟨nextDays e.days, f.map (· + 1), t.map (· + 1), 0, e.start + e.duration - 1440⟩]

/-- The first date of one window is not after the last date of the other. -/
def notAfter (first last : Option Nat) : Bool :=
  match first, last with
  | some a, some b => decide (a ≤ b)
  | _, _ => true

/-- Two parts have intersecting day sets, date windows and minute ranges (R58). -/
def Part.meets (p q : Part) : Bool :=
  Nat.land p.days q.days != 0 && notAfter p.first q.last && notAfter q.first p.last && notAfter p.first p.last &&
  notAfter q.first q.last && decide (p.lo < q.hi) && decide (q.lo < p.hi)

/-- Two entries overlap (R58). -/
def Entry.overlaps (e f : Entry) : Bool := e.parts.any fun p => f.parts.any fun q => p.meets q

/-- The fault of an overlapping pair, if they share transmitter or primary antenna (R59). -/
def pairFault (place : Nat) (e : Entry) (q : Nat × Entry) : Option FaultRecord :=
  let kind : Option FaultKind :=
    if e.transmitter = q.2.transmitter then some .txOverlap
    else if e.primary = q.2.primary then some .antennaOverlap else none
  if e.overlaps q.2 then
    kind.map fun k => { kind := k, entry := slotName place e, other := some (slotName q.1 q.2) }
  else none

/-- The faults of the PAIR pass at a used slot (R59). -/
def pairFaults (used : List (Nat × Entry)) (place : Nat) (e : Entry) : List FaultRecord :=
  if e.sound then (used.filter fun q => decide (q.1 < place) && q.2.sound).filterMap (pairFault place e) else []

/-! ### Horizon crowding (R60) -/

/-- A firing of the week: week-minute, END before START, transmitter, place. -/
structure WeekFiring where
  minute : Nat
  start : Bool
  t : Nat
  place : Nat
  entry : Entry
deriving DecidableEq, Repr

/-- The firings of the week of a sound entry (R60). -/
def Entry.weekFirings (place : Nat) (e : Entry) : List WeekFiring :=
  ((upTo 7).filter fun w => e.days.testBit w).flatMap fun w =>
    let s := w * 1440 + e.start
    [⟨s, true, e.transmitter, place, e⟩, ⟨(s + e.duration) % 10080, false, e.transmitter, place, e⟩]

/-- The place of a week-minute in the window that begins at `b`. -/
def windowOffset (b m : Nat) : Nat := (m + 10080 - b) % 10080

/-- The order of R60 within the window that begins at `b`. -/
def WeekFiring.key (b : Nat) (f : WeekFiring) : Nat :=
  ((windowOffset b f.minute * 2 + f.start.toNat) * 16 + f.t) * 512 + f.place

/-- Inserts by a key, behind those of an equal one. -/
def insertBy {α : Type} (key : α → Nat) (x : α) : List α → List α
  | [] => [x]
  | y :: ys => if key x < key y then x :: y :: ys else y :: insertBy key x ys

/-- Sorts by a key, keeping the order of equals. -/
def sortBy {α : Type} (key : α → Nat) (xs : List α) : List α := xs.foldl (fun ys x => insertBy key x ys) []

/-- The firings of the window that begins at `b`. -/
def inWindow (fs : List WeekFiring) (b : Nat) : List WeekFiring :=
  fs.filter fun f => decide (windowOffset b f.minute < 60)

/-- The lowest of the `n` windows from `b` on that holds more than 128 firings. -/
def crowdedFrom (fs : List WeekFiring) : Nat → Nat → Option Nat
  | 0, _ => none
  | n + 1, b => if Config.upcomingSize < (inWindow fs b).length then some b else crowdedFrom fs n (b + 1)

/-- The HORIZON_CROWDED fault of a bank, if any (R60): it names the entry of the 129th firing. -/
def horizonFaults (used : List (Nat × Entry)) : List FaultRecord :=
  let fs := (used.filter fun q => q.2.sound).flatMap fun q => q.2.weekFirings q.1
  if fs.length ≤ Config.upcomingSize then []
  else match crowdedFrom fs 10080 0 with
    | none => []
    | some b =>
      match (sortBy (WeekFiring.key b) (inWindow fs b))[128]? with
      | some f => [{ kind := .horizonCrowded, entry := slotName f.place f.entry, other := none }]
      | none => []

/-! ### The running check -/

/-- A fault found: the total held at 65,535, the list at 16 records (R61). -/
def CheckContext.fault (k : CheckContext) (f : FaultRecord) : CheckContext :=
  { k with
    total := min (k.total + 1) Config.faultTotalMax
    faults := if k.faults.length < Config.faultListSize then k.faults ++ [f] else k.faults }

/-- One visit of the walk: the place's faults, and the next place or pass (R52). The HORIZON pass walks no slots; that its
position item holds place 0 before the count of the pass and place 1 after it is the model's choice (log 43). -/
def CheckContext.visit (g : Hall) (used : List (Nat × Entry)) (k : CheckContext) : CheckContext :=
  let here := used.find? fun q => q.1 == k.place
  match k.pass with
  | .entry =>
    let fs := match here with | some q => entryFaults g used q.1 q.2 | none => []
    let k := fs.foldl CheckContext.fault k
    if k.place < 511 then { k with place := k.place + 1 } else { k with pass := .pair, place := 0 }
  | .pair =>
    let fs := match here with | some q => pairFaults used q.1 q.2 | none => []
    let k := fs.foldl CheckContext.fault k
    if k.place < 511 then { k with place := k.place + 1 } else { k with pass := .horizon, place := 0 }
  | .horizon => if k.place = 0 then { (horizonFaults used).foldl CheckContext.fault k with place := 1 } else k

/-- `n` visits. -/
def CheckContext.visits (g : Hall) (used : List (Nat × Entry)) : Nat → CheckContext → CheckContext
  | 0, k => k
  | n + 1, k => CheckContext.visits g used n (k.visit g used)

/-- The visits that finish a check from where it stands: 512 places of two passes and the HORIZON pass. -/
def CheckContext.left (k : CheckContext) : Nat :=
  match k.pass with
  | .entry => (512 - k.place) + 513
  | .pair => (512 - k.place) + 1
  | .horizon => 1 - k.place

/-- Advances the running check by `n` visits. -/
def State.checkVisits (n : Nat) (s : State) : State :=
  match s.check with
  | none => s
  | some k => { s with check := some (k.visits s.hall (s.store.bank k.bank).used (min n k.left)) }

/-- The report of a context with an outcome (R61). -/
def CheckContext.report (k : CheckContext) (o : CheckOutcome) : CheckReport :=
  { outcome := o, serial := k.serial, total := k.total, faults := k.faults }

/-- Ends the check with an outcome: the bank's cell is written with the state and the report, CHU is IDLE and CHECK_DONE
is raised (R62, R63, R64). -/
def State.endCheck (s : State) (k : CheckContext) (x : BankState) (o : CheckOutcome) : State :=
  { s with
    check := none
    store := s.store.writeCell k.bank fun b => b.change fun c => { c with state := x, report := some (k.report o) }
    out := s.out.event .checkDone (.bank k.bank) (b1 o.code) }

/-- CHECK_COMPLETE: what is left of the passes, then VALID or REJECTED (R62). -/
def execCheckComplete (s : State) : Host.Outcome State Fault Refusal :=
  s.take fun s => match s.check with
    | none => s
    | some k =>
      let k := k.visits s.hall (s.store.bank k.bank).used k.left
      if k.total = 0 then s.endCheck k .valid .valid else s.endCheck k .rejected .rejected

/-- A bank's erase is in flight (R38). -/
def Store.erasing (s : Store) (b : Bank) : Bool :=
  match s.op with
  | some (.erase c) => c == b
  | _ => false

/-- CHECK_BANK (R50, R51). -/
def execCheckBank (h : Head) (b : Nat) (s : State) : Host.Outcome State Fault Refusal :=
  s.host (.checkBank h b) fun s =>
    let x := (s.store.bank (bank b)).state
    s.request 0x34 h
      [(decide (1 < b), .outOfRange), (s.check.isSome, .busy),
       (x != .closed && x != .rejected && x != .valid, .wrongState), (s.store.erasing (bank b), .busy)]
      (fun s =>
        { s with
          check := some { bank := bank b, serial := s.store.serial, pass := .entry, place := 0, faults := [],
                          total := 0, ticks := 0 }
          store := s.store.writeCell (bank b) fun k => k.change fun c => { c with state := .checking, report := none } })
      (fun s => .serial s.store.serial)

/-- The check ends early with a CLOSED bank and an outcome (R63, R64). -/
def State.cutCheck (s : State) (o : CheckOutcome) : State :=
  match s.check with
  | some k => s.endCheck k .closed o
  | none => s

/-- CANCEL_CHECK (R63). -/
def execCancelCheck (h : Head) (b : Nat) (s : State) : Host.Outcome State Fault Refusal :=
  s.host (.cancelCheck h b) fun s =>
    s.request 0x35 h
      [(decide (1 < b), .outOfRange), ((s.store.bank (bank b)).state != .checking, .wrongState)]
      (fun s => s.cutCheck .cancelled) (fun _ => .empty)

end Sys2Proof.Machine
end

