-- ==== Sys2Proof/Machine/ScheduleStore.lean ====
section
/-! DEFINITION. The Schedule Store (03) and the saving of settings (11): erasing, loading and reading banks, the store
controller's completions, SAVE_SETTINGS. -/

namespace Sys2Proof.Machine

/-- The store changed. -/
def State.onStore (s : State) (f : Store → Store) : State := { s with store := f s.store }

/-- A page write to the bank is in flight, header page or entry page (R42). -/
def Store.writing (s : Store) (b : Bank) : Bool :=
  match s.op with
  | some (.header c) => c == b
  | some (.page c _ _) => c == b
  | _ => false

/-- The operation in flight on a bank (R43). -/
def Store.opOn (s : Store) (b : Bank) : Option StoreOp := if s.writing b || s.erasing b then s.op else none

/-- The store with an operation started (R35). -/
def Store.start (s : Store) (op : StoreOp) : Store := { s with op := some op, opTicks := 0 }

/-- The bank as ERASE_BANK's acceptance leaves it (R37). -/
def SeasonBank.beginErase (b : SeasonBank) : SeasonBank :=
  { b.change fun c => { c with erasePending := true, state := if c.state = .valid then .closed else c.state } with
    headerWritten := false, written := 0 }

/-- ERASE_BANK (R37). -/
def execEraseBank (h : Head) (b : Nat) (s : State) : Host.Outcome State Fault Refusal :=
  s.host (.eraseBank h b) fun s =>
    let x := (s.store.bank (bank b)).state
    s.request 0x30 h
      [(decide (1 < b), .outOfRange), (x == .active || x == .checking, .wrongState), (s.store.op.isSome, .busy)]
      (fun s => s.onStore fun k => (k.writeCell (bank b) SeasonBank.beginErase).start (.erase (bank b)))
      (fun _ => .empty)

/-- The bank as the completion of its erase leaves it (R38). -/
def SeasonBank.erased (b : SeasonBank) : SeasonBank :=
  { b.change fun c => { c with state := .erased, erasePending := false, report := none } with
    header := none, headerPage := .erased, pages := Vector.replicate 64 EntryPage.erased, headerWritten := false,
    written := 0 }

/-- The controller returns to IDLE. -/
def Store.idle (s : Store) : Store := { s with op := none, opTicks := 0 }

/-- ERASE_COMPLETE (R38). ERASE_DONE has detail none (R36), for which the model sends no detail byte (log 12). -/
def execEraseComplete (s : State) : Host.Outcome State Fault Refusal :=
  s.take fun s => match s.store.op with
    | some (.erase b) =>
      (s.onStore fun k => (k.writeCell b SeasonBank.erased).idle).onOut fun o => o.event .eraseDone (.bank b) []
    | _ => s

/-- A season code byte is printable (R30). -/
def printable (b : Byte) : Bool := decide (0x21 ≤ b.toNat) && decide (b.toNat ≤ 0x7E)

/-- A season code of legal bytes: printable ones up to the first 0x00, and 0x00 after it (R39). -/
def legalCode : List Byte → Bool
  | [] => true
  | b :: bs => if b = 0 then bs.all (· == 0) else printable b && legalCode bs

/-- OPEN_BANK (R39). -/
def execOpenBank (h : Head) (b : Nat) (code : SeasonCode) (year month day minute : Nat) (s : State) :
    Host.Outcome State Fault Refusal :=
  s.host (.openBank h b code year month day minute) fun s =>
    let d : Date := { year := year, month := month, day := day }
    let ranges : Bool := decide (1 < b) || decide (year < 2000) || decide (2099 < year) || decide (month < 1) ||
      decide (12 < month) || decide (day < 1) || decide (31 < day) || decide (1439 < minute)
    let bytes := code.toArray.toList
    s.request 0x31 h
      [(ranges, .outOfRange), (!d.valid || bytes.headD 0 == 0 || !legalCode bytes, .badField),
       ((s.store.bank (bank b)).state != .erased || (s.store.bank (otherBank (bank b))).state == .opened, .wrongState),
       (s.store.op.isSome, .busy)]
      (fun s => s.onStore fun k =>
        (k.writeCell (bank b) fun q =>
          { q.goto .opened with header := some { code := code, date := d, minute := minute }, headerWritten := true }).start
          (.header (bank b)))
      (fun _ => .empty)

/-- WRITE_DONE of a bank's page, HEADER as 0xFE (R36, R193). -/
def Outbox.writeDone (o : Outbox) (b : Bank) (page : Nat) : Outbox := o.event .writeDone (.bank b) (b1 page)

/-- HEADER_WRITE_COMPLETE (R39, R36). -/
def execHeaderWriteComplete (s : State) : Host.Outcome State Fault Refusal :=
  s.take fun s => match s.store.op with
    | some (.header b) =>
      (s.onStore fun k => (k.onBank b fun q => { q with headerPage := .programmed }).idle).onOut
        fun o => o.writeDone b 0xFE
    | _ => s

/-- The eight slots that WRITE_ENTRIES writes (R41). -/
def pageOf (entries : List Slot) : Vector Slot 8 :=
  let a (i : Nat) : Slot := entries.getD i emptySlot
  #v[a 0, a 1, a 2, a 3, a 4, a 5, a 6, a 7]

/-- The page of a number that a range test has passed. -/
def page (n : Nat) : Page := Fin.ofNat 64 n

/-- The bank that is OPEN, as BANK_MISMATCH's detail carries it: 0xFF for none (R40, R193). -/
def Store.openBank (s : Store) : Nat :=
  if (s.bank 0).state = .opened then 0 else if (s.bank 1).state = .opened then 1 else 0xFF

/-- WRITE_ENTRIES (R40, R41). A refusal WRONG_BANK also raises BANK_MISMATCH. -/
def execWriteEntries (h : Head) (b p : Nat) (entries : List Slot) (s : State) : Host.Outcome State Fault Refusal :=
  s.host (.writeEntries h b p entries) fun s =>
    let k := s.store.bank (bank b)
    let tests : List (Bool × Reason) :=
      [(entries.isEmpty || decide (8 < entries.length), .badLength), (decide (1 < b) || decide (63 < p), .outOfRange),
       (k.state != .opened, .wrongBank), (k.written.getLsbD p, .pageWritten), (s.store.op.isSome, .busy)]
    let s := if firstFailing ((!h.sized, .badLength) :: tests) = some .wrongBank then
        s.onOut fun o => o.event .bankMismatch (.bank (bank b)) (b1 s.store.openBank)
      else s
    s.request 0x32 h tests
      (fun s => s.onStore fun k =>
        (k.onBank (bank b) fun q => { q with written := setBit q.written p }).start
          (.page (bank b) (page p) (pageOf entries)))
      (fun _ => .empty)

/-- ENTRY_PAGE_WRITE_COMPLETE (R41, R36). -/
def execEntryPageWriteComplete (s : State) : Host.Outcome State Fault Refusal :=
  s.take fun s => match s.store.op with
    | some (.page b p slots) =>
      (s.onStore fun k => (k.onBank b fun q => { q with pages := upd q.pages p (.programmed slots) }).idle).onOut
        fun o => o.writeDone b p.val
    | _ => s

/-- CLOSE_BANK (R42). -/
def execCloseBank (h : Head) (b : Nat) (s : State) : Host.Outcome State Fault Refusal :=
  s.host (.closeBank h b) fun s =>
    s.request 0x33 h
      [(decide (1 < b), .outOfRange), ((s.store.bank (bank b)).state != .opened, .wrongState),
       (s.store.writing (bank b), .busy)]
      (fun s => s.onStore fun k => k.writeCell (bank b) fun q => q.goto .closed) (fun _ => .empty)

/-- The number of bits set among the first `n`. -/
def countBits {w : Nat} (v : BitVec w) (n : Nat) : Nat := ((upTo n).filter fun i => v.getLsbD i).length

/-- READ_BANK (R43). -/
def execReadBank (h : Head) (b : Nat) (s : State) : Host.Outcome State Fault Refusal :=
  s.host (.readBank h b) fun s =>
    let k := s.store.bank (bank b)
    s.request 0x36 h [(decide (1 < b), .outOfRange), (k.state == .damaged, .wrongState)] id fun _ =>
      .bank k.state (if k.state = .erased ∨ s.store.erasing (bank b) then none else k.header) k.headerWritten k.written
        (countBits k.written 64) (s.store.opOn (bank b)) k.read.report

/-- The write of a page is in flight (R44). -/
def Store.writingPage (s : Store) (b : Bank) (p : Nat) : Bool :=
  match s.op with
  | some (.page c q _) => c == b && q.val == p
  | _ => false

/-- READ_ENTRIES (R44). -/
def execReadEntries (h : Head) (b p : Nat) (s : State) : Host.Outcome State Fault Refusal :=
  s.host (.readEntries h b p) fun s =>
    let k := s.store.bank (bank b)
    s.request 0x37 h
      [(decide (1 < b) || decide (63 < p), .outOfRange), (k.state == .erased || k.state == .damaged, .wrongState),
       (s.store.writingPage (bank b) p || s.store.erasing (bank b), .busy)] id
      fun _ => .entries (k.written.getLsbD p) (k.pages.get (page p)).slots

/-! ### The settings block (R202, R203) -/

/-- The settings block's contents as the blocks stand (R202, R203). -/
def State.capture (s : State) (autorun warmAdopt : Bool) : Settings :=
  { transmitters := txVector fun t => (s.tr t).desc
    columns := colVector fun c => (s.matrix.column c).desc
    serial := s.store.serial
    withdrawn := allCols.foldl (fun v c => if (s.matrix.column c).withdrawn then setBit v c.val else v) 0
    suspect := allCols.foldl (fun v c => if (s.matrix.column c).suspect then setBit v c.val else v) 0
    limits := s.limits
    reflected := txVector fun t => (s.stations.get t).refl.config
    forward := txVector fun t => (s.stations.get t).fwd.config
    protection := s.protection
    lines := lineVector fun l => (s.lines.get l).kind
    members := memberVector fun m => (s.ilu.members.get m).config
    enables := s.out.enables
    autorun := autorun, warmAdopt := warmAdopt }

/-- SAVE_SETTINGS (R203). -/
def execSaveSettings (h : Head) (autorun warmAdopt : Option Bool) (s : State) : Host.Outcome State Fault Refusal :=
  s.host (.saveSettings h autorun warmAdopt) fun s =>
    let a := autorun.getD false
    let w := warmAdopt.getD false
    s.request 0x72 h [(autorun.isNone || warmAdopt.isNone, .badField), (s.store.op.isSome, .busy)]
      (fun s => s.onStore fun k => { k.start (.settings (s.capture a w)) with autorun := a, warmAdopt := w })
      (fun _ => .empty)

/-- SETTINGS_WRITE_COMPLETE (R203, R36). Its WRITE_DONE has the detail none, which the model sends as no detail byte
(log 12). -/
def execSettingsWriteComplete (s : State) : Host.Outcome State Fault Refusal :=
  s.take fun s => match s.store.op with
    | some (.settings g) =>
      (s.onStore fun k => { k.idle with settings := some g }).onOut fun o => o.event .writeDone .settings []
    | _ => s

end Sys2Proof.Machine
end

