-- ==== Sys2Proof/Machine/HallDescription.lean ====
section
/-! DEFINITION. The hall description's requests (01) and the consequences of a description change. -/

namespace Sys2Proof.Machine

/-- A VALID bank returns to CLOSED at a description change, with DESCRIPTION_CHANGED (R12, R16). -/
def State.closeValid (s : State) (b : Bank) : State :=
  if (s.store.bank b).state = .valid then
    { s with
      store := s.store.writeCell b fun k => k.goto .closed
      out := s.out.event .descriptionChanged (.bank b) [] }
  else s

/-- A description change (R11-R13): the serial number advances, VALID banks become CLOSED, a running check is ABORTED.
The spec orders neither the events of one description change nor its cell writes: bank 0, then bank 1, then the check,
all after the TX_LOCKED of R4, is the model's choice (log 43). -/
def State.descriptionChange (s : State) : State :=
  let s := s.onStore fun k => { k with serial := k.serial + 1 }
  ((s.closeValid 0).closeValid 1).cutCheck .aborted

/-- The transmitter's state is one in which its description may change: READY, LOCKED or DARK (R3 test 4). -/
def TxState.idle (x : TxState) : Bool := x == .ready || x.off

/-- Polling of a present and available transmitter begins (R4, R5): LOCKED again with its kept reason, or
DARK(PORT_SILENT) after MUTE and STAT? (log 20). -/
def Bench.beginPolling (e : Env) (b : Bench) : Bench :=
  let b := b.tr fun r => { r with silence := 0 }
  match b.u.tr.lock with
  | some why => (b.lock e why none).pollInstant e
  | none =>
    ((b.tr fun r => { r with state := .dark .portSilent, poll := some 0 }).sendMute e).order e .stat

/-- Polling stops and the transmitter is DARK for a reason of its description (R4, R5). -/
def Bench.stopPolling (e : Env) (why : DarkReason) (b : Bench) : Bench :=
  (b.tr fun r => { r with poll := none, startup := if r.startup = .none then .none else .done }).darken e why

/-- Writes the six fields and follows a change of presence (R4). -/
def Bench.describe (d : TxDesc) (e : Env) (b : Bench) : Bench :=
  let old := b.u.tr.desc
  let new : TxDesc := { d with available := old.available }
  let b := b.tr fun r => { r with desc := new }
  if old.present = new.present then b
  else if new.present then (if new.available then b.beginPolling e else b.darken e .withheld)
  else b.stopPolling e .absent

/-- The six check-relevant fields agree (R11). -/
def TxDesc.same (a b : TxDesc) : Bool := a == { b with available := a.available }

/-- SET_TRANSMITTER (R3, R4). -/
def execSetTransmitter (h : Head) (t : Nat) (present : Bool) (rated step low high programmes : Nat) (s : State) :
    Host.Outcome State Fault Refusal :=
  s.host (.setTransmitter h t present rated step low high programmes) fun s =>
    let d : TxDesc := { present := present, rated := rated, step := step, low := low, high := high
                        programmes := programmes, available := true }
    let ranges : Bool := decide (11 < t) || outside 10 500 rated || outside 2300 26100 low ||
      outside 2300 26100 high || outside 1 16 programmes
    let fields : Bool := (step != 1 && step != 5 && step != 10 && step != 25) || !onRaster low || !onRaster high ||
      decide (high < low) || decide (rated < step)
    let old := (s.tr (tx t)).desc
    s.request 0x10 h [(ranges, .outOfRange), (fields, .badField), (!(s.tr (tx t)).state.idle, .inUse)]
      (fun s =>
        let s := s.csq (tx t) (Bench.describe d)
        if old.same d then s else s.descriptionChange)
      (fun s => .serial s.store.serial)

/-- Writes the availability and follows its change (R5). -/
def Bench.makeAvailable (v : Bool) (e : Env) (b : Bench) : Bench :=
  let old := b.u.tr.desc
  let b := b.tr fun r => { r with desc := { r.desc with available := v } }
  if old.available = v ∨ ¬ old.present then b
  else if v then b.beginPolling e
  else b.stopPolling e .withheld

/-- SET_AVAILABILITY (R5). R5 names its refusals without an order for a request that fails more than one test: the
number, then the value, then the state is the model's (log 60). -/
def execSetAvailability (h : Head) (t : Nat) (available : Option Bool) (s : State) :
    Host.Outcome State Fault Refusal :=
  s.host (.setAvailability h t available) fun s =>
    s.request 0x12 h
      [(decide (11 < t), .outOfRange), (available.isNone, .badField),
       (available == some false && !(s.tr (tx t)).state.idle, .inUse)]
      (fun s => s.csq (tx t) (Bench.makeAvailable (available.getD true))) (fun _ => .empty)

/-- SET_ANTENNA (R9, R10). -/
def execSetAntenna (h : Head) (c : Nat) (present : Bool) (kind : ColKind) (bands : BitVec 16) (s : State) :
    Host.Outcome State Fault Refusal :=
  s.host (.setAntenna h c present kind bands) fun s =>
    let load : Bool := decide (32 ≤ c)
    let fields : Bool := decide (16383 < bands.toNat) || (!load && kind == .load) || (load && kind != .load) ||
      (load && bands != 16383)
    let u := s.matrix.use (col c)
    let d : ColDesc := { present := present, kind := kind, bands := bands.setWidth 14 }
    let old := (s.matrix.column (col c)).desc
    s.request 0x11 h
      [(decide (35 < c), .outOfRange), (fields, .badField), (u == .claimed || u == .live, .inUse)]
      (fun s =>
        let s := { s with matrix := s.matrix.onColumn (col c) fun k => { k with desc := d } }
        if old.present = d.present ∧ old.bands = d.bands then s else s.descriptionChange)
      (fun s => .serial s.store.serial)

/-! ### The host's orders on a transmitter (R137-R139) -/

/-- Handles an accepted MANUAL_TUNE: the manual hold flag, END(SUPERSEDED) of the transmission replaced and its
schedule work report, then a continuation or a MANUAL context (R121, R122, R137). -/
def Bench.manualStart (q : StartRequest) (e : Env) (b : Bench) : Bench :=
  let b := b.tr fun r => { r with manualHold := true }
  let b := match b.u.tr.current with
    | some x => (b.endRecord e .superseded).workEnded e x.work
    | none => b
  b.begin_ e q

/-- The expected column is given and differs from the row's CLOSED column (R137 test 6). One above 35 is given and differs,
so it is STALE: the model takes test 2's column for the column ordered alone (log 56). -/
def staleColumn (x : Expected) (closed : Option Col) : Bool :=
  match x with
  | .absent => false
  | .noColumn => closed.isSome
  | .column c => closed.map (·.val) != some c

/-- MANUAL_TUNE (R137). The order among the tests of number 2 and among the field tests of R7, BAD_FIELD before the power's
OUT_OF_RANGE, is the model's (log 60). -/
def execManualTune (h : Head) (o : TuneOrder) (s : State) : Host.Outcome State Fault Refusal :=
  s.host (.manualTune h o) fun s =>
    let t := tx o.transmitter
    let r := s.tr t
    let q : StartRequest := { work := none, late := false, column := col o.column, reserve := none, kHz := o.kHz
                              kW := o.kW, programme := o.programme, priority := 3 }
    s.request 0x50 h
      [(decide (11 < o.transmitter) || decide (35 < o.column), .outOfRange), (o.override.isNone, .badField),
       (!onRaster o.kHz || !r.desc.fits o.kHz o.programme || !(s.matrix.column (col o.column)).desc.permits o.kHz,
        .badField),
       (decide (o.kW < r.desc.step) || decide (r.desc.rated < o.kW), .outOfRange),
       (r.state != .ready && r.state != .onAir, .wrongState),
       ((r.current.any fun x => x.work.isSome) && o.override == some false, .scheduleOwned),
       (staleColumn o.expected (s.matrix.closedIn t).head?, .stale)]
      (fun s => s.csq t (Bench.manualStart q)) (fun _ => .empty)

/-- MANUAL_END (R138). -/
def execManualEnd (h : Head) (t : Nat) (s : State) : Host.Outcome State Fault Refusal :=
  s.host (.manualEnd h t) fun s =>
    s.request 0x51 h [(decide (11 < t), .outOfRange), ((s.tr (tx t)).state.idle, .wrongState)]
      (fun s => s.csq (tx t) fun e b => b.endWork e .manual .abandoned) (fun _ => .empty)

/-- RESUME_SCHEDULE (R138). -/
def execResumeSchedule (h : Head) (t : Nat) (s : State) : Host.Outcome State Fault Refusal :=
  s.host (.resumeSchedule h t) fun s =>
    s.request 0x52 h [(decide (11 < t), .outOfRange), (!(s.tr (tx t)).manualHold, .wrongState)]
      (fun s => s.csq (tx t) fun _ b => b.tr fun r => { r with manualHold := false }) (fun _ => .empty)

/-- The state is LOCKED. -/
def TxState.isLocked : TxState → Bool | .locked _ => true | _ => false

/-- RELEASE_TRANSMITTER (R139). -/
def execReleaseTransmitter (h : Head) (t : Nat) (s : State) : Host.Outcome State Fault Refusal :=
  s.host (.releaseTransmitter h t) fun s =>
    s.request 0x53 h [(decide (11 < t), .outOfRange), (!(s.tr (tx t)).state.isLocked, .wrongState)]
      (fun s => s.csq (tx t) fun e b => (b.tr fun r => { r with state := .ready, lock := none }).sendMute e)
      (fun _ => .empty)

/-- READ_TRANSMITTER (R139, R169). -/
def execReadTransmitter (h : Head) (t : Nat) (s : State) : Host.Outcome State Fault Refusal :=
  s.host (.readTransmitter h t) fun s =>
    s.request 0x61 h [(decide (11 < t), .outOfRange)] id fun s => .transmitter (s.stations.get (tx t)) s.mains.state

end Sys2Proof.Machine
end

