-- ==== Sys2Proof/Machine/EngineOps.lean ====
section
/-! DEFINITION. The Schedule Engine's shared operations (05): gathering and filling the Upcoming List, taking START and
END firings, the late-start scan, the clock-step rules, the season switch. -/

namespace Sys2Proof.Machine

/-- The engine changed. -/
def State.onEngine (s : State) (f : Engine → Engine) : State := { s with engine := f s.engine }

/-- The used entries of a bank in walk order. -/
def State.entries (s : State) (b : Bank) : List Entry := (s.store.bank b).used.map (·.2)

/-- The work of an entry's window on a day. -/
def Entry.work (e : Entry) (b : Bank) (day : Nat) : SchedRef :=
  { bank := b, entry := e.number, day := day, windowEnd := e.ends day }

/-! ### The Upcoming List (R69, R70) -/

/-- The order of firings of one minute: END before START, then by transmitter (R69). -/
def Firing.key (f : Firing) : Nat := (match f.kind with | .end_ => 0 | .start => 16) + f.t.val

/-- The firings of a minute, in list order; no STARTs while DRAINING (R70). A firing is placed once: an END that the
ACTIVE bank and a carried record both give is one firing (R69, log 46). Two different ENDs of one transmitter at one
minute are not ordered by the spec: the bank's comes first (log 46). The minutes after 2099-12-31 that a fill in its last
hour reaches are read as if the calendar went on, which the spec leaves open (log 49). -/
def State.gather (s : State) (x : Nat) : List Firing :=
  let day := x / 1440
  let ofBank : List Firing := match s.store.active with
    | none => []
    | some b => (s.entries b).flatMap fun e =>
      let t := tx e.transmitter
      let starts : List Firing :=
        if s.engine.state ≠ .draining ∧ e.begins day = x ∧ e.inEffect day then [⟨x, .start, b, e.number, day, t⟩] else []
      let ends : List Firing := [day, day - 1].eraseDups.filterMap fun d =>
        if e.ends d = x ∧ e.inEffect d then some ⟨x, .end_, b, e.number, d, t⟩ else none
      ends ++ starts
  let ofCarried := s.engine.carried.filterMap fun k =>
    if k.endTime = x then some (⟨x, .end_, k.bank, k.entry, k.day, k.t⟩ : Firing) else none
  sortBy Firing.key (ofBank ++ ofCarried).eraseDups

/-- What a fill has done: the list, the fill point, and the minute of a firing it left out. -/
structure Filling where
  list : List Firing
  next : Nat
  placed : Nat
  left : Option Nat

/-- Fills `n` minutes from where the filling stands, stopping at the first firing that finds the list full (R70). A
minute placed in part goes on with its firings that the list does not hold yet, whatever has become of those it
holds (log 27). -/
def State.fillMinutes (s : State) : Nat → Filling → Filling
  | 0, k => k
  | n + 1, k =>
    let fs := (s.gather k.next).filter fun f => !k.list.contains f
    let room := Config.upcomingSize - k.list.length
    if fs.length ≤ room then State.fillMinutes s n { list := k.list ++ fs, next := k.next + 1, placed := 0, left := none }
    else { list := k.list ++ fs.take room, next := k.next, placed := k.placed + room, left := some k.next }

/-- Refills the list up to the current minute plus 59 (R70); a fill that leaves a firing out raises HORIZON_OVERFLOW
unless the fill before it left one out. -/
def State.refill (s : State) (now : Nat) : State :=
  match s.engine.fill with
  | none => s
  | some f =>
    let k := s.fillMinutes (now + 60 - f.next) { list := s.engine.upcoming, next := f.next, placed := f.placed, left := none }
    let overflow : Bool := k.left.isSome && !s.engine.leftOut
    let s := s.onEngine fun g =>
      { g with upcoming := k.list, fill := some { next := k.next, placed := k.placed }, leftOut := k.left.isSome }
    if overflow then
      s.onOut fun o => o.event .horizonOverflow (match s.store.active with | some b => .bank b | none => .none)
        (b2 (k.left.getD 0 % 1440))
    else s

/-- A rebuild: the list emptied and filled from the current minute (R70). -/
def State.rebuild (s : State) (now : Nat) : State :=
  (s.onEngine fun g => { g with upcoming := [], fill := some { next := now, placed := 0 } }).refill now

/-! ### The Fired Table (R72) -/

/-- The date the Fired Table holds for an entry number. -/
def Engine.firedOn (g : Engine) (entry : Nat) : Option Nat := g.fired.get (Fin.ofNat 512 entry)
/-- Records a window date for an entry number. -/
def Engine.fire (g : Engine) (entry day : Nat) : Engine :=
  { g with fired := upd g.fired (Fin.ofNat 512 entry) (some day) }

/-! ### Schedule work -/

/-- A firing names the work. -/
def SchedRef.is (w : SchedRef) (b : Bank) (entry day : Nat) : Bool := w.bank == b && w.entry == entry && w.day == day

/-- Removes the carried record of a transmitter's work (R80, R84, R89). -/
def Engine.uncarry (g : Engine) (t : Tx) (b : Bank) (entry day : Nat) : Engine :=
  { g with carried := g.carried.filter fun k => !(k.t == t && k.bank == b && k.entry == entry && k.day == day) }

/-- The Upcoming List and the Carried List are emptied and the fill point is none; the engine is HALTED (R75, R76). The
spec does not say whether the fill before a HALT is 'the fill before it' of R70 for the first one after RUN: the model
forgets it, so that fill raises HORIZON_OVERFLOW if it leaves a firing out (log 48). -/
def Engine.halt (g : Engine) : Engine :=
  { g with state := .halted, upcoming := [], carried := [], fill := none, leftOut := false }

/-- In DRAINING, the engine becomes HALTED when no transmitter carries schedule work (R75). -/
def State.drainTest (s : State) : State :=
  if s.engine.state = .draining ∧ allTx.all (fun t => (s.tr t).work.isNone) then s.onEngine Engine.halt else s

/-- Removes a waiting request of the schedule that satisfies a test and records it MISSED (R81). -/
def Bench.missIf (p : SchedRef → Bool) (why : Detail) (e : Env) (b : Bench) : Bench :=
  if b.u.tr.slot.any fun q => q.work.any p then b.missSlot e why else b

/-! ### Taking a START (R78-R82) -/

/-- A START decided MISSED: its record and its event (R82). -/
def State.missStart (s : State) (b : Bank) (e : Entry) (day : Nat) (why : Detail) : State :=
  s.onOut fun o =>
    o.missed s.clock.reading (tx e.transmitter) (some (e.work b day)) (col e.primary) e.kHz why

/-- The start request of an entry, its reserve left out when it fails the column test (R78, R79). -/
def State.startRequest (s : State) (b : Bank) (e : Entry) (day : Nat) (late : Bool) : StartRequest :=
  { work := some (e.work b day), late := late, column := col e.primary
    reserve := match e.reserveCol with
      | some c => if (s.matrix.column c).desc.permits e.kHz then some c else none
      | none => none
    kHz := e.kHz, kW := e.kW, programme := e.programme, priority := Fin.ofNat 4 e.priority }

/-- The re-test of an entry against the descriptions in force (R78). -/
def State.retest (s : State) (e : Entry) : Bool :=
  (s.tr (tx e.transmitter)).desc.fits e.kHz e.programme && (s.matrix.column (col e.primary)).desc.permits e.kHz

/-- What becomes of an entry that passes the re-test (R79). -/
inductive StartDecision where
  | missed (why : Detail)
  | waits
  | handed
deriving DecidableEq, Repr

/-- The decision by the transmitter's state and manual hold flag, in the order of R79. -/
def TxRecord.decision (r : TxRecord) : StartDecision :=
  match r.state with
  | .dark _ => .missed .transmitterDark
  | .locked _ => .missed .transmitterLocked
  | x =>
    if r.manualHold then .missed .manualHold
    else if x = .changing ∨ x = .held then .waits
    else .handed

/-- The detail of the END record that SEN writes for a replaced transmission (R80). For a carried transmission whose bank
number is ACTIVE again after a further switch R80's test gives SUPERSEDED and R89's words END(SEASON): the model takes
R80's test (log 50). -/
def State.replaced (s : State) (x : Transmission) : Detail :=
  match x.work with
  | some w => if s.store.active = some w.bank then .superseded else .season
  | none => .superseded

/-- Writes the END record of the transmission that a START replaces, removes its carried record and reports its work
ended (R80, log 32). -/
def State.closeReplaced (s : State) (t : Tx) (detail : Detail) : State :=
  match (s.tr t).current with
  | none => s
  | some x =>
    let s := s.csq t fun e b => (b.endRecord e detail).workEnded e x.work
    match x.work with
    | some w => s.onEngine fun g => g.uncarry t w.bank w.entry w.day
    | none => s

/-- Hands a START as a new changeover (R80); `followed`: the END record of the replaced transmission is written. -/
def State.handStart (s : State) (t : Tx) (q : StartRequest) (followed : Bool) : State :=
  let s := if q.late then s.onOut fun o => o.event .lateStart (.transmitter t) [] else s
  let s := if followed then s else match (s.tr t).current with
    | some x => s.closeReplaced t (s.replaced x)
    | none => s
  s.csq t fun e b => b.begin_ e q

/-- Places a request in the Pending slot; one already there is MISSED(SUPERSEDED) (R81). A HELD transmitter whose hold
set is empty takes it up (R132). -/
def Bench.place (q : StartRequest) (e : Env) (b : Bench) : Bench :=
  let b := (b.missSlot e .superseded).tr fun r => { r with slot := some q }
  if b.u.tr.state = .held ∧ b.u.tr.holds.empty then b.takeUp e else b

/-- Takes a window to start (R78, R79): once for its date, through the re-test and the transmitter's state. -/
def State.takeStart (s : State) (b : Bank) (e : Entry) (day : Nat) (late followed : Bool) : State :=
  if s.engine.firedOn e.number = some day then s
  else
    let s := s.onEngine fun g => g.fire e.number day
    let t := tx e.transmitter
    if ¬ s.retest e then s.missStart b e day .description
    else match (s.tr t).decision with
      | .missed why => s.missStart b e day why
      | .waits => s.csq t (Bench.place (s.startRequest b e day late))
      | .handed => s.handStart t (s.startRequest b e day late) followed

/-- A START firing would be handed as a new changeover (R83). -/
def State.wouldHand (s : State) (e : Entry) (day : Nat) : Bool :=
  s.engine.firedOn e.number != some day && s.retest e && (s.tr (tx e.transmitter)).decision == .handed

/-- The entry of a bank with a number. -/
def State.entryOf (s : State) (b : Bank) (n : Nat) : Option Entry := (s.entries b).find? fun e => e.number == n

/-- Takes a START firing. -/
def State.fireStart (s : State) (f : Firing) (followed : Bool) : State :=
  match s.entryOf f.bank f.entry with
  | some e => s.takeStart f.bank e f.day false followed
  | none => s

/-! ### Taking an END (R83, R84) -/

/-- Takes an END firing outside the pairing (R84). -/
def State.fireEnd (s : State) (f : Firing) : State :=
  let is (w : SchedRef) : Bool := w.is f.bank f.entry f.day
  let r := s.tr f.t
  let s := if r.current.any (fun x => x.work.any is) || r.context.any (fun c => c.work.any is) then
      s.csq f.t fun e b => b.endWork e .window .abandoned
    else s
  let s := s.csq f.t (Bench.missIf is .tooLate)
  s.onEngine fun g => g.uncarry f.t f.bank f.entry f.day

/-- The END firing matches the transmitter's current transmission (R84). -/
def State.matchesCurrent (s : State) (f : Firing) : Bool :=
  (s.tr f.t).current.any fun x => x.work.any fun w => w.is f.bank f.entry f.day

/-- Takes an END and a START of one transmitter due together, the END first (R83). -/
def State.firePair (s : State) (f g : Firing) : State :=
  let follows : Bool := s.engine.state == .running && s.matchesCurrent f &&
    ((s.entryOf g.bank g.entry).any fun e => s.wouldHand e g.day)
  if follows then (s.closeReplaced f.t .followed).fireStart g true
  else (s.fireEnd f).fireStart g false

/-- The due firing of a list with a kind and a transmitter. -/
def dueOf (now : Nat) (kind : FiringKind) (t : Tx) (fs : List Firing) : Option Firing :=
  fs.find? fun g => decide (g.time ≤ now) && g.kind == kind && g.t == t

/-- The list with its Upcoming List set. -/
def State.listed (s : State) (fs : List Firing) : State := s.onEngine fun k => { k with upcoming := fs }

/-- Takes at most `n` due firings in list order; an END meets the START of its transmitter that is due with it
(R71 step 4, R83). Of two ENDs due with one START, the one that matches the current transmission is the one the START
meets, and the other is taken before it, an END first (log 46). -/
def State.takeDue (now : Nat) : Nat → State → State
  | 0, s => s
  | n + 1, s =>
    match s.engine.upcoming with
    | [] => s
    | f :: rest =>
      if now < f.time then s
      else match f.kind with
        | .start => State.takeDue now n ((s.listed rest).fireStart f false)
        | .end_ =>
          match dueOf now .start f.t rest, dueOf now .end_ f.t rest with
          | some _, some h =>
            if s.matchesCurrent f then State.takeDue now n ((s.listed (f :: rest.erase h)).fireEnd h)
            else State.takeDue now n ((s.listed rest).fireEnd f)
          | some g, none => State.takeDue now n ((s.listed (rest.erase g)).firePair f g)
          | none, _ => State.takeDue now n ((s.listed rest).fireEnd f)

/-- Takes every due firing (R71 step 4). -/
def State.takeAllDue (s : State) (now : Nat) : State := State.takeDue now s.engine.upcoming.length s

/-! ### Late start (R85) -/

/-- The late-start scan's work on one entry and one window date. -/
def State.scanWindow (b : Bank) (e : Entry) (now day : Nat) (s : State) : State :=
  if e.inEffect day ∧ e.begins day ≤ now ∧ now < e.ends day ∧ s.engine.firedOn e.number ≠ some day then
    if now + 2 ≤ e.ends day then s.takeStart b e day true false
    else (s.onEngine fun g => g.fire e.number day).missStart b e day .tooLate
  else s

/-- The late-start scan (R85). -/
def State.lateScan (s : State) (now : Nat) : State :=
  match s.store.active with
  | none => s
  | some b =>
    let day := now / 1440
    (s.entries b).foldl (fun s e =>
      let s := s.scanWindow b e now day
      if day = 0 then s else s.scanWindow b e now (day - 1)) s

/-! ### Running (R73) and the clock-step rules (R86) -/

/-- Ends the schedule work of a transmitter whose window end is at or before a minute, as an END firing does (R73,
R86 step 2). An END that is over in the same event lets a Pending request be taken up here (R132), the model's choice
in R86's order (log 68). -/
def State.endPassed (now : Nat) (s : State) (t : Tx) : State :=
  match (s.tr t).work with
  | some w =>
    if w.windowEnd ≤ now then
      (s.csq t fun e b => b.endWork e .window .abandoned).onEngine fun g => g.uncarry t w.bank w.entry w.day
    else s
  | none => s

/-- Starts the engine (R73, R77). -/
def State.startEngine (s : State) (now : Nat) : State :=
  let s := s.onEngine fun g => { g with state := .running, armed := false }
  let s := allTx.foldl (State.endPassed now) s
  ((s.rebuild now).takeAllDue now).lateScan now

/-- The windows that a forward step passes over: begun after the previous minute, ended by the new one, begun at or
after the bank's effective start and no more than 1,440 minutes before the new minute (R86 step 1), in order of
beginning, then transmitter, then walk order. -/
def State.passedWindows (s : State) (b : Bank) (previous now : Nat) : List (Entry × Nat) :=
  let effective := match (s.store.bank b).header with
    | some h => h.date.number * 1440 + h.minute
    | none => 0
  let days := [now / 1440 - 2, now / 1440 - 1, now / 1440].eraseDups
  let all := (s.entries b).flatMap fun e => days.filterMap fun d =>
    if e.inEffect d ∧ previous < e.begins d ∧ e.ends d ≤ now ∧ effective ≤ e.begins d ∧ now ≤ e.begins d + 1440 then
      some (e, d)
    else none
  sortBy (fun q => (q.1.begins q.2) * 16 + q.1.transmitter) all

/-- Records a passed window MISSED(CLOCK_STEP) unless the Fired Table holds its date (R86 step 1). -/
def State.missPassed (b : Bank) (s : State) (q : Entry × Nat) : State :=
  if s.engine.firedOn q.1.number = some q.2 then s
  else (s.onEngine fun g => g.fire q.1.number q.2).missStart b q.1 q.2 .clockStep

/-- The clock-step rules, in the order of R86: the passed windows, the ENDs, the passed Pending requests and the rebuild;
a step that is not forward makes the rebuild alone (R87). DESIGN CHOICE (log 68, unsafe): where an END of step 2 is over
in the same event (RF ABSENT, R117, R133), the Pending request is taken up (R132) before step 3, even when its own window
has passed; the spec leaves open which comes first. -/
def State.clockStepRules (s : State) (previous now : Nat) : State :=
  let s :=
    if previous < now then
      let s := match s.store.active with
        | some b => (s.passedWindows b previous now).foldl (State.missPassed b) s
        | none => s
      let s := allTx.foldl (State.endPassed now) s
      s.onEach fun e b => (Bench.missIf (fun w => decide (w.windowEnd ≤ now)) .clockStep e b).reportRow e
    else s
  s.rebuild now

/-! ### The season switch (R88-R90) -/

/-- A bank's effective start in minutes. -/
def SeasonBank.effective (b : SeasonBank) : Option Nat := b.header.map fun h => h.date.number * 1440 + h.minute

/-- A VALID bank whose effective start is at or before a minute (R88). -/
def State.eligible (s : State) (now : Nat) (b : Bank) : Bool :=
  (s.store.bank b).state == .valid && (s.store.bank b).effective.any fun x => decide (x ≤ now)

/-- The bank that a boundary makes ACTIVE, if any (R88). -/
def State.switchTo (s : State) (now : Nat) : Option Bank :=
  if s.eligible now 0 ∧ s.eligible now 1 then
    (if (s.store.bank 1).effective.getD 0 < (s.store.bank 0).effective.getD 0 then some 0 else some 1)
  else if s.eligible now 0 then some 0
  else if s.eligible now 1 then some 1
  else none

/-- Releases a transmitter's schedule work from the schedule, or only that of one bank: it becomes of origin MANUAL
(R76, R88, R140). DESIGN CHOICE (log 69, unsafe): the spec makes the transmission MANUAL and is silent on the context's
own origin item (R121); SCHEDULE there becomes MANUAL, and RESERVE, RESUME and END stay. -/
def Bench.release (only : Option Bank) (_e : Env) (b : Bench) : Bench :=
  let free (w : Option SchedRef) : Option SchedRef :=
    match w, only with
    | some w, some k => if w.bank = k then none else some w
    | _, _ => none
  b.tr fun r =>
    { r with
      current := r.current.map fun x => { x with work := free x.work }
      context := r.context.map fun c =>
        { c with work := free c.work
                 origin := if c.origin = .schedule ∧ (free c.work).isNone then .manual else c.origin } }

/-- Carries a work of a transmitter. A record of another work of the transmitter names a work that has ended, its report
being still on its way; it gives way, so that the list holds one record of a transmitter at most (R89, log 47). -/
def Engine.carry (g : Engine) (t : Tx) (w : SchedRef) : Engine :=
  let k : Carried := { t := t, bank := w.bank, entry := w.entry, day := w.day, endTime := w.windowEnd }
  if k ∈ g.carried then g else { g with carried := (g.carried.filter fun c => c.t != t) ++ [k] }

/-- Carries a transmitter's schedule work from the retired bank (R89). -/
def State.carry (retired : Bank) (s : State) (t : Tx) : State :=
  match (s.tr t).work with
  | some w => if w.bank = retired then s.onEngine fun g => g.carry t w else s
  | none => s

/-- Makes a bank ACTIVE: its cell with an activation number one above the other's, then the other bank RETIRED if it
was ACTIVE, or VALID with a passed effective start (R34, R88). -/
def Store.activate (k : Store) (b : Bank) (retireOther : Bool) : Store :=
  let n := (k.bank (otherBank b)).read.activation + 1
  let k := k.writeCell b fun q => q.change fun c => { c with state := .active, activation := n }
  if retireOther then k.writeCell (otherBank b) fun q => q.goto .retired else k

/-- A season switch to a bank (R88, R89). -/
def State.makeSwitch (s : State) (now : Nat) (b : Bank) : State :=
  let other := otherBank b
  let wasActive : Bool := (s.store.bank other).state == .active
  let code := match (s.store.bank b).header with | some h => h.code.toArray.toList | none => []
  let s := s.onStore fun k => k.activate b (wasActive || s.eligible now other)
  let s := s.onOut fun o => o.event .seasonSwitched (.bank b) code
  let s := s.onEngine fun g => { g with fired := Vector.replicate 512 none }
  if s.engine.state = .halted then s.onEach (Bench.release (some other))
  else
    let s := allTx.foldl (State.carry other) s
    s.onEach fun e x => (Bench.missIf (fun w => w.bank == other) .season e x).reportRow e

/-- Raises SEASON_MISSED for a bank whose effective start passes at the boundary in one of four states (R90). -/
def State.missSeason (previous now : Nat) (s : State) (b : Bank) : State :=
  let k := s.store.bank b
  let passes : Bool := k.effective.any fun x => decide (previous < x) && decide (x ≤ now)
  let state : Bool := k.state == .opened || k.state == .closed || k.state == .checking || k.state == .rejected
  if passes && state then s.onOut fun o => o.event .seasonMissed (.bank b) (b1 k.state.code) else s

/-- Step 1 of a boundary that carries SET: the season switch and the missed switch (R71, R88, R90). Where both banks'
effective starts pass at one boundary, bank 0's SEASON_MISSED is raised first, the model's order (log 54). -/
def State.seasonStep (s : State) (previous now : Nat) : State :=
  let s := match s.switchTo now with | some b => s.makeSwitch now b | none => s
  [(0 : Bank), 1].foldl (State.missSeason previous now) s

end Sys2Proof.Machine
end

