-- ==== Sys2Proof/Machine/ScheduleEngine.lean ====
section
/-! DEFINITION. The meanings of the Schedule Engine's commands (05): minute boundaries, RUN, HALT, READ_UPCOMING and the
report that a work of the schedule has ended. -/

namespace Sys2Proof.Machine

/-- Steps 3 to 6 of a boundary in RUNNING or DRAINING (R71). -/
def State.serveBoundary (s : State) (b : Boundary) (switched : Bool) : State :=
  let s := match b.kind with
    | .step => s.clockStepRules (b.previous.getD b.now) b.now
    | .advance => if switched then s.rebuild b.now else s
  let s := (s.takeAllDue b.now).refill b.now
  if s.engine.state = .running ∧ (b.kind = .step ∨ switched) then s.lateScan b.now else s

/-- SEN takes a minute boundary (R71). -/
def State.boundary (s : State) (b : Boundary) : State :=
  let previous := b.previous.getD (b.now - 1)
  let switched : Bool := b.clockSet && (s.switchTo b.now).isSome
  let s := if b.clockSet then s.seasonStep previous b.now else s
  if s.engine.state = .halted then
    if s.engine.armed ∧ b.clockSet ∧ s.store.active.isSome then s.startEngine b.now else s
  else s.serveBoundary b switched

/-- MINUTE_BOUNDARY (R71); not taken before start-up has ended (R210). -/
def execMinuteBoundary (b : Boundary) (s : State) : Host.Outcome State Fault Refusal :=
  s.take fun s => if s.boot.phase = .done then s.boundary b else s

/-- SCHEDULE_WORK_ENDED: the carried record of that work goes, and a drain may end (R75, R89). -/
def execScheduleWorkEnded (t : Tx) (w : SchedRef) (s : State) : Host.Outcome State Fault Refusal :=
  s.take fun s => (s.onEngine fun g => g.uncarry t w.bank w.entry w.day).drainTest

/-- RUN (R73). -/
def execRun (h : Head) (s : State) : Host.Outcome State Fault Refusal :=
  s.host (.run h) fun s =>
    s.request 0x40 h
      [(s.engine.state == .running, .wrongState), (!s.clock.isSet, .clockNotSet),
       (s.store.active.isNone, .noSeason)]
      (fun s => s.startEngine s.now) (fun _ => .empty)

/-- Empties the Pending slots of the schedule's requests, each MISSED(HALTED) (R74, R76). -/
def State.missHalted (s : State) : State :=
  s.onEach fun e b => (Bench.missIf (fun _ => true) .halted e b).reportRow e

/-- HALT with mode DRAIN (R74); `named` false is a mode that is neither DRAIN nor STOP. -/
def execHaltDrain (h : Head) (named : Bool) (s : State) : Host.Outcome State Fault Refusal :=
  s.host (.haltDrain h named) fun s =>
    s.request 0x41 h [(!named, .badField), (s.engine.state != .running, .wrongState)]
      (fun s =>
        (s.onEngine fun g =>
          { g with state := .draining, armed := false
                   upcoming := g.upcoming.filter fun f => f.kind == .end_ }).missHalted.drainTest)
      (fun _ => .empty)

/-- HALT with mode STOP (R76). -/
def execHaltStop (h : Head) (s : State) : Host.Outcome State Fault Refusal :=
  s.host (.haltStop h) fun s =>
    s.request 0x41 h [(s.engine.state == .halted, .wrongState)]
      (fun s =>
        (s.onEngine fun g => { g.halt with armed := false }).missHalted.onEach (Bench.release none))
      (fun _ => .empty)

/-- READ_UPCOMING (R91). -/
def execReadUpcoming (h : Head) (index : Nat) (s : State) : Host.Outcome State Fault Refusal :=
  s.host (.readUpcoming h index) fun s =>
    s.request 0x42 h [(decide (127 < index), .outOfRange)] id fun s =>
      .upcoming s.engine.state s.store.active s.engine.upcoming.length s.engine.fill s.engine.carried.length
        ((s.engine.upcoming.drop index).take 16)

end Sys2Proof.Machine
end

