-- ==== Sys2Proof/Machine/HostLinkUnit.lean ====
section
/-! DEFINITION. The Host Link Interface (10) and the Transmission Log's read-out (11): frames and their check, the
receiver, the request queue, the outgoing line, notices, status. -/

namespace Sys2Proof.Machine

/-! ### Frames (R186) -/

/-- One bit of the check: the polynomial 0x1021, most significant bit first. -/
def crcBit (c : BitVec 16) : BitVec 16 := if c.getLsbD 15 then (c <<< 1) ^^^ 0x1021#16 else c <<< 1
/-- `n` bits of the check. -/
def crcBits : Nat → BitVec 16 → BitVec 16
  | 0, c => c
  | n + 1, c => crcBits n (crcBit c)
/-- One byte of the check. -/
def crcByte (c : BitVec 16) (b : Byte) : BitVec 16 := crcBits 8 (c ^^^ ((b.setWidth 16) <<< 8))
/-- CRC-16 over bytes, from 0xFFFF (R186). -/
def crc16 (bytes : List Byte) : BitVec 16 := bytes.foldl crcByte 0xFFFF

/-- A frame with its marker, length and check (R186). -/
def frameBytes (kind tag : Byte) (body : List Byte) : List Byte :=
  let inner := b2 (body.length + 2) ++ [kind, tag] ++ body
  [0x5A] ++ inner ++ b2 (crc16 inner).toNat

/-- A log record in its 20 bytes (R199). -/
def LogRecord.bytes (r : LogRecord) : List Byte :=
  let kind := match r.kind with | .start => 0 | .end_ => 1 | .trip => 2 | .failed => 3 | .missed => 4
  b1 kind ++ b2 r.date.field.toNat ++
  [BitVec.ofNat 8 (r.second / 65536), BitVec.ofNat 8 (r.second / 256), BitVec.ofNat 8 r.second] ++
  b1 (r.t.val * 16 + r.manual.toNat) ++
  (match r.work with
    | some (b, n) => b1 b.val ++ b2 n
    | none => b1 0xFF ++ b2 0xFFFF) ++
  b1 (match r.column with | some c => c.val | none => 0xFF) ++ b2 (r.kHz.getD 0xFFFF) ++ b2 (r.kW.getD 0xFFFF) ++
  b1 r.detail.code ++ b4 r.sequence.toNat

/-- The body of an accepted reply where the spec lays it out; none where it does not (log 5). -/
def Answer.bytes : Answer → Option (List Byte)
  | .empty => some []
  | .sources flags => some [flags]
  | .logRecords overrun left rs => some (b1 overrun.toNat ++ b1 rs.length ++ b2 left ++ rs.flatMap LogRecord.bytes)
  | _ => none

/-- The bytes of a frame the part sends, where the spec lays out its body (R190, R193). -/
def LineFrame.bytes : LineFrame → Option (List Byte)
  | .refusal f => some (frameBytes 0xFE f.tag [f.kind, 8])
  | .notice lost e => some (frameBytes 0xF0 0 (e.body lost))
  | .reply r =>
    match r.verdict with
    | .refused why items => some (frameBytes 0xFE r.tag ([r.kind] ++ b1 why.code ++ items))
    | .accepted a => a.bytes.map fun body => frameBytes (r.kind + 0x80) r.tag body

/-! ### The receiver (R187, R188) -/

/-- The receiver returns to HUNTING. -/
def State.hunt (s : State) : State := s.onLink fun k => { k with receiver := .hunting, gap := none }

/-- The receiver with a byte added to the partial frame, and what that reveals: a bad length, a complete frame, or
nothing yet (R187). -/
def State.receive (bytes : List Byte) (s : State) : State :=
  let more := s.onLink fun k =>
    { k with receiver := .receiving bytes, gap := some (Timer.start Config.gapTicks) }
  match lengthField bytes with
  | none => more
  | some n =>
    if n < 2 ∨ 514 < n then s.hunt.frameFault 1
    else if bytes.length = n + 4 then s.hunt.onOut fun o => o.hand (.frameReceived bytes)
    else more

/-- RECEIVED_BYTE (R187). -/
def execReceivedByte (b : Byte) (s : State) : Host.Outcome State Fault Refusal :=
  s.take fun s => match s.link.receiver with
    | .hunting => if b = 0x5A then s.receive [] else s
    | .receiving bytes => s.receive (bytes ++ [b])

/-- LINK_GAP_EXPIRY (R187). -/
def execLinkGapExpiry (s : State) : Host.Outcome State Fault Refusal :=
  s.take fun s => match s.link.receiver with
    | .hunting => s
    | .receiving _ => s.hunt.frameFault 0

/-- The check of a complete frame agrees (R186, R187), for the bytes after its marker. -/
def checkAgrees (bytes : List Byte) : Bool :=
  let inner := bytes.take (bytes.length - 2)
  (bytes.drop (bytes.length - 2)) == b2 (crc16 inner).toNat

/-- The kind, tag and body of a complete frame. -/
def frameOf (bytes : List Byte) : Frame :=
  { kind := bytes.getD 2 0, tag := bytes.getD 3 0, body := (bytes.take (bytes.length - 2)).drop 4 }

/-! ### The outgoing line (R191) -/

/-- OUTGOING_FRAME_BEGIN: with the line free, the refusal, the reply or the oldest notice (R191, R193). A refusal placed
while another is being sent goes out next, before a waiting reply (log 59). -/
def State.beginFrame (s : State) : State :=
  if s.link.line.isSome then s
  else match s.link.refusal with
    | some f => s.onLink fun k => { k with line := some (.refusal f), refusal := none }
    | none =>
      match s.link.reply with
      | some r => s.onLink fun k => { k with line := some (.reply r) }
      | none =>
        match s.out.notices with
        | e :: rest =>
          { s with
            link := { s.link with line := some (.notice s.out.noticeLost e) }
            out := { s.out with notices := rest, noticeLost := false } }
        | [] => s

/-- OUTGOING_FRAME_BEGIN (R191). -/
def execOutgoingFrameBegin (s : State) : Host.Outcome State Fault Refusal := s.take State.beginFrame

/-! ### Requests of HLI and TLG -/

/-- SET_NOTICE_ENABLES (R194). -/
def execSetNoticeEnables (h : Head) (enables : Byte) (s : State) : Host.Outcome State Fault Refusal :=
  s.host (.setNoticeEnables h enables) fun s =>
    s.request 0x70 h [] (fun s => s.onOut fun o => { o with enables := enables }) (fun _ => .empty)

/-- CLEAR_SOURCES (R195). -/
def execClearSources (h : Head) (classes : Byte) (s : State) : Host.Outcome State Fault Refusal :=
  s.host (.clearSources h classes) fun s =>
    let before := s.out.sources
    s.request 0x71 h [] (fun s => s.onOut fun o => { o with sources := without o.sources classes })
      (fun _ => .sources before)

/-- The code of a reset cause in READ_STATUS (log 5). -/
def ResetCause.code : ResetCause → Nat | .powerOn => 0 | .resetLine => 1 | .restart => 2

/-- READ_STATUS (R196). -/
def execReadStatus (h : Head) (s : State) : Host.Outcome State Fault Refusal :=
  s.host (.readStatus h) fun s => s.request 0x60 h [] id fun s =>
    .status Config.partFamily Config.partNumber Config.partRevision s.engine.state s.store.active s.clock
      s.matrix.suspended s.store.op s.out.sources s.out.enables s.out.notices.length s.out.noticeLost
      s.link.queue.length s.boot.kind s.boot.cause.code

/-- The oldest unread records, up to eight (R201). -/
def Log.oldestUnread (l : Log) : List LogRecord := (l.records.drop (l.records.length - l.unread)).take 8

/-- READ_LOG (R201). -/
def execReadLog (h : Head) (s : State) : Host.Outcome State Fault Refusal :=
  s.host (.readLog h) fun s =>
    let l := s.out.log
    let left := l.unread - 8
    s.request 0x66 h []
      (fun s => s.onOut fun o => { o with log := { o.log with unread := left, overrun := false } })
      (fun _ => .logRecords l.overrun left l.oldestUnread)

/-- SET_START_KIND (R205). -/
def execSetStartKind (h : Head) (kind : Option StartKind) (s : State) : Host.Outcome State Fault Refusal :=
  s.host (.setStartKind h kind) fun s =>
    s.request 0x73 h [(kind.isNone, .badField)]
      (fun s => { s with boot := { s.boot with kind := kind.getD .cold } }) (fun _ => .empty)

/-- RESTART: accepted; the reset takes effect when its reply has been sent (R206, OUTGOING_FRAME_END). -/
def execRestart (h : Head) (s : State) : Host.Outcome State Fault Refusal :=
  s.host (.restart h) fun s => s.request 0x74 h [] id (fun _ => .empty)

/-- UNKNOWN_KIND (R189). -/
def execUnknownKind (h : Head) (kind : Byte) (s : State) : Host.Outcome State Fault Refusal :=
  s.host (.unknownKind h kind) fun s => s.refuse kind h.tag .unknownKind

end Sys2Proof.Machine
end

