-- ==== Sys2Proof/Machine/MatrixController.lean ====
section
/-! DEFINITION. The meanings of the Matrix Controller's commands (06): POSITION, travel expiry, claims, drives, row
reports, out reasons, suspension, and the host requests on antennas and routes. -/

namespace Sys2Proof.Machine

/-! ### Position reports and travel expiry -/

/-- A POSITION for a crosspoint in motion that its contacts complete (R106). -/
def Board.confirmDrive (travel : Nat) (t : Tx) (c : Col) (b : Board) : Board :=
  let x := b.m.xstate t c
  match (b.m.point t c).drive with
  | some d =>
    let b := b.completePoint t c x.direction
    Board.grant travel { m := b.m.returnSlot, o := b.o.hand (.driveDone d.t t c) }
  | none => b

/-- A POSITION for a crosspoint that is not in motion and changes its state: a stray movement or a resolution (R95). -/
def Board.strayOrResolved (t : Tx) (c : Col) (x : XState) (b : Board) : Board :=
  let old := b.m.xstate t c
  let former := (b.m.column c).holder
  let o := if old = .unknown then b.o else b.o.event .strayMove (.column c) (b1 t.val ++ b1 x.code)
  let b := Board.setPoint t c x none { b with o := o }
  if old = .unknown ∧ x = .opened then b else b.faults t former

/-- POSITION of one crosspoint (R93-R95). -/
def Board.position (travel : Nat) (t : Tx) (c : Col) (k : Contacts) (b : Board) : Board :=
  let x := b.m.xstate t c
  let b := { b with m := b.m.onPoint t c fun p => { p with contacts := some k } }
  if x.moving then (if x.reachedBy k then b.confirmDrive travel t c else b)
  else if x = k.state then b
  else b.strayOrResolved t c k.state

/-- Start-up's crosspoint table step ends: the hall is evaluated next (R207). -/
def State.endTable (s : State) : State := { s with boot := { s.boot with phase := .evaluate, poll := none } }

/-- Every crosspoint has been reported (R207). -/
def Matrix.allReported (m : Matrix) : Bool := allTx.all fun t => allCols.all fun c => (m.point t c).contacts.isSome

/-- POSITION (R93); the report of the last crosspoint ends start-up's table step (R207). -/
def execPosition (t : Tx) (c : Col) (k : Contacts) (s : State) : Host.Outcome State Fault Refusal :=
  s.take fun s =>
    let s := s.onMatrix (Board.position s.limits.travel t c k)
    if s.boot.phase = .table ∧ s.matrix.allReported then s.endTable else s

/-- A drive's travel count reaches the travel limit (R107). The transmitter of DRIVE_TIMEOUT's detail is the row's
(log 35). -/
def Board.travelExpired (travel : Nat) (t : Tx) (c : Col) (b : Board) : Board :=
  let x := b.m.xstate t c
  match (b.m.point t c).drive with
  | some d =>
    if x.moving then
      let b := b.stopDrive t c
      let o := (b.o.event .driveTimeout (.column c) (b1 t.val ++ b1 x.direction.code)).hand
        (.driveFailed d.t t c .driveTimeout)
      Board.grant travel { m := b.m.returnSlot, o := o }
    else b
  | none => b

/-- TRAVEL_LIMIT_EXPIRY (R107). -/
def execTravelLimitExpiry (t : Tx) (c : Col) (s : State) : Host.Outcome State Fault Refusal :=
  s.take fun s => s.onMatrix (Board.travelExpired s.limits.travel t c)

/-! ### Claims -/

/-- Releases the grants that a transmitter has on columns other than the one it now claims (R100 step 1). -/
def Board.releaseOthers (t : Tx) (c : Col) (b : Board) : Board :=
  allCols.foldl (fun b d => if d ≠ c ∧ (b.m.column d).claimant = some t then b.dropClaim t d else b) b

/-- CLAIM (R100). -/
def Board.claim (t : Tx) (c : Col) (b : Board) : Board :=
  let b := { b with m := { b.m with claims := b.m.claims.filter fun q => q.t != t } }
  let b := b.releaseOthers t c
  let k := b.m.column c
  let u := b.m.use c
  if ¬ k.inService then { b with o := b.o.hand (.claimRefused t c) }
  else if k.claimant = some t then { b with o := b.o.hand (.claimGranted t c) }
  else if u = .free ∨ u = .idle ∨ (k.holder = some t ∧ k.claimant = none) then
    { m := b.m.setClaimant c (some t), o := b.o.hand (.claimGranted t c) }
  else { m := { b.m with claims := b.m.claims ++ [⟨t, c⟩] }, o := b.o.hand (.claimListed t c) }

/-- CLAIM (R100). -/
def execClaim (t : Tx) (c : Col) (s : State) : Host.Outcome State Fault Refusal :=
  s.take fun s => s.onMatrix (Board.claim t c)

/-- RELEASE (R102). -/
def execRelease (t : Tx) (c : Col) (s : State) : Host.Outcome State Fault Refusal :=
  s.take fun s => s.onMatrix (Board.dropClaim t c)

/-- WITHDRAW_CLAIM: a listed claim is removed, and a grant is taken as a RELEASE (R102). -/
def execWithdrawClaim (t : Tx) (c : Col) (s : State) : Host.Outcome State Fault Refusal :=
  s.take fun s => s.onMatrix (Board.dropClaim t c)

/-! ### Drive requests -/

/-- A drive request: granted at once if a slot may be granted, else queued (R103). -/
def Board.driveRequest (travel : Nat) (r : SlotRequest) (b : Board) : Board :=
  let queue := b.m.queue.filter fun q => q.t != r.t
  if b.m.mayGrant then Board.grant travel (Board.startDrive travel r { b with m := { b.m with queue := queue } })
  else { b with m := { b.m with queue := enqueue r queue } }

/-- DRIVE_REQUEST (R103). -/
def execDriveRequest (t row : Tx) (c : Col) (d : Direction) (p : Fin 4) (s : State) :
    Host.Outcome State Fault Refusal :=
  s.take fun s => s.onMatrix (Board.driveRequest s.limits.travel ⟨t, row, c, d, p⟩)

/-- CANCEL_DRIVE: the transmitter's waiting request leaves the queue (R104). -/
def execCancelDrive (t : Tx) (s : State) : Host.Outcome State Fault Refusal :=
  s.take fun s => s.onMatrix fun b => { b with m := { b.m with queue := b.m.queue.filter fun q => q.t != t } }

/-! ### Row reports -/

/-- A row condition report: the row record, and the columns the transmitter holds may pass to listed claims (R97, R101).
DESIGN CHOICE (log 70, unsafe): R97 speaks of one column held; of several, held by stray closes (R98), each is tested,
in column order, since no rule orders the tests. -/
def Board.rowCondition (t : Tx) (r : RowCondition) (b : Board) : Board :=
  let b := { b with m := b.m.onRow t fun k => { k with condition := r } }
  allCols.foldl (fun b c => if (b.m.column c).holder = some t then b.pass c else b) b

/-- ROW_CONDITION_REPORT (R97). -/
def execRowConditionReport (t : Tx) (r : RowCondition) (s : State) : Host.Outcome State Fault Refusal :=
  s.take fun s => s.onMatrix (Board.rowCondition t r)

/-- MUTE_CONFIRMED_REPORT (R97). -/
def execMuteConfirmedReport (t : Tx) (yes : Bool) (s : State) : Host.Outcome State Fault Refusal :=
  s.take fun s => s.onMatrix fun b => { b with m := b.m.onRow t fun k => { k with muteConfirmed := yes } }

/-! ### Out reasons -/

/-- SUSPECT_MARK: SUSPECT joins the column's out reasons (R160, R99). -/
def execSuspectMark (c : Col) (s : State) : Host.Outcome State Fault Refusal :=
  s.take fun s => s.onMatrix (Board.service c fun k => { k with suspect := true })

/-- GATE_MEMBER_ADD (R99). -/
def execGateMemberAdd (c : Col) (m : Member) (s : State) : Host.Outcome State Fault Refusal :=
  s.take fun s => s.onMatrix (Board.service c fun k => { k with gates := setBit k.gates m.val })

/-- GATE_MEMBER_REMOVE (R99). -/
def execGateMemberRemove (c : Col) (ms : BitVec 24) (s : State) : Host.Outcome State Fault Refusal :=
  s.take fun s => s.onMatrix (Board.service c fun k => { k with gates := without k.gates ms })

/-! ### Suspension -/

/-- Stops one drive as the matrix enters SUSPENDED and answers it (R108). -/
def Board.suspendDrive (d : Tx × Col × Tx) (b : Board) : Board :=
  let b := b.stopDrive d.1 d.2.1
  { m := b.m.returnSlot, o := b.o.hand (.driveFailed d.2.2 d.1 d.2.1 .suspended) }

/-- The drives in motion, in order of the transmitter that asked for them: of the two transmitters of a drive, the one
that R108's order of transmitter number means by the model's reading (log 55). -/
def Matrix.drivesByTransmitter (m : Matrix) : List (Tx × Col × Tx) :=
  let all := m.drives
  allTx.flatMap fun t => all.filter fun d => d.2.2 == t

/-- A source is added to the suspension set (R108). -/
def Board.suspend (a : Source) (b : Board) : Board :=
  let m := { b.m with suspension := b.m.suspension.add a }
  if b.m.suspended then { b with m := m }
  else
    let b := m.drivesByTransmitter.foldl (fun b d => b.suspendDrive d) { b with m := m }
    { b with o := b.o.event .matrixSuspended .none (b1 a.code) }

/-- SUSPENSION_SOURCE_ADD (R108). -/
def execSuspensionSourceAdd (a : Source) (s : State) : Host.Outcome State Fault Refusal :=
  s.take fun s => s.onMatrix (Board.suspend a)

/-- Sources are removed from the suspension set; if that empties it the matrix resumes (R108). -/
def Board.resume (travel : Nat) (r : Sources) (b : Board) : Board :=
  let m := { b.m with suspension := b.m.suspension.remove r }
  if b.m.suspended ∧ ¬ m.suspended then Board.grant travel { m := m, o := b.o.event .matrixResumed .none [] }
  else { b with m := m }

/-- SUSPENSION_SOURCE_REMOVE (R108). -/
def execSuspensionSourceRemove (r : Sources) (s : State) : Host.Outcome State Fault Refusal :=
  s.take fun s => s.onMatrix (Board.resume s.limits.travel r)

/-! ### Host requests -/

/-- WITHDRAW_ANTENNA accepted: WITHDRAWN joins the out reasons; with force, an end order goes to a LIVE column's holder
or a CLAIMED column's claimant (R109). On a column that already has WITHDRAWN, which R109 accepts 'without change', the
order is handed again: the model's reading (log 61). R109 does not say whether SERVICE_CHANGED (R99) or the end order is
handed first: that SERVICE_CHANGED is, so that a holder in RAMP is HELD when the order reaches it, is the model's choice
(log 65). -/
def Board.withdraw (c : Col) (force : Bool) (b : Board) : Board :=
  let u := b.m.use c
  let k := b.m.column c
  let b := b.service c fun k => { k with withdrawn := true }
  let ordered : Option Tx := if !force then none else if u = .live then k.holder else if u = .claimed then k.claimant else none
  match ordered with
  | some t => { b with o := b.o.hand (.withdrawEndOrder t) }
  | none => b

/-- WITHDRAW_ANTENNA (R109). -/
def execWithdrawAntenna (h : Head) (c : Nat) (force : Option Bool) (s : State) : Host.Outcome State Fault Refusal :=
  s.host (.withdrawAntenna h c force) fun s =>
    let u := s.matrix.use (col c)
    s.request 0x54 h
      [(decide (35 < c), .outOfRange), (force.isNone, .badField),
       (force == some false && (u == .claimed || u == .live), .inUse)]
      (fun s => s.onMatrix (Board.withdraw (col c) (force == some true))) (fun _ => .empty)

/-- RESTORE_ANTENNA (R110). -/
def execRestoreAntenna (h : Head) (c : Nat) (s : State) : Host.Outcome State Fault Refusal :=
  s.host (.restoreAntenna h c) fun s =>
    let k := s.matrix.column (col c)
    s.request 0x55 h
      [(decide (35 < c), .outOfRange), (!k.withdrawn && !k.suspect, .wrongState)]
      (fun s => s.onMatrix (Board.service (col c) fun k => { k with withdrawn := false, suspect := false }))
      (fun _ => .empty)

/-- POLL to modules 0 to 5 in turn (R111, R207). -/
def pollAll : List MatrixOrder := [.poll 0, .poll 1, .poll 2, .poll 3, .poll 4, .poll 5]

/-- POLL_MATRIX (R111); `none` is ALL. -/
def execPollMatrix (h : Head) (module : Option Nat) (s : State) : Host.Outcome State Fault Refusal :=
  s.host (.pollMatrix h module) fun s =>
    s.request 0x56 h [(match module with | some n => decide (5 < n) | none => false, .outOfRange)]
      (fun s => s.onOut fun o =>
        { o with link := o.link ++ (match module with | some n => [.poll (Fin.ofNat 6 n)] | none => pollAll) })
      (fun _ => .empty)

/-- The crosspoints that are neither OPEN nor CLOSED, in row order then column order (R112). -/
def Matrix.exceptions (m : Matrix) : List (Tx × Col × Crosspoint) :=
  allTx.flatMap fun t => allCols.filterMap fun c => if (m.xstate t c).known then none else some (t, c, m.point t c)

/-- READ_ROUTES (R112). -/
def execReadRoutes (h : Head) (s : State) : Host.Outcome State Fault Refusal :=
  s.host (.readRoutes h) fun s => s.request 0x63 h [] id fun s =>
    let e := s.matrix.exceptions
    .routes (allTx.map s.matrix.closedIn) e.length (e.take 32) s.matrix.suspension s.matrix.free s.matrix.queue
      s.matrix.claims

/-- READ_ANTENNA (R113). -/
def execReadAntenna (h : Head) (c : Nat) (s : State) : Host.Outcome State Fault Refusal :=
  s.host (.readAntenna h c) fun s => s.request 0x62 h [(decide (35 < c), .outOfRange)] id fun s =>
    let k := s.matrix.column (col c)
    .antenna k k.inService (s.matrix.use (col c)) ((s.matrix.claims.filter fun q => q.column == col c).map (·.t))

end Sys2Proof.Machine
end

