-- ==== Sys2Proof/Machine/Requests.lean ====
section
/-! DEFINITION. Taking requests from the request queue (R189): the meaning of a request as the block that owns it gives
it, the head of the queue taken as soon as it may be, and the commands after which it may be. -/

namespace Sys2Proof.Machine

/-- A request given to the block that owns it (R189, R190): the meaning of its command. No other command stands in the
queue. -/
def serveRequest (i : Instr) (s : State) : Host.Outcome State Fault Refusal :=
  match i with
  | .setTransmitter h t present rated step low high programmes => execSetTransmitter h t present rated step low high programmes s
  | .setAntenna h c present kind bands => execSetAntenna h c present kind bands s
  | .setAvailability h t available => execSetAvailability h t available s
  | .setLimits h l => execSetLimits h l s
  | .setMonitor h t which level filter n edges source => execSetMonitor h t which level filter n edges source s
  | .setProtection h p => execSetProtection h p s
  | .setLine h line kind parameter => execSetLine h line kind parameter s
  | .setMember h m line activeHigh scope => execSetMember h m line activeHigh scope s
  | .setMemberRemove h m => execSetMemberRemove h m s
  | .writeLines h writes => execWriteLines h writes s
  | .setTime h year month day minute second tenth => execSetTime h year month day minute second tenth s
  | .setClockSource h source => execSetClockSource h source s
  | .eraseBank h b => execEraseBank h b s
  | .openBank h b code year month day minute => execOpenBank h b code year month day minute s
  | .writeEntries h b page entries => execWriteEntries h b page entries s
  | .closeBank h b => execCloseBank h b s
  | .checkBank h b => execCheckBank h b s
  | .cancelCheck h b => execCancelCheck h b s
  | .readBank h b => execReadBank h b s
  | .readEntries h b page => execReadEntries h b page s
  | .run h => execRun h s
  | .haltDrain h named => execHaltDrain h named s
  | .haltStop h => execHaltStop h s
  | .readUpcoming h index => execReadUpcoming h index s
  | .manualTune h o => execManualTune h o s
  | .manualEnd h t => execManualEnd h t s
  | .resumeSchedule h t => execResumeSchedule h t s
  | .releaseTransmitter h t => execReleaseTransmitter h t s
  | .readTransmitter h t => execReadTransmitter h t s
  | .withdrawAntenna h c force => execWithdrawAntenna h c force s
  | .restoreAntenna h c => execRestoreAntenna h c s
  | .pollMatrix h module => execPollMatrix h module s
  | .readRoutes h => execReadRoutes h s
  | .readAntenna h c => execReadAntenna h c s
  | .readLines h => execReadLines h s
  | .readInterlock h => execReadInterlock h s
  | .interlockClearGroup h named => execInterlockClearGroup h named s
  | .interlockClearEmergency h => execInterlockClearEmergency h s
  | .readStatus h => execReadStatus h s
  | .readLog h => execReadLog h s
  | .setNoticeEnables h enables => execSetNoticeEnables h enables s
  | .clearSources h classes => execClearSources h classes s
  | .saveSettings h autorun warmAdopt => execSaveSettings h autorun warmAdopt s
  | .setStartKind h kind => execSetStartKind h kind s
  | .restart h => execRestart h s
  | .unknownKind h kind => execUnknownKind h kind s
  | _ => .next s

/-- Takes the request at the head of the queue in this event, when the queue holds one and one may be taken (R189). -/
def State.serveHead (s : State) : Host.Outcome State Fault Refusal :=
  match s.mayTake, s.link.queue with
  | true, r :: rest => serveRequest r.command { s with link := { s.link with queue := rest, taking := true } }
  | _, _ => .next s

/-- A command after which a waiting request may become the next one taken: it is taken in the same event (R189). -/
def State.takeAndServe (s : State) (f : State → State) : Host.Outcome State Fault Refusal :=
  if s.boot.asserted then .next s else (f s.settled).serveHead

/-- A complete frame is entered: bytes that are not a whole frame are none (log 30); a bad check discards (R187,
R188). -/
def State.enterFrame (bytes : List Byte) (s : State) : State :=
  if ¬ frameShape bytes then s
  else if checkAgrees bytes then s.enqueue (.frame (frameOf bytes))
  else s.frameFault 2

/-- FRAME_RECEIVED (R187, R188): the frame is entered, and to an empty queue with the reply slot empty it is taken as
soon as it has been entered (R189). -/
def execFrameReceived (bytes : List Byte) (s : State) : Host.Outcome State Fault Refusal :=
  s.takeAndServe (State.enterFrame bytes)

end Sys2Proof.Machine
end

