-- ==== Sys2Proof/Machine/Startup.lean ====
section
/-! DEFINITION. Resets and start-up (11, with R46-R48, R16, R185): what each reset does, the seven steps, and the
meanings of their commands. -/

namespace Sys2Proof.Machine

/-! ### Resets -/

/-- A page that an operation in flight was writing, as the reset leaves it: one of R46's three conditions, a free
value (log 8). -/
def cutEntryPage (n : Nat) (slots : Vector Slot 8) : EntryPage :=
  if Config.cutPage n = 0 then .erased else if Config.cutPage n = 1 then .programmed slots else .failing

/-- See `cutEntryPage`, for the header page. -/
def cutHeader (n : Nat) : HeaderPage :=
  if Config.cutPage n = 0 then .erased else if Config.cutPage n = 1 then .programmed else .failing

/-- The pages of a bank whose erase was cut: each erased or as it was (R46), a free value each. -/
def cutPages (n : Nat) (v : Vector EntryPage 64) : Vector EntryPage 64 :=
  ⟨⟨(upTo 64).map fun i =>
      if Config.cutPage (n + i) = 0 then .erased else v.toArray.toList.getD i .erased⟩, by
    have h : ∀ k, (upTo k).length = k := by
      intro k; induction k with
      | zero => rfl
      | succ k ih => simp [upTo, ih]
    simp [h]⟩

/-- The state cell as start-up reads it: the latest copy if it passes its check, else the other (R34, R47). -/
def StateCell.recover (c : StateCell) : StateCell :=
  if c.latest.good then c else { latest := c.other, other := c.latest }

/-- A cell write that was cut leaves the copy being written failing its check (R34). -/
def StateCell.spoil (c : StateCell) : StateCell := { c with latest := { c.latest with good := false } }

/-- The state cells as a reset leaves them when it cuts an event after `done` of that event's cell writes, given in
order: later ones were not begun, and the next was cut, or not begun either (R34). -/
def Store.cutCells (begun : Bool) : Nat → List (Bank × StateCell) → Store → Store
  | _, [], k => k
  | done + 1, _ :: ws, k => Store.cutCells begun done ws k
  | 0, (b, before) :: ws, k =>
    let k := ws.reverse.foldl (fun k w => k.onBank w.1 fun q => { q with cell := w.2 }) k
    k.onBank b fun q => { q with cell := if begun then q.cell.spoil else before }
termination_by structural _ ws _ => ws

/-- The operation in flight as a reset leaves it (R46). One whose starting event's cell write is lost had not begun: a
header page is written to an OPEN bank, and an erase is of one that shows erase pending (log 8). -/
def Store.cutOp (k : Store) (n : Nat) : Store :=
  match k.op with
  | none => k
  | some (.header b) =>
    if (k.bank b).cell.recover.latest.contents.state = .opened then
      k.onBank b fun q => { q with headerPage := cutHeader n }
    else k
  | some (.page b p slots) => k.onBank b fun q => { q with pages := upd q.pages p (cutEntryPage n slots) }
  | some (.erase b) =>
    if (k.bank b).cell.recover.latest.contents.erasePending then
      k.onBank b fun q =>
        { q with pages := cutPages (n + 1) q.pages
                 headerPage := if Config.cutPage n = 0 then .erased else q.headerPage }
    else k
  | some (.settings _) => { k with settings := none }

/-- The store as a reset leaves it: the latest event's cell writes and the operation in flight are cut, and the
controller is IDLE (R34, R46). The number is that of the first free value used. -/
def Store.cut (k : Store) (n : Nat) : Store :=
  { ((Store.cutCells (Config.cellCut (n + 66)) (Config.cellsDone (n + 65)) k.cellWrites k).cutOp n).idle with
    cellWrites := [] }

/-- The outbox after a reset: everything lost but the orders already sent (R197, R200). -/
def Outbox.reset (o : Outbox) : Outbox := { Outbox.empty with port := o.port, link := o.link }

/-- The machine as a reset of a kind leaves it, before start-up's first step (R28, R46, R66, R67, R114, R144, R168,
R185, R197, R200, R205). The reset line reads as not asserted; for a POWER_ON under an asserted line that is the model's
choice (log 28). -/
def State.resetFor (cause : ResetCause) (s : State) : State :=
  { pending := s.pending
    sampling := if cause = .powerOn then { s.sampling with instant := 0 } else s.sampling
    out := s.out.reset
    link := HostLink.reset
    clock := if cause = .powerOn then Clock.powerOn else { s.clock with pulse := .none, watch := none }
    store := s.store.cut s.freeCount
    check := none
    engine := Engine.reset
    matrix := Matrix.reset Settings.default
    stations := stationsReset Settings.default
    limits := Limits.default
    protection := Protection.default
    mains := { state := .normal, recovery := none }
    ilu := Interlocks.reset Settings.default
    lines := linesReset Settings.default
    boot := { phase := .load, poll := none, cause := cause
              kind := if cause = .powerOn then .cold else s.boot.kind, asserted := false }
    freeCount := s.freeCount + 67 }

/-! ### Step 1: load settings -/

/-- Loads the settings block, or the defaults with SETTINGS_DEFAULTED, into every block; a PULSE line starts the pulse
watch (R204, R207, R28). -/
def State.loadSettings (s : State) : State :=
  let g := s.store.settings.getD Settings.default
  let s := { s with
    matrix := Matrix.reset g, stations := stationsReset g, limits := g.limits, protection := g.protection
    ilu := Interlocks.reset g, lines := linesReset g
    store := { s.store with serial := g.serial, autorun := g.autorun, warmAdopt := g.warmAdopt }
    out := { s.out with enables := g.enables } }
  let s := if s.pulseLine.isSome then s.onClock (Clock.pulseKind · true) else s
  if s.store.settings.isNone then s.onOut fun o => o.event .settingsDefaulted .settings [] else s

/-! ### Step 2: bank integrity (R46-R48, R16) -/

/-- The lowest entry page from `n` on that fails its check. -/
def failingPage : Nat → List EntryPage → Option Nat
  | _, [] => none
  | n, .failing :: _ => some n
  | n, _ :: rest => failingPage (n + 1) rest

/-- The entry pages that are written, from page `n` on: those not in the erased condition (R47). -/
def writtenPages : Nat → List EntryPage → BitVec 64
  | _, [] => 0
  | n, .erased :: rest => writtenPages (n + 1) rest
  | n, _ :: rest => setBit (writtenPages (n + 1) rest) n

/-- The bank with its pages-written set as its pages are found; the pages of an ERASED bank are not read (R47). -/
def SeasonBank.rebuildSet (b : SeasonBank) : SeasonBank :=
  if b.state = .erased then { b with headerWritten := false, written := 0 }
  else { b with headerWritten := b.headerPage != .erased, written := writtenPages 0 b.pages.toArray.toList }

/-- The first test of R47 that a bank fails, as BANK_DAMAGED's detail: the cause, and the page for PAGE_CHECK, the header
page as 0xFE as R193 gives it for WRITE_DONE (log 12). -/
def SeasonBank.damage (b : SeasonBank) : Option (List Byte) :=
  if ¬ b.cell.latest.good then some (b1 0)
  else if b.read.erasePending then some (b1 1)
  else if b.state = .erased then none
  else match b.headerPage with
    | .erased => some (b1 2)
    | .failing => some (b1 3 ++ b1 0xFE)
    | .programmed => (failingPage 0 b.pages.toArray.toList).map fun p => b1 3 ++ b1 p

/-- A state cell neither of whose copies passes: its activation number and erase pending item are free values
(log 10). -/
def SeasonBank.lostCell (n : Nat) (b : SeasonBank) (c : Cell) : Cell :=
  if b.cell.latest.good then c
  else { c with activation := Config.lostActivation n, erasePending := Config.lostErasePending n }

/-- Tests one bank (R46, R47). For a cell neither of whose copies passes, R34 names neither the copy that the write of
DAMAGED goes to nor its mark: the copy found second, with the mark after the other's, is the model's (log 10). -/
def State.testBank (s : State) (b : Bank) : State :=
  let s := s.onStore fun k => k.onBank b fun q => { q with cell := q.cell.recover }
  match (s.store.bank b).damage with
  | some detail =>
    let n := s.freeCount
    let s := s.onStore fun k => k.writeCell b fun q =>
      (q.change fun c => q.lostCell n { c with state := .damaged, report := none }).rebuildSet
    { s with freeCount := n + 1, out := s.out.event .bankDamaged (.bank b) detail }
  | none =>
    if (s.store.bank b).state = .checking then
      s.onStore fun k => k.writeCell b fun q =>
        (q.change fun c => { c with state := .closed, report := none }).rebuildSet
    else s.onStore fun k => k.onBank b SeasonBank.rebuildSet

/-- The bank kept ACTIVE when both cells read ACTIVE (R48). -/
def Store.keptActive (k : Store) : Bank :=
  let a := (k.bank 0).read.activation
  let b := (k.bank 1).read.activation
  if b = a + 1 then 1
  else if a = b + 1 then 0
  else if (k.bank 1).effective.getD 0 < (k.bank 0).effective.getD 0 then 0
  else 1

/-- Of two banks whose cells read ACTIVE one is kept and the other RETIRED (R48). -/
def Store.settleActive (k : Store) : Store :=
  if (k.bank 0).state = .active ∧ (k.bank 1).state = .active then
    k.writeCell (otherBank k.keptActive) fun q => q.goto .retired
  else k

/-- A VALID bank checked under another serial number than the loaded one becomes CLOSED (R16). -/
def State.compareSerial (s : State) (b : Bank) : State :=
  if (s.store.bank b).read.report.any fun r => r.serial == s.store.serial then s else s.closeValid b

/-- Step 2 of start-up. -/
def State.checkBanks (s : State) : State :=
  let s := (s.testBank 0).testBank 1
  let s := s.onStore Store.settleActive
  (s.compareSerial 0).compareSerial 1

/-- Steps 1 and 2, and the POLLs with which step 3 begins (R207). -/
def State.beginStartup (s : State) : State :=
  let s := s.loadSettings.checkBanks
  { s with
    out := { s.out with link := s.out.link ++ pollAll }
    boot := { s.boot with phase := .table, poll := some (Timer.start Config.startupPollTicks) } }

/-- POWER_ON: every block resets and start-up begins (R205). Taken while the reset line is asserted it begins start-up all
the same and clears the assertion, and the later release does nothing: the spec does not say how the two combine (log
28). -/
def execPowerOn (s : State) : Host.Outcome State Fault Refusal := .next (s.resetFor .powerOn).beginStartup

/-- RESET_LINE_ASSERT: every block resets, and nothing is sent, driven or taken until the release (R205, log 28). -/
def execResetLineAssert (s : State) : Host.Outcome State Fault Refusal :=
  let s := s.resetFor .resetLine
  .next { s with boot := { s.boot with asserted := true } }

/-- RESET_LINE_RELEASE: start-up begins on the state that the reset at the assertion left, with what the running clock
has put out since (R205, R207, log 28); with the line not asserted nothing happens. -/
def execResetLineRelease (s : State) : Host.Outcome State Fault Refusal :=
  .next (if s.boot.asserted then
      ({ s with boot := { s.boot with asserted := false } } : State).settled.beginStartup
    else s.settled)

/-- OUTGOING_FRAME_END: the line is free; a reply's slot empties, and a RESTART's reply brings its reset (R189,
R206). -/
def State.endFrame (s : State) : State :=
  match s.link.line with
  | none => s
  | some (.reply r) =>
    let s := s.onLink fun k => { k with line := none, reply := none }
    match r.verdict with
    | .accepted _ => if r.kind = 0x74 then (s.resetFor .restart).beginStartup else s
    | .refused _ _ => s
  | some _ => s.onLink fun k => { k with line := none }

/-- OUTGOING_FRAME_END: with the reply slot emptied the head of the queue is taken at once (R189). -/
def execOutgoingFrameEnd (s : State) : Host.Outcome State Fault Refusal := s.takeAndServe State.endFrame

/-! ### Step 3: the crosspoint table -/

/-- STARTUP_POLL_TIMEOUT (R207). -/
def execStartupPollTimeout (s : State) : Host.Outcome State Fault Refusal :=
  s.take fun s => if s.boot.phase = .table then s.endTable else s

/-! ### Step 4: evaluate the hall (R168, R185) -/

/-- The emergency input and the line of every configured member have a settled level (R185). -/
def State.levelsSettled (s : State) : Bool :=
  s.ilu.input.isSome && allMembers.all fun m =>
    match (s.ilu.members.get m).config with
    | some g => (s.lines.get g.line).pin.isSome
    | none => true

/-- Records a member's level from its line and lets an ACTIVE one join the Latched Set (R185). -/
def State.evaluateMember (s : State) (m : Member) : State :=
  match (s.ilu.members.get m).config with
  | none => s
  | some g =>
    let level := g.levelOf (s.lines.get g.line).pin
    let s := s.onIlu fun u => u.onMember m fun k => { k with level := level }
    if level = .active then s.joinLatched m g else s

/-- Polling begins for a present and available transmitter (R207 step 5), which the model takes as a poll instant
(log 20). -/
def Bench.ask (e : Env) (b : Bench) : Bench :=
  if b.u.tr.desc.present ∧ b.u.tr.desc.available then
    (b.tr fun r => { r with startup := .asked }).pollInstant e
  else b

/-- A hold, a gate or a suspension source handed for addition is put in force (R141, R99, R108). -/
def State.putInForce (s : State) : Instr → State
  | .holdAdd t a => s.csq t (Bench.holdAdd a)
  | .gateMemberAdd c m => s.onMatrix (Board.service c fun k => { k with gates := setBit k.gates m.val })
  | .suspensionSourceAdd a => s.onMatrix (Board.suspend a)
  | _ => s

/-- A member's level change on its way. -/
def levelChange : Instr → Bool | .memberLevelChange _ _ => true | _ => false

/-- What the hall is found in: the mains, the emergency input, the members in order (R185, R168). -/
def State.findHall (percent : Nat) (s : State) : State :=
  let s := if percent < s.protection.mainsLevel then s.mainsDip else s
  let s := if s.ilu.input = some true then s.latchEmergency else s
  allMembers.foldl State.evaluateMember s

/-- Steps 4 and 5 begun: the hall is evaluated, and its holds, gates and suspension sources are in force at the end of
the step (R207); level changes still on their way are part of what was evaluated; then the first poll instants. -/
def State.evaluateHall (percent : Nat) (s : State) : State :=
  let before := s.out.handed.filter fun i => !levelChange i
  let s := (s.onOut fun o => { o with handed := [] }).findHall percent
  let s := s.out.handed.foldl State.putInForce (s.onOut fun o => { o with handed := before })
  let s := { s with boot := { s.boot with phase := .query } }
  s.onEach fun e b => (b.ask e).reportRow e

/-- STARTUP_HALL_EVALUATION, once the levels are settled (R185, R207). -/
def execStartupHallEvaluation (percent : Nat) (s : State) : Host.Outcome State Fault Refusal :=
  s.take fun s => if s.boot.phase = .evaluate ∧ s.levelsSettled then s.evaluateHall percent else s

/-! ### Step 6: adopt or mute (R208, R209) -/

/-- The row has exactly one CLOSED crosspoint and every other is OPEN: its column (R208). -/
def Matrix.soleRoute (m : Matrix) (t : Tx) : Option Col :=
  match m.closedIn t with
  | [c] => if m.restOfRow t c (· == .opened) then some c else none
  | _ => none

/-- The entry names the column as its primary or its reserve antenna. -/
def Entry.names (e : Entry) (c : Col) : Bool := e.primary == c.val || e.reserveCol == some c

/-- A window of the entry that contains the minute, on the current date or the date before. -/
def Entry.windowAt (e : Entry) (now : Nat) : Option Nat :=
  let day := now / 1440
  [day, day - 1].find? fun d => e.inEffect d && decide (e.begins d ≤ now) && decide (now < e.ends d)

/-- The entry and window that a route may be adopted for (R208). -/
def State.adoptable (s : State) (b : Bank) (t : Tx) (c : Col) : Option (Entry × Nat) :=
  (s.entries b).findSome? fun e =>
    if tx e.transmitter = t ∧ e.names c ∧ (s.tr t).desc.fits e.kHz e.programme ∧
        (s.matrix.column c).desc.permits e.kHz then
      (e.windowAt s.now).map fun d => (e, d)
    else none

/-- What a candidate is adopted with, when every test of R208 holds. -/
def State.adoption (s : State) (t : Tx) : Option (Bank × Col × Entry × Nat) :=
  let r := s.tr t
  match s.store.active, s.matrix.soleRoute t with
  | some b, some c =>
    if s.boot.kind = .warm ∧ s.store.warmAdopt ∧ s.clock.isSet ∧ r.rf = some true ∧ (s.matrix.column c).inService ∧
        r.holds.empty then
      (s.adoptable b t c).map fun q => (b, c, q.1, q.2)
    else none
  | _, _ => none

/-- Makes an adopted transmitter ON_AIR with its transmission (R209). Its poll interval starts at 0 here (log 20). -/
def Bench.adopt (b : Bank) (c : Col) (x : Entry) (day : Nat) (e : Env) (n : Bench) : Bench :=
  let kW := n.u.tr.desc.powerSent x.kW
  let onReserve : Bool := x.primary != c.val
  let y : Transmission :=
    { work := some (x.work b day), start := e.reading, column := c, kHz := x.kHz, kW := kW, programme := x.programme
      priority := Fin.ofNat 4 x.priority, reserve := if onReserve then none else x.reserveCol
      reserveUsed := onReserve, late := false }
  let n := n.tr fun r =>
    { r with current := some y, unmuted := true, startup := .done, poll := some 0 }
  let n := ((n.setConfirmed e false).station Station.armAdopted).goOnAir e
  n.out fun o => o.record e.reading .start e.t y.work (some c) (some x.kHz) (some kW) .adopted

/-- Mutes a candidate that is not adopted (R209). -/
def Bench.muteCandidate (e : Env) (b : Bench) : Bench :=
  let b := b.sendMute e
  if b.u.tr.muteConfirmed then b.candidateReady
  else b.tr fun r => { r with startup := .muting (Timer.start e.limits.mute) }

/-- Adopts or mutes one candidate (R208, R209). -/
def State.adoptOrMute (s : State) (t : Tx) : State :=
  if (s.tr t).startup ≠ .candidate then s
  else match s.adoption t with
    | some (b, c, x, day) =>
      (s.csq t (Bench.adopt b c x day)).onEngine fun g => g.fire x.number day
    | none => s.csq t fun e b => b.muteCandidate e

/-- MUTE to a transmitter that has not been sent it since the reset and is not adopted (R207 step 6). -/
def State.muteOther (s : State) (t : Tx) : State :=
  let r := s.tr t
  if r.mutedOnce ∨ r.state = .onAir then s else s.csq t fun e b => b.sendMute e

/-- Step 5 has ended: no polled transmitter still waits for its first reply (R207). -/
def State.queryEnded (s : State) : Bool := allTx.all fun t => !(s.tr t).asked

/-- STARTUP_ADOPTION (R208, R209). -/
def execStartupAdoption (s : State) : Host.Outcome State Fault Refusal :=
  s.take fun s =>
    if s.boot.phase = .query ∧ s.queryEnded then
      let s := { s with boot := { s.boot with phase := .adopt } }
      allTx.foldl State.muteOther (allTx.foldl State.adoptOrMute s)
    else s

/-! ### Step 7 (R210) -/

/-- Every candidate is ON_AIR, READY or LOCKED (R209). -/
def State.adoptionEnded (s : State) : Bool := allTx.all fun t => !(s.tr t).inAdoption

/-- The command is a minute boundary. -/
def isBoundary : Instr → Bool | .minuteBoundary _ => true | _ => false

/-- STARTUP_END: autorun armed from the option, start-up ends and motor slots are granted; a minute boundary raised
before it and still on its way is not taken (R210); the first request received during start-up is taken at once
(R189). -/
def execStartupEnd (s : State) : Host.Outcome State Fault Refusal :=
  s.takeAndServe fun s =>
    if s.boot.phase = .adopt ∧ s.adoptionEnded then
      let s := s.onOut fun o => { o with handed := o.handed.filter fun i => !isBoundary i }
      let s := s.onEngine fun g => { g with armed := s.store.autorun }
      let s := { s with boot := { s.boot with phase := .done } }
      s.onMatrix fun b => Board.grant s.limits.travel { b with m := { b.m with granting := true } }
    else s

end Sys2Proof.Machine
end

