-- ==== Sys2Proof/Machine/Dispatch.lean ====
section
/-! DEFINITION. The meaning of every command: one arm for each row of spec/opcode_table.json, in the table's order. -/

namespace Sys2Proof.Machine

def exec (i : Instr) (s : State) : Host.Outcome State Fault Refusal :=
  match i with
  | .setTransmitter h t present rated step low high programmes => Sys2Proof.Machine.execSetTransmitter h t present rated step low high programmes s
  | .setAntenna h c present kind bands => Sys2Proof.Machine.execSetAntenna h c present kind bands s
  | .setAvailability h t available => Sys2Proof.Machine.execSetAvailability h t available s
  | .setLimits h l => Sys2Proof.Machine.execSetLimits h l s
  | .setMonitor h t which level filter n edges source => Sys2Proof.Machine.execSetMonitor h t which level filter n edges source s
  | .setProtection h p => Sys2Proof.Machine.execSetProtection h p s
  | .setLine h line kind parameter => Sys2Proof.Machine.execSetLine h line kind parameter s
  | .setMember h m line activeHigh scope => Sys2Proof.Machine.execSetMember h m line activeHigh scope s
  | .setMemberRemove h m => Sys2Proof.Machine.execSetMemberRemove h m s
  | .writeLines h writes => Sys2Proof.Machine.execWriteLines h writes s
  | .setTime h year month day minute second tenth => Sys2Proof.Machine.execSetTime h year month day minute second tenth s
  | .setClockSource h source => Sys2Proof.Machine.execSetClockSource h source s
  | .eraseBank h b => Sys2Proof.Machine.execEraseBank h b s
  | .openBank h b code year month day minute => Sys2Proof.Machine.execOpenBank h b code year month day minute s
  | .writeEntries h b page entries => Sys2Proof.Machine.execWriteEntries h b page entries s
  | .closeBank h b => Sys2Proof.Machine.execCloseBank h b s
  | .checkBank h b => Sys2Proof.Machine.execCheckBank h b s
  | .cancelCheck h b => Sys2Proof.Machine.execCancelCheck h b s
  | .readBank h b => Sys2Proof.Machine.execReadBank h b s
  | .readEntries h b page => Sys2Proof.Machine.execReadEntries h b page s
  | .run h => Sys2Proof.Machine.execRun h s
  | .haltDrain h named => Sys2Proof.Machine.execHaltDrain h named s
  | .haltStop h => Sys2Proof.Machine.execHaltStop h s
  | .readUpcoming h index => Sys2Proof.Machine.execReadUpcoming h index s
  | .manualTune h o => Sys2Proof.Machine.execManualTune h o s
  | .manualEnd h t => Sys2Proof.Machine.execManualEnd h t s
  | .resumeSchedule h t => Sys2Proof.Machine.execResumeSchedule h t s
  | .releaseTransmitter h t => Sys2Proof.Machine.execReleaseTransmitter h t s
  | .readTransmitter h t => Sys2Proof.Machine.execReadTransmitter h t s
  | .withdrawAntenna h c force => Sys2Proof.Machine.execWithdrawAntenna h c force s
  | .restoreAntenna h c => Sys2Proof.Machine.execRestoreAntenna h c s
  | .pollMatrix h module => Sys2Proof.Machine.execPollMatrix h module s
  | .readRoutes h => Sys2Proof.Machine.execReadRoutes h s
  | .readAntenna h c => Sys2Proof.Machine.execReadAntenna h c s
  | .readLines h => Sys2Proof.Machine.execReadLines h s
  | .readInterlock h => Sys2Proof.Machine.execReadInterlock h s
  | .interlockClearGroup h named => Sys2Proof.Machine.execInterlockClearGroup h named s
  | .interlockClearEmergency h => Sys2Proof.Machine.execInterlockClearEmergency h s
  | .readStatus h => Sys2Proof.Machine.execReadStatus h s
  | .readLog h => Sys2Proof.Machine.execReadLog h s
  | .setNoticeEnables h enables => Sys2Proof.Machine.execSetNoticeEnables h enables s
  | .clearSources h classes => Sys2Proof.Machine.execClearSources h classes s
  | .saveSettings h autorun warmAdopt => Sys2Proof.Machine.execSaveSettings h autorun warmAdopt s
  | .setStartKind h kind => Sys2Proof.Machine.execSetStartKind h kind s
  | .restart h => Sys2Proof.Machine.execRestart h s
  | .unknownKind h kind => Sys2Proof.Machine.execUnknownKind h kind s
  | .frameReceived bytes => Sys2Proof.Machine.execFrameReceived bytes s
  | .linkGapExpiry => Sys2Proof.Machine.execLinkGapExpiry s
  | .outgoingFrameBegin => Sys2Proof.Machine.execOutgoingFrameBegin s
  | .outgoingFrameEnd => Sys2Proof.Machine.execOutgoingFrameEnd s
  | .clockTenthAdvance => Sys2Proof.Machine.execClockTenthAdvance s
  | .referenceJudgedPresent => Sys2Proof.Machine.execReferenceJudgedPresent s
  | .referenceInputFailure => Sys2Proof.Machine.execReferenceInputFailure s
  | .secondPulse => Sys2Proof.Machine.execSecondPulse s
  | .pulseWatchExpiry => Sys2Proof.Machine.execPulseWatchExpiry s
  | .minuteBoundary b => Sys2Proof.Machine.execMinuteBoundary b s
  | .scheduleWorkEnded t work => Sys2Proof.Machine.execScheduleWorkEnded t work s
  | .headerWriteComplete => Sys2Proof.Machine.execHeaderWriteComplete s
  | .entryPageWriteComplete => Sys2Proof.Machine.execEntryPageWriteComplete s
  | .settingsWriteComplete => Sys2Proof.Machine.execSettingsWriteComplete s
  | .eraseComplete => Sys2Proof.Machine.execEraseComplete s
  | .checkComplete => Sys2Proof.Machine.execCheckComplete s
  | .position t c k => Sys2Proof.Machine.execPosition t c k s
  | .travelLimitExpiry t c => Sys2Proof.Machine.execTravelLimitExpiry t c s
  | .claim t c => Sys2Proof.Machine.execClaim t c s
  | .release t c => Sys2Proof.Machine.execRelease t c s
  | .withdrawClaim t c => Sys2Proof.Machine.execWithdrawClaim t c s
  | .driveRequest t row c d priority => Sys2Proof.Machine.execDriveRequest t row c d priority s
  | .cancelDrive t => Sys2Proof.Machine.execCancelDrive t s
  | .rowConditionReport t r => Sys2Proof.Machine.execRowConditionReport t r s
  | .muteConfirmedReport t yes => Sys2Proof.Machine.execMuteConfirmedReport t yes s
  | .suspectMark c => Sys2Proof.Machine.execSuspectMark c s
  | .suspensionSourceAdd a => Sys2Proof.Machine.execSuspensionSourceAdd a s
  | .suspensionSourceRemove r => Sys2Proof.Machine.execSuspensionSourceRemove r s
  | .gateMemberAdd c m => Sys2Proof.Machine.execGateMemberAdd c m s
  | .gateMemberRemove c ms => Sys2Proof.Machine.execGateMemberRemove c ms s
  | .claimGranted t c => Sys2Proof.Machine.execClaimGranted t c s
  | .claimListed t c => Sys2Proof.Machine.execClaimListed t c s
  | .claimRefused t c => Sys2Proof.Machine.execClaimRefused t c s
  | .driveStarted t row c => Sys2Proof.Machine.execDriveStarted t row c s
  | .driveDone t row c => Sys2Proof.Machine.execDriveDone t row c s
  | .driveFailed t row c why => Sys2Proof.Machine.execDriveFailed t row c why s
  | .matrixFault t => Sys2Proof.Machine.execMatrixFault t s
  | .serviceChanged t c inService => Sys2Proof.Machine.execServiceChanged t c inService s
  | .withdrawEndOrder t => Sys2Proof.Machine.execWithdrawEndOrder t s
  | .holdAdd t a => Sys2Proof.Machine.execHoldAdd t a s
  | .holdRemove t r => Sys2Proof.Machine.execHoldRemove t r s
  | .rfAbsent t => Sys2Proof.Machine.execRfAbsent t s
  | .rfPresent t => Sys2Proof.Machine.execRfPresent t s
  | .statPollInstant t => Sys2Proof.Machine.execStatPollInstant t s
  | .statReady t => Sys2Proof.Machine.execStatReady t s
  | .statOff t => Sys2Proof.Machine.execStatOff t s
  | .statFault t => Sys2Proof.Machine.execStatFault t s
  | .fault t code => Sys2Proof.Machine.execFault t code s
  | .ok t => Sys2Proof.Machine.execOk t s
  | .tuned t kHz => Sys2Proof.Machine.execTuned t kHz s
  | .tunefail t => Sys2Proof.Machine.execTunefail t s
  | .unknownPortLine t => Sys2Proof.Machine.execUnknownPortLine t s
  | .claimWaitExpiry t => Sys2Proof.Machine.execClaimWaitExpiry t s
  | .muteLimitExpiry t => Sys2Proof.Machine.execMuteLimitExpiry t s
  | .settleExpiry t => Sys2Proof.Machine.execSettleExpiry t s
  | .tuneLimitExpiry t => Sys2Proof.Machine.execTuneLimitExpiry t s
  | .openTuneExpiry t => Sys2Proof.Machine.execOpenTuneExpiry t s
  | .holdTimeExpiry t => Sys2Proof.Machine.execHoldTimeExpiry t s
  | .rampLimitExpiry t => Sys2Proof.Machine.execRampLimitExpiry t s
  | .restrikeRampLimitExpiry t => Sys2Proof.Machine.execRestrikeRampLimitExpiry t s
  | .reflectedRisingCrossing t => Sys2Proof.Machine.execReflectedRisingCrossing t s
  | .reflectedFallingCrossing t => Sys2Proof.Machine.execReflectedFallingCrossing t s
  | .forwardRisingCrossing t => Sys2Proof.Machine.execForwardRisingCrossing t s
  | .forwardFallingCrossing t => Sys2Proof.Machine.execForwardFallingCrossing t s
  | .armingDelayExpiry t => Sys2Proof.Machine.execArmingDelayExpiry t s
  | .restrikeDelayExpiry t => Sys2Proof.Machine.execRestrikeDelayExpiry t s
  | .tripMuteWatchExpiry t => Sys2Proof.Machine.execTripMuteWatchExpiry t s
  | .restrikeWindowExpiry t => Sys2Proof.Machine.execRestrikeWindowExpiry t s
  | .carrierLossExpiry t => Sys2Proof.Machine.execCarrierLossExpiry t s
  | .mainsSample percent => Sys2Proof.Machine.execMainsSample percent s
  | .mainsRecoveryExpiry => Sys2Proof.Machine.execMainsRecoveryExpiry s
  | .fieldLineLevelChange line high => Sys2Proof.Machine.execFieldLineLevelChange line high s
  | .memberLevelChange m level => Sys2Proof.Machine.execMemberLevelChange m level s
  | .emergencyInputChange active => Sys2Proof.Machine.execEmergencyInputChange active s
  | .powerOn => Sys2Proof.Machine.execPowerOn s
  | .resetLineAssert => Sys2Proof.Machine.execResetLineAssert s
  | .resetLineRelease => Sys2Proof.Machine.execResetLineRelease s
  | .startupPollTimeout => Sys2Proof.Machine.execStartupPollTimeout s
  | .startupHallEvaluation mainsPercent => Sys2Proof.Machine.execStartupHallEvaluation mainsPercent s
  | .startupAdoption => Sys2Proof.Machine.execStartupAdoption s
  | .startupEnd => Sys2Proof.Machine.execStartupEnd s
  | .receivedByte b => Sys2Proof.Machine.execReceivedByte b s

end Sys2Proof.Machine
end

