-- ==== Sys2Proof/Machine/Sampling.lean ====
section
/-! DEFINITION. What the part samples every 5 ms (R20, R145-R149, R153, R166, R171): the filter of a monitor, the detectors
of the transmitters, the mains, the field line pins, the emergency input and the reference input, read from the
machine's feed (log 11). -/

namespace Sys2Proof.Machine

/-! ### The filter of a monitor (R146) -/

/-- What a monitor makes of a sample (R146). -/
inductive Sampled where
  | agrees
  | pends
  | crosses
deriving DecidableEq, Repr

/-- The side of a sample that is HIGH or not. -/
def sideOf (high : Bool) : Side := if high then .high else .low

/-- A sample against the side, the pending count and the filter (R146). -/
def sampled (filter pending : Bool) (side : Option Side) (high : Bool) : Sampled :=
  if side = some (sideOf high) then .agrees else if filter && !pending then .pends else .crosses

/-! ### The detectors (R147, R148, R149) -/

/-- The forward detector reads at least the absent level, 2% of the rated power (R147). -/
def Detectors.carrier (d : Detectors) (rated : Nat) : Bool := decide (rated * 1000 * 2 ≤ d.forward * 100)

/-- The reflected monitor's ratio is at least a level in percent; below the absent level it is 0% (R148). -/
def Detectors.reflectedHigh (d : Detectors) (rated level : Nat) : Bool :=
  if d.carrier rated then decide (level * d.forward ≤ d.reflected * 100) else decide (level = 0)

/-- The forward monitor's reading in watts, by its source and the state of its route (R149). -/
def Bench.forwardReading (e : Env) (d : Detectors) (b : Bench) : Nat :=
  match b.u.fwd.config.source with
  | .transmitter => d.forward
  | .line => if b.lineOpen e then 0 else d.line

/-- The forward monitor's reading is at least its level in percent of the power sent, in kW (R149). -/
def Bench.forwardHigh (e : Env) (d : Detectors) (kW : Nat) (b : Bench) : Bool :=
  decide (forwardLevel b.u.fwd.config.level * (kW * 1000) ≤ b.forwardReading e d * 100)

/-- The sample instant is one of a monitor with divisor `n`: every `n`-th (R145, log 11). -/
def dueAt (instant n : Nat) : Bool := instant % n == 0

/-- A sample of the reflected monitor (R146, R148). -/
def Bench.sampleReflected (d : Detectors) (e : Env) (b : Bench) : Bench :=
  let r := b.u.refl
  let high := d.reflectedHigh b.u.tr.desc.rated (reflectedLevel r.config.level)
  if r.state ≠ .armed then b
  else match sampled r.config.filter r.pending r.side high with
    | .agrees => b.station fun u => { u with refl := { u.refl with pending := false } }
    | .pends => b.station fun u => { u with refl := { u.refl with pending := true } }
    | .crosses => if high then b.reflectedRise e else b.reflectedFall e

/-- A sample of the forward monitor (R146, R149). Its power sent is that of the current transmission. -/
def Bench.sampleForward (d : Detectors) (e : Env) (b : Bench) : Bench :=
  let f := b.u.fwd
  match f.state, b.u.tr.current with
  | .off, _ => b
  | _, none => b
  | _, some x =>
    let high := b.forwardHigh e d x.kW
    match sampled f.config.filter f.pending f.side high with
    | .agrees => b.station fun u => { u with fwd := { u.fwd with pending := false } }
    | .pends => b.station fun u => { u with fwd := { u.fwd with pending := true } }
    | .crosses => if high then b.forwardRise e else b.forwardFall e

/-- A sample of the absent comparator, its filter ON; its first sets the side directly (R147). -/
def Bench.sampleAbsent (d : Detectors) (e : Env) (b : Bench) : Bench :=
  let a := b.u.absent
  let high := d.carrier b.u.tr.desc.rated
  match sampled a.side.isSome a.pending a.side high with
  | .agrees => b.station fun u => { u with absent := { u.absent with pending := false } }
  | .pends => b.station fun u => { u with absent := { u.absent with pending := true } }
  | .crosses => if high then b.rfPresent e else b.rfAbsent e

/-- A transmitter's samples at an instant: the reflected monitor, the forward monitor, the absent comparator (log 24). -/
def State.sampleStation (s : State) (instant : Nat) (d : Detectors) (t : Tx) : State :=
  let u := s.stations.get t
  let s := if dueAt instant u.refl.config.divisor then s.csq t (Bench.sampleReflected d) else s
  let s := if dueAt instant u.fwd.config.divisor then s.csq t (Bench.sampleForward d) else s
  s.csq t (Bench.sampleAbsent d)

/-! ### Pins, the emergency input and the mains (R171, R166) -/

/-- A sample of an undriven line's pin: the second of two agreeing samples is accepted; a PULSE line follows its pin, and
its rising edge is a second pulse (R171). -/
def State.sampleLine (s : State) (high : Bool) (l : Line) : State :=
  let k := s.lines.get l
  if k.kind.drives then s
  else if k.kind = .pulse then
    if k.pin = some false ∧ high = true then s.secondPulse l
    else s.onLine l fun r => { r with pin := some high, last := some high }
  else if k.last = some high ∧ k.pin ≠ some high then s.acceptLevel l high
  else s.onLine l fun r => { r with last := some high }

/-- A sample of the emergency input, filtered in the same way; it is ACTIVE when it is low (R171). -/
def State.sampleEmergency (high : Bool) (s : State) : State :=
  let active := !high
  if s.ilu.inputLast = some active ∧ s.ilu.input ≠ some active then s.emergencyLevel active
  else s.onIlu fun u => { u with inputLast := some active }

/-- A sample of the mains: start-up's one evaluation, once the levels are settled, or the mains monitor (R166, R168). -/
def State.sampleMains (percent : Nat) (s : State) : State :=
  if s.boot.phase = .evaluate then (if s.levelsSettled then s.evaluateHall percent else s) else s.mainsSample percent

/-! ### One sample instant -/

/-- The reference input read at an instant (R20): judged at all times, through a reset too (R28). -/
def State.sampleReference (good : Bool) (s : State) : State :=
  if good then s.onClock Clock.referenceGood else s.referenceFails

/-- Everything that one sample instant reads, in the order of log 24; with the reset line asserted the reference alone
(R205), and before start-up's first step nothing else either (R147, R171). -/
def State.sample (instant : Nat) (i : Inputs) (s : State) : State :=
  let s := s.sampleReference i.reference
  if s.boot.asserted ∨ s.boot.phase = .load then s
  else
    let s := allLines.foldl (fun s l => s.sampleLine (i.pins.getLsbD l.val) l) s
    let s := (s.sampleEmergency i.emergency).sampleMains i.mains
    allTx.foldl (fun s t => s.sampleStation instant (i.detectors.get t) t) s

/-- A sample instant passes: what the inputs read is taken, if the feed says it (log 11). -/
def State.passInstant (s : State) : State :=
  let n := s.sampling.instant
  match s.sampling.feed with
  | [] => { s with sampling := { s.sampling with instant := (n + 1) % 8 } }
  | i :: rest => State.sample n i { s with sampling := { instant := (n + 1) % 8, feed := rest } }

end Sys2Proof.Machine
end

