-- ==== Sys2Proof/Machine/Tick.lean ====
section
/-! DEFINITION. One phase tick (R19): every count of phase ticks advances by one, and one that reaches its limit hands
the command of its expiry (log 2, log 24); then the tick's two sample instants pass (log 11). -/

namespace Sys2Proof.Machine

/-- The count advanced; one at its limit stays (log 2). -/
def Timer.tick (t : Timer) : Timer := if t.count < t.limit then { t with count := t.count + 1 } else t
/-- The count reaches its limit at this tick. -/
def Timer.expires (t : Timer) : Bool := decide (t.count < t.limit) && decide (t.limit ≤ t.count + 1)
/-- The count stands at its limit. -/
def Timer.full (t : Timer) : Bool := decide (t.limit ≤ t.count)

/-- A command when a running count expires at this tick. -/
def expiry (t : Option Timer) (i : Instr) : List Instr := if t.any Timer.expires then [i] else []

/-- The command of a context's deadline, by its phase (R123-R130). -/
def Phase.expiry (p : Phase) (t : Tx) : Instr :=
  match p with
  | .claim => .claimWaitExpiry t
  | .mute => .muteLimitExpiry t
  | .settle => .settleExpiry t
  | .drive => .tuneLimitExpiry t
  | .hold => .holdTimeExpiry t
  | .ramp => .rampLimitExpiry t
  | .windUp => .muteLimitExpiry t

/-- The expiries of a transmitter's counts at this tick, in the order of their rules' chapters. -/
def Station.expiries (u : Station) (t : Tx) : List Instr :=
  let r := u.tr
  (match r.context with | some c => expiry c.deadline (c.phase.expiry t) | none => []) ++
  (match r.startup with | .muting m => expiry (some m) (.muteLimitExpiry t) | _ => []) ++
  expiry (r.openTune.map (·.deadline)) (.openTuneExpiry t) ++
  (match r.stage with
    | .delay d => expiry (some d) (.restrikeDelayExpiry t)
    | .ramp d => expiry (some d) (.restrikeRampLimitExpiry t)
    | _ => []) ++
  expiry r.tripWatch (.tripMuteWatchExpiry t) ++ expiry r.window (.restrikeWindowExpiry t) ++
  expiry u.refl.arming (.armingDelayExpiry t) ++ expiry u.fwd.loss (.carrierLossExpiry t) ++
  (match r.poll with | some n => if n + 1 = Config.pollTicks then [.statPollInstant t] else [] | none => [])

/-- A transmitter's counts advanced by one tick. -/
def Station.tick (u : Station) : Station :=
  let r := u.tr
  { u with
    tr := { r with
      context := r.context.map fun c => { c with deadline := c.deadline.map Timer.tick }
      startup := match r.startup with | .muting m => .muting m.tick | x => x
      openTune := r.openTune.map fun o => { o with deadline := o.deadline.tick }
      stage := match r.stage with | .delay d => .delay d.tick | .ramp d => .ramp d.tick | x => x
      tripWatch := r.tripWatch.map Timer.tick
      window := r.window.map Timer.tick
      poll := r.poll.map fun n => min (n + 1) Config.pollTicks }
    refl := { u.refl with arming := u.refl.arming.map Timer.tick }
    fwd := { u.fwd with loss := u.fwd.loss.map Timer.tick } }

/-- The expiries of the drives in motion at this tick (R107). -/
def Matrix.expiries (m : Matrix) : List Instr :=
  m.drives.flatMap fun d => expiry ((m.point d.1 d.2.1).drive.map (·.travel)) (.travelLimitExpiry d.1 d.2.1)

/-- The drives' travel counts advanced by one tick (R92). -/
def Matrix.tick (m : Matrix) : Matrix :=
  m.drives.foldl (fun m d =>
    m.onPoint d.1 d.2.1 fun p => { p with drive := p.drive.map fun q => { q with travel := q.travel.tick } }) m

/-- The completion of the operation in flight, and the tick by which it has come (R35, log 2). -/
def StoreOp.completion : StoreOp → Instr × Nat
  | .header _ => (.headerWriteComplete, Config.pageWriteTicks)
  | .page _ _ _ => (.entryPageWriteComplete, Config.pageWriteTicks)
  | .settings _ => (.settingsWriteComplete, Config.pageWriteTicks)
  | .erase _ => (.eraseComplete, Config.eraseTicks)

/-- The completion that the store hands at this tick. -/
def Store.expiries (k : Store) : List Instr :=
  match k.op with
  | some op => if k.opTicks + 1 = op.completion.2 then [op.completion.1] else []
  | none => []

/-- The store's ticks advanced. -/
def Store.tick (k : Store) : Store :=
  match k.op with
  | some op => { k with opTicks := min (k.opTicks + 1) op.completion.2 }
  | none => k

/-- The running check goes on by a free number of visits (log 9), and completes by its tick. -/
def State.tickCheck (s : State) : State :=
  match s.check with
  | none => s
  | some k =>
    let n := s.freeCount
    let s := { s with freeCount := n + 1, check := some { k with ticks := min (k.ticks + 1) Config.checkTicks } }
    let s := s.checkVisits (Config.checkPace n)
    if k.ticks + 1 = Config.checkTicks then s.onOut fun o => o.hand .checkComplete else s

/-- The reference's count advances by a tick, up to its second (R20). -/
def Clock.countReference (k : Clock) : Clock := { k with seen := min (k.seen + 1) Config.referenceTicks }

/-- The tenth divider counts the tick (R18). -/
def State.tickClock (s : State) : State :=
  if 9 ≤ s.clock.divider then s.advanceTenth else s.onClock fun k => { k with divider := k.divider + 1 }

/-- Every expiry of this tick but the check's, in the order of log 24. -/
def State.expiries (s : State) : List Instr :=
  expiry s.link.gap .linkGapExpiry ++ expiry s.clock.watch .pulseWatchExpiry ++ s.store.expiries ++
  s.matrix.expiries ++ (allTx.flatMap fun t => (s.stations.get t).expiries t) ++
  expiry s.mains.recovery .mainsRecoveryExpiry ++ expiry s.boot.poll .startupPollTimeout

/-- Every count but the clock's and the check's advanced. -/
def State.tickCounts (s : State) : State :=
  { s with
    link := { s.link with gap := s.link.gap.map Timer.tick }
    clock := { s.clock with watch := s.clock.watch.map Timer.tick }
    store := s.store.tick
    matrix := s.matrix.tick
    stations := mapV Station.tick s.stations
    mains := { s.mains with recovery := s.mains.recovery.map Timer.tick }
    boot := { s.boot with poll := s.boot.poll.map Timer.tick } }

/-- Every count of a phase tick; with the reset line asserted, the clock's alone (R205). -/
def State.tickAll (s : State) : State :=
  let s := s.onClock Clock.countReference
  if s.boot.asserted then s.tickClock
  else ((s.onOut fun o => o.handAll s.expiries).tickCounts.tickCheck).tickClock

/-- One phase tick: its counts, then the two sample instants that end it (R19, R146). -/
def State.tick (s : State) : State := s.tickAll.passInstant.passInstant

/-- The count whose expiry a handed command is still stands at its limit; other commands always stand (log 1). -/
def State.stands (s : State) (i : Instr) : Bool :=
  let full (t : Option Timer) : Bool := t.any Timer.full
  let phase (t : Tx) (p : Phase → Bool) : Bool := (s.tr t).context.any fun c => p c.phase && full c.deadline
  match i with
  | .linkGapExpiry => full s.link.gap
  | .pulseWatchExpiry => full s.clock.watch
  | .startupPollTimeout => full s.boot.poll
  | .mainsRecoveryExpiry => full s.mains.recovery
  | .travelLimitExpiry t c => full ((s.matrix.point t c).drive.map (·.travel))
  | .claimWaitExpiry t => phase t (· == .claim)
  | .muteLimitExpiry t =>
    (match (s.tr t).startup with | .muting m => m.full | _ => false) || phase t fun p => p == .mute || p == .windUp
  | .settleExpiry t => phase t (· == .settle)
  | .tuneLimitExpiry t => phase t (· == .drive)
  | .holdTimeExpiry t => phase t (· == .hold)
  | .rampLimitExpiry t => phase t (· == .ramp)
  | .openTuneExpiry t => full ((s.tr t).openTune.map (·.deadline))
  | .restrikeDelayExpiry t => match (s.tr t).stage with | .delay d => d.full | _ => false
  | .restrikeRampLimitExpiry t => match (s.tr t).stage with | .ramp d => d.full | _ => false
  | .tripMuteWatchExpiry t => full (s.tr t).tripWatch
  | .restrikeWindowExpiry t => full (s.tr t).window
  | .armingDelayExpiry t => full (s.stations.get t).refl.arming
  | .carrierLossExpiry t => full (s.stations.get t).fwd.loss
  | .statPollInstant t => (s.tr t).poll.any fun n => decide (Config.pollTicks ≤ n)
  | .headerWriteComplete | .entryPageWriteComplete | .settingsWriteComplete | .eraseComplete =>
    s.store.op.any fun op => decide (op.completion.1 = i) && decide (op.completion.2 ≤ s.store.opTicks)
  | .checkComplete => s.check.any fun k => decide (Config.checkTicks ≤ k.ticks)
  | _ => true

end Sys2Proof.Machine
end

