-- ==== Sys2Proof/Machine/Own.lean ====
section
/-! DEFINITION. What the part does by itself when no command waits for it (log 1, log 2): the oldest message on its way,
a start-up step, the next request of the queue, the next outgoing frame, and, with nothing to do, one phase tick. -/

namespace Sys2Proof.Machine

/-- The line is free and a frame waits for it (R191). -/
def State.frameWaits (s : State) : Bool :=
  s.link.line.isNone && (s.link.refusal.isSome || s.link.reply.isSome || !s.out.notices.isEmpty)

/-- Takes the oldest message on its way; an expiry whose count has been stopped or started again since is void. -/
def State.takeHanded (s : State) (i : Instr) (rest : List Instr) : Host.Outcome State Fault Refusal :=
  let s := { s with out := { s.out with handed := rest } }
  if s.stands i then exec i s else .next s

/-- Takes the request at the head of the queue (R189). Every command after which one may be taken takes it itself
(`State.takeAndServe`), so that none is left for the part's own work in any run; this is for the states that no run
reaches. -/
def State.takeRequest (s : State) (r : Request) (rest : List Request) : Host.Outcome State Fault Refusal :=
  exec r.command { s with link := { s.link with queue := rest, taking := true } }

/-- The part's own next work (log 2). -/
def State.ownWork (s : State) : Host.Outcome State Fault Refusal :=
  if s.boot.asserted then .next s.tick
  else if s.boot.phase = .load then .next s.settled.beginStartup
  else match s.out.handed with
    | i :: rest => s.takeHanded i rest
    | [] =>
      if s.boot.phase = .query ∧ s.queryEnded then exec .startupAdoption s
      else if s.boot.phase = .adopt ∧ s.adoptionEnded then exec .startupEnd s
      else match s.mayTake, s.link.queue with
        | true, r :: rest => s.takeRequest r rest
        | _, _ => if s.frameWaits then exec .outgoingFrameBegin s else .next s.settled.tick

end Sys2Proof.Machine
end

