-- ==== Sys2Proof/Safety.lean ====
section
/-! DEFINITION. What a safe run is: no step of the machine ends in a fault or a refusal, and the capacities that the spec
states as laws hold. -/

namespace Sys2Proof.Machine

/-- The outcome is a next state. -/
def goesOn {σ φ ρ : Type} : Host.Outcome σ φ ρ → Bool
  | .next _ => true
  | _ => false

/-- The clock's reading is one of the calendar (R17). -/
def Clock.legal (k : Clock) : Bool :=
  k.reading.date.valid && decide (k.reading.minute < 1440) && decide (k.reading.second < 60) &&
  decide (k.reading.tenth < 10) && decide (k.divider < 10)

/-- The queues of the host link and the log are within their capacities (R188, R192, R200). -/
def State.withinCapacity (s : State) : Bool :=
  decide (s.link.queue.length ≤ Config.requestQueueSize) && decide (s.out.notices.length ≤ Config.noticeQueueSize) &&
  decide (s.out.log.records.length ≤ Config.logSize) && decide (s.out.log.unread ≤ s.out.log.records.length)

end Sys2Proof.Machine
end

