-- ==== Sys2Proof/Certificates/Slice0/Obligations.lean ====
section
/-! DEFINITION. The statements for the provers: what the commands do, block by block, and what every step keeps. -/

namespace Sys2Proof.Claims

open Sys2Proof Sys2Proof.Machine

/-! ### Words of the statements -/

/-- The reset line is not asserted, so that commands are taken (R205), and the cell writes of the event before are
complete, as every command finds them (CommandsFindWritesComplete). -/
def live (s : State) : Prop := s.boot.asserted = false ∧ s.store.cellWrites = []
/-- A host request is taken at once: start-up has ended, the reply slot is empty and no request waits before it
(R189). -/
def serves (s : State) : Prop := live s ∧ s.serves = true
/-- The state with a reply in the reply slot. -/
def reply (s : State) (kind : Byte) (h : Head) (v : Verdict) : State :=
  { s with link := { s.link with taking := false, reply := some { kind := kind, tag := h.tag, verdict := v } } }
/-- The state with the reply of an accepted request. -/
def accept (s : State) (kind : Byte) (h : Head) (a : Answer) : State := reply s kind h (.accepted a)
/-- The state with the reply of a refused request. -/
def refuse (s : State) (kind : Byte) (h : Head) (r : Reason) : State := reply s kind h (.refused r [])
/-- The state with an event raised. -/
def event (s : State) (k : EventKind) (subject : Subject) (detail : List Byte) : State :=
  { s with out := s.out.raise { kind := k, subject := subject, detail := detail } }
/-- Just these events are raised between two states, in order. -/
def raises (s t : State) (es : List Event) : Prop :=
  let o := es.foldl Outbox.raise s.out
  t.out.sources = o.sources ∧ t.out.notices = o.notices ∧ t.out.noticeLost = o.noticeLost
/-- Just these records are written to the Transmission Log between two states, in order. -/
def logs (s t : State) (rs : List LogRecord) : Prop := t.out.log = rs.foldl Log.write s.out.log
/-- The event CHANGEOVER_FAILED of a transmitter with its reason, at the stage ON_AIR or CHANGEOVER. -/
def failure (t : Tx) (why : Detail) (onAir : Bool) : Event :=
  { kind := .changeoverFailed, subject := .transmitter t, detail := b1 why.code ++ b1 onAir.toNat }
/-- The event CHANGEOVER_DONE of a transmitter with origin, column and frequency. -/
def success (t : Tx) (origin : Origin) (c : Col) (kHz : Nat) : Event :=
  { kind := .changeoverDone, subject := .transmitter t, detail := b1 origin.code ++ b1 c.val ++ b2 kHz }
/-- The event TX_LOCKED of a transmitter with its lock reason and what follows it. -/
def locking (t : Tx) (why : Detail) (code : List Byte) : Event :=
  { kind := .txLocked, subject := .transmitter t, detail := b1 why.code ++ code }
/-- The event SEASON_SWITCHED of a bank with its season code. -/
def seasonSwitched (s : State) (k : Bank) : Event :=
  { kind := .seasonSwitched, subject := .bank k
    detail := match (s.store.bank k).header with | some h => h.code.toArray.toList | none => [] }
/-- The event MISSED of a transmitter with its reason. -/
def missing (t : Tx) (why : Detail) : Event :=
  { kind := .missed, subject := .transmitter t, detail := b1 why.code }
/-- A slot request that waited has taken a slot, of `free` that were free: its drive has started, or the slot is free
again and the request answered DRIVE_DONE or DRIVE_FAILED (R103, R105). -/
def tookSlot (t : State) (r : SlotRequest) (free : Nat) : Prop :=
  t.matrix.queue = [] ∧
  ((Instr.driveStarted r.t r.row r.column ∈ t.out.handed ∧ t.matrix.free + 1 = free ∧
      MatrixOrder.drive r.row r.column r.direction ∈ t.out.link) ∨
    (t.matrix.free = free ∧ (Instr.driveDone r.t r.row r.column ∈ t.out.handed ∨
      ∃ why, Instr.driveFailed r.t r.row r.column why ∈ t.out.handed)))
/-- The state with messages handed to other blocks. -/
def handed (s : State) (is : List Instr) : State := { s with out := { s.out with handed := s.out.handed ++ is } }
/-- The state after the second of the clock's reading advances with its carries (R18): `at_` gives the state at a
reading; an advance of the minute raises an ADVANCE boundary, and the end of 2099 is handled as a setting of
2000-01-01 00:00:00.0. -/
def nextSecond (s : State) (at_ : Reading → State) : State :=
  let r := s.clock.reading
  let advance (x : Reading) : State := handed (at_ x)
    [.minuteBoundary { kind := .advance, now := x.minutes, clockSet := s.clock.isSet, previous := none }]
  let first : Reading := { date := { year := 2000, month := 1, day := 1 }, minute := 0, second := 0, tenth := 0 }
  if r.second < 59 then at_ { r with tenth := 0, second := r.second + 1 }
  else if r.minute < 1439 then advance { r with tenth := 0, second := 0, minute := r.minute + 1 }
  else if r.date.year = 2099 ∧ r.date.month = 12 ∧ r.date.day = 31 then
    handed (event (at_ first) .timeSet .none (b4 (BitVec.ofInt 32 (clockStep r first)).toNat))
      [.minuteBoundary { kind := .step, now := 0, clockSet := s.clock.isSet, previous := some r.minutes }]
  else if r.date.day < monthLength r.date.year r.date.month then
    advance { r with tenth := 0, second := 0, minute := 0, date := { r.date with day := r.date.day + 1 } }
  else if r.date.month < 12 then
    advance { r with tenth := 0, second := 0, minute := 0, date := { r.date with month := r.date.month + 1, day := 1 } }
  else
    advance { r with tenth := 0, second := 0, minute := 0, date := { year := r.date.year + 1, month := 1, day := 1 } }
/-- The state with a bank replaced. -/
def setBank (s : State) (k : Bank) (b : SeasonBank) : State :=
  { s with store := { s.store with banks := upd s.store.banks k b } }
/-- The state with a bank replaced by an operation that writes its state cell (R34). -/
def writeBank (s : State) (k : Bank) (b : SeasonBank) : State :=
  { s with store := { s.store with
      banks := upd s.store.banks k b, cellWrites := s.store.cellWrites ++ [(k, (s.store.bank k).cell)] } }
/-- The state with the store controller's operation set. -/
def setOp (s : State) (op : Option StoreOp) : State := { s with store := { s.store with op := op, opTicks := 0 } }
/-- What a description change does between two states (R11-R13, R64): the serial number advances by one, every VALID
bank becomes CLOSED and keeps its report, with DESCRIPTION_CHANGED for each, a running check ends with its bank CLOSED,
a report ABORTED and CHECK_DONE, every other bank state stays, and nothing else is raised but the events named first.
The order of the events is the model's (log 43). -/
def describedAnew (s t : State) (first : List Event) : Prop :=
  let changed : List Event := (([0, 1] : List Bank).filter fun b => (s.store.bank b).state == .valid).map fun b =>
    { kind := .descriptionChanged, subject := .bank b, detail := [] }
  let aborted : List Event := match s.check with
    | some k => [{ kind := .checkDone, subject := .bank k.bank, detail := [3] }]
    | none => []
  t.store.serial = s.store.serial + 1 ∧ t.check = none ∧ raises s t (first ++ changed ++ aborted) ∧
  (∀ b, (∀ k, s.check = some k → k.bank ≠ b) →
    (t.store.bank b).state = (if (s.store.bank b).state = .valid then .closed else (s.store.bank b).state) ∧
    (t.store.bank b).read.report = (s.store.bank b).read.report) ∧
  ∀ k, s.check = some k → (t.store.bank k.bank).state = .closed ∧
    (t.store.bank k.bank).read.report =
      some { outcome := .aborted, serial := k.serial, total := k.total, faults := k.faults }
/-- A minute boundary finds nothing to do about the season: it carries NOT_SET; or it carries SET, as a running engine's
boundaries do (R28, R73, R77), with no bank to switch to (R88) and no effective start passing that raises SEASON_MISSED
(R90). -/
def keepsSeason (b : Boundary) (s : State) : Prop :=
  b.clockSet = false ∨ (s.switchTo b.now = none ∧ ∀ k x, (s.store.bank k).effective = some x →
    ((s.store.bank k).state = .opened ∨ (s.store.bank k).state = .closed ∨ (s.store.bank k).state = .checking ∨
      (s.store.bank k).state = .rejected) → ¬ (b.previous.getD (b.now - 1) < x ∧ x ≤ b.now))
/-- Everything in the request queue is a host request, and once start-up has ended and the reply slot is empty none
waits there: the one at its head has been taken (R189). -/
def queueServed (s : State) : Prop :=
  (∀ r ∈ s.link.queue, (requestOf r.command).isSome = true) ∧
  (s.boot.phase = .done → s.link.reply = none → s.link.queue = [])
/-- The state with the request at the head of its queue taken from it. -/
def takingHead (s : State) (rest : List Request) : State :=
  { s with link := { s.link with queue := rest, taking := true } }
/-- The command of the request that a command may take from the queue in its own event (R189, log 21): the head of the
queue, or, with none waiting, the frame received. -/
def nextRequest (c : Instr) (s : State) : Option Instr :=
  match c with
  | .outgoingFrameEnd => s.link.queue.head?.map Request.command
  | .startupEnd => s.link.queue.head?.map Request.command
  | .frameReceived bytes => (s.link.queue ++ [Request.frame (frameOf bytes)]).head?.map Request.command
  | _ => none
/-- A changeover of a transmitter that is building a transmission is abandoned between two states (R130, R131, R140):
with a step of its plan MOVING, or RF PRESENT, it winds up with that outcome; with nothing MOVING, the mute confirmed and
the Pending slot empty the transmitter is READY. -/
def abandonedBuild (u : Tx) (k : Context) (s t : State) : Prop :=
  let r := s.tr u
  let moving : Prop := ∃ p ∈ k.plan, p.status = .moving
  ((moving ∨ r.rf = some true) →
    ∃ c, (t.tr u).context = some c ∧ c.phase = .windUp ∧ c.outcome = some .abandoned ∧ c.closing = .window) ∧
  (¬ moving → r.unmuted = false → r.muteConfirmed = true → r.rf ≠ some true → r.slot = none →
    (t.tr u).state = .ready ∧ (t.tr u).context = none)
/-- The number of crosspoints with a drive. -/
def driving (m : Matrix) : Nat := m.drives.length
/-- A list of sources that names no transmitter twice: at most one claim of each. -/
def oneClaimEach (m : Matrix) : Prop := (m.claims.map (·.t)).Nodup
/-- Every crosspoint has a drive exactly while it is in motion, and the free and granted motor slots are three. -/
def slotsBalanced (m : Matrix) : Prop :=
  (∀ t c, (m.point t c).drive.isSome = (m.point t c).state.moving) ∧ m.free + driving m = 3
/-- Not both banks are ACTIVE. -/
def oneActive (k : Store) : Prop := ¬ ((k.bank 0).state = .active ∧ (k.bank 1).state = .active)
/-- Not both banks are ACTIVE; between a reset and start-up's bank tests they may be, where the reset cut a season
switch (R34, R48). -/
def oneSeason (s : State) : Prop := s.boot.phase ≠ .load → oneActive s.store
/-- A halted engine holds no firing, no carried record and no fill point. -/
def haltedEmpty (g : Engine) : Prop := g.state = .halted → g.upcoming = [] ∧ g.carried = [] ∧ g.fill = none
/-- Until start-up's bank tests the store controller and the Check Unit are IDLE; a page write goes to an OPEN bank, an
erase to one that is not ACTIVE, CHECKING or VALID, and the bank that a check reads is CHECKING. -/
def storeQuiet (s : State) : Prop :=
  ((s.boot.asserted = true ∨ s.boot.phase = .load) → s.store.op = none ∧ s.check = none) ∧
  (∀ b, s.store.writing b = true → (s.store.bank b).state = .opened) ∧
  (∀ b, s.store.erasing b = true →
    (s.store.bank b).state ≠ .active ∧ (s.store.bank b).state ≠ .checking ∧ (s.store.bank b).state ≠ .valid) ∧
  (∀ k, s.check = some k → (s.store.bank k.bank).state = .checking)
/-- The order of the week's firings in the hour that begins at minute `b` of the week (R60): by minute, END before
START, then by transmitter, then by place. -/
def firesBefore (b : Nat) (g f : WeekFiring) : Bool :=
  let offset (x : WeekFiring) : Nat := (x.minute + 10080 - b) % 10080
  decide (offset g < offset f) || (offset g == offset f &&
    ((!g.start && f.start) || (g.start == f.start &&
      (decide (g.t < f.t) || (g.t == f.t && decide (g.place < f.place))))))
/-- The bounded lists of the engine and of the running check are within their capacities. -/
def listsBounded (s : State) : Prop :=
  s.engine.upcoming.length ≤ 128 ∧ ∀ k, s.check = some k → k.faults.length ≤ 16 ∧ k.total ≤ 65535

end Sys2Proof.Claims

open Sys2Proof Sys2Proof.Machine Sys2Proof.Claims

/-! ### The machine -/

/-- A step takes the command at the front of the queue: it is `exec` of it on the state with the queue's rest. -/
def Obligations.StepRunsTheFrontCommand : Prop :=
  ∀ (c : Instr) (rest : List Instr) (s : State), s.pending = c :: rest → step s = exec c { s with pending := rest }

/-- Every command is answered by a next state that leaves the queue alone, and every step goes on: nothing stops the
part. -/
def Sys2Proof.Claims.NothingStops : Prop :=
  (∀ (c : Instr) (s : State), ∃ t, exec c s = .next t ∧ t.pending = s.pending) ∧ ∀ s, goesOn (step s) = true

/-- Every command but the two that may cut a state cell write, POWER_ON and RESET_LINE_ASSERT, finds the cell writes of
the event before complete (R34): it does what it does with none recorded. -/
def Sys2Proof.Claims.CommandsFindWritesComplete : Prop :=
  ∀ (c : Instr) (s : State), s.boot.asserted = false → c ≠ .powerOn → c ≠ .resetLineAssert →
    exec c s = exec c { s with store := { s.store with cellWrites := [] } }

/-- Every command completes, and finds the state cell writes of the event before complete. -/
def Obligations.EveryCommandCompletes : Prop := NothingStops ∧ CommandsFindWritesComplete

/-- With an empty queue the part does its own work in the order of log 1 and log 2 (the model's choice): the oldest
message on its way, then the oldest queued request once its reply slot is empty (R189), then the next outgoing frame
(R191), and with nothing to do one phase tick. No run leaves a request to the part's own work (WaitingRequestsServed).
-/
def Sys2Proof.Claims.OwnWorkInOrder : Prop :=
  ∀ s : State, live s → s.pending = [] → s.boot.phase = .done →
    (∀ i rest, s.out.handed = i :: rest →
      let taken : State := { s with out := { s.out with handed := rest } }
      step s = if s.stands i then exec i taken else .next taken) ∧
    (∀ r rest, s.out.handed = [] → s.link.reply = none → s.link.queue = r :: rest →
      step s = exec r.command (takingHead s rest)) ∧
    (s.out.handed = [] → (s.link.queue = [] ∨ s.link.reply.isSome) →
      let waits : Prop := s.link.refusal.isSome ∨ s.link.reply.isSome ∨ s.out.notices ≠ []
      (s.link.line = none → waits → step s = exec .outgoingFrameBegin s) ∧
      (s.link.line.isSome ∨ ¬ waits → step s = .next s.tick))

/-- The own work of start-up, with no command waiting (log 1, log 2): while the reset line is asserted the clock's tick;
then start-up's first steps, the messages on their way, the adoption once the queries have ended, and the end once the
adoption has. -/
def Sys2Proof.Claims.StartupWorkInOrder : Prop :=
  ∀ s : State, s.store.cellWrites = [] → s.pending = [] →
    (s.boot.asserted = true → step s = .next s.tick) ∧
    (s.boot.asserted = false → s.boot.phase = .load → step s = .next s.beginStartup) ∧
    (s.boot.asserted = false → s.boot.phase ≠ .load → ∀ i rest, s.out.handed = i :: rest → s.stands i = true →
      step s = exec i { s with out := { s.out with handed := rest } }) ∧
    (s.boot.asserted = false → s.out.handed = [] →
      (s.boot.phase = .query → s.queryEnded = true → step s = exec .startupAdoption s) ∧
      (s.boot.phase = .adopt → s.adoptionEnded = true → step s = exec .startupEnd s))

/-- A phase tick advances the tenth divider, and every count by one up to its limit; the count that reaches its limit
hands its expiry (R18, R19, R20). That the reference's whole second is counted on `clock.seen` in phase ticks is the
model's (log 42). Stated for the divider, the reference's second, the pulse watch, the mains recovery
hold and a context's deadline, of a tick at whose sample instants no input is read. -/
def Sys2Proof.Claims.TickAdvancesTheCounts : Prop :=
  ∀ s : State, live s → s.check = none → s.clock.divider < 9 → s.sampling.feed = [] →
    s.tick.sampling.instant = (s.sampling.instant + 2) % 8 ∧ s.tick.clock.seen = min (s.clock.seen + 1) 100 ∧
    s.tick.clock.divider = s.clock.divider + 1 ∧ s.tick.clock.reading = s.clock.reading ∧
    (∀ w : Timer, s.clock.watch = some w → w.count < w.limit →
      s.tick.clock.watch = some { w with count := w.count + 1 } ∧
      (w.count + 1 = w.limit → Instr.pulseWatchExpiry ∈ s.tick.out.handed)) ∧
    (∀ w : Timer, s.mains.recovery = some w → w.count < w.limit →
      s.tick.mains.recovery = some { w with count := w.count + 1 } ∧
      (w.count + 1 = w.limit → Instr.mainsRecoveryExpiry ∈ s.tick.out.handed)) ∧
    ∀ (t : Tx) (k : Context) (w : Timer), (s.tr t).context = some k → k.deadline = some w → w.count < w.limit →
      (s.tick.tr t).context = some { k with deadline := some { w with count := w.count + 1 } } ∧
      (w.count + 1 = w.limit → k.phase.expiry t ∈ s.tick.out.handed)

/-- With no command waiting: the part's own work in its order, and what a phase tick counts. -/
def Obligations.OwnWorkAndTicks : Prop := OwnWorkInOrder ∧ StartupWorkInOrder ∧ TickAdvancesTheCounts

/-- Every host request is answered by one reply of its kind and tag (R190). -/
def Sys2Proof.Claims.EveryRequestIsAnswered : Prop :=
  ∀ (c : Instr) (s : State) (kind : Byte) (h : Head), serves s → requestOf c = some (kind, h) →
    ∃ t r, exec c s = .next t ∧ t.link.reply = some r ∧ r.kind = kind ∧ r.tag = h.tag

/-- A refused request changes nothing but the reply slot, but for the BANK_MISMATCH that a WRONG_BANK refusal of
WRITE_ENTRIES raises (R40); and a body of the wrong length is refused BAD_LENGTH. -/
def Sys2Proof.Claims.RefusedRequestChangesNothing : Prop :=
  (∀ (c : Instr) (s t : State) (kind : Byte) (h : Head) (why : Reason) (items : List Byte), serves s →
    requestOf c = some (kind, h) → exec c s = .next t →
    t.link.reply = some { kind := kind, tag := h.tag, verdict := .refused why items } → why ≠ .wrongBank →
    t = reply s kind h (.refused why items)) ∧
  ∀ (c : Instr) (s : State) (kind : Byte) (h : Head), serves s → requestOf c = some (kind, h) → h.sized = false →
    (∀ h' k', c ≠ .unknownKind h' k') → exec c s = .next (refuse s kind h .badLength)

/-- A host request that may not be taken at once waits as one more request of the queue (R188, R189; that a commanded
request waits so is the model's form, log 21): with four waiting it takes the refusal slot, and with that occupied it is
a frame fault OVERRUN. -/
def Sys2Proof.Claims.RequestsWait : Prop :=
  ∀ (c : Instr) (s : State) (kind : Byte) (h : Head), live s → s.serves = false → requestOf c = some (kind, h) →
    (s.link.queue.length < 4 →
      exec c s = .next { s with link := { s.link with queue := s.link.queue ++ [.spelled c] } }) ∧
    (4 ≤ s.link.queue.length → s.link.refusal = none →
      exec c s = .next { s with link := { s.link with refusal := some { tag := h.tag, kind := kind } } }) ∧
    (4 ≤ s.link.queue.length → s.link.refusal ≠ none → exec c s = .next (event s .linkFrameFault .none [3]))

/-- Every step keeps the request queue one of host requests, empty whenever one of them may be taken: a waiting request
is taken in the event after which it may be (R189; the queue's commanded requests are the model's form, log 21). -/
def Sys2Proof.Claims.WaitingRequestsServed : Prop :=
  ∀ s t : State, queueServed s → step s = .next t → queueServed t

/-- Every request is answered once when it is taken, a refused one changes nothing but the reply slot, one that may not
be taken yet waits, and it waits no longer than that. -/
def Obligations.RequestsAnsweredOnce : Prop :=
  EveryRequestIsAnswered ∧ RefusedRequestChangesNothing ∧ RequestsWait ∧ WaitingRequestsServed

/-- Raising an event sets the source flag of its class; with the class enabled the event becomes a notice, or, with
the notice queue full, sets the notice-lost flag; nothing else of what the part puts out changes (R192). -/
def Sys2Proof.Claims.RaisingAnEvent : Prop :=
  ∀ (o : Outbox) (e : Event),
    (o.raise e).sources.getLsbD e.kind.class = true ∧
    (∀ n, n ≠ e.kind.class → (o.raise e).sources.getLsbD n = o.sources.getLsbD n) ∧
    (o.enables.getLsbD e.kind.class = true → o.notices.length < 16 →
      (o.raise e).notices = o.notices ++ [e] ∧ (o.raise e).noticeLost = o.noticeLost) ∧
    (o.enables.getLsbD e.kind.class = true → 16 ≤ o.notices.length →
      (o.raise e).notices = o.notices ∧ (o.raise e).noticeLost = true) ∧
    (o.enables.getLsbD e.kind.class = false →
      (o.raise e).notices = o.notices ∧ (o.raise e).noticeLost = o.noticeLost) ∧
    { o.raise e with sources := o.sources, notices := o.notices, noticeLost := o.noticeLost } = o

/-- A record joins the Transmission Log with the next sequence number, as unread; in a full log it takes the oldest
record's place and sets the overrun flag (R198, R200). -/
def Sys2Proof.Claims.WritingALogRecord : Prop :=
  ∀ (l : Log) (r : LogRecord),
    (l.records.length < 256 →
      (l.write r).records = l.records ++ [{ r with sequence := l.next }] ∧ (l.write r).unread = l.unread + 1 ∧
      (l.write r).overrun = l.overrun ∧ (l.write r).next = l.next + 1) ∧
    (l.records.length = 256 →
      (l.write r).records = l.records.drop 1 ++ [{ r with sequence := l.next }] ∧
      (l.write r).unread = min (l.unread + 1) 256 ∧ (l.write r).overrun = true ∧ (l.write r).next = l.next + 1)

/-- What raising an event and writing a log record do. -/
def Obligations.EventsAndRecordsTaken : Prop := RaisingAnEvent ∧ WritingALogRecord

/-! ### What every step keeps -/

/-- The invariants of this section hold at reset. -/
def Obligations.InvariantsAtReset : Prop :=
  State.reset.clock.legal = true ∧ State.reset.withinCapacity = true ∧ listsBounded State.reset ∧
  slotsBalanced State.reset.matrix ∧ oneClaimEach State.reset.matrix ∧ oneActive State.reset.store ∧
  oneSeason State.reset ∧ storeQuiet State.reset ∧ haltedEmpty State.reset.engine ∧ queueServed State.reset

/-- Every step keeps the clock a reading of the calendar of 2000-2099 (R17, R18, R25). -/
def Obligations.ClockStaysLegal : Prop :=
  ∀ s t : State, s.clock.legal = true → step s = .next t → t.clock.legal = true

/-- Every step keeps the request queue, the notice queue and the Transmission Log within their capacities (R188, R192,
R200). -/
def Sys2Proof.Claims.CapacitiesKept : Prop :=
  ∀ s t : State, s.withinCapacity = true → step s = .next t → t.withinCapacity = true

/-- Every step keeps the Upcoming List within 128 firings, the fault list of a check within 16 records and its total
within 65,535 (R61, R70). -/
def Sys2Proof.Claims.ListsStayBounded : Prop :=
  ∀ s t : State, listsBounded s → step s = .next t → listsBounded t

/-- Every step keeps every bounded list of the part within its capacity. -/
def Obligations.BoundedListsKept : Prop := CapacitiesKept ∧ ListsStayBounded

/-- Every step keeps three motor slots, free or granted to a drive, and a drive exactly on each crosspoint in motion
(R92, R103). -/
def Obligations.MotorSlotsConserved : Prop :=
  ∀ s t : State, slotsBalanced s.matrix → step s = .next t → slotsBalanced t.matrix

/-- Every step keeps at most one claim of each transmitter in the Claim List (R100). -/
def Obligations.OneClaimPerTransmitter : Prop :=
  ∀ s t : State, oneClaimEach s.matrix → step s = .next t → oneClaimEach t.matrix

/-- Every step keeps at most one bank ACTIVE once start-up has tested the banks (R33, R48, R88); start-up's tests leave
at most one, whatever a reset has cut. -/
def Obligations.AtMostOneBankActive : Prop :=
  ∀ s t : State, oneSeason s → step s = .next t → oneSeason t

/-- No page write or erase is ever in flight on a bank that is ACTIVE or CHECKING (law L9), kept by every step. -/
def Obligations.NoWriteUnderAReader : Prop :=
  ∀ s t : State, storeQuiet s → step s = .next t → storeQuiet t

/-- Every step keeps a halted engine without firings, carried records and fill point (R67). -/
def Obligations.HaltedEngineIsEmpty : Prop :=
  ∀ s t : State, haltedEmpty s.engine → step s = .next t → haltedEmpty t.engine

/-- Whenever a step sends UNMUTE to a transmitter, its hold set is empty, and the column of its transmission or of its
changeover's target is IN_SERVICE (R128, R158): in the state that the command taken leaves, or, where the step is a
phase tick whose samples confirm the mute that a restrike waits for, in the state that the tick finds. -/
def Obligations.NoCarrierUnderHold : Prop :=
  ∀ (s t : State) (u : Tx) (orders : List (Tx × PortOrder)), step s = .next t →
    t.out.port = s.out.port ++ orders → (u, .unmute) ∈ orders →
    ((t.tr u).holds.empty = true ∧
      ((∃ x, (t.tr u).current = some x ∧ (t.matrix.column x.column).inService = true) ∨
        ∃ k, (t.tr u).context = some k ∧ (t.matrix.column k.target).inService = true)) ∨
    (s.pending = [] ∧ t = s.settled.tick ∧ (s.tr u).state = .tripped ∧ (s.tr u).holds.empty = true ∧
      ∃ x, (s.tr u).current = some x ∧ (s.matrix.column x.column).inService = true)

/-- A step sets a crosspoint in motion only on a row whose transmitter has mute confirmed and is not in RAMP, ON_AIR or
TRIPPED (R105). -/
def Obligations.DrivesStartMuted : Prop :=
  ∀ (s t : State) (u : Tx) (k : Col), step s = .next t →
    (s.matrix.xstate u k).moving = false → (t.matrix.xstate u k).moving = true →
    (t.matrix.row u).muteConfirmed = true ∧ (t.matrix.row u).condition ≠ .ramp ∧
    (t.matrix.row u).condition ≠ .onAir ∧ (t.matrix.row u).condition ≠ .tripped

/-! ### The clock -/

/-- The change of reference presence (R20, R21): a reference judged present after its whole second is recorded and
selects nothing; a failure restarts that second and is recorded, and while the reference is the clock source it makes
the source INTERNAL with REFERENCE_LOST; what the input reads at a sample instant does the same; and no command leaves
the source REFERENCE with the reference ABSENT. -/
def Sys2Proof.Claims.PresenceRecorded : Prop :=
  (∀ s : State, s.store.cellWrites = [] → exec .referenceJudgedPresent s = .next
    (if 100 ≤ s.clock.seen then { s with clock := { s.clock with present := true } } else s)) ∧
  (∀ s : State, s.store.cellWrites = [] → exec .referenceInputFailure s = .next
    (if s.clock.source = .reference then
      event { s with clock := { s.clock with present := false, seen := 0, source := .internal } } .referenceLost .none []
    else { s with clock := { s.clock with present := false, seen := 0 } })) ∧
  (∀ (good : Bool) (s : State), s.store.cellWrites = [] →
    exec (if good then .referenceJudgedPresent else .referenceInputFailure) s = .next (s.sampleReference good)) ∧
  ∀ (c : Instr) (s t : State), (s.clock.source = .reference → s.clock.present = true) → exec c s = .next t →
    t.clock.source = .reference → t.clock.present = true

/-- A clock that runs on the reference stays on it while the reference remains PRESENT (R21): only a failure of the
input, a SET_CLOCK_SOURCE(INTERNAL) given or taken from the request queue, or POWER_ON takes it off, and so does no phase
tick at whose sample instants the input is not found failing. That the end of an outgoing frame, a received frame and the
end of start-up take the next request in their own event is the model's form (R189, log 21). -/
def Sys2Proof.Claims.ReferenceKept : Prop :=
  (∀ (c : Instr) (s t : State), s.clock.source = .reference → s.clock.present = true → exec c s = .next t →
    c ≠ .referenceInputFailure → c ≠ .powerOn → (∀ h, c ≠ .setClockSource h (some .internal)) →
    (∀ h, nextRequest c s ≠ some (.setClockSource h (some .internal))) →
    t.clock.source = .reference ∧ t.clock.present = true) ∧
  ∀ s : State, s.clock.source = .reference → s.clock.present = true →
    (∀ i ∈ s.sampling.feed.take 2, i.reference = true) →
    s.tick.clock.source = .reference ∧ s.tick.clock.present = true

/-- The reference's presence, its loss, and the clock source that follows it. -/
def Obligations.ReferencePresenceFollowed : Prop := PresenceRecorded ∧ ReferenceKept

/-- SET_CLOCK_SOURCE is decided as R22's tests and table state, and an accepted change moves nothing but the source;
the selection lasts until the next SET_CLOCK_SOURCE, given or taken from the request queue (which a command does in its
own event, the model's form, log 21), a loss of the reference, or power-on. A loss and a request for the reference that
fall together leave INTERNAL in both orders: the loss first, the request is refused WRONG_STATE; the
request first, the loss takes the source away again and raises REFERENCE_LOST. The selection is not part of the settings
block: a save captures the same block whatever the clock holds. -/
def Obligations.SetClockSourceDecided : Prop :=
  (∀ (h : Head) (source : Option ClockSource) (s : State), serves s →
    exec (.setClockSource h source) s = .next
      (if h.sized = false then refuse s 0x21 h .badLength
      else match source with
        | none => refuse s 0x21 h .badField
        | some .internal => accept { s with clock := { s.clock with source := .internal } } 0x21 h .empty
        | some .reference =>
          if s.clock.present then accept { s with clock := { s.clock with source := .reference } } 0x21 h .empty
          else refuse s 0x21 h .wrongState)) ∧
  (∀ (c : Instr) (s t : State), exec c s = .next t → t.clock.source ≠ s.clock.source →
    c = .powerOn ∨ c = .referenceInputFailure ∨ ∃ h x, c = .setClockSource h x ∨
      nextRequest c s = some (.setClockSource h x)) ∧
  (∀ (h : Head) (s : State), serves s → h.sized = true → ∃ t, exec .referenceInputFailure s = .next t ∧
    exec (.setClockSource h (some .reference)) t = .next (refuse t 0x21 h .wrongState) ∧
    (refuse t 0x21 h .wrongState).clock.source = .internal) ∧
  (∀ (h : Head) (s : State), serves s → h.sized = true → s.clock.present = true →
    ∃ t u, exec (.setClockSource h (some .reference)) s = .next t ∧ t.clock.source = .reference ∧
      exec .referenceInputFailure t = .next u ∧ u.clock.source = .internal ∧ u.clock.present = false ∧
      raises t u [{ kind := .referenceLost, subject := .none, detail := [] }]) ∧
  ∀ (autorun warmAdopt : Bool) (s : State) (c : Clock),
    ({ s with clock := c }).capture autorun warmAdopt = s.capture autorun warmAdopt

/-- SET_TIME (R25): its tests in order, and, accepted, the step from the reading it replaces, the new reading at the
start of its tenth, the flag SET, TIME_SET, a STEP boundary, and the step in the reply. -/
def Obligations.SetTimeDecided : Prop :=
  ∀ (h : Head) (year month day minute second tenth : Nat) (s : State), serves s →
    let new : Reading :=
      { date := { year := year, month := month, day := day }, minute := minute, second := second, tenth := tenth }
    let difference : Int := (new.tenths : Int) - (s.clock.reading.tenths : Int)
    let step : Int := max (-2147483648) (min 2147483647 difference)
    let boundary : Boundary :=
      { kind := .step, now := new.minutes, clockSet := true, previous := some s.clock.reading.minutes }
    exec (.setTime h year month day minute second tenth) s = .next
      (if h.sized = false then refuse s 0x20 h .badLength
      else if ¬ (2000 ≤ year ∧ year ≤ 2099 ∧ 1 ≤ month ∧ month ≤ 12 ∧ 1 ≤ day ∧ day ≤ 31 ∧ minute ≤ 1439 ∧
          second ≤ 59 ∧ tenth ≤ 9) then refuse s 0x20 h .outOfRange
      else if monthLength year month < day then refuse s 0x20 h .badField
      else accept
        (handed
          (event { s with clock := { s.clock with reading := new, divider := 0, isSet := true } } .timeSet .none
            (b4 (BitVec.ofInt 32 step).toNat)) [.minuteBoundary boundary])
        0x20 h (.step step))

/-- A tenth completes (R18): the tenth, second, minute of day and date advance with their carries, an advance of the
minute raises an ADVANCE boundary, and the end of 2099 is handled as a setting of 2000-01-01 00:00:00.0. The reset line
does not stop it (R205). -/
def Sys2Proof.Claims.TenthAdvances : Prop :=
  ∀ s : State, s.store.cellWrites = [] →
    let r := s.clock.reading
    let at_ (x : Reading) : State := { s with clock := { s.clock with divider := 0, reading := x } }
    exec .clockTenthAdvance s = .next (if r.tenth < 9 then at_ { r with tenth := r.tenth + 1 } else nextSecond s at_)

/-- A second pulse on the PULSE line aligns the clock to a second and locks the pulse state (R23, R24): below tenth 5 to
the start of the second, from tenth 5 on to the next one with all the carries of a tenth's advance, to the minute, the
date and the 2099 wrap; the line's pin stands HIGH after it (R171). Without a PULSE line there is none. The expiry of
the pulse watch makes the state LOST and stops the watch (R24). -/
def Sys2Proof.Claims.SecondPulseAligns : Prop :=
  (∀ (s : State) (l : Line), live s → s.pulseLine = some l →
    let r := s.clock.reading
    let at_ (x : Reading) : State := { s with
      clock := { s.clock with
        reading := x, divider := 0, pulse := .locked, watch := some { count := 0, limit := 300 } }
      lines := upd s.lines l { s.lines.get l with pin := some true, last := some true } }
    exec .secondPulse s = .next (if r.tenth < 5 then at_ { r with tenth := 0 } else nextSecond s at_)) ∧
  (∀ s : State, live s → s.pulseLine = none → exec .secondPulse s = .next s) ∧
  ∀ (s : State) (l : Line), live s → s.clock.watch.isSome → s.pulseLine = some l →
    exec .pulseWatchExpiry s = .next
      (event { s with clock := { s.clock with pulse := .lost, watch := none } } .pulseLost (.line l) [])

/-- The clock's own advance, its alignment to the second pulse, and the pulse watch. -/
def Obligations.ClockAdvances : Prop := TenthAdvances ∧ SecondPulseAligns

/-! ### The hall description -/

/-- SET_TRANSMITTER (R3, R4): its tests in order; an accepted one replaces the six fields, answers with the serial
number as it then stands, and follows a change of presence. -/
def Sys2Proof.Claims.SetTransmitterDecided : Prop :=
  ∀ (h : Head) (n : Nat) (present : Bool) (rated step low high programmes : Nat) (s : State), serves s →
    let i : Instr := .setTransmitter h n present rated step low high programmes
    let inRange : Prop := n ≤ 11 ∧ 10 ≤ rated ∧ rated ≤ 500 ∧ 2300 ≤ low ∧ low ≤ 26100 ∧ 2300 ≤ high ∧ high ≤ 26100 ∧
      1 ≤ programmes ∧ programmes ≤ 16
    let legal : Prop := (step = 1 ∨ step = 5 ∨ step = 10 ∨ step = 25) ∧ low % 5 = 0 ∧ high % 5 = 0 ∧ low ≤ high ∧
      step ≤ rated
    let x := (s.tr (tx n)).state
    let free : Prop := x = .ready ∨ (∃ w, x = .locked w) ∨ ∃ w, x = .dark w
    (h.sized = false → exec i s = .next (refuse s 0x10 h .badLength)) ∧
    (h.sized = true → ¬ inRange → exec i s = .next (refuse s 0x10 h .outOfRange)) ∧
    (h.sized = true → inRange → ¬ legal → exec i s = .next (refuse s 0x10 h .badField)) ∧
    (h.sized = true → inRange → legal → ¬ free → exec i s = .next (refuse s 0x10 h .inUse)) ∧
    (h.sized = true → inRange → legal → free →
      let old := (s.tr (tx n)).desc
      ∃ t, exec i s = .next t ∧
        (t.tr (tx n)).desc = { present := present, rated := rated, step := step, low := low, high := high
                               programmes := programmes, available := old.available } ∧
        t.link.reply = some { kind := 0x10, tag := h.tag, verdict := .accepted (.serial t.store.serial) } ∧
        (old.present = present → (t.tr (tx n)).state = x) ∧
        (old.present = true → present = false →
          (t.tr (tx n)).state = .dark .absent ∧ (t.tr (tx n)).poll = none ∧ (t.tr (tx n)).lock = (s.tr (tx n)).lock) ∧
        (old.present = false → present = true → old.available = false → (t.tr (tx n)).state = .dark .withheld) ∧
        (old.present = false → present = true → old.available = true → (t.tr (tx n)).poll.isSome ∧
          (∀ w, (s.tr (tx n)).lock = some w → (t.tr (tx n)).state = .locked w) ∧
          ((s.tr (tx n)).lock = none →
            (t.tr (tx n)).state = .dark .portSilent ∧ (t.tr (tx n)).silence = 0 ∧
            t.out.port = s.out.port ++ [(tx n, .mute), (tx n, .stat)])))

/-- A description change (R11-R13): an accepted SET_TRANSMITTER that changes none of the six fields leaves the serial
number and the banks alone; one that changes some advances the serial number by one, makes every VALID bank CLOSED,
ends a running check with its bank CLOSED, and leaves every other bank state alone. -/
def Sys2Proof.Claims.DescriptionChangeFollows : Prop :=
  ∀ (h : Head) (n : Nat) (present : Bool) (rated step low high programmes : Nat) (s t : State), serves s →
    exec (.setTransmitter h n present rated step low high programmes) s = .next t →
    (∃ m, t.link.reply = some { kind := 0x10, tag := h.tag, verdict := .accepted (.serial m) }) →
    let old := (s.tr (tx n)).desc
    let same : Prop := old.present = present ∧ old.rated = rated ∧ old.step = step ∧ old.low = low ∧ old.high = high ∧
      old.programmes = programmes
    (same → t.store = s.store ∧ t.check = s.check) ∧
    (¬ same → t.store.serial = s.store.serial + 1 ∧ t.check = none ∧
      ∀ b, (∀ k, s.check = some k → k.bank ≠ b) →
        (t.store.bank b).state = (if (s.store.bank b).state = .valid then .closed else (s.store.bank b).state) ∧
        (t.store.bank b).read.report = (s.store.bank b).read.report) ∧
    (¬ same → ∀ k, s.check = some k → (t.store.bank k.bank).state = .closed ∧
      (t.store.bank k.bank).read.report =
        some { outcome := .aborted, serial := k.serial, total := k.total, faults := k.faults })

/-- The events of an accepted SET_TRANSMITTER (R4, R12, R13, R64, R116), with an empty Pending slot: TX_LOCKED where a
transmitter with a kept lock reason becomes present and available, then, if a field has changed, DESCRIPTION_CHANGED for
each VALID bank and CHECK_DONE of the check it aborts. The code 0xFFFF of a kept TX_FAULT is the model's reading (log
22). -/
def Sys2Proof.Claims.TransmitterChangeRaises : Prop :=
  ∀ (h : Head) (n : Nat) (present : Bool) (rated step low high programmes : Nat) (s t : State), serves s →
    exec (.setTransmitter h n present rated step low high programmes) s = .next t →
    (∃ m, t.link.reply = some { kind := 0x10, tag := h.tag, verdict := .accepted (.serial m) }) →
    (s.tr (tx n)).slot = none →
    let old := (s.tr (tx n)).desc
    let same : Prop := old.present = present ∧ old.rated = rated ∧ old.step = step ∧ old.low = low ∧ old.high = high ∧
      old.programmes = programmes
    let relocked : List Event := match (s.tr (tx n)).lock with
      | some why =>
        if old.present = false ∧ present = true ∧ old.available = true then
          [locking (tx n) why.detail (if why = .txFault then b2 0xFFFF else [])]
        else []
      | none => []
    (same → raises s t []) ∧ (¬ same → describedAnew s t relocked)

/-- SET_TRANSMITTER, the description change it makes, and the events of both. -/
def Obligations.TransmitterDescribed : Prop :=
  SetTransmitterDecided ∧ DescriptionChangeFollows ∧ TransmitterChangeRaises

/-- SET_AVAILABILITY (R5): its tests, whose order is the model's (log 60); an accepted one writes the field, and a present
transmitter's state follows its change. -/
def Obligations.SetAvailabilityDecided : Prop :=
  ∀ (h : Head) (n : Nat) (available : Option Bool) (s : State), serves s →
    let i : Instr := .setAvailability h n available
    let x := (s.tr (tx n)).state
    let old := (s.tr (tx n)).desc
    let busy : Prop := x = .changing ∨ x = .onAir ∨ x = .held ∨ x = .tripped
    (h.sized = false → exec i s = .next (refuse s 0x12 h .badLength)) ∧
    (h.sized = true → 11 < n → exec i s = .next (refuse s 0x12 h .outOfRange)) ∧
    (h.sized = true → n ≤ 11 → available = none → exec i s = .next (refuse s 0x12 h .badField)) ∧
    (h.sized = true → n ≤ 11 → available = some false → busy → exec i s = .next (refuse s 0x12 h .inUse)) ∧
    ∀ v, h.sized = true → n ≤ 11 → available = some v → (v = false → ¬ busy) →
      ∃ t, exec i s = .next t ∧ (t.tr (tx n)).desc = { old with available := v } ∧
        t.link.reply = some { kind := 0x12, tag := h.tag, verdict := .accepted .empty } ∧
        t.store = s.store ∧
        (old.available = v ∨ old.present = false → (t.tr (tx n)).state = x) ∧
        (old.available = true → v = false → old.present = true →
          (t.tr (tx n)).state = .dark .withheld ∧ (t.tr (tx n)).poll = none ∧ (t.tr (tx n)).lock = (s.tr (tx n)).lock) ∧
        (old.available = false → v = true → old.present = true → (t.tr (tx n)).poll.isSome ∧
          (∀ w, (s.tr (tx n)).lock = some w → (t.tr (tx n)).state = .locked w) ∧
          ((s.tr (tx n)).lock = none →
            (t.tr (tx n)).state = .dark .portSilent ∧ (t.tr (tx n)).silence = 0 ∧
            t.out.port = s.out.port ++ [(tx n, .mute), (tx n, .stat)]))

/-- SET_ANTENNA (R9, R10): its tests in order; an accepted one replaces the three fields of the column and nothing else
of the matrix, and is a description change exactly when presence or band set changes (R11): the serial number, the VALID
banks, the running check and their events then follow it (R12, R13, R64); else the banks and the check stay. -/
def Obligations.SetAntennaDecided : Prop :=
  ∀ (h : Head) (c : Nat) (present : Bool) (kind : ColKind) (bands : BitVec 16) (s : State), serves s →
    let i : Instr := .setAntenna h c present kind bands
    let legal : Prop := bands.toNat ≤ 16383 ∧ (c ≤ 31 → kind ≠ .load) ∧ (32 ≤ c → kind = .load ∧ bands = 16383)
    let free : Prop := s.matrix.use (col c) = .free ∨ s.matrix.use (col c) = .idle
    let new : ColDesc := { present := present, kind := kind, bands := bands.setWidth 14 }
    let old := (s.matrix.column (col c)).desc
    (h.sized = false → exec i s = .next (refuse s 0x11 h .badLength)) ∧
    (h.sized = true → 35 < c → exec i s = .next (refuse s 0x11 h .outOfRange)) ∧
    (h.sized = true → c ≤ 35 → ¬ legal → exec i s = .next (refuse s 0x11 h .badField)) ∧
    (h.sized = true → c ≤ 35 → legal → ¬ free → exec i s = .next (refuse s 0x11 h .inUse)) ∧
    (h.sized = true → c ≤ 35 → legal → free →
      ∃ t, exec i s = .next t ∧ t.matrix = s.matrix.onColumn (col c) (fun k => { k with desc := new }) ∧
        t.link.reply = some { kind := 0x11, tag := h.tag, verdict := .accepted (.serial t.store.serial) } ∧
        t.store.serial =
          (if old.present = present ∧ old.bands = new.bands then s.store.serial else s.store.serial + 1) ∧
        (old.present = present → old.bands = new.bands → t.store = s.store ∧ t.check = s.check ∧ raises s t []) ∧
        (¬ (old.present = present ∧ old.bands = new.bands) → describedAnew s t []))

/-! ### The schedule store -/

/-- ERASE_BANK (R37) and the completion of an erase (R38). That ERASE_DONE carries no detail byte is the model's reading of
its detail none (log 12). -/
def Sys2Proof.Claims.EraseDecided : Prop :=
  (∀ (h : Head) (n : Nat) (s : State), serves s →
    let b := s.store.bank (bank n)
    exec (.eraseBank h n) s = .next
      (if h.sized = false then refuse s 0x30 h .badLength
      else if 1 < n then refuse s 0x30 h .outOfRange
      else if b.state = .active ∨ b.state = .checking then refuse s 0x30 h .wrongState
      else if s.store.op ≠ none then refuse s 0x30 h .busy
      else
        let cell : Cell :=
          { b.read with erasePending := true, state := if b.state = .valid then .closed else b.state }
        accept (setOp (writeBank s (bank n) { b with cell := b.cell.write cell, headerWritten := false, written := 0 })
          (some (.erase (bank n)))) 0x30 h .empty)) ∧
  ∀ (s : State) (k : Bank), live s → s.store.op = some (.erase k) →
    let b := s.store.bank k
    let cell : Cell := { b.read with state := .erased, erasePending := false, report := none }
    let blank : SeasonBank :=
      { header := none, headerPage := .erased, pages := Vector.replicate 64 .erased, headerWritten := false
        written := 0, cell := b.cell.write cell }
    exec .eraseComplete s = .next (event (setOp (writeBank s k blank) none) .eraseDone (.bank k) [])

/-- OPEN_BANK (R39) and the completion of the header write (R36). -/
def Sys2Proof.Claims.OpenBankDecided : Prop :=
  (∀ (h : Head) (n : Nat) (code : SeasonCode) (year month day minute : Nat) (s : State), serves s →
    let b := s.store.bank (bank n)
    let other := s.store.bank (otherBank (bank n))
    exec (.openBank h n code year month day minute) s = .next
      (if h.sized = false then refuse s 0x31 h .badLength
      else if ¬ (n ≤ 1 ∧ 2000 ≤ year ∧ year ≤ 2099 ∧ 1 ≤ month ∧ month ≤ 12 ∧ 1 ≤ day ∧ day ≤ 31 ∧ minute ≤ 1439)
        then refuse s 0x31 h .outOfRange
      else if monthLength year month < day ∨ code.toArray.toList.headD 0 = 0 ∨ legalCode code.toArray.toList = false
        then refuse s 0x31 h .badField
      else if b.state ≠ .erased ∨ other.state = .opened then refuse s 0x31 h .wrongState
      else if s.store.op ≠ none then refuse s 0x31 h .busy
      else
        let header : Header := { code := code, date := { year := year, month := month, day := day }, minute := minute }
        let cell : Cell := { b.read with state := .opened }
        accept (setOp (writeBank s (bank n)
            { b with header := some header, headerWritten := true, cell := b.cell.write cell })
          (some (.header (bank n)))) 0x31 h .empty)) ∧
  ∀ (s : State) (k : Bank), live s → s.store.op = some (.header k) →
    exec .headerWriteComplete s = .next
      (event (setOp (setBank s k { s.store.bank k with headerPage := .programmed }) none) .writeDone (.bank k) [0xFE])

/-- The erase of a bank and its opening, with the completions of both. -/
def Obligations.BankErasedAndOpened : Prop := EraseDecided ∧ OpenBankDecided

/-- WRITE_ENTRIES (R40, R41) and the completion of its page write (R36). -/
def Obligations.WriteEntriesDecided : Prop :=
  (∀ (h : Head) (n p : Nat) (entries : List Slot) (s : State), serves s →
    let b := s.store.bank (bank n)
    exec (.writeEntries h n p entries) s = .next
      (if h.sized = false ∨ entries = [] ∨ 8 < entries.length then refuse s 0x32 h .badLength
      else if 1 < n ∨ 63 < p then refuse s 0x32 h .outOfRange
      else if b.state ≠ .opened then
        refuse (event s .bankMismatch (.bank (bank n)) (b1 s.store.openBank)) 0x32 h .wrongBank
      else if b.written.getLsbD p then refuse s 0x32 h .pageWritten
      else if s.store.op ≠ none then refuse s 0x32 h .busy
      else accept (setOp (setBank s (bank n) { b with written := setBit b.written p })
        (some (.page (bank n) (page p) (pageOf entries)))) 0x32 h .empty)) ∧
  (∀ (entries : List Slot) (i : Fin 8), entries.length ≤ 8 →
    (pageOf entries).get i = (entries ++ List.replicate 8 (BitVec.allOnes 128)).getD i.val 0) ∧
  ∀ (s : State) (k : Bank) (p : Page) (slots : Vector Slot 8), live s → s.store.op = some (.page k p slots) →
    let b := s.store.bank k
    exec .entryPageWriteComplete s = .next
      (event (setOp (setBank s k { b with pages := upd b.pages p (.programmed slots) }) none) .writeDone (.bank k)
        [BitVec.ofNat 8 p.val])

/-- CLOSE_BANK (R42), READ_BANK (R43) and READ_ENTRIES (R44). -/
def Obligations.CloseAndReadBankDecided : Prop :=
  (∀ (h : Head) (n : Nat) (s : State), serves s →
    let b := s.store.bank (bank n)
    exec (.closeBank h n) s = .next
      (if h.sized = false then refuse s 0x33 h .badLength
      else if 1 < n then refuse s 0x33 h .outOfRange
      else if b.state ≠ .opened then refuse s 0x33 h .wrongState
      else if s.store.writing (bank n) then refuse s 0x33 h .busy
      else accept (writeBank s (bank n) { b with cell := b.cell.write { b.read with state := .closed } }) 0x33 h .empty)) ∧
  (∀ (h : Head) (n : Nat) (s : State), serves s →
    let b := s.store.bank (bank n)
    exec (.readBank h n) s = .next
      (if h.sized = false then refuse s 0x36 h .badLength
      else if 1 < n then refuse s 0x36 h .outOfRange
      else if b.state = .damaged then refuse s 0x36 h .wrongState
      else accept s 0x36 h (.bank b.state (if b.state = .erased ∨ s.store.erasing (bank n) then none else b.header)
        b.headerWritten b.written (((List.range 64).filter fun i => b.written.getLsbD i).length)
        (if s.store.writing (bank n) ∨ s.store.erasing (bank n) then s.store.op else none) b.read.report))) ∧
  ∀ (h : Head) (n p : Nat) (s : State), serves s →
    let b := s.store.bank (bank n)
    exec (.readEntries h n p) s = .next
      (if h.sized = false then refuse s 0x37 h .badLength
      else if 1 < n ∨ 63 < p then refuse s 0x37 h .outOfRange
      else if b.state = .erased ∨ b.state = .damaged then refuse s 0x37 h .wrongState
      else if s.store.writingPage (bank n) p ∨ s.store.erasing (bank n) then refuse s 0x37 h .busy
      else accept s 0x37 h (.entries (b.written.getLsbD p)
        (match b.pages.get (page p) with
          | .programmed slots => slots.toList
          | _ => List.replicate 8 (BitVec.allOnes 128))))

/-- CHECK_BANK (R50, R51) and CANCEL_CHECK (R63). -/
def Sys2Proof.Claims.CheckRequestsDecided : Prop :=
  (∀ (h : Head) (n : Nat) (s : State), serves s →
    let b := s.store.bank (bank n)
    exec (.checkBank h n) s = .next
      (if h.sized = false then refuse s 0x34 h .badLength
      else if 1 < n then refuse s 0x34 h .outOfRange
      else if s.check ≠ none then refuse s 0x34 h .busy
      else if b.state ≠ .closed ∧ b.state ≠ .rejected ∧ b.state ≠ .valid then refuse s 0x34 h .wrongState
      else if s.store.erasing (bank n) then refuse s 0x34 h .busy
      else
        let begun : CheckContext :=
          { bank := bank n, serial := s.store.serial, pass := .entry, place := 0, faults := [], total := 0, ticks := 0 }
        let cell : Cell := { b.read with state := .checking, report := none }
        accept { writeBank s (bank n) { b with cell := b.cell.write cell } with check := some begun } 0x34 h
          (.serial s.store.serial))) ∧
  (∀ (h : Head) (n : Nat) (s : State), serves s →
    (h.sized = false → exec (.cancelCheck h n) s = .next (refuse s 0x35 h .badLength)) ∧
    (h.sized = true → 1 < n → exec (.cancelCheck h n) s = .next (refuse s 0x35 h .outOfRange)) ∧
    (h.sized = true → n ≤ 1 → (s.store.bank (bank n)).state ≠ .checking →
      exec (.cancelCheck h n) s = .next (refuse s 0x35 h .wrongState))) ∧
  ∀ (h : Head) (n : Nat) (s : State) (k : CheckContext), serves s → h.sized = true → n ≤ 1 →
    (s.store.bank (bank n)).state = .checking → s.check = some k → k.bank = bank n →
    let b := s.store.bank (bank n)
    let report : CheckReport := { outcome := .cancelled, serial := k.serial, total := k.total, faults := k.faults }
    let cell : Cell := { b.read with state := .closed, report := some report }
    exec (.cancelCheck h n) s = .next (accept
      (event { writeBank s (bank n) { b with cell := b.cell.write cell } with check := none } .checkDone (.bank (bank n))
        [2]) 0x35 h .empty)

/-- A check completes (R62): with every visit of its passes made and no fault found the bank is VALID, else REJECTED;
the report joins the state cell and CHECK_DONE is raised. A check started afresh on a bank without a used slot finds no
fault. -/
def Sys2Proof.Claims.CheckCompletes : Prop :=
  (∀ (s : State) (k : CheckContext), live s → s.check = some k →
    let done := k.visits s.hall (s.store.bank k.bank).used k.left
    ∃ t, exec .checkComplete s = .next t ∧ t.check = none ∧
      (t.store.bank k.bank).state = (if done.total = 0 then .valid else .rejected) ∧
      (t.store.bank k.bank).read.report = some
        { outcome := if done.total = 0 then .valid else .rejected, serial := k.serial, total := done.total
          faults := done.faults } ∧
      t.store.bank (otherBank k.bank) = s.store.bank (otherBank k.bank) ∧
      t.out = s.out.raise { kind := .checkDone, subject := .bank k.bank
                            detail := [if done.total = 0 then 0 else 1] }) ∧
  ∀ (s : State) (k : CheckContext), live s → s.check = some k → k.pass = .entry → k.place = 0 → k.total = 0 →
    (s.store.bank k.bank).used = [] →
    ∃ t, exec .checkComplete s = .next t ∧ (t.store.bank k.bank).state = .valid

/-- The shape of an entry, R53 and R54: FIELD_RANGE tests the fields, TIME_SHAPE the window, its days and its dates. -/
def Sys2Proof.Claims.EntryShapeTests : Prop :=
  ∀ e : Entry,
    (e.fieldRange = true ↔
      (511 < e.number ∨ 1439 < e.start ∨ e.dayZero ≠ 0 ∨ legalDateField e.validFrom = false ∨
        legalDateField e.validTo = false ∨ 11 < e.transmitter ∨ e.kHz < 2300 ∨ 26100 < e.kHz ∨ e.kW = 0 ∨ 500 < e.kW ∨
        (e.hasReserve = 1 ∧ e.reserve = e.primary) ∨ (e.hasReserve = 0 ∧ e.reserve ≠ 0) ∨ e.zero ≠ 0)) ∧
    (e.timeShape = true ↔
      (e.duration < 5 ∨ 1440 < e.duration ∨ e.days = 0 ∨
        ∃ f t, dateBound e.validFrom = some f ∧ dateBound e.validTo = some t ∧ t < f))

/-- The faults of the ENTRY pass at a used slot (R53-R57): each kind is found exactly where its test fails, RASTER to
RESERVE_BAND of sound entries alone, DUPLICATE_NUMBER against the earlier used slots; every record names the slot, and
a DUPLICATE_NUMBER the earliest of those with its number. -/
def Sys2Proof.Claims.EntryFaultsFound : Prop :=
  ∀ (g : Hall) (used : List (Nat × Entry)) (place : Nat) (e : Entry),
    let d := g.transmitters (tx e.transmitter)
    let found (k : FaultKind) : Prop := ∃ r ∈ entryFaults g used place e, r.kind = k
    let sound : Prop := e.fieldRange = false ∧ e.timeShape = false
    let enclosed : Prop := ∃ b ∈ bandTable, b.1 ≤ e.kHz ∧ e.kHz ≤ b.2
    (found .fieldRange ↔ e.fieldRange = true) ∧
    (found .timeShape ↔ e.fieldRange = false ∧ e.timeShape = true) ∧
    (found .duplicateNumber ↔ e.number ≤ 511 ∧ ∃ q ∈ used, q.1 < place ∧ q.2.number = e.number) ∧
    (found .raster ↔ sound ∧ e.kHz % 5 ≠ 0) ∧ (found .outOfBand ↔ sound ∧ ¬ enclosed) ∧
    (found .txRange ↔ sound ∧
      (d.present = false ∨ e.kHz < d.low ∨ d.high < e.kHz ∨ d.programmes ≤ e.programme)) ∧
    (found .powerRange ↔ sound ∧ (d.rated < e.kW ∨ e.kW < d.step)) ∧
    (found .antennaBand ↔ sound ∧ (g.columns (col e.primary)).permits e.kHz = false) ∧
    (found .reserveBand ↔ sound ∧ e.hasReserve = 1 ∧ (g.columns (col e.reserve)).permits e.kHz = false) ∧
    ∀ r ∈ entryFaults g used place e, r.entry = { entry := e.number, page := place / 8, slot := place % 8 } ∧
      (r.kind ≠ .duplicateNumber → r.other = none) ∧
      (r.kind = .duplicateNumber → ∃ before q after, used = before ++ q :: after ∧
        (∀ p ∈ before, ¬ (p.1 < place ∧ p.2.number = e.number)) ∧ q.1 < place ∧ q.2.number = e.number ∧
        r.other = some { entry := q.2.number, page := q.1 / 8, slot := q.1 % 8 })

/-- The parts of an entry (R58): one with the entry's days, dates and minutes where its window ends by midnight; else two
parted at midnight, the second with each day replaced by the following weekday, Sunday by Monday, and its dates moved one
day later. That the date after 2099-12-31 counts there is the model's choice (log 53). -/
def Sys2Proof.Claims.EntryParted : Prop :=
  ∀ e : Entry,
    let first := dateBound e.validFrom
    let last := dateBound e.validTo
    (e.start + e.duration ≤ 1440 →
      e.parts = [{ days := e.days, first := first, last := last, lo := e.start, hi := e.start + e.duration }]) ∧
    (1440 < e.start + e.duration → ∃ days, (∀ w, days.testBit w = true ↔ w < 7 ∧ e.days.testBit ((w + 6) % 7) = true) ∧
      e.parts = [{ days := e.days, first := first, last := last, lo := e.start, hi := 1440 },
        { days := days, first := first.map (· + 1), last := last.map (· + 1), lo := 0
          hi := e.start + e.duration - 1440 }])

/-- The faults of the PAIR pass (R58, R59): a sound entry against each earlier sound entry that it overlaps, TX_OVERLAP
where they share the transmitter, else ANTENNA_OVERLAP where they share the primary antenna. Two entries overlap when a
part of each meets: a weekday in both day sets, a day within both date windows, and a minute in both minute ranges. That
the day after 2099-12-31, to which a second part may fall, counts as a day here is the model's choice (log 53). -/
def Sys2Proof.Claims.PairFaultsFound : Prop :=
  (∀ (used : List (Nat × Entry)) (place : Nat) (e : Entry) (r : FaultRecord), r ∈ pairFaults used place e ↔
    e.sound = true ∧ ∃ q ∈ used, q.1 < place ∧ q.2.sound = true ∧ e.overlaps q.2 = true ∧
      (e.transmitter = q.2.transmitter ∨ e.primary = q.2.primary) ∧
      r = { kind := if e.transmitter = q.2.transmitter then .txOverlap else .antennaOverlap
            entry := { entry := e.number, page := place / 8, slot := place % 8 }
            other := some { entry := q.2.number, page := q.1 / 8, slot := q.1 % 8 } }) ∧
  ∀ e f : Entry, e.overlaps f = true ↔ ∃ p ∈ e.parts, ∃ q ∈ f.parts,
    (∃ w, p.days.testBit w = true ∧ q.days.testBit w = true) ∧
    (∃ day, (∀ a, p.first = some a → a ≤ day) ∧ (∀ a, p.last = some a → day ≤ a) ∧
      (∀ a, q.first = some a → a ≤ day) ∧ ∀ a, q.last = some a → day ≤ a) ∧
    p.lo < q.hi ∧ q.lo < p.hi

/-- The HORIZON pass (R60): a sound entry fires a START and an END for each day of its set; the pass finds one fault
exactly where some sixty consecutive minutes of the week hold more than 128 firings of sound entries, and none otherwise.
The fault names the entry of the firing that 128 others of the lowest such window precede. -/
def Sys2Proof.Claims.HorizonFaultFound : Prop :=
  ∀ used : List (Nat × Entry),
    let firings := (used.filter fun q => q.2.sound).flatMap fun q => q.2.weekFirings q.1
    (horizonFaults used ≠ [] ↔ ∃ b, b < 10080 ∧
      128 < (firings.filter fun f => decide ((f.minute + 10080 - b) % 10080 < 60)).length) ∧
    (horizonFaults used).length ≤ 1 ∧ (∀ r ∈ horizonFaults used, r.kind = .horizonCrowded ∧ r.other = none) ∧
    (∀ (place : Nat) (e : Entry), (e.weekFirings place).Nodup ∧ ∀ f : WeekFiring, f ∈ e.weekFirings place ↔
      f.t = e.transmitter ∧ f.place = place ∧ f.entry = e ∧ ∃ w, w < 7 ∧ e.days.testBit w = true ∧
        ((f.start = true ∧ f.minute = w * 1440 + e.start) ∨
          (f.start = false ∧ f.minute = (w * 1440 + e.start + e.duration) % 10080))) ∧
    ∀ k : SeasonBank, used = k.used → ∀ r ∈ horizonFaults used, ∃ b f, b < 10080 ∧
      (∀ a, a < b → (firings.filter fun g => decide ((g.minute + 10080 - a) % 10080 < 60)).length ≤ 128) ∧
      f ∈ firings ∧ (f.minute + 10080 - b) % 10080 < 60 ∧
      (firings.filter fun g => firesBefore b g f).length = 128 ∧
      r.entry = { entry := f.entry.number, page := f.place / 8, slot := f.place % 8 }

/-- What all the visits of a check find from its beginning on (R52, R61): the faults of the ENTRY pass, of the PAIR pass
and of the HORIZON pass, each pass in walk order; their number held at 65,535, and the first sixteen listed. -/
def Sys2Proof.Claims.VisitsFindEveryFault : Prop :=
  ∀ (s : State) (k : CheckContext), k.pass = .entry → k.place = 0 → k.faults = [] → k.total = 0 →
    let used := (s.store.bank k.bank).used
    let found := (used.flatMap fun q => entryFaults s.hall used q.1 q.2) ++
      (used.flatMap fun q => pairFaults used q.1 q.2) ++ horizonFaults used
    (k.visits s.hall used k.left).total = min found.length 65535 ∧
    (k.visits s.hall used k.left).faults = found.take 16

/-- The check's requests, its completion, and its tests of an entry's shape. -/
def Obligations.CheckDecided : Prop :=
  CheckRequestsDecided ∧ CheckCompletes ∧ EntryShapeTests ∧ EntryFaultsFound ∧ EntryParted ∧ PairFaultsFound ∧
  HorizonFaultFound ∧ VisitsFindEveryFault

/-- SAVE_SETTINGS (R203) captures the blocks as they stand when it is taken, and the completion of its write holds
exactly that block (R36); stated for the items that the block carries of each kind. -/
def Obligations.SettingsSaved : Prop :=
  (∀ (h : Head) (autorun warmAdopt : Option Bool) (s : State), serves s →
    let i : Instr := .saveSettings h autorun warmAdopt
    (h.sized = false → exec i s = .next (refuse s 0x72 h .badLength)) ∧
    (h.sized = true → autorun = none ∨ warmAdopt = none → exec i s = .next (refuse s 0x72 h .badField)) ∧
    (∀ a w, h.sized = true → autorun = some a → warmAdopt = some w → s.store.op ≠ none →
      exec i s = .next (refuse s 0x72 h .busy)) ∧
    ∀ a w, h.sized = true → autorun = some a → warmAdopt = some w → s.store.op = none →
      ∃ g, exec i s = .next (accept { s with store := { s.store with
          op := some (.settings g), opTicks := 0, autorun := a, warmAdopt := w } } 0x72 h .empty) ∧
        g.autorun = a ∧ g.warmAdopt = w ∧ g.serial = s.store.serial ∧ g.limits = s.limits ∧
        g.protection = s.protection ∧ g.enables = s.out.enables ∧
        (∀ t, g.transmitters.get t = (s.tr t).desc ∧ g.reflected.get t = (s.stations.get t).refl.config ∧
          g.forward.get t = (s.stations.get t).fwd.config) ∧
        (∀ c : Col, g.columns.get c = (s.matrix.column c).desc ∧
          g.withdrawn.getLsbD c.val = (s.matrix.column c).withdrawn ∧
          g.suspect.getLsbD c.val = (s.matrix.column c).suspect) ∧
        (∀ l, g.lines.get l = (s.lines.get l).kind) ∧ ∀ m, g.members.get m = (s.ilu.members.get m).config) ∧
  ∀ (s : State) (g : Settings), live s → s.store.op = some (.settings g) →
    exec .settingsWriteComplete s = .next
      (event { s with store := { s.store with settings := some g, op := none, opTicks := 0 } } .writeDone .settings [])

/-! ### Limits, monitors and protection settings -/

/-- SET_LIMITS (R136), SET_PROTECTION (R165) and SET_MONITOR (R151): their tests in order; an accepted one writes its
settings, times in phase ticks of 10 ms, and nothing else. -/
def Obligations.LimitRequestsDecided : Prop :=
  (∀ (h : Head) (l : Limits) (s : State), serves s →
    let inRange : Prop := 1000 ≤ l.claimWait ∧ l.claimWait ≤ 600000 ∧ 100 ≤ l.mute ∧ l.mute ≤ 10000 ∧ l.settle ≤ 2000 ∧
      5000 ≤ l.tune ∧ l.tune ≤ 120000 ∧ 1000 ≤ l.travel ∧ l.travel ≤ 30000 ∧ 50 ≤ l.hold ∧ l.hold ≤ 1000 ∧
      1000 ≤ l.ramp ∧ l.ramp ≤ 20000 ∧ l.arming ≤ 5000
    let ticks : Limits :=
      { claimWait := l.claimWait / 10, mute := l.mute / 10, settle := l.settle / 10, tune := l.tune / 10
        travel := l.travel / 10, hold := l.hold / 10, ramp := l.ramp / 10, arming := l.arming / 10 }
    (h.sized = false → exec (.setLimits h l) s = .next (refuse s 0x13 h .badLength)) ∧
    (h.sized = true → ¬ inRange → exec (.setLimits h l) s = .next (refuse s 0x13 h .outOfRange)) ∧
    (h.sized = true → inRange → (∃ t, (s.tr t).state = .changing) →
      exec (.setLimits h l) s = .next (refuse s 0x13 h .busy)) ∧
    (h.sized = true → inRange → (∀ t, (s.tr t).state ≠ .changing) →
      exec (.setLimits h l) s = .next (accept { s with limits := ticks } 0x13 h .empty))) ∧
  (∀ (h : Head) (p : Protection) (s : State), serves s →
    let inRange : Prop := p.restrikeLimit ≤ 9 ∧ 1000 ≤ p.restrikeDelay ∧ p.restrikeDelay ≤ 30000 ∧
      10000 ≤ p.restrikeWindow ∧ p.restrikeWindow ≤ 600000 ∧ 1000 ≤ p.carrierLoss ∧ p.carrierLoss ≤ 60000 ∧
      500 ≤ p.mainsRecovery ∧ p.mainsRecovery ≤ 10000
    let legal : Prop := p.mainsLevel = 85 ∨ p.mainsLevel = 88 ∨ p.mainsLevel = 90 ∨ p.mainsLevel = 93
    let ticks : Protection :=
      { restrikeLimit := p.restrikeLimit, restrikeDelay := p.restrikeDelay / 10
        restrikeWindow := p.restrikeWindow / 10, carrierLoss := p.carrierLoss / 10, mainsLevel := p.mainsLevel
        mainsRecovery := p.mainsRecovery / 10 }
    (h.sized = false → exec (.setProtection h p) s = .next (refuse s 0x15 h .badLength)) ∧
    (h.sized = true → ¬ inRange → exec (.setProtection h p) s = .next (refuse s 0x15 h .outOfRange)) ∧
    (h.sized = true → inRange → ¬ legal → exec (.setProtection h p) s = .next (refuse s 0x15 h .badField)) ∧
    (h.sized = true → inRange → legal →
      exec (.setProtection h p) s = .next (accept { s with protection := ticks } 0x15 h .empty))) ∧
  ∀ (h : Head) (n : Nat) (which : Option MonitorName) (level : Nat) (filter : Option Bool) (d : Nat)
    (edges : Option Edges) (source : Option Coupler) (s : State), serves s →
    let i : Instr := .setMonitor h n which level filter d edges source
    let u := s.stations.get (tx n)
    let divisor : Prop := d = 1 ∨ d = 2 ∨ d = 4 ∨ d = 8
    let running : Prop := u.tr.state = .onAir ∨ (∃ k, u.tr.context = some k ∧ k.phase = .ramp) ∨
      (u.tr.state = .tripped ∧ ∃ w, u.tr.stage = .ramp w)
    (h.sized = false → exec i s = .next (refuse s 0x14 h .badLength)) ∧
    (h.sized = true → (11 < n ∨ 15 < level) → exec i s = .next (refuse s 0x14 h .outOfRange)) ∧
    (h.sized = true → n ≤ 11 → level ≤ 15 →
      (which = none ∨ filter = none ∨ ¬ divisor ∨ edges = none ∨ source = none ∨
        (which = some .reflected ∧ source = some .line)) → exec i s = .next (refuse s 0x14 h .badField)) ∧
    ∀ w f g c, h.sized = true → n ≤ 11 → level ≤ 15 → which = some w → filter = some f → divisor → edges = some g →
      source = some c → (w = .reflected → c = .transmitter) →
      let config : MonitorConfig :=
        { level := Fin.ofNat 16 level, filter := f, divisor := d, edges := g, source := c }
      let v : Station := match w with
        | .reflected => { u with refl := { u.refl with config := config, pending := false } }
        | .forward => { u with fwd := { u.fwd with config := config, pending := false } }
      (running → exec i s = .next (refuse s 0x14 h .inUse)) ∧
      (¬ running → exec i s = .next (accept { s with stations := upd s.stations (tx n) v } 0x14 h .empty))

/-! ### Field lines and interlocks -/

/-- SET_LINE (R172, R173): its tests in order; an accepted one writes the kind and keeps the latch, a line that starts
or stops being driven loses its pin level, a PULSE line starts or stops the pulse watch, and a member on a line that is
no longer INTERLOCK becomes unconfigured. That an undriven line given the kind PULSE keeps the pin level it had is the
model's choice (log 57). -/
def Sys2Proof.Claims.SetLineDecided : Prop :=
  ∀ (h : Head) (n : Nat) (kind : Option LineUse) (parameter : Nat) (s : State), serves s →
    let i : Instr := .setLine h n kind parameter
    let l := line n
    let old := s.lines.get l
    let taken : Prop := ∃ q, s.pulseLine = some q ∧ q ≠ l
    (h.sized = false → exec i s = .next (refuse s 0x16 h .badLength)) ∧
    (h.sized = true → (31 < n ∨ (kind = some .lamp ∧ 11 < parameter)) →
      exec i s = .next (refuse s 0x16 h .outOfRange)) ∧
    (h.sized = true → n ≤ 31 → kind = none → exec i s = .next (refuse s 0x16 h .badField)) ∧
    (h.sized = true → n ≤ 31 → kind = some .pulse → taken → exec i s = .next (refuse s 0x16 h .lineClaimed)) ∧
    ∀ k, h.sized = true → n ≤ 31 → kind = some k → (k = .lamp → parameter ≤ 11) → ¬ (k = .pulse ∧ taken) →
      (old.kind = .interlock → k ≠ .interlock → s.ilu.firstOut.isSome → exec i s = .next (refuse s 0x16 h .held)) ∧
      ((old.kind = .interlock ∧ k ≠ .interlock → s.ilu.firstOut = none) →
        let new := lineKind k parameter
        ∃ t, exec i s = .next t ∧
          t.link.reply = some { kind := 0x16, tag := h.tag, verdict := .accepted .empty } ∧
          (new = old.kind → t = accept s 0x16 h .empty) ∧
          (t.lines.get l).kind = new ∧ (t.lines.get l).latch = old.latch ∧
          (new ≠ old.kind → (t.lines.get l).pin = if old.kind.drives ∨ new.drives then none else old.pin) ∧
          (∀ m, m ≠ l → t.lines.get m = s.lines.get m) ∧
          (new ≠ old.kind → new = .pulse → t.clock.pulse = .none ∧
            t.clock.watch = some { count := 0, limit := 300 }) ∧
          (new ≠ .pulse → old.kind = .pulse → t.clock.pulse = .none ∧ t.clock.watch = none) ∧
          (new ≠ .pulse → old.kind ≠ .pulse → t.clock = s.clock) ∧
          (old.kind = .interlock → new ≠ .interlock → ∀ m, s.ilu.memberOn l = some m →
            (t.ilu.members.get m).config = none) ∧
          (old.kind ≠ .interlock → t.ilu = s.ilu))

/-- WRITE_LINES (R174) writes the latches of its lines, and answers with all latches; of several pairs of one line the last
decides, which is the model's choice (log 63); READ_LINES (R175) answers with every line's kind, latch and level and with
the emergency input's. -/
def Sys2Proof.Claims.LineLatchesWrittenAndRead : Prop :=
  (∀ (h : Head) (writes : List (Nat × Nat)) (s : State), serves s →
    let i : Instr := .writeLines h writes
    (h.sized = false → exec i s = .next (refuse s 0x18 h .badLength)) ∧
    (h.sized = true → (∃ w ∈ writes, 31 < w.1 ∨ 1 < w.2) → exec i s = .next (refuse s 0x18 h .outOfRange)) ∧
    (h.sized = true → (∀ w ∈ writes, w.1 ≤ 31 ∧ w.2 ≤ 1) →
      ∃ t set, exec i s = .next t ∧
        t.link.reply = some { kind := 0x18, tag := h.tag, verdict := .accepted (.latches set) } ∧
        (∀ l : Line, set.getLsbD l.val = (t.lines.get l).latch) ∧
        (∀ l : Line, (t.lines.get l).kind = (s.lines.get l).kind ∧ (t.lines.get l).pin = (s.lines.get l).pin ∧
          (t.lines.get l).latch = match (writes.filter fun w => w.1 == l.val).getLast? with
            | some w => w.2 == 1
            | none => (s.lines.get l).latch) ∧
        { t with lines := s.lines, link := s.link } = s)) ∧
  ∀ (h : Head) (s : State), serves s →
    exec (.readLines h) s = .next
      (if h.sized = false then refuse s 0x64 h .badLength
      else accept s 0x64 h (.lines
        (allLines.map fun l =>
          ((s.lines.get l).kind, (s.lines.get l).latch, match (s.lines.get l).kind with
            | .output => some (s.lines.get l).latch
            | .lamp t => some ((s.tr t).state == .onAir)
            | _ => (s.lines.get l).pin))
        s.ilu.input))

/-- SET_LINE, WRITE_LINES and READ_LINES. -/
def Obligations.FieldLinesDecided : Prop := SetLineDecided ∧ LineLatchesWrittenAndRead

/-- SET_MEMBER (R176, R177): its tests in order; an accepted one configures the member with its line's level, no level
change of the earlier line is left on its way, and a member whose level is ACTIVE then latches at once. -/
def Obligations.SetMemberDecided : Prop :=
  (∀ (h : Head) (n l : Nat) (activeHigh : Option Bool) (scope : ScopeArg) (s : State), serves s →
    let i : Instr := .setMember h n l activeHigh scope
    let inRange : Prop := n ≤ 23 ∧ l ≤ 31 ∧
      match scope with | .transmitters set => set.toNat ≤ 4095 | .antenna c => c ≤ 35 | _ => True
    let legal : Prop := activeHigh.isSome ∧ scope ≠ .other ∧ scope ≠ .transmitters 0
    let carried : Prop := ∃ m, m ≠ member n ∧ ∃ g, (s.ilu.members.get m).config = some g ∧ g.line = line l
    (h.sized = false → exec i s = .next (refuse s 0x17 h .badLength)) ∧
    (h.sized = true → ¬ inRange → exec i s = .next (refuse s 0x17 h .outOfRange)) ∧
    (h.sized = true → inRange → ¬ legal → exec i s = .next (refuse s 0x17 h .badField)) ∧
    (h.sized = true → inRange → legal → member n ∈ s.ilu.latchedSet → exec i s = .next (refuse s 0x17 h .held)) ∧
    (h.sized = true → inRange → legal → member n ∉ s.ilu.latchedSet → (s.lines.get (line l)).kind ≠ .interlock →
      exec i s = .next (refuse s 0x17 h .wrongState)) ∧
    (h.sized = true → inRange → legal → member n ∉ s.ilu.latchedSet → (s.lines.get (line l)).kind = .interlock →
      carried → exec i s = .next (refuse s 0x17 h .lineClaimed)) ∧
    ∀ a, h.sized = true → inRange → legal → activeHigh = some a → member n ∉ s.ilu.latchedSet →
      (s.lines.get (line l)).kind = .interlock → ¬ carried →
      ∃ t g, exec i s = .next t ∧
        t.link.reply = some { kind := 0x17, tag := h.tag, verdict := .accepted .empty } ∧
        (t.ilu.members.get (member n)).config = some g ∧ g.line = line l ∧ g.activeHigh = a ∧
        some g.scope = (match scope with
          | .transmitters set => some (.transmitters (set.setWidth 12))
          | .antenna c => some (.antenna (col c))
          | .matrix => some .matrix
          | .other => none) ∧
        (t.ilu.members.get (member n)).level = (match (s.lines.get (line l)).pin with
          | none => .unsettled
          | some p => if p = a then .active else .released) ∧
        ((s.lines.get (line l)).pin = some a → t.ilu.latchedSet = s.ilu.latchedSet ++ [member n] ∧
          t.ilu.firstOut = some (s.ilu.firstOut.getD (member n))) ∧
        ((s.lines.get (line l)).pin ≠ some a →
          t.ilu.latchedSet = s.ilu.latchedSet ∧ t.out = s.out.forget (member n)) ∧
        ∀ x, Instr.memberLevelChange (member n) x ∉ t.out.handed) ∧
  ∀ (h : Head) (n : Nat) (s : State), serves s →
    exec (.setMemberRemove h n) s = .next
      (if h.sized = false then refuse s 0x17 h .badLength
      else if 23 < n then refuse s 0x17 h .outOfRange
      else if member n ∈ s.ilu.latchedSet then refuse s 0x17 h .held
      else accept { s with
        ilu := { s.ilu with
          members := upd s.ilu.members (member n) { config := none, level := .unsettled, applied := 0 } }
        out := s.out.forget (member n) } 0x17 h .empty)

/-- INTERLOCK_CLEAR(GROUP) (R181): refused WRONG_STATE with the group ARMED and STILL_ACTIVE, with the members named,
while a latched member is ACTIVE; accepted, the group is ARMED, the applied sets are empty, and INTERLOCK_CLEARED is
raised with the number of members. Each transmitter in a latched member's applied set, each column that one shuts and,
with one of MATRIX scope, the suspension set is handed one removal of exactly the members concerned, and nothing else is
handed. READ_INTERLOCK (R184). -/
def Sys2Proof.Claims.GroupClearDecided : Prop :=
  (∀ (h : Head) (named : Bool) (s : State), serves s →
    let i : Instr := .interlockClearGroup h named
    let active := allMembers.filter fun m => decide (m ∈ s.ilu.latchedSet) && (s.ilu.members.get m).level == .active
    let latchedWith (x : Scope) (m : Member) : Prop :=
      m ∈ s.ilu.latchedSet ∧ ∃ g, (s.ilu.members.get m).config = some g ∧ g.scope = x
    let just (members : BitVec 24) : Sources := { members := members, emergency := false, mains := false }
    (h.sized = false → exec i s = .next (refuse s 0x57 h .badLength)) ∧
    (h.sized = true → named = false → exec i s = .next (refuse s 0x57 h .badField)) ∧
    (h.sized = true → named = true → s.ilu.firstOut = none → exec i s = .next (refuse s 0x57 h .wrongState)) ∧
    (h.sized = true → named = true → s.ilu.firstOut.isSome → active ≠ [] →
      exec i s = .next (reply s 0x57 h (.refused .stillActive (active.map fun m => BitVec.ofNat 8 m.val)))) ∧
    (h.sized = true → named = true → s.ilu.firstOut.isSome → active = [] →
      ∃ t messages, exec i s = .next t ∧
        t.link.reply = some { kind := 0x57, tag := h.tag, verdict := .accepted (.cleared s.ilu.latchedSet) } ∧
        t.ilu.firstOut = none ∧ t.ilu.latchedSet = [] ∧
        (∀ m, (t.ilu.members.get m).applied = 0 ∧ (t.ilu.members.get m).config = (s.ilu.members.get m).config ∧
          (t.ilu.members.get m).level = (s.ilu.members.get m).level) ∧
        t.out = ({ s.out with handed := s.out.handed ++ messages }).raise
          { kind := .interlockCleared, subject := .group, detail := b1 s.ilu.latchedSet.length } ∧
        ∃ (holds : Tx → BitVec 24) (gates : Col → BitVec 24) (suspension : BitVec 24),
          (∀ u (m : Member), (holds u).getLsbD m.val = true ↔
            m ∈ s.ilu.latchedSet ∧ (s.ilu.members.get m).applied.getLsbD u.val = true) ∧
          (∀ c (m : Member), (gates c).getLsbD m.val = true ↔ latchedWith (.antenna c) m) ∧
          (∀ m : Member, suspension.getLsbD m.val = true ↔ latchedWith .matrix m) ∧
          messages.Perm
            ((allTx.filterMap fun u => if holds u = 0 then none else some (.holdRemove u (just (holds u)))) ++
              (allCols.filterMap fun c => if gates c = 0 then none else some (.gateMemberRemove c (gates c))) ++
              if suspension = 0 then [] else [.suspensionSourceRemove (just suspension)]))) ∧
  ∀ (h : Head) (s : State), serves s →
    exec (.readInterlock h) s = .next
      (if h.sized = false then refuse s 0x65 h .badLength
      else accept s 0x65 h (.interlock s.ilu.firstOut
        (s.ilu.latchedSet.map fun m => (m, (s.ilu.members.get m).applied))
        (allMembers.map fun m => s.ilu.members.get m) s.ilu.emergency s.ilu.input))

/-- The emergency stop (R182, R183): the input's ACTIVE latches it with EMERGENCY in every hold set and the suspension
set, EMERGENCY_STOP raised, and again changes nothing; INTERLOCK_CLEAR(EMERGENCY) takes it away only with the input
RELEASED. -/
def Sys2Proof.Claims.EmergencyStopLatchesAndClears : Prop :=
  (∀ (active : Bool) (s : State), live s → s.boot.phase = .done →
    let heard : State := { s with ilu := { s.ilu with input := some active, inputLast := some active } }
    exec (.emergencyInputChange active) s = .next
      (if active = true ∧ s.ilu.emergency = false then
        event (handed { s with ilu := { s.ilu with input := some true, inputLast := some true, emergency := true } }
          ((allTx.map fun t => .holdAdd t .emergency) ++ [.suspensionSourceAdd .emergency])) .emergencyStop .none []
      else heard)) ∧
  ∀ (h : Head) (s : State), serves s →
    let only : Sources := { members := 0, emergency := true, mains := false }
    exec (.interlockClearEmergency h) s = .next
      (if h.sized = false then refuse s 0x57 h .badLength
      else if s.ilu.emergency = false then refuse s 0x57 h .wrongState
      else if s.ilu.input ≠ some false then reply s 0x57 h (.refused .stillActive [0xFF])
      else accept
        (event (handed { s with ilu := { s.ilu with emergency := false } }
          ((allTx.map fun t => .holdRemove t only) ++ [.suspensionSourceRemove only])) .interlockCleared .emergency [])
        0x57 h .empty)

/-- The clearing of the group and of the emergency stop, the stop's latching, and READ_INTERLOCK. -/
def Obligations.InterlockClearsDecided : Prop := GroupClearDecided ∧ EmergencyStopLatchesAndClears

/-- An accepted level change of a field line (R171): the level of a line that the part does not drive is recorded, the
member configured on an INTERLOCK line is told, and a PULSE line that goes from LOW to HIGH does what SECOND_PULSE does,
in the same event, with none handed on (log 44). A member's level is recorded (R179, R180); one that becomes ACTIVE
latches the group as its first-out, or joins the Latched Set, with its effect put in force, and raises
INTERLOCK_LATCHED or MEMBER_ACTIVE. -/
def Sys2Proof.Claims.LevelChangesFollowed : Prop :=
  (∀ (l : Line) (high : Bool) (s : State), live s → (s.lines.get l).kind.drives = false →
    (s.lines.get l).pin ≠ some high →
    let next : State :=
      { s with lines := upd s.lines l { s.lines.get l with pin := some high, last := some high } }
    (((s.lines.get l).kind ≠ .interlock ∨ s.ilu.memberOn l = none) →
      ¬ ((s.lines.get l).kind = .pulse ∧ (s.lines.get l).pin = some false) →
      exec (.fieldLineLevelChange l high) s = .next next) ∧
    (s.pulseLine = some l → (s.lines.get l).pin = some false →
      exec (.fieldLineLevelChange l high) s = exec .secondPulse s) ∧
    ∀ m g, (s.lines.get l).kind = .interlock → s.ilu.memberOn l = some m → (s.ilu.members.get m).config = some g →
      exec (.fieldLineLevelChange l high) s = .next
        (handed next [.memberLevelChange m (if high = g.activeHigh then .active else .released)])) ∧
  (∀ (l : Line) (high : Bool) (s : State), live s → (s.lines.get l).kind.drives = true →
    exec (.fieldLineLevelChange l high) s = .next s) ∧
  (∀ (l : Line) (high : Bool) (s : State), live s → (s.lines.get l).kind.drives = false →
    ∃ t, exec (.fieldLineLevelChange l high) s = .next t ∧ (t.lines.get l).pin = some high ∧
      Instr.secondPulse ∉ t.out.handed.drop s.out.handed.length) ∧
  (∀ (m : Member) (level : MemberLevel) (s : State), live s → s.boot.phase = .done →
    (s.ilu.members.get m).config = none → exec (.memberLevelChange m level) s = .next s) ∧
  (∀ (m : Member) (level : MemberLevel) (g : MemberConfig) (s : State), live s →
    (s.ilu.members.get m).config = some g → (level ≠ .active ∨ m ∈ s.ilu.latchedSet) →
    exec (.memberLevelChange m level) s = .next
      { s with ilu := { s.ilu with members := upd s.ilu.members m { s.ilu.members.get m with level := level } } }) ∧
  ∀ (m : Member) (g : MemberConfig) (s : State), live s → s.boot.phase = .done →
    (s.ilu.members.get m).config = some g → (s.ilu.members.get m).level ≠ .active → m ∉ s.ilu.latchedSet →
    let applied : BitVec 12 := match g.scope with
      | .transmitters set => set
      | .antenna c => (match (s.matrix.column c).holder with | some u => oneBit 12 u.val | none => 0)
      | .matrix => BitVec.allOnes 12
    let effect : List Instr := (match g.scope with
      | .transmitters _ => []
      | .antenna c => [.gateMemberAdd c m]
      | .matrix => [.suspensionSourceAdd (.member m)]) ++
      ((allTx.filter fun u => applied.getLsbD u.val).map fun u => .holdAdd u (.member m))
    let record : MemberRecord := { config := some g, level := .active, applied := applied }
    let kind : EventKind := if s.ilu.firstOut = none then .interlockLatched else .memberActive
    exec (.memberLevelChange m .active) s = .next
      (event
        (handed { s with ilu := { s.ilu with
            members := upd s.ilu.members m record
            firstOut := some (s.ilu.firstOut.getD m), latchedSet := s.ilu.latchedSet ++ [m] } } effect)
        kind (.member m) g.scope.bytes)

/-- The samples of pins and of the emergency input (R171): the second of two agreeing samples is accepted, as the
command of the level change is; any other sample is remembered and accepts nothing. The pin of a PULSE line is
followed as it is sampled, and its rising edge is a second pulse (R23); the pin of a line that the part drives is not
sampled. -/
def Sys2Proof.Claims.TwoSamplesAreAccepted : Prop :=
  (∀ (l : Line) (high : Bool) (s : State), live s →
    let k := s.lines.get l
    (k.kind.drives = true → s.sampleLine high l = s) ∧
    (k.kind.drives = false → k.kind ≠ .pulse → k.last = some high → k.pin ≠ some high →
      exec (.fieldLineLevelChange l high) s = .next (s.sampleLine high l)) ∧
    (k.kind.drives = false → k.kind ≠ .pulse → (k.last ≠ some high ∨ k.pin = some high) →
      s.sampleLine high l = { s with lines := upd s.lines l { k with last := some high } }) ∧
    (s.pulseLine = some l → k.pin = some false → high = true → exec .secondPulse s = .next (s.sampleLine high l)) ∧
    (k.kind = .pulse → (k.pin ≠ some false ∨ high = false) →
      s.sampleLine high l = { s with lines := upd s.lines l { k with pin := some high, last := some high } })) ∧
  ∀ (high : Bool) (s : State), live s →
    (s.ilu.inputLast = some (!high) → s.ilu.input ≠ some (!high) →
      exec (.emergencyInputChange (!high)) s = .next (s.sampleEmergency high)) ∧
    (s.ilu.inputLast ≠ some (!high) ∨ s.ilu.input = some (!high) →
      s.sampleEmergency high = { s with ilu := { s.ilu with inputLast := some (!high) } })

/-- Level changes of lines and members, and the samples that make them. -/
def Obligations.LevelsLatch : Prop := LevelChangesFollowed ∧ TwoSamplesAreAccepted

/-! ### The host link, the record of events and the log -/

/-- SET_NOTICE_ENABLES (R194): a body of one byte replaces the eight enables at once and is answered without a body;
the notices already queued stay queued, and the source flags stay. The enables are kept by SAVE_SETTINGS. An event
sets its class's source flag whatever the enables hold, and is decided by the enable as it stands when it is raised:
raised after the change it becomes a notice exactly where the new enable lets it, raised before it the notice it
became stays, and one that became none makes none when its class is enabled. -/
def Obligations.SetNoticeEnablesReplaces : Prop :=
  (∀ (h : Head) (enables : Byte) (s : State), serves s →
    exec (.setNoticeEnables h enables) s = .next
      (if h.sized = false then refuse s 0x70 h .badLength
      else accept { s with out := { s.out with enables := enables } } 0x70 h .empty)) ∧
  (∀ (autorun warmAdopt : Bool) (s : State), (s.capture autorun warmAdopt).enables = s.out.enables) ∧
  ∀ (o : Outbox) (e : Event) (enables : Byte),
    (({ o with enables := enables }).raise e).sources = (o.raise e).sources ∧
    (o.raise e).sources.getLsbD e.kind.class = true ∧
    (enables.getLsbD e.kind.class = false → (({ o with enables := enables }).raise e).notices = o.notices) ∧
    (enables.getLsbD e.kind.class = true → o.notices.length < 16 →
      (({ o with enables := enables }).raise e).notices = o.notices ++ [e]) ∧
    (o.enables.getLsbD e.kind.class = false → ({ o.raise e with enables := enables }).notices = o.notices) ∧
    (o.enables.getLsbD e.kind.class = true → o.notices.length < 16 →
      ({ o.raise e with enables := enables }).notices = o.notices ++ [e])

/-- CLEAR_SOURCES (R195): a body of one byte clears the source flags it names and keeps the others, and the reply
carries the flags as they stood; the notice queue and the notice-lost flag stay. An event taken before it is shown by
the reply and cleared; one taken after it sets its flag again. -/
def Obligations.ClearSourcesClears : Prop :=
  (∀ (h : Head) (classes : Byte) (s : State), serves s →
    (h.sized = false → exec (.clearSources h classes) s = .next (refuse s 0x71 h .badLength)) ∧
    (h.sized = true → ∃ left : Byte,
      exec (.clearSources h classes) s = .next
        (accept { s with out := { s.out with sources := left } } 0x71 h (.sources s.out.sources)) ∧
      ∀ n, n < 8 → left.getLsbD n = (s.out.sources.getLsbD n && !classes.getLsbD n))) ∧
  ∀ (h : Head) (classes : Byte) (e : Event) (s t : State), serves s → h.sized = true →
    classes.getLsbD e.kind.class = true →
    (exec (.clearSources h classes) { s with out := s.out.raise e } = .next t →
      t.out.sources.getLsbD e.kind.class = false ∧
      ∃ flags : Byte, t.link.reply = some { kind := 0x71, tag := h.tag, verdict := .accepted (.sources flags) } ∧
        flags.getLsbD e.kind.class = true) ∧
    (exec (.clearSources h classes) s = .next t → (t.out.raise e).sources.getLsbD e.kind.class = true)

/-- READ_STATUS (R196) and READ_LOG (R201) answer with the state as it stands; READ_LOG returns the oldest unread
records, up to eight, moves the read position past them and clears the overrun flag. -/
def Sys2Proof.Claims.StatusAndLogRead : Prop :=
  (∀ (h : Head) (s : State), serves s →
    exec (.readStatus h) s = .next
      (if h.sized = false then refuse s 0x60 h .badLength
      else accept s 0x60 h (.status "FALBRIX" 1236 1 s.engine.state s.store.active s.clock s.matrix.suspended s.store.op
        s.out.sources s.out.enables s.out.notices.length s.out.noticeLost s.link.queue.length s.boot.kind
        (match s.boot.cause with | .powerOn => 0 | .resetLine => 1 | .restart => 2)))) ∧
  ∀ (h : Head) (s : State), serves s →
    let l := s.out.log
    exec (.readLog h) s = .next
      (if h.sized = false then refuse s 0x66 h .badLength
      else accept { s with out := { s.out with log := { l with unread := l.unread - 8, overrun := false } } } 0x66 h
        (.logRecords l.overrun (l.unread - 8) ((l.records.drop (l.records.length - l.unread)).take 8)))

/-- SET_START_KIND (R205), RESTART (R206) and a kind outside the catalogue (R189). -/
def Sys2Proof.Claims.StartKindAndRestartDecided : Prop :=
  (∀ (h : Head) (kind : Option StartKind) (s : State), serves s →
    exec (.setStartKind h kind) s = .next
      (if h.sized = false then refuse s 0x73 h .badLength
      else match kind with
        | none => refuse s 0x73 h .badField
        | some k => accept { s with boot := { s.boot with kind := k } } 0x73 h .empty)) ∧
  (∀ (h : Head) (s : State), serves s →
    exec (.restart h) s = .next (if h.sized = false then refuse s 0x74 h .badLength else accept s 0x74 h .empty)) ∧
  ∀ (h : Head) (kind : Byte) (s : State), serves s →
    exec (.unknownKind h kind) s = .next (refuse s kind h .unknownKind)

/-- READ_STATUS, READ_LOG, SET_START_KIND, RESTART and a kind outside the catalogue. -/
def Obligations.StatusAndRestartDecided : Prop := StatusAndLogRead ∧ StartKindAndRestartDecided

/-- The receiver (R187): the marker byte begins a frame, each byte joins it and restarts the gap count, a length outside
2-514 is a frame fault LENGTH, the last byte hands the frame on, and the gap's expiry is a frame fault GAP. Every such
end leaves the receiver HUNTING. -/
def Sys2Proof.Claims.ReceiverFollowsTheBytes : Prop :=
  (∀ (b : Byte) (s : State), live s → s.link.receiver = .hunting →
    exec (.receivedByte b) s = .next
      (if b = 0x5A then
        { s with link := { s.link with receiver := .receiving [], gap := some { count := 0, limit := 3 } } }
      else s)) ∧
  (∀ (b : Byte) (bytes : List Byte) (s : State), live s → s.link.receiver = .receiving bytes →
    let all := bytes ++ [b]
    let quiet : State := { s with link := { s.link with receiver := .hunting, gap := none } }
    let more : State :=
      { s with link := { s.link with receiver := .receiving all, gap := some { count := 0, limit := 3 } } }
    (all.length < 2 → exec (.receivedByte b) s = .next more) ∧
    (∀ n, lengthField all = some n → (n < 2 ∨ 514 < n) →
      exec (.receivedByte b) s = .next (event quiet .linkFrameFault .none [1])) ∧
    (∀ n, lengthField all = some n → 2 ≤ n → n ≤ 514 → all.length = n + 4 →
      exec (.receivedByte b) s = .next (handed quiet [.frameReceived all])) ∧
    (∀ n, lengthField all = some n → 2 ≤ n → n ≤ 514 → all.length ≠ n + 4 →
      exec (.receivedByte b) s = .next more)) ∧
  ∀ (bytes : List Byte) (s : State), live s → s.link.receiver = .receiving bytes →
    exec .linkGapExpiry s = .next
      (event { s with link := { s.link with receiver := .hunting, gap := none } } .linkFrameFault .none [0])

/-- A complete frame (R187-R189), the queue being as every step keeps it: with its check wrong it is a frame fault
CHECK; else, with start-up ended and the reply slot empty, its request is taken at once; else it joins the request queue,
or with four requests waiting takes the refusal slot, or with that occupied is a frame fault OVERRUN. -/
def Sys2Proof.Claims.ReceivedFrameIsQueued : Prop :=
  ∀ (bytes : List Byte) (s : State), live s → queueServed s → frameShape bytes = true →
    let may : Prop := s.boot.phase = .done ∧ s.link.reply = none
    let inner := bytes.take (bytes.length - 2)
    let sound : Prop := bytes.drop (bytes.length - 2) = b2 (crc16 inner).toNat
    let f : Frame := { kind := bytes.getD 2 0, tag := bytes.getD 3 0, body := inner.drop 4 }
    (¬ sound → exec (.frameReceived bytes) s = .next (event s .linkFrameFault .none [2])) ∧
    (sound → may → exec (.frameReceived bytes) s = exec f.command (takingHead s [])) ∧
    (sound → ¬ may → s.link.queue.length < 4 →
      exec (.frameReceived bytes) s = .next { s with link := { s.link with queue := s.link.queue ++ [.frame f] } }) ∧
    (sound → ¬ may → 4 ≤ s.link.queue.length → s.link.refusal = none →
      exec (.frameReceived bytes) s = .next
        { s with link := { s.link with refusal := some { tag := f.tag, kind := f.kind } } }) ∧
    (sound → ¬ may → 4 ≤ s.link.queue.length → s.link.refusal ≠ none →
      exec (.frameReceived bytes) s = .next (event s .linkFrameFault .none [3]))

/-- The host link's received bytes and frames. -/
def Obligations.FramesReceived : Prop := ReceiverFollowsTheBytes ∧ ReceivedFrameIsQueued

/-- The outgoing line (R191): a free line takes the QUEUE_FULL refusal, else the reply, else the oldest notice with the
notice-lost flag, which it clears; the end of a frame frees the line, and of a reply's frame empties the reply slot, so
that the request at the head of the queue is taken in the same event (R189). The ends are stated of a queue as every step
keeps it. -/
def Obligations.OutgoingFramesInOrder : Prop :=
  (∀ s : State, live s → s.link.line.isSome → exec .outgoingFrameBegin s = .next s) ∧
  (∀ s : State, live s → s.link.line = none →
    (∀ f, s.link.refusal = some f → exec .outgoingFrameBegin s = .next
      { s with link := { s.link with line := some (.refusal f), refusal := none } }) ∧
    (∀ r, s.link.refusal = none → s.link.reply = some r → exec .outgoingFrameBegin s = .next
      { s with link := { s.link with line := some (.reply r) } }) ∧
    (∀ e rest, s.link.refusal = none → s.link.reply = none → s.out.notices = e :: rest →
      exec .outgoingFrameBegin s = .next
        { s with link := { s.link with line := some (.notice s.out.noticeLost e) }
                 out := { s.out with notices := rest, noticeLost := false } })) ∧
  ∀ s : State, live s → queueServed s →
    (s.link.line = none → exec .outgoingFrameEnd s = .next s) ∧
    (∀ f, s.link.line = some f → (∀ r, f ≠ .reply r) →
      exec .outgoingFrameEnd s = .next { s with link := { s.link with line := none } }) ∧
    ∀ r, s.link.line = some (.reply r) → (r.kind ≠ 0x74 ∨ ∃ why items, r.verdict = .refused why items) →
      let t : State := { s with link := { s.link with line := none, reply := none } }
      ((s.link.queue = [] ∨ s.boot.phase ≠ .done) → exec .outgoingFrameEnd s = .next t) ∧
      ∀ q rest, s.boot.phase = .done → s.link.queue = q :: rest →
        exec .outgoingFrameEnd s = exec q.command (takingHead t rest)

/-! ### The schedule engine -/

/-- RUN (R73): its tests in order; an accepted one makes the engine RUNNING with autorun disarmed and a list of the
firings of the coming hour, those due taken: every one of them unless the list was full. READ_UPCOMING (R91). -/
def Sys2Proof.Claims.RunDecided : Prop :=
  (∀ (h : Head) (s : State), serves s →
    let i : Instr := .run h
    (h.sized = false → exec i s = .next (refuse s 0x40 h .badLength)) ∧
    (h.sized = true → s.engine.state = .running → exec i s = .next (refuse s 0x40 h .wrongState)) ∧
    (h.sized = true → s.engine.state ≠ .running → s.clock.isSet = false →
      exec i s = .next (refuse s 0x40 h .clockNotSet)) ∧
    (h.sized = true → s.engine.state ≠ .running → s.clock.isSet = true → s.store.active = none →
      exec i s = .next (refuse s 0x40 h .noSeason)) ∧
    (h.sized = true → s.engine.state ≠ .running → s.clock.isSet = true → s.store.active ≠ none →
      ∃ t, exec i s = .next t ∧ t.engine.state = .running ∧ t.engine.armed = false ∧ t.engine.fill.isSome ∧
        (∀ f ∈ t.engine.upcoming, s.now < f.time ∧ f.time < s.now + 60) ∧
        (t.engine.leftOut = false → t.engine.fill = some { next := s.now + 60, placed := 0 } ∧
          ∀ x, s.now < x → x < s.now + 60 → ∀ f ∈ t.gather x, f ∈ t.engine.upcoming) ∧
        t.link.reply = some { kind := 0x40, tag := h.tag, verdict := .accepted .empty })) ∧
  ∀ (h : Head) (index : Nat) (s : State), serves s →
    exec (.readUpcoming h index) s = .next
      (if h.sized = false then refuse s 0x42 h .badLength
      else if 127 < index then refuse s 0x42 h .outOfRange
      else accept s 0x42 h (.upcoming s.engine.state s.store.active s.engine.upcoming.length s.engine.fill
        s.engine.carried.length ((s.engine.upcoming.drop index).take 16)))

/-- HALT (R74-R76): its tests in order. An accepted DRAIN drops the START firings and drains, or is HALTED at once with
no schedule work; an accepted STOP halts, and releases every schedule transmission to origin MANUAL. Both empty the
Pending slots of schedule requests and disarm autorun. -/
def Sys2Proof.Claims.HaltDecided : Prop :=
  ∀ (h : Head) (s : State), serves s →
    let emptied (t : State) : Prop := ∀ u, (t.tr u).slot =
      (match (s.tr u).slot with | some q => if q.work.isSome then none else some q | none => none)
    let silent : Prop := ∀ u, (s.tr u).work = none
    (h.sized = false → exec (.haltDrain h true) s = .next (refuse s 0x41 h .badLength) ∧
      exec (.haltStop h) s = .next (refuse s 0x41 h .badLength)) ∧
    (h.sized = true → exec (.haltDrain h false) s = .next (refuse s 0x41 h .badField)) ∧
    (h.sized = true → s.engine.state ≠ .running → exec (.haltDrain h true) s = .next (refuse s 0x41 h .wrongState)) ∧
    (h.sized = true → s.engine.state = .halted → exec (.haltStop h) s = .next (refuse s 0x41 h .wrongState)) ∧
    (h.sized = true → s.engine.state = .running →
      ∃ t, exec (.haltDrain h true) s = .next t ∧ emptied t ∧ t.engine.armed = false ∧
        t.link.reply = some { kind := 0x41, tag := h.tag, verdict := .accepted .empty } ∧
        (¬ silent → t.engine.state = .draining ∧
          t.engine.upcoming = s.engine.upcoming.filter fun f => f.kind == .end_) ∧
        (silent → t.engine.state = .halted ∧ t.engine.upcoming = [] ∧ t.engine.carried = [] ∧ t.engine.fill = none)) ∧
    (h.sized = true → s.engine.state ≠ .halted →
      ∃ t, exec (.haltStop h) s = .next t ∧ emptied t ∧ t.engine.armed = false ∧ t.engine.state = .halted ∧
        t.engine.upcoming = [] ∧ t.engine.carried = [] ∧ t.engine.fill = none ∧
        t.link.reply = some { kind := 0x41, tag := h.tag, verdict := .accepted .empty } ∧
        ∀ u, (t.tr u).work = none ∧ (t.tr u).state = (s.tr u).state ∧
          (t.tr u).manualHold = (s.tr u).manualHold ∧
          (t.tr u).current.map (fun x => (x.column, x.kHz, x.kW)) =
            (s.tr u).current.map (fun x => (x.column, x.kHz, x.kW)))

/-- The requests that a HALT removes (R74, R76, R81, R82): each Pending request of the schedule is recorded
MISSED(HALTED) with its event; no other record is written and no other event raised. That they go in transmitter order is
the model's choice (log 54). -/
def Sys2Proof.Claims.HaltRecordsMissed : Prop :=
  ∀ (h : Head) (i : Instr) (s : State), serves s → h.sized = true →
    ((i = .haltDrain h true ∧ s.engine.state = .running) ∨ (i = .haltStop h ∧ s.engine.state ≠ .halted)) →
    let waiting : List (Tx × StartRequest × SchedRef) :=
      allTx.filterMap fun u => (s.tr u).slot.bind fun q => q.work.map fun w => (u, q, w)
    let record (p : Tx × StartRequest × SchedRef) : LogRecord :=
      { kind := .missed, date := s.clock.reading.date, second := s.clock.reading.minute * 60 + s.clock.reading.second
        t := p.1, manual := false, work := some (p.2.2.bank, p.2.2.entry), column := some p.2.1.column
        kHz := some p.2.1.kHz, kW := none, detail := .halted, sequence := 0 }
    ∃ t, exec i s = .next t ∧ logs s t (waiting.map record) ∧ raises s t (waiting.map fun p => missing p.1 .halted)

/-- AUTORUN (R77): the first boundary that carries SET, with a bank ACTIVE and autorun armed, starts a halted engine
exactly as an accepted RUN does; not armed, it does not. Stated with no bank VALID or on its way to it, so that the
boundary changes no season. -/
def Sys2Proof.Claims.AutorunStartsAsRunDoes : Prop :=
  ∀ (h : Head) (b : Boundary) (s : State), serves s → s.engine.state = .halted → b.clockSet = true → b.now = s.now →
    (∀ k, (s.store.bank k).state = .active ∨ (s.store.bank k).state = .erased ∨ (s.store.bank k).state = .retired ∨
      (s.store.bank k).state = .damaged) →
    let untaken : State := { s with link := { s.link with taking := false } }
    let start (x : State) : State := x.startEngine x.now
    (h.sized = true → s.clock.isSet = true → s.store.active ≠ none →
      exec (.run h) s = .next ((start untaken).answer 0x40 h.tag (.accepted .empty))) ∧
    exec (.minuteBoundary b) s = .next (if s.engine.armed = true ∧ s.store.active ≠ none then start s else s)

/-- The firings of a minute (R68, R69, R70): the STARTs of windows that begin at it, not while DRAINING, the ENDs of
windows of its date or the date before that end at it, and the ENDs of the carried records; END before START, then by
transmitter, each once. That two ENDs alike in every field are one firing is the model's choice (log 46), and so is that
a minute past 2099-12-31 has its firings as if the calendar went on (log 49). -/
def Sys2Proof.Claims.FiringsGathered : Prop :=
  (∀ (s : State) (x : Nat), (s.gather x).Nodup ∧ (s.gather x).Pairwise fun f g =>
    (f.kind = .end_ ∧ g.kind = .start) ∨ (f.kind = g.kind ∧ f.t ≤ g.t)) ∧
  ∀ (s : State) (x : Nat) (f : Firing), f ∈ s.gather x ↔
    (∃ k e, s.store.active = some k ∧ e ∈ s.entries k ∧
      ((s.engine.state ≠ .draining ∧ e.begins (x / 1440) = x ∧ e.inEffect (x / 1440) = true ∧
        f = { time := x, kind := .start, bank := k, entry := e.number, day := x / 1440, t := tx e.transmitter }) ∨
      ∃ day, (day = x / 1440 ∨ day + 1 = x / 1440) ∧ e.ends day = x ∧ e.inEffect day = true ∧
        f = { time := x, kind := .end_, bank := k, entry := e.number, day := day, t := tx e.transmitter })) ∨
    ∃ c ∈ s.engine.carried, c.endTime = x ∧
      f = { time := x, kind := .end_, bank := c.bank, entry := c.entry, day := c.day, t := c.t }

/-- A rebuild (R69, R70): the list holds the firings of the sixty minutes from the current one, each once and in order
of time; with more than 128 of them it holds 128, and HORIZON_OVERFLOW is raised unless the fill before left one out. -/
def Sys2Proof.Claims.ListRebuilt : Prop :=
  ∀ (s : State) (now : Nat),
    let t := s.rebuild now
    let hour (f : Firing) : Prop := ∃ x, now ≤ x ∧ x < now + 60 ∧ f ∈ s.gather x
    { t with engine := { t.engine with upcoming := s.engine.upcoming, fill := s.engine.fill, leftOut := s.engine.leftOut }
             out := s.out } = s ∧
    t.engine.upcoming.Pairwise (fun f g => f.time ≤ g.time) ∧ t.engine.upcoming.Nodup ∧
    t.engine.upcoming.length ≤ 128 ∧
    (∀ f ∈ t.engine.upcoming, hour f) ∧
    (t.engine.leftOut = false → t.engine.fill = some { next := now + 60, placed := 0 } ∧
      (∀ f, hour f → f ∈ t.engine.upcoming) ∧ t.out = s.out) ∧
    (t.engine.leftOut = true → t.engine.upcoming.length = 128 ∧
      (s.engine.leftOut = true → t.out = s.out) ∧
      (s.engine.leftOut = false → ∃ e, raises s t [e] ∧ e.kind = .horizonOverflow))

/-- SCHEDULE_WORK_ENDED (R75, R89): the carried record of that work, its bank, entry and window date, goes and no other
does; in DRAINING, once no transmitter carries schedule work, the engine is HALTED with its lists empty. In RUNNING and
HALTED the engine state stays. That the report carries its work is the model's form (log 37), and that a HALT forgets
whether the fill before left a firing out is its choice (log 48). -/
def Sys2Proof.Claims.WorkEndedReported : Prop :=
  ∀ (u : Tx) (w : SchedRef) (s : State), live s →
    let kept := s.engine.carried.filter fun k => !(k.t == u && k.bank == w.bank && k.entry == w.entry && k.day == w.day)
    exec (.scheduleWorkEnded u w) s = .next
      (if s.engine.state = .draining ∧ ∀ v, (s.tr v).work = none then
        { s with engine := { s.engine with
          state := .halted, upcoming := [], carried := [], fill := none, leftOut := false } }
      else { s with engine := { s.engine with carried := kept } })

/-- RUN, HALT, AUTORUN and READ_UPCOMING, what the Upcoming List holds, and the report of ended work. -/
def Obligations.RunAndHaltDecided : Prop :=
  RunDecided ∧ HaltDecided ∧ HaltRecordsMissed ∧ AutorunStartsAsRunDoes ∧ FiringsGathered ∧ ListRebuilt ∧
  WorkEndedReported

/-- A minute boundary switches the season of a halted engine (R88): a VALID bank whose effective start has come becomes
ACTIVE with an activation number one above the other bank's, a bank that was ACTIVE becomes RETIRED, the Fired Table is
cleared and SEASON_SWITCHED raised, and no transmission of the retired bank stays of the schedule. Without the clock-set
flag a halted engine does nothing; before start-up has ended no boundary is taken (R210). -/
def Sys2Proof.Claims.HaltedEngineSwitches : Prop :=
  (∀ (b : Boundary) (k : Bank) (x : Nat) (s : State), live s → s.boot.phase = .done → b.clockSet = true →
    s.engine.state = .halted → s.engine.armed = false → (s.store.bank k).state = .valid →
    (s.store.bank k).effective = some x → x ≤ b.now → (s.store.bank (otherBank k)).state ≠ .valid →
    ∃ t, exec (.minuteBoundary b) s = .next t ∧ (t.store.bank k).state = .active ∧
      (t.store.bank k).read.activation = (s.store.bank (otherBank k)).read.activation + 1 ∧
      (t.store.bank (otherBank k)).state =
        (if (s.store.bank (otherBank k)).state = .active then .retired else (s.store.bank (otherBank k)).state) ∧
      (∀ n, t.engine.fired.get n = none) ∧
      (∃ es, raises s t (seasonSwitched s k :: es) ∧
        ∀ e ∈ es, e.kind = .seasonMissed ∧ e.subject = .bank (otherBank k)) ∧
      ∀ u w, (t.tr u).work = some w → w.bank ≠ otherBank k) ∧
  (∀ (b : Boundary) (s : State), live s → s.boot.phase = .done → b.clockSet = false → s.engine.state = .halted →
    exec (.minuteBoundary b) s = .next s) ∧
  ∀ (b : Boundary) (s : State), live s → s.boot.phase ≠ .done → exec (.minuteBoundary b) s = .next s

/-- The bank that a boundary switches to (R88): a VALID one whose effective start has come; of two, the later start,
bank 1 where they are equal. -/
def Sys2Proof.Claims.SeasonChosen : Prop :=
  ∀ (s : State) (now : Nat),
    let comes (k : Bank) (x : Nat) : Prop :=
      (s.store.bank k).state = .valid ∧ (s.store.bank k).effective = some x ∧ x ≤ now
    (∀ x y, comes 0 x → comes 1 y → s.switchTo now = some (if y < x then 0 else 1)) ∧
    (∀ k x, comes k x → (∀ y, ¬ comes (otherBank k) y) → s.switchTo now = some k) ∧
    ((∀ k x, ¬ comes k x) → s.switchTo now = none)

/-- A bank's effective start passes at a boundary (R90): while it is OPEN, CLOSED, CHECKING or REJECTED, SEASON_MISSED
is raised with its state; another bank that is not VALID raises nothing. Stated with the other bank ERASED and the
engine halted. -/
def Sys2Proof.Claims.SeasonMissed : Prop :=
  ∀ (b : Boundary) (k : Bank) (x : Nat) (s : State), live s → s.boot.phase = .done → b.clockSet = true →
    s.engine.state = .halted → s.engine.armed = false → (s.store.bank k).effective = some x →
    (s.store.bank k).state ≠ .valid → (s.store.bank (otherBank k)).state = .erased →
    let state := (s.store.bank k).state
    exec (.minuteBoundary b) s = .next
      (if b.previous.getD (b.now - 1) < x ∧ x ≤ b.now ∧
          (state = .opened ∨ state = .closed ∨ state = .checking ∨ state = .rejected) then
        event s .seasonMissed (.bank k) (b1 state.code)
      else s)

/-- A switch in RUNNING or DRAINING carries the schedule work of the retired bank (R89): each transmitter's transmission
and changeover are left as they are, its work joins the Carried List with its window's end, earlier carried records
stay but for a transmitter's record of another work, which has ended (log 47), so that a list of one record for each
transmitter stays so, and a Pending request of the retired bank is removed with MISSED(SEASON). -/
def Sys2Proof.Claims.SwitchCarries : Prop :=
  ∀ (s : State) (now : Nat) (k : Bank), s.engine.state ≠ .halted →
    let o := otherBank k
    let t := s.makeSwitch now k
    let evicted (u : Tx) : Prop := ∃ q w, (s.tr u).slot = some q ∧ q.work = some w ∧ w.bank = o
    let record (u : Tx) (w : SchedRef) : Carried :=
      { t := u, bank := w.bank, entry := w.entry, day := w.day, endTime := w.windowEnd }
    (t.store.bank k).state = .active ∧
    (t.store.bank o).state = (if (s.store.bank o).state = .active ∨ s.eligible now o = true then .retired
      else (s.store.bank o).state) ∧
    t.engine.state = s.engine.state ∧ (∀ n, t.engine.fired.get n = none) ∧
    (∀ c ∈ s.engine.carried, (∀ w, (s.tr c.t).work = some w → w.bank = o → c = record c.t w) →
      c ∈ t.engine.carried) ∧
    (∀ u w, (s.tr u).work = some w → w.bank = o → record u w ∈ t.engine.carried) ∧
    ((s.engine.carried.map (·.t)).Nodup → (t.engine.carried.map (·.t)).Nodup) ∧
    (∀ c ∈ t.engine.carried, c ∈ s.engine.carried ∨ ∃ w, (s.tr c.t).work = some w ∧ w.bank = o ∧ c = record c.t w) ∧
    (∀ u, (t.tr u).state = (s.tr u).state ∧ (t.tr u).current = (s.tr u).current ∧
      (t.tr u).context = (s.tr u).context ∧ (evicted u → (t.tr u).slot = none) ∧
      (¬ evicted u → (t.tr u).slot = (s.tr u).slot)) ∧
    t.out.port = s.out.port ∧
    ∃ es, raises s t (seasonSwitched s k :: es) ∧ (∀ e ∈ es, e.kind = .missed ∧ e.detail = b1 Detail.season.code) ∧
      ∀ u, evicted u ↔ ∃ e ∈ es, e.subject = .transmitter u

/-- In RUNNING and DRAINING the boundary that switches goes on with the new season (R71, R89): the list rebuilt for an
ADVANCE, the clock-step rules for a STEP, then the due firings, the refill and in RUNNING the late-start scan. -/
def Sys2Proof.Claims.SwitchIsServed : Prop :=
  ∀ (b : Boundary) (k : Bank) (s : State), live s → s.boot.phase = .done → b.clockSet = true →
    s.engine.state ≠ .halted → s.switchTo b.now = some k →
    let previous := b.previous.getD (b.now - 1)
    let switched := ((s.makeSwitch b.now k).missSeason previous b.now 0).missSeason previous b.now 1
    let ruled := match b.kind with
      | .step => switched.clockStepRules (b.previous.getD b.now) b.now
      | .advance => switched.rebuild b.now
    let served := (ruled.takeAllDue b.now).refill b.now
    exec (.minuteBoundary b) s = .next (if served.engine.state = .running then served.lateScan b.now else served)

/-- The season switch at a minute boundary, in every engine state, and the missed switch. -/
def Obligations.BoundarySwitchesSeason : Prop :=
  HaltedEngineSwitches ∧ SeasonChosen ∧ SeasonMissed ∧ SwitchCarries ∧ SwitchIsServed

/-- A running engine takes a due START at an ADVANCE boundary that keeps the season (R78, R79): its window date joins
the Fired Table, and the transmitter's state decides: DARK, LOCKED and a manual hold record MISSED and leave the
transmitter alone; CHANGING, and HELD under a hold, place the request in the Pending slot, and one that it holds already
is recorded MISSED(SUPERSEDED) with its event (R81); READY begins a changeover of origin SCHEDULE with a CLAIM. ON_AIR
and TRIPPED give up their transmission (R80), and HELD without a hold does (R132): END is recorded with SEASON or
SUPERSEDED by R80's test of its bank (for a bank ACTIVE again the model's choice, log 50), its carried record goes and
its work is reported ended (that SEN reports it is the model's, log 32). The START takes it over without a MUTE: on air,
on the same column and frequency and in service, as a continuation, START(CONTINUED) (R122); else by a changeover. That
END and START records have a column and a frequency is the model's reading (log 64). -/
def Sys2Proof.Claims.BoundaryTakesAStart : Prop :=
  ∀ (b : Boundary) (f : Firing) (e : Entry) (s : State), live s → s.boot.phase = .done → keepsSeason b s →
    b.kind = .advance → s.engine.state = .running → s.engine.upcoming = [f] → f.kind = .start → f.time ≤ b.now →
    s.entryOf f.bank f.entry = some e → s.engine.firedOn e.number ≠ some f.day → s.retest e = true →
    let u := tx e.transmitter
    let r := s.tr u
    let missed (t : State) (why : Detail) : Prop := t.tr u = r ∧
      ∃ m, t.out.log.records.getLast? = some m ∧ m.kind = .missed ∧ m.t = u ∧ m.detail = why
    ∃ t, exec (.minuteBoundary b) s = .next t ∧ t.engine.firedOn e.number = some f.day ∧
      (∀ w, r.state = .dark w → missed t .transmitterDark) ∧
      (∀ w, r.state = .locked w → missed t .transmitterLocked) ∧
      (r.state.off = false → r.manualHold = true → missed t .manualHold) ∧
      (r.manualHold = false → (r.state = .changing ∨ (r.state = .held ∧ r.holds.empty = false)) →
        ∃ q, (t.tr u).slot = some q ∧ q.work = some (e.work f.bank f.day) ∧ q.column = col e.primary ∧
          q.kHz = e.kHz ∧ q.kW = e.kW ∧ (t.tr u).state = r.state ∧
          (r.slot = none → t.out.log = s.out.log) ∧
          ∀ p, r.slot = some p → ∃ m es, logs s t [m] ∧ m.kind = .missed ∧ m.detail = .superseded ∧ m.t = u ∧
            m.work = p.work.map (fun w => (w.bank, w.entry)) ∧ m.column = some p.column ∧ m.kHz = some p.kHz ∧
            raises s t (missing u .superseded :: es) ∧ ∀ v ∈ es, v.kind = .horizonOverflow) ∧
      (∀ x, r.manualHold = false → r.current = some x →
        (r.state = .onAir ∨ r.state = .tripped ∨ (r.state = .held ∧ r.holds.empty = true ∧ r.slot = none)) →
        let goesOn : Prop := r.state = .onAir ∧ x.column = col e.primary ∧ x.kHz = e.kHz ∧
          (s.matrix.column x.column).inService = true
        ∃ m rest orders, logs s t (m :: rest) ∧ m.kind = .end_ ∧ m.t = u ∧
          m.work = x.work.map (fun w => (w.bank, w.entry)) ∧
          m.column = some x.column ∧ m.kHz = some x.kHz ∧ m.kW = some x.kW ∧ (x.work = none → m.detail = .superseded) ∧
          (∀ w, x.work = some w →
            m.detail = (if s.store.active = some w.bank then .superseded else .season) ∧
            Instr.scheduleWorkEnded u w ∈ t.out.handed ∧ (r.state ≠ .held →
              ∀ c ∈ t.engine.carried, ¬ (c.t = u ∧ c.bank = w.bank ∧ c.entry = w.entry ∧ c.day = w.day))) ∧
          t.out.port = s.out.port ++ orders ∧ (∀ o ∈ orders, o.2 ≠ .mute) ∧
          (goesOn → (t.tr u).state = .onAir ∧
            (∃ n, rest = [n] ∧ n.kind = .start ∧ n.detail = .continued ∧ n.t = u) ∧
            ∃ y, (t.tr u).current = some y ∧ y.work = some (e.work f.bank f.day) ∧ y.column = x.column ∧ y.kHz = x.kHz) ∧
          (¬ goesOn → rest = [] ∧ orders = [] ∧ (t.tr u).state = .changing ∧ (t.tr u).current = none ∧
            (t.tr u).slot = r.slot ∧ Instr.claim u (col e.primary) ∈ t.out.handed ∧
            ∃ k, (t.tr u).context = some k ∧ k.origin = .schedule ∧ k.phase = .claim ∧ k.target = col e.primary ∧
              k.kHz = e.kHz ∧ k.kW = e.kW ∧ k.work = some (e.work f.bank f.day))) ∧
      (r.manualHold = false → r.state = .ready → r.current = none →
        (t.tr u).state = .changing ∧ Instr.claim u (col e.primary) ∈ t.out.handed ∧
        ∃ k, (t.tr u).context = some k ∧ k.origin = .schedule ∧ k.phase = .claim ∧ k.target = col e.primary ∧
          k.kHz = e.kHz ∧ k.kW = e.kW ∧ k.work = some (e.work f.bank f.day))

/-- A running engine takes a due END at an ADVANCE boundary that keeps the season (R84): the transmission of the
firing's window, ON_AIR, HELD or TRIPPED, is muted by an END context; with RF ABSENT that context ends in the same event,
END(WINDOW) is recorded, CHANGEOVER_DONE raised and the transmitter READY (R133). A changeover that builds that
transmission is abandoned (R140). The window's request in the Pending slot is removed, MISSED(TOO_LATE) (R81). A firing
that nothing matches leaves the transmitter alone and removes the carried record of its own work, if there is one, and no
other. -/
def Sys2Proof.Claims.BoundaryTakesAnEnd : Prop :=
  ∀ (b : Boundary) (f : Firing) (s : State), live s → s.boot.phase = .done → keepsSeason b s →
    b.kind = .advance → s.engine.state = .running → s.engine.upcoming = [f] → f.kind = .end_ → f.time ≤ b.now →
    let r := s.tr f.t
    (∀ x w, (r.state = .onAir ∨ r.state = .held ∨ r.state = .tripped) → r.current = some x → x.work = some w →
      w.bank = f.bank → w.entry = f.entry → w.day = f.day →
      ∃ t, exec (.minuteBoundary b) s = .next t ∧ (t.tr f.t).unmuted = false ∧
        t.out.port = s.out.port ++ [(f.t, .mute)] ∧
        (r.rf = some true → (t.tr f.t).state = .changing ∧ (t.tr f.t).current = some x ∧
          ∃ k, (t.tr f.t).context = some k ∧ k.origin = .end_ ∧ k.phase = .mute ∧ k.closing = .window) ∧
        (r.rf = some false → r.slot = none →
          (t.tr f.t).state = .ready ∧ (t.tr f.t).current = none ∧ (t.tr f.t).context = none ∧
          Instr.scheduleWorkEnded f.t w ∈ t.out.handed ∧
          (∃ es, raises s t (success f.t .end_ x.column x.kHz :: es) ∧ ∀ v ∈ es, v.kind = .horizonOverflow) ∧
          ∃ m, logs s t [m] ∧ m.kind = .end_ ∧ m.detail = .window ∧ m.t = f.t ∧ m.work = some (f.bank, f.entry))) ∧
    (∀ k w, r.state = .changing → r.current = none → r.context = some k → k.work = some w → w.bank = f.bank →
      w.entry = f.entry → w.day = f.day → k.origin ≠ .end_ → k.phase ≠ .windUp →
      ∃ t, exec (.minuteBoundary b) s = .next t ∧ abandonedBuild f.t k s t) ∧
    (∀ q w, r.slot = some q → q.work = some w → w.bank = f.bank → w.entry = f.entry → w.day = f.day →
      (∀ v, (r.current.bind (·.work) = some v ∨ r.context.bind (·.work) = some v) →
        ¬ (v.bank = f.bank ∧ v.entry = f.entry ∧ v.day = f.day)) →
      ∃ t m es, exec (.minuteBoundary b) s = .next t ∧ (t.tr f.t).slot = none ∧ (t.tr f.t).state = r.state ∧
        (t.tr f.t).current = r.current ∧ (t.tr f.t).context = r.context ∧ t.out.port = s.out.port ∧ logs s t [m] ∧
        m.kind = .missed ∧ m.detail = .tooLate ∧ m.t = f.t ∧ m.work = some (f.bank, f.entry) ∧
        m.column = some q.column ∧ m.kHz = some q.kHz ∧ raises s t (missing f.t .tooLate :: es) ∧
        ∀ v ∈ es, v.kind = .horizonOverflow) ∧
    (r.slot = none → r.current = none → r.context = none → r.reported = r.condition →
      ∃ t, exec (.minuteBoundary b) s = .next t ∧ t.tr f.t = r ∧ t.out.port = s.out.port ∧
        t.engine.carried = s.engine.carried.filter fun k =>
          !(k.t == f.t && k.bank == f.bank && k.entry == f.entry && k.day == f.day))

/-- A boundary that changes no season is served in order (R71): the clock-step rules for a STEP, the due firings, the
refill, and after a STEP in RUNNING the late-start scan. -/
def Sys2Proof.Claims.BoundaryServedInOrder : Prop :=
  ∀ (b : Boundary) (s : State), live s → s.boot.phase = .done → keepsSeason b s → s.engine.state ≠ .halted →
    let ruled := match b.kind with
      | .step => s.clockStepRules (b.previous.getD b.now) b.now
      | .advance => s
    let served := (ruled.takeAllDue b.now).refill b.now
    exec (.minuteBoundary b) s = .next
      (if served.engine.state = .running ∧ b.kind = .step then served.lateScan b.now else served)

/-- A due START that is not handed (R72, R78): one whose window date the Fired Table holds goes without a record; one
that fails the re-test is recorded MISSED(DESCRIPTION) with its event, and its date joins the table. -/
def Sys2Proof.Claims.StartTurnedAway : Prop :=
  ∀ (b : Boundary) (f : Firing) (e : Entry) (s : State), live s → s.boot.phase = .done → keepsSeason b s →
    b.kind = .advance → s.engine.state = .running → s.engine.upcoming = [f] → f.kind = .start → f.time ≤ b.now →
    s.entryOf f.bank f.entry = some e → (s.engine.firedOn e.number = some f.day ∨ s.retest e = false) →
    ∃ t es, exec (.minuteBoundary b) s = .next t ∧ t.stations = s.stations ∧ t.engine.firedOn e.number = some f.day ∧
      (∀ v ∈ es, v.kind = .horizonOverflow) ∧
      (s.engine.firedOn e.number = some f.day → t.out.log = s.out.log ∧ raises s t es) ∧
      (s.engine.firedOn e.number ≠ some f.day →
        raises s t (missing (tx e.transmitter) .description :: es) ∧
        ∃ m, logs s t [m] ∧ m.kind = .missed ∧ m.detail = .description ∧ m.t = tx e.transmitter ∧ m.manual = false ∧
          m.work = some (f.bank, e.number) ∧ m.column = some (col e.primary) ∧ m.kHz = some e.kHz ∧ m.kW = none)

/-- An END and a START of one transmitter due together (R83), the END matching the current transmission and the START
handed as a new changeover: the END is written FOLLOWED and no MUTE is sent; the window date joins the Fired Table,
the carried record goes, the work that ended is reported (that SEN reports it is the model's, log 32), and the START
takes the transmission over, as a continuation where its column, frequency and the column's service allow it, else as
a changeover. Under the manual hold flag the START is not handed: the END begins an END context and the START is
MISSED(MANUAL_HOLD). That END(FOLLOWED) has a frequency is the model's reading (log 64). -/
def Sys2Proof.Claims.PairTakenTogether : Prop :=
  ∀ (b : Boundary) (f g : Firing) (e : Entry) (x : Transmission) (w : SchedRef) (s : State), live s →
    s.boot.phase = .done → keepsSeason b s → b.kind = .advance → s.engine.state = .running →
    s.engine.upcoming = [f, g] → f.kind = .end_ → g.kind = .start → f.time ≤ b.now → g.time ≤ b.now → g.t = f.t →
    s.entryOf g.bank g.entry = some e → tx e.transmitter = f.t → s.engine.firedOn e.number ≠ some g.day →
    s.retest e = true → (s.tr f.t).current = some x → x.work = some w → w.bank = f.bank → w.entry = f.entry →
    w.day = f.day → (s.tr f.t).context = none → (s.tr f.t).slot = none →
    let r := s.tr f.t
    let goesOn : Prop := r.state = .onAir ∧ x.column = col e.primary ∧ x.kHz = e.kHz ∧
      (s.matrix.column x.column).inService = true
    let followed (m : LogRecord) : Prop := m.kind = .end_ ∧ m.detail = .followed ∧ m.t = f.t ∧
      m.work = some (w.bank, w.entry) ∧ m.kHz = some x.kHz
    (r.manualHold = false → (r.state = .onAir ∨ r.state = .tripped) →
      ∃ t orders, exec (.minuteBoundary b) s = .next t ∧ t.out.port = s.out.port ++ orders ∧
        (∀ o ∈ orders, o.2 ≠ .mute) ∧ t.engine.firedOn e.number = some g.day ∧
        (∀ c ∈ t.engine.carried, ¬ (c.t = f.t ∧ c.bank = w.bank ∧ c.entry = w.entry ∧ c.day = w.day)) ∧
        Instr.scheduleWorkEnded f.t w ∈ t.out.handed ∧
        (goesOn → (t.tr f.t).state = .onAir ∧ (t.tr f.t).context = none ∧
          (∃ m n, logs s t [m, n] ∧ followed m ∧ n.kind = .start ∧ n.detail = .continued ∧ n.t = f.t) ∧
          ∃ y, (t.tr f.t).current = some y ∧ y.work = some (e.work g.bank g.day) ∧ y.column = x.column) ∧
        (¬ goesOn → (t.tr f.t).state = .changing ∧ (t.tr f.t).current = none ∧
          (∃ m, logs s t [m] ∧ followed m) ∧
          ∃ k, (t.tr f.t).context = some k ∧ k.origin = .schedule ∧ k.phase = .claim ∧ k.target = col e.primary ∧
            k.work = some (e.work g.bank g.day))) ∧
    (r.manualHold = true → r.state = .onAir → r.rf = some true →
      ∃ t k m, exec (.minuteBoundary b) s = .next t ∧ t.out.port = s.out.port ++ [(f.t, .mute)] ∧
        (t.tr f.t).state = .changing ∧ (t.tr f.t).context = some k ∧ k.origin = .end_ ∧ k.closing = .window ∧
        t.engine.firedOn e.number = some g.day ∧ logs s t [m] ∧ m.kind = .missed ∧ m.detail = .manualHold)

/-- The late-start scan (R85), stated for a zero step of the clock, a bank of one entry whose window has begun, a date
that the Fired Table does not hold and a READY transmitter: with two minutes left or more the window starts late with
LATE_START; with fewer it is recorded MISSED(TOO_LATE). The date joins the Fired Table. -/
def Sys2Proof.Claims.LateWindowsFound : Prop :=
  ∀ (b : Boundary) (k : Bank) (e : Entry) (day : Nat) (s : State), live s → s.boot.phase = .done →
    keepsSeason b s → b.kind = .step → b.previous = some b.now → s.engine.state = .running →
    s.engine.carried = [] → s.store.active = some k → s.entries k = [e] → e.duration ≤ 1440 →
    (day = b.now / 1440 ∨ day + 1 = b.now / 1440) → e.inEffect day = true → e.begins day < b.now →
    b.now < e.ends day → s.engine.firedOn e.number ≠ some day → s.retest e = true →
    let u := tx e.transmitter
    (s.tr u).state = .ready → (s.tr u).current = none → (s.tr u).manualHold = false →
    ∃ t es, exec (.minuteBoundary b) s = .next t ∧ t.engine.firedOn e.number = some day ∧
      (∀ v ∈ es, v.kind = .horizonOverflow) ∧
      (b.now + 2 ≤ e.ends day → (t.tr u).state = .changing ∧
        raises s t (es ++ [{ kind := .lateStart, subject := .transmitter u, detail := [] }]) ∧ t.out.log = s.out.log ∧
        ∃ c, (t.tr u).context = some c ∧ c.origin = .schedule ∧ c.late = true ∧ c.work = some (e.work k day) ∧
          c.phase = .claim ∧ c.target = col e.primary) ∧
      (e.ends day < b.now + 2 → t.tr u = s.tr u ∧ raises s t (es ++ [missing u .tooLate]) ∧
        ∃ m, logs s t [m] ∧ m.kind = .missed ∧ m.detail = .tooLate ∧ m.t = u ∧ m.work = some (k, e.number))

/-- The windows that a forward step passes over (R86 step 1): begun after the previous minute and ended by the new
one, on or after the bank's effective start, no more than 1,440 minutes before the new minute. -/
def Sys2Proof.Claims.PassedWindowsFound : Prop :=
  ∀ (s : State) (k : Bank) (h : Header) (previous now : Nat) (e : Entry) (day : Nat),
    (s.store.bank k).header = some h → e.start ≤ 1439 →
    ((e, day) ∈ s.passedWindows k previous now ↔
      e ∈ s.entries k ∧ e.inEffect day = true ∧ previous < e.begins day ∧ e.ends day ≤ now ∧
        h.date.number * 1440 + h.minute ≤ e.begins day ∧ now ≤ e.begins day + 1440)

/-- The clock-step rules (R86, R87). A step that is not forward only rebuilds the list. A forward step records each
passed window that the Fired Table does not hold MISSED(CLOCK_STEP) first, in order; ends by an END context the schedule
transmission, ON_AIR, HELD or TRIPPED, whose window has ended, and one whose RF is ABSENT at once; abandons the changeover
that builds such a transmission; removes each Pending request whose window has ended, MISSED(CLOCK_STEP); then it rebuilds
the list. That the Pending request of a transmission ended at once is taken up before the passed requests are removed,
even when its own window has passed, is the model's choice (log 68), which R86 leaves open. -/
def Sys2Proof.Claims.ClockStepsRuled : Prop :=
  ∀ (s : State) (previous now : Nat),
    let t := s.clockStepRules previous now
    let carries (u : Tx) : Prop := (s.tr u).state = .onAir ∨ (s.tr u).state = .held ∨ (s.tr u).state = .tripped
    (now ≤ previous → t = s.rebuild now) ∧
    (∀ k q, previous < now → s.store.active = some k → s.passedWindows k previous now = [q] →
      s.engine.firedOn q.1.number ≠ some q.2 →
      t.engine.firedOn q.1.number = some q.2 ∧
      ∃ m rest, t.out.log = (m :: rest).foldl Log.write s.out.log ∧ m.kind = .missed ∧ m.detail = .clockStep ∧
        m.t = tx q.1.transmitter ∧ m.work = some (k, q.1.number)) ∧
    (∀ u x w, previous < now → carries u → (s.tr u).current = some x → x.work = some w →
      w.windowEnd ≤ now → (s.tr u).rf = some true →
      (t.tr u).state = .changing ∧ (u, .mute) ∈ t.out.port ∧
      ∃ k, (t.tr u).context = some k ∧ k.origin = .end_ ∧ k.phase = .mute ∧ k.closing = .window) ∧
    (∀ u x w q v, previous < now → carries u → (s.tr u).current = some x → x.work = some w →
      w.windowEnd ≤ now → (s.tr u).rf = some false → (s.tr u).slot = some q → q.work = some v →
      (t.tr u).slot = none ∧ (t.tr u).state = .changing ∧
      ∃ k, (t.tr u).context = some k ∧ k.work = some v ∧ k.phase = .claim) ∧
    (∀ u k w, previous < now → (s.tr u).state = .changing → (s.tr u).current = none → (s.tr u).context = some k →
      k.work = some w → w.windowEnd ≤ now → k.origin ≠ .end_ → k.phase ≠ .windUp → abandonedBuild u k s t) ∧
    (∀ u q w, previous < now → (s.tr u).slot = some q → q.work = some w → w.windowEnd ≤ now → (t.tr u).slot = none) ∧
    ∀ u q w, previous < now → (∀ k, s.store.active = some k → s.passedWindows k previous now = []) →
      (∀ v x, (s.tr v).work = some x → now < x.windowEnd) →
      (∀ v, v ≠ u → (s.tr v).slot = none) → (s.tr u).slot = some q → q.work = some w → w.windowEnd ≤ now →
      ∃ m es, logs s t [m] ∧ m.kind = .missed ∧ m.detail = .clockStep ∧ m.t = u ∧ m.work = some (w.bank, w.entry) ∧
        raises s t (missing u .clockStep :: es) ∧ ∀ v ∈ es, v.kind = .horizonOverflow

/-- What a boundary that keeps the season does in order: the due START and END firings, alone and together, the
late-start scan and the clock-step rules; and the report of ended work. -/
def Obligations.BoundaryTakesFirings : Prop :=
  BoundaryServedInOrder ∧ BoundaryTakesAStart ∧ StartTurnedAway ∧ BoundaryTakesAnEnd ∧ WorkEndedReported ∧
  PairTakenTogether ∧ LateWindowsFound ∧ PassedWindowsFound ∧ ClockStepsRuled

/-! ### The host's orders on transmitters and antennas -/

/-- MANUAL_TUNE (R137): its tests in order. Accepted, the manual hold flag is set, and a READY transmitter begins a
changeover of origin MANUAL and priority 3 with a CLAIM. Of several CLOSED columns in the row the STALE test takes the
lowest, which is the model's choice (log 33); so are the order of the tests of number 2 and of the field tests (log 60)
and that an expected column above 35 is refused STALE (log 56). -/
def Sys2Proof.Claims.ManualTuneDecided : Prop :=
  ∀ (h : Head) (o : TuneOrder) (s : State), serves s →
    let i : Instr := .manualTune h o
    let u := tx o.transmitter
    let r := s.tr u
    let inRange : Prop := o.transmitter ≤ 11 ∧ o.column ≤ 35
    let fits : Prop := o.kHz % 5 = 0 ∧ r.desc.low ≤ o.kHz ∧ o.kHz ≤ r.desc.high ∧ o.programme < r.desc.programmes ∧
      (s.matrix.column (col o.column)).desc.permits o.kHz = true
    let power : Prop := r.desc.step ≤ o.kW ∧ o.kW ≤ r.desc.rated
    let state : Prop := r.state = .ready ∨ r.state = .onAir
    let owned : Prop := (∃ x, r.current = some x ∧ x.work.isSome) ∧ o.override = some false
    let closed := (s.matrix.closedIn u).head?
    let stale : Prop := (o.expected = .noColumn ∧ closed ≠ none) ∨
      ∃ c, o.expected = .column c ∧ ∀ d, closed = some d → d.val ≠ c
    (h.sized = false → exec i s = .next (refuse s 0x50 h .badLength)) ∧
    (h.sized = true → ¬ inRange → exec i s = .next (refuse s 0x50 h .outOfRange)) ∧
    (h.sized = true → inRange → (o.override = none ∨ ¬ fits) → exec i s = .next (refuse s 0x50 h .badField)) ∧
    (h.sized = true → inRange → o.override.isSome → fits → ¬ power → exec i s = .next (refuse s 0x50 h .outOfRange)) ∧
    (h.sized = true → inRange → o.override.isSome → fits → power → ¬ state →
      exec i s = .next (refuse s 0x50 h .wrongState)) ∧
    (h.sized = true → inRange → o.override.isSome → fits → power → state → owned →
      exec i s = .next (refuse s 0x50 h .scheduleOwned)) ∧
    (h.sized = true → inRange → o.override.isSome → fits → power → state → ¬ owned → stale →
      exec i s = .next (refuse s 0x50 h .stale)) ∧
    (h.sized = true → inRange → o.override.isSome → fits → power → r.state = .ready → r.current = none → ¬ stale →
      ∃ t k, exec i s = .next t ∧ t.link.reply = some { kind := 0x50, tag := h.tag, verdict := .accepted .empty } ∧
        (t.tr u).manualHold = true ∧ (t.tr u).state = .changing ∧ (t.tr u).context = some k ∧ k.origin = .manual ∧
        k.phase = .claim ∧ k.target = col o.column ∧ k.kHz = o.kHz ∧ k.kW = o.kW ∧ k.programme = o.programme ∧
        k.priority = 3 ∧ Instr.claim u (col o.column) ∈ t.out.handed)

/-- MANUAL_TUNE of an ON_AIR transmitter onto the column and frequency it radiates is a continuation (R122): no context
and no MUTE; the transmission is replaced with its power sent, an END record of the old and a START record of the new
one are written, PWR and TUNE are sent as they differ, CHANGEOVER_DONE is raised, and replaced work of the schedule is
reported ended. That END comes first is the model's choice (log 19), and that it has a column and a frequency its reading
(log 64). -/
def Sys2Proof.Claims.ContinuationKeepsTheCarrier : Prop :=
  ∀ (h : Head) (o : TuneOrder) (x : Transmission) (s t : State), serves s →
    let u := tx o.transmitter
    let r := s.tr u
    r.state = .onAir → r.current = some x → x.column = col o.column → x.kHz = o.kHz →
    (s.matrix.column x.column).inService = true → exec (.manualTune h o) s = .next t →
    t.link.reply = some { kind := 0x50, tag := h.tag, verdict := .accepted .empty } →
    let kW := r.desc.powerSent o.kW
    let orders : List (Tx × PortOrder) :=
      (if kW = x.kW then [] else [(u, .pwr kW)]) ++
        (if o.programme = x.programme then [] else [(u, .tune o.kHz o.programme)])
    (t.tr u).state = .onAir ∧ (t.tr u).context = r.context ∧ (t.tr u).unmuted = r.unmuted ∧
    t.out.port = s.out.port ++ orders ∧
    (∃ y, (t.tr u).current = some y ∧ y.work = none ∧ y.column = x.column ∧ y.kHz = x.kHz ∧ y.kW = kW ∧
      y.programme = o.programme) ∧
    raises s t [success u .manual (col o.column) o.kHz] ∧
    (∀ w, x.work = some w → Instr.scheduleWorkEnded u w ∈ t.out.handed) ∧
    ∃ a z, logs s t [a, z] ∧ a.kind = .end_ ∧ a.detail = .superseded ∧ a.t = u ∧ a.column = some x.column ∧
      a.kHz = some x.kHz ∧ z.kind = .start ∧ z.detail = .continued ∧ z.t = u ∧ z.kW = some kW ∧ z.manual = true

/-- MANUAL_TUNE of an ON_AIR transmitter onto another column or frequency, or off a column out of service, begins a
changeover (R121): the transmission is closed with END(SUPERSEDED) and its work reported ended, a MANUAL context claims
the column, the forward monitor is disarmed and the reflected one kept (R152), and no order leaves: the carrier goes on
until the MUTE phase, and the row's report with it unless mute is confirmed (R117). The record of what is radiated is
the model's form (log 23), and that END has a frequency its reading (log 64). -/
def Sys2Proof.Claims.ChangeoverReplacesTheTransmission : Prop :=
  ∀ (h : Head) (o : TuneOrder) (x : Transmission) (s t : State), serves s →
    let u := tx o.transmitter
    let r := s.tr u
    r.state = .onAir → r.current = some x →
    ¬ (x.column = col o.column ∧ x.kHz = o.kHz ∧ (s.matrix.column x.column).inService = true) →
    exec (.manualTune h o) s = .next t →
    t.link.reply = some { kind := 0x50, tag := h.tag, verdict := .accepted .empty } →
    (t.tr u).state = .changing ∧ (t.tr u).current = none ∧ (t.tr u).unmuted = r.unmuted ∧
    (t.tr u).manualHold = true ∧ t.out.port = s.out.port ∧ Instr.claim u (col o.column) ∈ t.out.handed ∧
    (t.stations.get u).fwd.state = .off ∧ (t.stations.get u).refl = (s.stations.get u).refl ∧
    (t.tr u).radiated = some { column := x.column, kHz := x.kHz, kW := x.kW } ∧
    (r.muteConfirmed = false → (t.tr u).reported = r.reported) ∧ raises s t [] ∧
    (∀ w, x.work = some w → Instr.scheduleWorkEnded u w ∈ t.out.handed) ∧
    (∃ k, (t.tr u).context = some k ∧ k.origin = .manual ∧ k.phase = .claim ∧ k.target = col o.column ∧
      k.kHz = o.kHz ∧ k.kW = o.kW ∧ k.programme = o.programme ∧ k.priority = 3 ∧ k.started = false) ∧
    ∃ a, logs s t [a] ∧ a.kind = .end_ ∧ a.detail = .superseded ∧ a.t = u ∧ a.kHz = some x.kHz

/-- MANUAL_TUNE's tests, the changeover it begins, and its continuation of a transmission. -/
def Obligations.ManualTuneTaken : Prop :=
  ManualTuneDecided ∧ ContinuationKeepsTheCarrier ∧ ChangeoverReplacesTheTransmission

/-- MANUAL_END, RESUME_SCHEDULE (R138), RELEASE_TRANSMITTER and READ_TRANSMITTER (R139): their tests in order. An
accepted MANUAL_END mutes a radiating transmitter by an END context of cause MANUAL; RESUME_SCHEDULE clears the manual
hold flag; RELEASE_TRANSMITTER makes a LOCKED one READY without its reason, and mutes it. -/
def Sys2Proof.Claims.TransmitterRequestsDecided : Prop :=
  ∀ (h : Head) (n : Nat) (s : State), serves s →
    let u := tx n
    let r := s.tr u
    (h.sized = false →
      exec (.manualEnd h n) s = .next (refuse s 0x51 h .badLength) ∧
      exec (.resumeSchedule h n) s = .next (refuse s 0x52 h .badLength) ∧
      exec (.releaseTransmitter h n) s = .next (refuse s 0x53 h .badLength) ∧
      exec (.readTransmitter h n) s = .next (refuse s 0x61 h .badLength)) ∧
    (h.sized = true → 11 < n →
      exec (.manualEnd h n) s = .next (refuse s 0x51 h .outOfRange) ∧
      exec (.resumeSchedule h n) s = .next (refuse s 0x52 h .outOfRange) ∧
      exec (.releaseTransmitter h n) s = .next (refuse s 0x53 h .outOfRange) ∧
      exec (.readTransmitter h n) s = .next (refuse s 0x61 h .outOfRange)) ∧
    (h.sized = true → n ≤ 11 →
      (r.state = .ready ∨ r.state.off = true → exec (.manualEnd h n) s = .next (refuse s 0x51 h .wrongState)) ∧
      (∀ x, (r.state = .onAir ∨ r.state = .tripped ∨ r.state = .held) → r.current = some x → r.rf = some true →
        ∃ t k, exec (.manualEnd h n) s = .next t ∧
          t.link.reply = some { kind := 0x51, tag := h.tag, verdict := .accepted .empty } ∧
          (t.tr u).state = .changing ∧ (t.tr u).context = some k ∧ k.origin = .end_ ∧ k.phase = .mute ∧
          k.closing = .manual ∧ k.target = x.column ∧ (t.tr u).unmuted = false ∧
          t.out.port = s.out.port ++ [(u, .mute)]) ∧
      (r.manualHold = false → exec (.resumeSchedule h n) s = .next (refuse s 0x52 h .wrongState)) ∧
      (r.manualHold = true → ∃ t, exec (.resumeSchedule h n) s = .next t ∧ (t.tr u).manualHold = false ∧
        (t.tr u).state = r.state ∧ (t.tr u).current = r.current ∧ (t.tr u).context = r.context ∧
        t.link.reply = some { kind := 0x52, tag := h.tag, verdict := .accepted .empty }) ∧
      ((∀ w, r.state ≠ .locked w) → exec (.releaseTransmitter h n) s = .next (refuse s 0x53 h .wrongState)) ∧
      (∀ w, r.state = .locked w → ∃ t, exec (.releaseTransmitter h n) s = .next t ∧ (t.tr u).state = .ready ∧
        (t.tr u).lock = none ∧ t.out.port = s.out.port ++ [(u, .mute)] ∧
        t.link.reply = some { kind := 0x53, tag := h.tag, verdict := .accepted .empty }) ∧
      exec (.readTransmitter h n) s = .next
        (accept s 0x61 h (.transmitter (s.stations.get u) s.mains.state)))

/-- MANUAL_END of a CHANGING transmitter (R138, R140, R130): a changeover is abandoned. A step that waits for a slot is
cancelled; a step in motion is waited for; with none, the claim is released, and the carrier muted where it may be up,
with the mute limit running; with mute confirmed the changeover ends at once, FAILED(ABANDONED), and the transmitter is
READY. An END context, and a changeover that winds up already, go on. Stated with an empty Pending slot. -/
def Sys2Proof.Claims.ManualEndAbandons : Prop :=
  ∀ (h : Head) (n : Nat) (k : Context) (s : State), serves s → h.sized = true → n ≤ 11 →
    let u := tx n
    let r := s.tr u
    r.state = .changing → r.context = some k → r.slot = none →
    let moving : Prop := ∃ p ∈ k.plan, p.status = .moving
    let closes (c : Context) : Prop := c.phase = .windUp ∧ c.outcome = some .abandoned ∧ c.closing = .manual
    ∃ t, exec (.manualEnd h n) s = .next t ∧
      t.link.reply = some { kind := 0x51, tag := h.tag, verdict := .accepted .empty } ∧
      (k.origin = .end_ ∨ k.phase = .windUp →
        (t.tr u).context = some k ∧ t.out.port = s.out.port ∧ t.out.log = s.out.log) ∧
      (k.origin ≠ .end_ → k.phase ≠ .windUp →
        ((∃ p ∈ k.plan, p.status = .waitingSlot) → Instr.cancelDrive u ∈ t.out.handed) ∧
        (moving → t.out.port = s.out.port ∧ ∃ c, (t.tr u).context = some c ∧ closes c ∧ c.claim = k.claim) ∧
        (¬ moving → ∀ q, k.claim = some q → Instr.release u q.column ∈ t.out.handed) ∧
        (¬ moving → r.rf = some true → t.out.port = s.out.port ++ [(u, .mute)] ∧
          ∃ c, (t.tr u).context = some c ∧ closes c ∧ c.claim = none ∧
            c.deadline = some { count := 0, limit := s.limits.mute }) ∧
        (¬ moving → r.unmuted = false → r.muteConfirmed = true → r.rf ≠ some true → k.started = false →
          (t.tr u).state = .ready ∧ (t.tr u).context = none ∧ t.out.port = s.out.port ∧
          raises s t [failure u .abandoned false] ∧
          ∃ m, logs s t [m] ∧ m.kind = .failed ∧ m.detail = .abandoned ∧ m.t = u))

/-- The host's orders on one transmitter outside a changeover, and MANUAL_END of a changeover. -/
def Obligations.TransmitterOrdersDecided : Prop := TransmitterRequestsDecided ∧ ManualEndAbandons

/-- WITHDRAW_ANTENNA (R109), RESTORE_ANTENNA (R110), POLL_MATRIX (R111), READ_ROUTES (R112) and READ_ANTENNA (R113):
their tests in order, and what an accepted one changes and answers. That WITHDRAW_ANTENNA with force hands the end order
again for a column that already has WITHDRAWN is the model's reading (log 61). -/
def Obligations.AntennaRequestsDecided : Prop :=
  (∀ (h : Head) (n : Nat) (force : Option Bool) (s : State), serves s →
    let i : Instr := .withdrawAntenna h n force
    let c := col n
    let k := s.matrix.column c
    let u := s.matrix.use c
    (h.sized = false → exec i s = .next (refuse s 0x54 h .badLength)) ∧
    (h.sized = true → 35 < n → exec i s = .next (refuse s 0x54 h .outOfRange)) ∧
    (h.sized = true → n ≤ 35 → force = none → exec i s = .next (refuse s 0x54 h .badField)) ∧
    (h.sized = true → n ≤ 35 → force = some false → (u = .claimed ∨ u = .live) →
      exec i s = .next (refuse s 0x54 h .inUse)) ∧
    ∀ v, h.sized = true → n ≤ 35 → force = some v → (v = true ∨ u = .free ∨ u = .idle) →
      ∃ t, exec i s = .next t ∧ t.link.reply = some { kind := 0x54, tag := h.tag, verdict := .accepted .empty } ∧
        t.matrix.column c = { k with withdrawn := true } ∧ t.matrix.points = s.matrix.points ∧
        (∀ x, u = .live → k.holder = some x → Instr.withdrawEndOrder x ∈ t.out.handed) ∧
        (∀ x, u = .claimed → k.claimant = some x → Instr.withdrawEndOrder x ∈ t.out.handed) ∧
        (k.inService = true → (∀ x, k.claimant = some x → Instr.serviceChanged x c false ∈ t.out.handed) ∧
          (∀ x, k.holder = some x → Instr.serviceChanged x c false ∈ t.out.handed) ∧
          t.matrix.claims = s.matrix.claims.filter fun q => q.column != c)) ∧
  (∀ (h : Head) (n : Nat) (s : State), serves s →
    let i : Instr := .restoreAntenna h n
    let k := s.matrix.column (col n)
    (h.sized = false → exec i s = .next (refuse s 0x55 h .badLength)) ∧
    (h.sized = true → 35 < n → exec i s = .next (refuse s 0x55 h .outOfRange)) ∧
    (h.sized = true → n ≤ 35 → k.withdrawn = false → k.suspect = false →
      exec i s = .next (refuse s 0x55 h .wrongState)) ∧
    (h.sized = true → n ≤ 35 → (k.withdrawn = true ∨ k.suspect = true) →
      ∃ t, exec i s = .next t ∧ t.link.reply = some { kind := 0x55, tag := h.tag, verdict := .accepted .empty } ∧
        (t.matrix.column (col n)).withdrawn = false ∧ (t.matrix.column (col n)).suspect = false ∧
        (t.matrix.column (col n)).position = k.position ∧ (t.matrix.column (col n)).gates = k.gates ∧
        (t.matrix.column (col n)).holder = k.holder ∧ t.matrix.points = s.matrix.points ∧
        (k.position = false → k.gates = 0 → (t.matrix.column (col n)).inService = true ∧
          ∀ x, (k.claimant = some x ∨ k.holder = some x) → Instr.serviceChanged x (col n) true ∈ t.out.handed) ∧
        (k.position = true ∨ k.gates ≠ 0 → (t.matrix.column (col n)).inService = false ∧ t.out = s.out))) ∧
  (∀ (h : Head) (module : Option Nat) (s : State), serves s →
    let polls : List MatrixOrder := match module with
      | some n => [.poll (Fin.ofNat 6 n)]
      | none => [.poll 0, .poll 1, .poll 2, .poll 3, .poll 4, .poll 5]
    (h.sized = false → exec (.pollMatrix h module) s = .next (refuse s 0x56 h .badLength)) ∧
    (∀ n, h.sized = true → module = some n → 5 < n →
      exec (.pollMatrix h module) s = .next (refuse s 0x56 h .outOfRange)) ∧
    (h.sized = true → (∀ n, module = some n → n ≤ 5) →
      exec (.pollMatrix h module) s = .next
        (accept { s with out := { s.out with link := s.out.link ++ polls } } 0x56 h .empty))) ∧
  (∀ (h : Head) (s : State), serves s →
    let routes : List (List Col) := (List.finRange 12).map fun u =>
      (List.finRange 36).filter fun c => decide (s.matrix.xstate u c = .closed)
    let exceptions : List (Tx × Col × Crosspoint) := (List.finRange 12).flatMap fun u =>
      (List.finRange 36).filterMap fun c =>
        if s.matrix.xstate u c = .opened ∨ s.matrix.xstate u c = .closed then none
        else some (u, c, s.matrix.point u c)
    exec (.readRoutes h) s = .next
      (if h.sized = false then refuse s 0x63 h .badLength
      else accept s 0x63 h (.routes routes exceptions.length (exceptions.take 32) s.matrix.suspension s.matrix.free
        s.matrix.queue s.matrix.claims))) ∧
  ∀ (h : Head) (n : Nat) (s : State), serves s →
    let k := s.matrix.column (col n)
    exec (.readAntenna h n) s = .next
      (if h.sized = false then refuse s 0x62 h .badLength
      else if 35 < n then refuse s 0x62 h .outOfRange
      else accept s 0x62 h (.antenna k (!k.withdrawn && !k.suspect && !k.position && k.gates == 0)
        (s.matrix.use (col n)) ((s.matrix.claims.filter fun q => q.column == col n).map (·.t))))

/-! ### The matrix controller -/

/-- CLAIM (R100): an OUT_OF_SERVICE column refuses it, the column's own claimant is granted it again, a FREE or IDLE
column and one that the transmitter holds without a claimant are granted, and any other lists it behind the claims
before it. A claim of the transmitter that was listed before is removed. A grant that it has on one other column is
released first, as RELEASE does (R102), and that column may pass to the oldest claim listed for it (R101). -/
def Obligations.ClaimsDecided : Prop :=
  (∀ (t : Tx) (c : Col) (s : State), live s → (∀ d, d ≠ c → (s.matrix.column d).claimant ≠ some t) →
    let k := s.matrix.column c
    let u := s.matrix.use c
    let others := s.matrix.claims.filter fun q => q.t != t
    let with_ (claims : List Claim) (columns : Vector Column 36) : State :=
      { s with matrix := { s.matrix with claims := claims, columns := columns } }
    let mine : Vector Column 36 := upd s.matrix.columns c { k with claimant := some t }
    exec (.claim t c) s = .next
      (if k.inService = false then handed (with_ others s.matrix.columns) [.claimRefused t c]
      else if k.claimant = some t then handed (with_ others s.matrix.columns) [.claimGranted t c]
      else if u = .free ∨ u = .idle ∨ (k.holder = some t ∧ k.claimant = none) then
        handed (with_ others mine) [.claimGranted t c]
      else handed (with_ (others ++ [{ t := t, column := c }]) s.matrix.columns) [.claimListed t c])) ∧
  ∀ (t : Tx) (c d : Col) (s : State), live s → d ≠ c → (s.matrix.column d).claimant = some t →
    (∀ e, e ≠ c → e ≠ d → (s.matrix.column e).claimant ≠ some t) →
    let k := s.matrix.column d
    let others := s.matrix.claims.filter fun q => q.t != t
    let freed : Matrix :=
      { s.matrix with claims := others, columns := upd s.matrix.columns d { k with claimant := none } }
    let passes : Prop := k.inService = true ∧ (freed.use d = .free ∨ freed.use d = .idle)
    let first := others.find? fun q => q.column == d
    ((¬ passes ∨ first = none) → exec (.claim t c) s = exec (.claim t c) { s with matrix := freed }) ∧
    ∀ q, passes → first = some q →
      exec (.claim t c) s = exec (.claim t c) (handed
        { s with matrix := { s.matrix with
            columns := upd s.matrix.columns d { k with claimant := some q.t }, claims := others.erase q } }
        [.claimGranted q.t d])

/-- RELEASE and WITHDRAW_CLAIM (R102): of the claimant, the column has no claimant, and if it is then IN_SERVICE and
FREE or IDLE it passes to the oldest claim listed for it (R101); of another transmitter, its listed claim for the
column is removed, and with none listed nothing changes. -/
def Obligations.ReleasesDecided : Prop :=
  ∀ (t : Tx) (c : Col) (s : State) (i : Instr), live s → (i = .release t c ∨ i = .withdrawClaim t c) →
    let k := s.matrix.column c
    let freed : Matrix := { s.matrix with columns := upd s.matrix.columns c { k with claimant := none } }
    let passes : Prop := k.inService = true ∧ (freed.use c = .free ∨ freed.use c = .idle)
    let first := s.matrix.claims.find? fun q => q.column == c
    (k.claimant = some t → (¬ passes ∨ first = none) → exec i s = .next { s with matrix := freed }) ∧
    (∀ q, k.claimant = some t → passes → first = some q →
      exec i s = .next (handed { s with matrix := { s.matrix with
          columns := upd s.matrix.columns c { k with claimant := some q.t }, claims := s.matrix.claims.erase q } }
        [.claimGranted q.t c])) ∧
    (k.claimant ≠ some t → exec i s = .next
      { s with matrix := { s.matrix with claims := s.matrix.claims.filter fun q => !(q.t == t && q.column == c) } }) ∧
    (k.claimant ≠ some t → { t := t, column := c } ∉ s.matrix.claims → exec i s = .next s)

/-- A drive starts (R103, R105): with a slot free, the matrix NORMAL and start-up ended, the queue empty and every test
passed, the crosspoint is in motion with a travel count of 0, one slot fewer is free, DRIVE is sent and DRIVE_STARTED
handed. -/
def Sys2Proof.Claims.DriveStarts : Prop :=
  ∀ (t row : Tx) (c : Col) (d : Direction) (p : Fin 4) (s : State), live s →
    let m := s.matrix
    0 < m.free → m.suspension.empty = true → m.granting = true → m.queue = [] →
    m.xstate row c = (match d with | .opening => .closed | .closing => .opened) →
    (d = .closing → (∀ e, e ≠ c → m.xstate row e = .opened) ∧ ∀ u, u ≠ row → m.xstate u c = .opened) →
    (∀ u, (u = row ∨ (m.column c).holder = some u) → (m.row u).muteConfirmed = true ∧ (m.row u).condition ≠ .ramp ∧
      (m.row u).condition ≠ .onAir ∧ (m.row u).condition ≠ .tripped) →
    ∃ n, exec (.driveRequest t row c d p) s = .next n ∧
      n.matrix.point row c = { m.point row c with
        state := (match d with | .opening => .movingOpen | .closing => .movingClose)
        drive := some { t := t, travel := { count := 0, limit := s.limits.travel } } } ∧
      (∀ u e, (u ≠ row ∨ e ≠ c) → n.matrix.point u e = m.point u e) ∧
      n.matrix.free = m.free - 1 ∧ n.matrix.queue = [] ∧ n.out.link = s.out.link ++ [.drive row c d] ∧
      Instr.driveStarted t row c ∈ n.out.handed

/-- A drive request that finds no slot (R103) waits behind those of its priority or a higher one, a request of the same
transmitter that waited being removed first; and one granted a slot whose test fails is answered at once with the
reason of the first test that fails, its slot returned (R105). CANCEL_DRIVE takes the transmitter's waiting request
away and leaves a drive in motion alone (R104). -/
def Sys2Proof.Claims.DriveRequestsWaitOrFail : Prop :=
  (∀ (t row : Tx) (c : Col) (d : Direction) (p : Fin 4) (s : State), live s →
    (s.matrix.free = 0 ∨ s.matrix.suspension.empty = false) →
    ∃ before after, (before ++ after = s.matrix.queue.filter fun q => q.t != t) ∧
      (∀ q ∈ before, p ≤ q.priority) ∧ (∀ q, after.head? = some q → q.priority < p) ∧
      exec (.driveRequest t row c d p) s = .next { s with matrix := { s.matrix with
        queue := before ++ { t := t, row := row, column := c, direction := d, priority := p } :: after } }) ∧
  (∀ (t row : Tx) (c : Col) (d : Direction) (p : Fin 4) (s : State), live s →
    let m := s.matrix
    0 < m.free → m.suspension.empty = true → m.granting = true → m.queue = [] →
    let rowFree : Prop := d = .closing → ∀ e, e ≠ c → m.xstate row e = .opened
    let columnFree : Prop := d = .closing → ∀ u, u ≠ row → m.xstate u c = .opened
    let may (u : Tx) : Prop := (m.row u).muteConfirmed = true ∧ (m.row u).condition ≠ .ramp ∧
      (m.row u).condition ≠ .onAir ∧ (m.row u).condition ≠ .tripped
    let goal : XState := match d with | .opening => .opened | .closing => .closed
    let known : Prop := m.xstate row c = .opened ∨ m.xstate row c = .closed
    let holderMay : Prop := ∀ u, (m.column c).holder = some u → u ≠ row → may u
    let answered (i : Instr) : Prop := exec (.driveRequest t row c d p) s = .next (handed s [i])
    (¬ known → answered (.driveFailed t row c .routeUnknown)) ∧
    (m.xstate row c = goal → answered (.driveDone t row c)) ∧
    (known → m.xstate row c ≠ goal → ¬ rowFree → answered (.driveFailed t row c .rowBusy)) ∧
    (known → m.xstate row c ≠ goal → rowFree → ¬ columnFree → answered (.driveFailed t row c .columnBusy)) ∧
    (known → m.xstate row c ≠ goal → rowFree → columnFree → ¬ may row →
      answered (.driveFailed t row c .rowBusy)) ∧
    (known → m.xstate row c ≠ goal → rowFree → columnFree → may row → ¬ holderMay →
      answered (.driveFailed t row c .columnBusy))) ∧
  ∀ (t : Tx) (s : State), live s →
    exec (.cancelDrive t) s = .next
      { s with matrix := { s.matrix with queue := s.matrix.queue.filter fun q => q.t != t } }

/-- Free slots pass to the queue (R103, R105): while they may be granted, the head takes one and the rest follow. A
request that is granted one is answered at once and its slot stays free where a test fails or the crosspoint stands
there already; else its drive starts. -/
def Sys2Proof.Claims.SlotsPassOn : Prop :=
  (∀ (travel : Nat) (b : Board), (b.m.mayGrant = false ∨ b.m.queue = []) → b.grant travel = b) ∧
  (∀ (travel : Nat) (r : SlotRequest) (rest : List SlotRequest) (b : Board), b.m.mayGrant = true →
    b.m.queue = r :: rest →
    b.grant travel = (Board.startDrive travel r { b with m := { b.m with queue := rest } }).grant travel) ∧
  ∀ (travel : Nat) (r : SlotRequest) (b : Board),
    let n := b.startDrive travel r
    (∀ why, b.m.startTest r = .fails why →
      n = { b with o := { b.o with handed := b.o.handed ++ [.driveFailed r.t r.row r.column why] } }) ∧
    (b.m.startTest r = .already →
      n = { b with o := { b.o with handed := b.o.handed ++ [.driveDone r.t r.row r.column] } }) ∧
    (b.m.startTest r = .starts →
      n.m.xstate r.row r.column = (match r.direction with | .opening => .movingOpen | .closing => .movingClose) ∧
      (n.m.point r.row r.column).drive = some { t := r.t, travel := { count := 0, limit := travel } } ∧
      n.m.free = b.m.free - 1 ∧ n.m.queue = b.m.queue ∧ n.o.link = b.o.link ++ [.drive r.row r.column r.direction] ∧
      Instr.driveStarted r.t r.row r.column ∈ n.o.handed)

/-- A drive request starts, waits, or fails; a waiting one is cancelled, or takes a slot that comes free. -/
def Obligations.DriveRequestsDecided : Prop := DriveStarts ∧ DriveRequestsWaitOrFail ∧ SlotsPassOn

/-- POSITION and the drives (R94-R96, R106): a report that matches a drive in motion ends it with DRIVE_DONE and
returns its slot, and a close makes its row's transmitter the column's holder; a crosspoint in motion waits through
any other report; a report outside a drive sets the state, raises STRAY_MOVE where the crosspoint was known and
another state, and makes the column POSITION when it is UNKNOWN. Stated after start-up with an empty slot queue. -/
def Sys2Proof.Claims.PositionsFollowed : Prop :=
  ∀ (t : Tx) (c : Col) (k : Contacts) (s : State), live s → s.boot.phase = .done → s.matrix.queue = [] →
    let m := s.matrix
    let x := m.xstate t c
    let target : XState := if x = .movingOpen then .opened else .closed
    let seen : XState := match k with | .openContact => .opened | .closedContact => .closed | _ => .unknown
    ∃ n, exec (.position t c k) s = .next n ∧ (n.matrix.point t c).contacts = some k ∧
      (∀ u e, (u ≠ t ∨ e ≠ c) → n.matrix.point u e = m.point u e) ∧
      (∀ d, x.moving = true → (m.point t c).drive = some d → seen = target →
        n.matrix.xstate t c = target ∧ (n.matrix.point t c).drive = none ∧ n.matrix.free = m.free + 1 ∧
        (x = .movingClose → (n.matrix.column c).holder = some t) ∧ raises s n [] ∧
        Instr.driveDone d.t t c ∈ n.out.handed) ∧
      (x.moving = true → seen ≠ target →
        n.matrix.xstate t c = x ∧ (n.matrix.point t c).drive = (m.point t c).drive ∧ n.out = s.out) ∧
      (x.moving = false → seen = x → n.matrix.xstate t c = x ∧ n.out = s.out) ∧
      (x.moving = false → seen ≠ x → n.matrix.xstate t c = seen ∧ n.matrix.free = m.free ∧
        (seen = .unknown → (n.matrix.column c).position = true) ∧
        raises s n (if x = .unknown then []
          else [{ kind := .strayMove, subject := .column c, detail := b1 t.val ++ b1 seen.code }]))

/-- The faults that a report outside a drive hands on (R95): a change of state hands MATRIX_FAULT to the row's
transmitter and to the column's holder as it stood before, each where its row condition is RAMP, ON_AIR, HELD or
TRIPPED; a resolution from UNKNOWN to OPEN hands none. -/
def Sys2Proof.Claims.PositionFaultsHanded : Prop :=
  ∀ (t : Tx) (c : Col) (k : Contacts) (s : State), live s → s.boot.phase = .done →
    let m := s.matrix
    let x := m.xstate t c
    let seen : XState := match k with | .openContact => .opened | .closedContact => .closed | _ => .unknown
    let exposed (u : Tx) : Prop := (m.row u).condition = .ramp ∨ (m.row u).condition = .onAir ∨
      (m.row u).condition = .held ∨ (m.row u).condition = .tripped
    x.moving = false → seen ≠ x →
    ∃ n messages, exec (.position t c k) s = .next n ∧ n.out.handed = s.out.handed ++ messages ∧
      ∀ u, Instr.matrixFault u ∈ messages ↔
        (u = t ∨ (m.column c).holder = some u) ∧ exposed u ∧ ¬ (x = .unknown ∧ seen = .opened)

/-- The out reason POSITION goes (R96): when a crosspoint of a column that has it becomes OPEN or CLOSED, by a report
outside a drive or by the end of its drive, the reason is removed exactly where every crosspoint of the column is then
OPEN or CLOSED; a column with no other reason is then IN_SERVICE, which its claimant and its holder are told. Stated
with an empty slot queue. -/
def Sys2Proof.Claims.PositionReasonRemoved : Prop :=
  ∀ (t : Tx) (c : Col) (k : Contacts) (s : State), live s → s.boot.phase = .done → s.matrix.queue = [] →
    let m := s.matrix
    let x := m.xstate t c
    let old := m.column c
    let resolves : Prop := x.moving = false ∧
      ((k = .openContact ∧ x ≠ .opened) ∨ (k = .closedContact ∧ x ≠ .closed))
    let completes : Prop := (m.point t c).drive.isSome ∧
      ((x = .movingOpen ∧ k = .openContact) ∨ (x = .movingClose ∧ k = .closedContact))
    let rest : Prop := ∀ u, u ≠ t → m.xstate u c = .opened ∨ m.xstate u c = .closed
    old.position = true → (resolves ∨ completes) →
    ∃ n, exec (.position t c k) s = .next n ∧
      (¬ rest → (n.matrix.column c).position = true) ∧
      (rest → (n.matrix.column c).position = false ∧
        (old.withdrawn = false → old.suspect = false → old.gates = 0 → (n.matrix.column c).inService = true ∧
          ∀ u, (old.claimant = some u ∨ (n.matrix.column c).holder = some u) →
            Instr.serviceChanged u c true ∈ n.out.handed))

/-- A drive's travel count expires (R107): STOP is sent, the crosspoint is UNKNOWN without a drive and its column takes
POSITION, DRIVE_TIMEOUT is raised, DRIVE_FAILED answered and the slot returned; without a drive nothing happens. The
transmitter in DRIVE_TIMEOUT's detail is the row's, which is the model's reading (log 35). Stated with an empty slot
queue. -/
def Sys2Proof.Claims.TravelExpiryStopsTheDrive : Prop :=
  ∀ (t : Tx) (c : Col) (s : State), live s →
    ((s.matrix.point t c).drive = none → exec (.travelLimitExpiry t c) s = .next s) ∧
    ∀ d, (s.matrix.point t c).drive = some d → (s.matrix.xstate t c).moving = true → s.matrix.queue = [] →
      ∃ n, exec (.travelLimitExpiry t c) s = .next n ∧ n.out.link = s.out.link ++ [.stop t c] ∧
        n.matrix.xstate t c = .unknown ∧ (n.matrix.point t c).drive = none ∧
        (n.matrix.column c).position = true ∧ n.matrix.free = s.matrix.free + 1 ∧
        Instr.driveFailed d.t t c .driveTimeout ∈ n.out.handed ∧
        raises s n [{ kind := .driveTimeout, subject := .column c
                      detail := b1 t.val ++ b1 (if s.matrix.xstate t c = .movingOpen then 0 else 1) }]

/-- A slot that a drive returns, at its POSITION or at its travel expiry, goes to the request that waits at the head of
the queue (R103). Stated for one request waiting, after start-up, in a matrix that is not suspended. -/
def Sys2Proof.Claims.ReturnedSlotPassesOn : Prop :=
  ∀ (t : Tx) (c : Col) (k : Contacts) (d : Drive) (r : SlotRequest) (s : State), live s → s.boot.phase = .done →
    s.matrix.suspension.empty = true → s.matrix.granting = true → s.matrix.queue = [r] →
    (s.matrix.point t c).drive = some d →
    ((s.matrix.xstate t c = .movingOpen ∧ k = .openContact) ∨ (s.matrix.xstate t c = .movingClose ∧ k = .closedContact)) →
    ∀ i ∈ ([.position t c k, .travelLimitExpiry t c] : List Instr),
      ∃ n, exec i s = .next n ∧ tookSlot n r (s.matrix.free + 1)

/-- Position reports with the faults and the out reason that follow them, the travel limit's expiry, and the slot that
each returns. -/
def Obligations.PositionsAndExpiries : Prop :=
  PositionsFollowed ∧ PositionFaultsHanded ∧ PositionReasonRemoved ∧ TravelExpiryStopsTheDrive ∧ ReturnedSlotPassesOn

/-- The reports of CSQ (R97): a row condition is recorded, and a column whose holder is thereby QUIET and that is
IN_SERVICE without a claimant passes to the oldest claim listed for it (R101); a mute confirmation is recorded. That every
column the transmitter holds is so passed, where stray closes give it several, is the model's choice (log 70), for R97
speaks of the one it holds; the statement fixes no order among them. -/
def Sys2Proof.Claims.RowReportsRecorded : Prop :=
  (∀ (t : Tx) (r : RowCondition) (s : State), live s →
    ∃ n, exec (.rowConditionReport t r) s = .next n ∧ (n.matrix.row t).condition = r ∧
      (n.matrix.row t).muteConfirmed = (s.matrix.row t).muteConfirmed ∧ n.matrix.points = s.matrix.points ∧
      (∀ c q, r = .quiet → (s.matrix.column c).holder = some t → (s.matrix.column c).claimant = none →
        (s.matrix.column c).inService = true → (s.matrix.claims.find? fun q => q.column == c) = some q →
        (n.matrix.column c).claimant = some q.t ∧ Instr.claimGranted q.t c ∈ n.out.handed)) ∧
  ∀ (t : Tx) (yes : Bool) (s : State), live s →
    exec (.muteConfirmedReport t yes) s = .next { s with matrix := { s.matrix with
      rows := upd s.matrix.rows t { s.matrix.row t with muteConfirmed := yes } } }

/-- Out reasons (R99): SUSPECT_MARK and the gate set's additions put a column OUT_OF_SERVICE, tell its claimant and its
holder, and refuse the claims listed for it; removing the last gate member of a column without another reason puts it
IN_SERVICE and tells them. -/
def Sys2Proof.Claims.OutReasonsChangeService : Prop :=
  (∀ (c : Col) (x : Member) (i : Instr) (s : State), live s → (i = .suspectMark c ∨ i = .gateMemberAdd c x) →
    let k := s.matrix.column c
    ∃ n, exec i s = .next n ∧ (n.matrix.column c).inService = false ∧
      (i = .suspectMark c → n.matrix.column c = { k with suspect := true }) ∧
      (i = .gateMemberAdd c x → n.matrix.column c = { k with gates := setBit k.gates x.val }) ∧
      (k.inService = true →
        (∀ u, (k.claimant = some u ∨ k.holder = some u) → Instr.serviceChanged u c false ∈ n.out.handed) ∧
        (∀ q ∈ s.matrix.claims, q.column = c → q ∉ n.matrix.claims ∧ Instr.claimRefused q.t c ∈ n.out.handed)) ∧
      (k.inService = false → n.out = s.out ∧ n.matrix.claims = s.matrix.claims)) ∧
  ∀ (c : Col) (ms : BitVec 24) (s : State), live s →
    let k := s.matrix.column c
    ∃ n, exec (.gateMemberRemove c ms) s = .next n ∧
      (∀ j, j < 24 → (n.matrix.column c).gates.getLsbD j = (k.gates.getLsbD j && !ms.getLsbD j)) ∧
      (k.withdrawn = false → k.suspect = false → k.position = false → k.inService = false →
        (n.matrix.column c).gates = 0 → (n.matrix.column c).inService = true ∧
        ∀ u, (k.claimant = some u ∨ k.holder = some u) → Instr.serviceChanged u c true ∈ n.out.handed)

/-- The sequencer's reports to the matrix controller, and the columns' out reasons. -/
def Obligations.ReportsAndReasonsFollowed : Prop := RowReportsRecorded ∧ OutReasonsChangeService

/-- Suspension (R108): the first source stops every drive, sends STOP for each, makes its crosspoint UNKNOWN, returns
its slot and answers it SUSPENDED, and raises MATRIX_SUSPENDED; another source, and a removal that leaves one, change
only the set; the last removal raises MATRIX_RESUMED and grants the head of the slot queue a free slot. The byte of
the source in MATRIX_SUSPENDED is the model's reading (log 12). Stated for the removal with one request waiting or none.
-/
def Obligations.SuspensionStopsTheMatrix : Prop :=
  (∀ (a : Source) (s : State), live s → s.matrix.suspension.empty = true → slotsBalanced s.matrix →
    ∃ n, exec (.suspensionSourceAdd a) s = .next n ∧ n.matrix.suspension = s.matrix.suspension.add a ∧
      n.matrix.suspended = true ∧ driving n.matrix = 0 ∧ n.matrix.free = 3 ∧ n.matrix.queue = s.matrix.queue ∧
      raises s n [{ kind := .matrixSuspended, subject := .none, detail := b1 a.code }] ∧
      ∀ t c d, (s.matrix.point t c).drive = some d → n.matrix.xstate t c = .unknown ∧
        MatrixOrder.stop t c ∈ n.out.link ∧ Instr.driveFailed d.t t c .suspended ∈ n.out.handed) ∧
  (∀ (a : Source) (s : State), live s → s.matrix.suspension.empty = false →
    exec (.suspensionSourceAdd a) s = .next
      { s with matrix := { s.matrix with suspension := s.matrix.suspension.add a } }) ∧
  (∀ (g : Sources) (r : SlotRequest) (s : State), live s → s.matrix.queue = [r] → s.matrix.granting = true →
    0 < s.matrix.free → s.matrix.suspension.empty = false → (s.matrix.suspension.remove g).empty = true →
    ∃ n, exec (.suspensionSourceRemove g) s = .next n ∧ n.matrix.suspension = s.matrix.suspension.remove g ∧
      raises s n [{ kind := .matrixResumed, subject := .none, detail := [] }] ∧ tookSlot n r s.matrix.free) ∧
  ∀ (r : Sources) (s : State), live s → s.matrix.queue = [] →
    let left : State := { s with matrix := { s.matrix with suspension := s.matrix.suspension.remove r } }
    exec (.suspensionSourceRemove r) s = .next
      (if s.matrix.suspension.empty = false ∧ (s.matrix.suspension.remove r).empty = true then
        event left .matrixResumed .none []
      else left)

/-- What the matrix controller's commands leave alone: everything but the record of cell writes now complete, the
matrix, what the part puts out and, for POSITION, the step of start-up; and of what it puts out, the transmitter
ports, the log and the enables. -/
def Sys2Proof.Claims.MatrixFrame : Prop :=
  ∀ (t row : Tx) (c : Col) (d : Direction) (p : Fin 4) (k : Contacts) (r : RowCondition) (yes : Bool) (x : Member)
    (ms : BitVec 24) (a : Source) (g : Sources) (i : Instr) (s n : State),
    i ∈ ([.position t c k, .travelLimitExpiry t c, .claim t c, .release t c, .withdrawClaim t c,
      .driveRequest t row c d p, .cancelDrive t, .rowConditionReport t r, .muteConfirmedReport t yes, .suspectMark c,
      .gateMemberAdd c x, .gateMemberRemove c ms, .suspensionSourceAdd a, .suspensionSourceRemove g] : List Instr) →
    exec i s = .next n →
    { n with matrix := s.matrix, out := s.out, boot := s.boot } = (if s.boot.asserted = true then s else s.settled) ∧
    (n.boot = s.boot ∨ (i = .position t c k ∧ s.boot.phase = .table)) ∧
    n.out.port = s.out.port ∧ n.out.log = s.out.log ∧ n.out.enables = s.out.enables

/-! ### The changeover sequencer -/

/-- The answers to a claim that a changeover waits for (R123): CLAIM_GRANTED takes it to MUTE, with MUTE sent and the
mute limit running, but a RESERVE one, which passes over MUTE, on to SETTLE once its trip's mute is confirmed (R135);
CLAIM_LISTED starts the claim wait; CLAIM_REFUSED and the wait's expiry turn to an unused reserve, which is claimed.
Another column's answer is discarded. -/
def Sys2Proof.Claims.ClaimAnswersFollowed : Prop :=
  ∀ (t : Tx) (c : Col) (k : Context) (s : State), live s → (s.tr t).context = some k → k.phase = .claim →
    let r := s.tr t
    (∀ q, k.claim = some q → q.column = c → k.origin ≠ .reserve → r.rf = some true →
      ∃ n k', exec (.claimGranted t c) s = .next n ∧ (n.tr t).context = some k' ∧ k'.phase = .mute ∧
        k'.claim = some { column := c, status := .granted } ∧
        k'.deadline = some { count := 0, limit := s.limits.mute } ∧ k'.target = k.target ∧
        (n.tr t).unmuted = false ∧ (n.tr t).muteConfirmed = false ∧ n.out.port = s.out.port ++ [(t, .mute)]) ∧
    (∀ q, k.claim = some q → q.column = c → k.origin = .reserve → s.limits.settle ≠ 0 →
      ∃ n k', exec (.claimGranted t c) s = .next n ∧ n.out.port = s.out.port ∧ (n.tr t).context = some k' ∧
        k'.claim = some { column := c, status := .granted } ∧
        (r.muteConfirmed = true →
          k'.phase = .settle ∧ k'.deadline = some { count := 0, limit := s.limits.settle }) ∧
        (r.muteConfirmed = false → k'.deadline = none)) ∧
    (∀ q, k.claim = some q → q.column = c →
      ∃ n, exec (.claimListed t c) s = .next n ∧ (n.tr t).context = some { k with
        claim := some { column := c, status := .listed }, deadline := some { count := 0, limit := s.limits.claimWait } }) ∧
    (∀ q d, k.claim = some q → q.column = c → k.reserve = some d → k.reserveUsed = false →
      ∃ n, exec (.claimRefused t c) s = .next n ∧ Instr.claim t d ∈ n.out.handed ∧ (n.tr t).context = some { k with
        target := d, reserveUsed := true, deadline := none, claim := some { column := d, status := .sent } }) ∧
    (∀ q d, k.claim = some q → q.status = .listed → k.reserve = some d → k.reserveUsed = false →
      ∃ n, exec (.claimWaitExpiry t) s = .next n ∧ Instr.withdrawClaim t q.column ∈ n.out.handed ∧
        Instr.claim t d ∈ n.out.handed ∧ (n.tr t).context = some { k with
          target := d, reserveUsed := true, deadline := none, claim := some { column := d, status := .sent } }) ∧
    ((∀ q, k.claim = some q → q.column ≠ c) →
      ∀ i ∈ ([.claimGranted t c, .claimListed t c, .claimRefused t c] : List Instr),
        ∃ n, exec i s = .next n ∧ (n.tr t).context = some k)

/-- A changeover without an unused reserve that is refused fails NO_ANTENNA (R123, R130, R131): with mute confirmed it
ends at once, FAILED is recorded, CHANGEOVER_FAILED raised, and the transmitter is READY. Stated for a start whose
claim was refused, with an empty Pending slot. -/
def Sys2Proof.Claims.RefusedStartFails : Prop :=
  ∀ (t : Tx) (c : Col) (k : Context) (q : ClaimInFlight) (s : State), live s → (s.tr t).context = some k →
    k.phase = .claim → k.claim = some q → q.column = c → (k.reserve = none ∨ k.reserveUsed = true) → k.plan = [] →
    k.started = false → (s.tr t).muteConfirmed = true → (s.tr t).unmuted = false → (s.tr t).rf = some false →
    (s.tr t).slot = none →
    ∃ n m, exec (.claimRefused t c) s = .next n ∧ (n.tr t).state = .ready ∧ (n.tr t).context = none ∧
      (n.tr t).current = none ∧ logs s n [m] ∧ m.kind = .failed ∧ m.detail = .noAntenna ∧
      m.t = t ∧ raises s n [failure t .noAntenna false] ∧
      (∀ w, k.work = some w → Instr.scheduleWorkEnded t w ∈ n.out.handed)

/-- From MUTE to the RAMP threshold (R124-R127). RF ABSENT confirms the mute and begins SETTLE; the settle time's end
begins DRIVE with its plan, TUNE sent and the first step asked of MXC; DRIVE_STARTED puts the plan's step in motion,
and DRIVE_DONE asks for the next one, or with the last one done and the tune TUNED begins HOLD; so does TUNED with
every step done. -/
def Sys2Proof.Claims.ChangeoverPhasesFollow : Prop :=
  (∀ (t : Tx) (k : Context) (s : State), live s → (s.tr t).context = some k → k.phase = .mute → k.origin ≠ .end_ →
    (s.tr t).unmuted = false → (s.tr t).muteConfirmed = false → s.limits.settle ≠ 0 →
    (∀ m, (s.tr t).startup ≠ .muting m) →
    ∃ n, exec (.rfAbsent t) s = .next n ∧ (n.tr t).rf = some false ∧ (n.tr t).muteConfirmed = true ∧
      Instr.muteConfirmedReport t true ∈ n.out.handed ∧ (n.tr t).context = some { k with
        phase := .settle, deadline := some { count := 0, limit := s.limits.settle } }) ∧
  (∀ (t : Tx) (k : Context) (s : State), live s → (s.tr t).context = some k → k.phase = .settle →
    s.matrix.routeUnknown t k.target = false →
    ∃ n k', exec (.settleExpiry t) s = .next n ∧ (n.tr t).context = some k' ∧ k'.phase = .drive ∧ k'.tune = .sent ∧
      k'.deadline = some { count := 0, limit := s.limits.tune } ∧ k'.target = k.target ∧
      k'.plan.length = (s.matrix.plan t k.target).length ∧
      n.out.port = s.out.port ++ [(t, .tune k.kHz k.programme)] ∧
      ∀ p, (s.matrix.plan t k.target).head? = some p →
        Instr.driveRequest t p.row p.column (if p.kind = .closeTarget then .closing else .opening) k.priority
          ∈ n.out.handed) ∧
  (∀ (t : Tx) (k : Context) (before after : List PlanStep) (p : PlanStep) (s : State), live s →
    (s.tr t).context = some k → k.phase = .drive → k.plan = before ++ p :: after → p.status = .waitingSlot →
    (∀ q ∈ before, q.status = .done) → (∀ q ∈ after, q.status = .planned) →
    ∃ n, exec (.driveStarted t p.row p.column) s = .next n ∧
      (n.tr t).context = some { k with plan := before ++ { p with status := .moving } :: after }) ∧
  (∀ (t : Tx) (k : Context) (before : List PlanStep) (p : PlanStep) (s : State), live s →
    (s.tr t).context = some k → k.phase = .drive → k.plan = before ++ [p] → p.status = .moving →
    (∀ q ∈ before, q.status = .done) →
    let plan := before ++ [{ p with status := .done }]
    ∃ n, exec (.driveDone t p.row p.column) s = .next n ∧ (n.tr t).context = some
      (if k.tune = .tuned then
        { k with plan := plan, phase := .hold, deadline := some { count := 0, limit := s.limits.hold } }
      else { k with plan := plan })) ∧
  (∀ (t : Tx) (k : Context) (before after : List PlanStep) (p q : PlanStep) (s : State), live s →
    (s.tr t).context = some k → k.phase = .drive → k.plan = before ++ p :: q :: after → p.status = .moving →
    (∀ x ∈ before, x.status = .done) → q.status = .planned → (∀ x ∈ after, x.status = .planned ∧ x ≠ q) →
    ∃ n, exec (.driveDone t p.row p.column) s = .next n ∧
      (n.tr t).context = some { k with
        plan := before ++ { p with status := .done } :: { q with status := .waitingSlot } :: after } ∧
      Instr.driveRequest t q.row q.column (if q.kind = .closeTarget then .closing else .opening) k.priority
        ∈ n.out.handed) ∧
  ∀ (t : Tx) (k : Context) (s : State), live s → (s.tr t).context = some k → k.phase = .drive → k.tune = .sent →
    (∀ p ∈ k.plan, p.status = .done) →
    ∃ n, exec (.tuned t k.kHz) s = .next n ∧ (n.tr t).context = some { k with
      tune := .tuned, phase := .hold, deadline := some { count := 0, limit := s.limits.hold } }

/-- A changeover finds RF ABSENT already, or a settle time of 0 (R124, R125). CLAIM_GRANTED with RF ABSENT sends MUTE,
which is confirmed in the same event, and SETTLE begins; with a settle time of 0 the end of MUTE begins DRIVE at once,
by CLAIM_GRANTED and by RF ABSENT alike, and so it does for a RESERVE context whose trip's mute is confirmed (R135). -/
def Sys2Proof.Claims.PhasesEndAtOnce : Prop :=
  ∀ (t : Tx) (k : Context) (s : State), live s → (s.tr t).context = some k → k.origin ≠ .end_ →
    (∀ m, (s.tr t).startup ≠ .muting m) →
    let r := s.tr t
    let drives (n : State) (orders : List (Tx × PortOrder)) : Prop :=
      n.out.port = s.out.port ++ orders ++ [(t, .tune k.kHz k.programme)] ∧ (n.tr t).muteConfirmed = true ∧
      ∃ k', (n.tr t).context = some k' ∧ k'.phase = .drive ∧ k'.tune = .sent ∧ k'.target = k.target ∧
        k'.deadline = some { count := 0, limit := s.limits.tune }
    let mine (c : Col) : Prop := k.phase = .claim ∧ ∃ q, k.claim = some q ∧ q.column = c
    (∀ c, mine c → k.origin ≠ .reserve → r.rf = some false → s.limits.settle ≠ 0 →
      ∃ n, exec (.claimGranted t c) s = .next n ∧ n.out.port = s.out.port ++ [(t, .mute)] ∧
        (n.tr t).unmuted = false ∧ (n.tr t).muteConfirmed = true ∧
        (n.stations.get t).refl.state = .off ∧ (n.stations.get t).fwd.state = .off ∧
        (n.tr t).context = some { k with
          claim := some { column := c, status := .granted }, phase := .settle
          deadline := some { count := 0, limit := s.limits.settle } }) ∧
    (∀ c, mine c → k.origin ≠ .reserve → r.rf = some false → s.limits.settle = 0 →
      s.matrix.routeUnknown t k.target = false →
      ∃ n, exec (.claimGranted t c) s = .next n ∧ drives n [(t, .mute)]) ∧
    (∀ c, mine c → k.origin = .reserve → r.muteConfirmed = true → s.limits.settle = 0 →
      s.matrix.routeUnknown t k.target = false →
      ∃ n, exec (.claimGranted t c) s = .next n ∧ drives n []) ∧
    (k.phase = .mute → r.unmuted = false → r.muteConfirmed = false → s.limits.settle = 0 →
      s.matrix.routeUnknown t k.target = false →
      ∃ n, exec (.rfAbsent t) s = .next n ∧ drives n [])

/-- The drive plan (R125): OPEN_OWN of a CLOSED crosspoint of the row outside the target, OPEN_HOLDER of the target
column's holder in another row, CLOSE_TARGET unless the target is CLOSED, in this order, each planned. -/
def Sys2Proof.Claims.PlanMade : Prop :=
  ∀ (m : Matrix) (t : Tx) (c : Col),
    let step (kind : StepKind) (row : Tx) (d : Col) : PlanStep :=
      { kind := kind, row := row, column := d, status := .planned }
    (((m.plan t c).map (·.kind)).Sublist [.openOwn, .openHolder, .closeTarget]) ∧
    (∀ p ∈ m.plan t c, p = step p.kind p.row p.column) ∧
    (∀ row d, step .openOwn row d ∈ m.plan t c → row = t ∧ d ≠ c ∧ m.xstate t d = .closed) ∧
    ((∃ d, d ≠ c ∧ m.xstate t d = .closed) → ∃ d, step .openOwn t d ∈ m.plan t c) ∧
    (∀ row d, step .openHolder row d ∈ m.plan t c ↔ d = c ∧ (m.column c).holder = some row ∧ row ≠ t) ∧
    ∀ row d, step .closeTarget row d ∈ m.plan t c ↔ row = t ∧ d = c ∧ m.xstate t c ≠ .closed

/-- A changeover's phases from CLAIM to HOLD, and its drive plan. -/
def Obligations.ChangeoverAdvances : Prop :=
  ClaimAnswersFollowed ∧ PhasesEndAtOnce ∧ PlanMade ∧ ChangeoverPhasesFollow

/-- A changeover fails in DRIVE or HOLD (R125, R126, R127, R130, R143): a route that is not known, before any order of the
phase, a failed drive, a failed or late tune, a MATRIX_FAULT in DRIVE, or a lost route takes it to its outcome. Stated
with mute confirmed, nothing more in motion and an empty Pending slot, where the wind-up ends in the same event: the
transmitter is READY, FAILED is recorded with the reason, and the grant is released. A failed tune of another kind is
the port's; each is named with its reason. -/
def Sys2Proof.Claims.FailuresWindUp : Prop :=
  ∀ (t : Tx) (k : Context) (i : Instr) (why : Detail) (s : State), live s → (s.tr t).context = some k →
    k.started = false → (s.tr t).muteConfirmed = true → (s.tr t).unmuted = false → (s.tr t).rf = some false →
    (s.tr t).slot = none →
    ((∃ p x, i = .driveFailed t p.row p.column x ∧ why = x.detail ∧ k.phase = .drive ∧ k.plan = [p] ∧
        p.status = .moving) ∨
      (i = .tunefail t ∧ why = .tuneFailed ∧ k.phase = .drive ∧ k.tune = .sent ∧ k.plan = []) ∨
      (i = .tuneLimitExpiry t ∧ why = .tuneTimeout ∧ k.phase = .drive ∧ k.tune = .sent ∧ k.plan = []) ∨
      (i = .matrixFault t ∧ why = .matrixFault ∧ k.phase = .drive ∧ k.plan = [] ∧ (s.tr t).state = .changing) ∨
      (i = .settleExpiry t ∧ why = .routeUnknown ∧ k.phase = .settle ∧ k.plan = [] ∧
        s.matrix.routeUnknown t k.target = true) ∨
      (i = .holdTimeExpiry t ∧ why = .routeLost ∧ k.phase = .hold ∧ k.deadline.isSome ∧ k.plan = [] ∧
        s.matrix.xstate t k.target ≠ .closed)) →
    ∃ n m, exec i s = .next n ∧ (n.tr t).state = .ready ∧ (n.tr t).context = none ∧
      logs s n [m] ∧ m.kind = .failed ∧ m.detail = why ∧ m.t = t ∧ n.out.port = s.out.port ∧
      raises s n [failure t why false] ∧ ∀ q, k.claim = some q → Instr.release t q.column ∈ n.out.handed

/-- A changeover's failures and its wind-up. -/
def Obligations.ChangeoverFails : Prop := RefusedStartFails ∧ FailuresWindUp

/-- The hold time ends with the route CLOSED, the hold set empty and the column IN_SERVICE (R127, R128): PWR with the
power sent and UNMUTE leave, the ramp limit runs, both monitors are armed, and for a start the transmission begins with
its START record. With a hold or an out-of-service column no order leaves: the context waits at the threshold. -/
def Sys2Proof.Claims.RampBegins : Prop :=
  ∀ (t : Tx) (k : Context) (w : Timer) (s : State), live s → (s.tr t).context = some k → k.phase = .hold →
    k.deadline = some w → s.matrix.xstate t k.target = .closed →
    let r := s.tr t
    let kW := r.desc.powerSent k.kW
    let clear : Prop := r.holds.empty = true ∧ (s.matrix.column k.target).inService = true
    (clear → k.origin ≠ .resume →
      ∃ n k' m, exec (.holdTimeExpiry t) s = .next n ∧ n.out.port = s.out.port ++ [(t, .pwr kW), (t, .unmute)] ∧
        (n.tr t).unmuted = true ∧ (n.tr t).muteConfirmed = false ∧ (n.tr t).context = some k' ∧ k'.phase = .ramp ∧
        k'.deadline = some { count := 0, limit := s.limits.ramp } ∧ (n.tr t).restrikes = 0 ∧
        (∃ x, (n.tr t).current = some x ∧ x.column = k.target ∧ x.kHz = k.kHz ∧ x.kW = kW ∧ x.work = k.work ∧
          x.start = s.clock.reading) ∧
        (n.stations.get t).fwd.state = .ramp ∧
        (n.stations.get t).refl.state = (if s.limits.arming = 0 then .armed else .waiting) ∧
        n.out.log.records.getLast? = some m ∧ m.kind = .start ∧ m.t = t ∧ m.kW = some kW) ∧
    (¬ clear → ∃ n, exec (.holdTimeExpiry t) s = .next n ∧ n.out.port = s.out.port ∧
      (n.tr t).context = some { k with deadline := none } ∧ (n.tr t).unmuted = r.unmuted)

/-- The forward crossing in RAMP (R129, R153): the changeover ends ON_AIR, the grant is released, CHANGEOVER_DONE is
raised and the restrike window count starts; a monitor that reads the line coupler over a route that is not CLOSED has
no such crossing (R149). Without it the ramp limit's expiry (R128) sends MUTE, ends the transmission NO_CARRIER and
locks the transmitter. Stated with an empty Pending slot. -/
def Sys2Proof.Claims.RampEnds : Prop :=
  ∀ (t : Tx) (k : Context) (x : Transmission) (s : State), live s → (s.tr t).context = some k → k.phase = .ramp →
    (s.tr t).current = some x → (s.tr t).slot = none →
    let reads : Prop := (s.stations.get t).fwd.config.source = .transmitter ∨ s.matrix.xstate t k.target = .closed
    (¬ reads → ∃ n, exec (.forwardRisingCrossing t) s = .next n ∧ (n.tr t).context = some k ∧
      (n.tr t).state = (s.tr t).state ∧ (n.stations.get t).fwd = (s.stations.get t).fwd ∧ raises s n []) ∧
    ((s.stations.get t).fwd.state = .ramp → reads →
      ∃ n, exec (.forwardRisingCrossing t) s = .next n ∧ (n.tr t).state = .onAir ∧ (n.tr t).context = none ∧
        (n.tr t).current = some x ∧ (n.stations.get t).fwd.state = .armed ∧
        (n.tr t).window = some { count := 0, limit := s.protection.restrikeWindow } ∧
        raises s n [success t k.origin k.target k.kHz] ∧
        (∀ q, k.claim = some q → Instr.release t q.column ∈ n.out.handed) ∧ n.out.port = s.out.port) ∧
    ∃ n m, exec (.rampLimitExpiry t) s = .next n ∧ (n.tr t).state = .locked .carrierLost ∧
      (n.tr t).lock = some .carrierLost ∧ (n.tr t).current = none ∧ (n.tr t).context = none ∧
      (n.tr t).unmuted = false ∧ n.out.port = s.out.port ++ [(t, .mute)] ∧
      logs s n [m] ∧ m.kind = .end_ ∧ m.detail = .noCarrier ∧
      raises s n [failure t .noCarrier true, locking t .carrierLost []]

/-- The RAMP threshold, the ramp's success and its limit. -/
def Obligations.RampBeginsAndEnds : Prop := RampBegins ∧ RampEnds

/-- A mute that is not confirmed within its limit (R124, R130, R133): an END context's transmission ends MUTE_FAILED and
the transmitter locks; a changeover in MUTE fails with that outcome and locks. The trip mute watch's expiry in TRIPPED
does the same (R157). That an END context raises TX_LOCKED alone there is the model's reading (log 18). Stated with an
empty Pending slot. -/
def Sys2Proof.Claims.MuteFailureLocks : Prop :=
  (∀ (t : Tx) (k : Context) (w : Timer) (s : State), live s → (s.tr t).context = some k → k.phase = .mute →
    k.deadline = some w → (∀ m, (s.tr t).startup ≠ .muting m) → k.plan = [] → (s.tr t).slot = none →
    (k.origin = .end_ → (s.tr t).current.isSome) → (k.started = true → (s.tr t).current.isSome) →
    ∃ n m, exec (.muteLimitExpiry t) s = .next n ∧ (n.tr t).state = .locked .muteFailed ∧
      (n.tr t).lock = some .muteFailed ∧ (n.tr t).context = none ∧ (n.tr t).current = none ∧
      logs s n [m] ∧ m.t = t ∧ m.detail = .muteFailed ∧
      raises s n (if k.origin = .end_ then [locking t .muteFailed []]
        else [failure t .muteFailed false, locking t .muteFailed []])) ∧
  ∀ (t : Tx) (x : Transmission) (w : Timer) (s : State), live s → (s.tr t).state = .tripped →
    (s.tr t).tripWatch = some w → (s.tr t).current = some x → (s.tr t).slot = none →
    ∃ n m, exec (.tripMuteWatchExpiry t) s = .next n ∧ (n.tr t).state = .locked .muteFailed ∧
      (n.tr t).current = none ∧ logs s n [m] ∧ m.kind = .end_ ∧ m.detail = .muteFailed ∧
      raises s n [failure t .muteFailed true, locking t .muteFailed []]

/-- A hold, or the route's column out of service, takes an ON_AIR transmitter to HELD with MUTE sent and both monitors
disarmed (R141, R142); in READY a hold only joins the set; the withdraw end order mutes by an END context of cause
WITHDRAWN (R140); a fault of the matrix by one of cause MATRIX_FAULT (R143), which in RAMP first releases the grant.
With RF ABSENT such a context ends at once, with its END record and CHANGEOVER_DONE, or CHANGEOVER_FAILED for the fault
(R133). -/
def Sys2Proof.Claims.HoldsAndFaultsTakeTheCarrierDown : Prop :=
  (∀ (t : Tx) (a : Source) (c : Col) (x : Transmission) (i : Instr) (s : State), live s → (s.tr t).state = .onAir →
    (s.tr t).current = some x → (s.tr t).context = none →
    (i = .holdAdd t a ∨ (i = .serviceChanged t c false ∧ x.column = c)) →
    ∃ n, exec i s = .next n ∧ (n.tr t).state = .held ∧ (n.tr t).current = some x ∧ (n.tr t).unmuted = false ∧
      n.out.port = s.out.port ++ [(t, .mute)] ∧ (n.stations.get t).refl.state = .off ∧
      (n.stations.get t).fwd.state = .off ∧ (n.tr t).window = none ∧
      (n.tr t).holds = (if i = .holdAdd t a then (s.tr t).holds.add a else (s.tr t).holds)) ∧
  (∀ (t : Tx) (a : Source) (s : State), live s → (s.tr t).state = .ready → (s.tr t).reported = .quiet →
    exec (.holdAdd t a) s = .next { s with stations := upd s.stations t { s.stations.get t with
      tr := { s.tr t with holds := (s.tr t).holds.add a } } }) ∧
  ∀ (t : Tx) (x : Transmission) (s : State), live s → (s.tr t).current = some x →
    let muted (n : State) (cause : Detail) : Prop := (n.tr t).state = .changing ∧ (n.tr t).current = some x ∧
      n.out.port = s.out.port ++ [(t, .mute)] ∧ ∃ k, (n.tr t).context = some k ∧ k.origin = .end_ ∧ k.phase = .mute ∧
        k.closing = cause ∧ k.deadline = some { count := 0, limit := s.limits.mute }
    (∀ i cause, ((s.tr t).state = .onAir ∨ (s.tr t).state = .held ∨ (s.tr t).state = .tripped) →
      ((i = .withdrawEndOrder t ∧ cause = .withdrawn) ∨ (i = .matrixFault t ∧ cause = .matrixFault)) →
      ((s.tr t).rf = some true → ∃ n, exec i s = .next n ∧ muted n cause) ∧
      ((s.tr t).rf = some false → (s.tr t).slot = none →
        ∃ n m, exec i s = .next n ∧ (n.tr t).state = .ready ∧ (n.tr t).current = none ∧ (n.tr t).context = none ∧
          n.out.port = s.out.port ++ [(t, .mute)] ∧ logs s n [m] ∧ m.kind = .end_ ∧ m.detail = cause ∧ m.t = t ∧
          raises s n [if i = .matrixFault t then failure t .matrixFault true else success t .end_ x.column x.kHz] ∧
          ∀ w, x.work = some w → Instr.scheduleWorkEnded t w ∈ n.out.handed)) ∧
    ∀ k, (s.tr t).state = .changing → (s.tr t).context = some k → k.phase = .ramp → (s.tr t).rf = some true →
      ∃ n, exec (.matrixFault t) s = .next n ∧ muted n .matrixFault ∧
        ∀ q, k.claim = some q → Instr.release t q.column ∈ n.out.handed

/-- The withdraw end order to a CHANGING transmitter (R140, R130): a changeover is abandoned with WITHDRAWN as
MANUAL_END abandons one, and an END context, and a changeover that winds up already, go on. Stated with an empty Pending slot. -/
def Sys2Proof.Claims.WithdrawalAbandons : Prop :=
  ∀ (t : Tx) (k : Context) (s : State), live s →
    let r := s.tr t
    r.state = .changing → r.context = some k → r.slot = none →
    let moving : Prop := ∃ p ∈ k.plan, p.status = .moving
    let closes (c : Context) : Prop := c.phase = .windUp ∧ c.outcome = some .withdrawn ∧ c.closing = .withdrawn
    ∃ n, exec (.withdrawEndOrder t) s = .next n ∧
      (k.origin = .end_ ∨ k.phase = .windUp →
        (n.tr t).context = some k ∧ n.out.port = s.out.port ∧ n.out.log = s.out.log) ∧
      (k.origin ≠ .end_ → k.phase ≠ .windUp →
        ((∃ p ∈ k.plan, p.status = .waitingSlot) → Instr.cancelDrive t ∈ n.out.handed) ∧
        (moving → n.out.port = s.out.port ∧ ∃ c, (n.tr t).context = some c ∧ closes c ∧ c.claim = k.claim) ∧
        (¬ moving → ∀ q, k.claim = some q → Instr.release t q.column ∈ n.out.handed) ∧
        (¬ moving → r.rf = some true → n.out.port = s.out.port ++ [(t, .mute)] ∧
          ∃ c, (n.tr t).context = some c ∧ closes c ∧ c.claim = none ∧
            c.deadline = some { count := 0, limit := s.limits.mute }) ∧
        (¬ moving → r.unmuted = false → r.muteConfirmed = true → r.rf ≠ some true → k.started = false →
          (n.tr t).state = .ready ∧ (n.tr t).context = none ∧ n.out.port = s.out.port ∧
          raises s n [failure t .withdrawn false] ∧
          ∃ m, logs s n [m] ∧ m.kind = .failed ∧ m.detail = .withdrawn ∧ m.t = t))

/-- A hold taken outside ON_AIR (R141): in TRIPPED the restrike is abandoned and the transmitter HELD, with MUTE where a
restrike ramp has raised the carrier and with no order else; in RAMP, MUTE is sent, both monitors are disarmed, the
grant is released, the context discarded, and the transmitter HELD with its transmission; in a changeover before RAMP,
MUTE is sent if the carrier is UNMUTED and the context runs on. -/
def Sys2Proof.Claims.HoldsTakenElsewhere : Prop :=
  ∀ (t : Tx) (a : Source) (s : State), live s →
    let r := s.tr t
    let added (n : State) : Prop := (n.tr t).holds = r.holds.add a
    let bothOff (n : State) : Prop := (n.stations.get t).refl.state = .off ∧ (n.stations.get t).fwd.state = .off
    let held (n : State) : Prop := added n ∧ (n.tr t).state = .held ∧ (n.tr t).current = r.current ∧
      (n.tr t).context = none ∧ (n.tr t).stage = .none ∧ (n.tr t).tripWatch = none ∧ (n.tr t).window = none
    (r.state = .tripped → r.context = none →
      ∃ n, exec (.holdAdd t a) s = .next n ∧ held n ∧ (n.stations.get t).fwd.state = .off ∧
        ((∀ w, r.stage ≠ .ramp w) → n.out.port = s.out.port) ∧
        (∀ w, r.stage = .ramp w → n.out.port = s.out.port ++ [(t, .mute)] ∧ (n.tr t).unmuted = false ∧ bothOff n)) ∧
    (∀ k, r.state = .changing → r.context = some k → k.phase = .ramp →
      ∃ n, exec (.holdAdd t a) s = .next n ∧ held n ∧ bothOff n ∧ (n.tr t).unmuted = false ∧
        n.out.port = s.out.port ++ [(t, .mute)] ∧
        ∀ q, k.claim = some q → Instr.release t q.column ∈ n.out.handed) ∧
    ∀ k, r.state = .changing → r.context = some k → k.phase ≠ .ramp → k.phase ≠ .windUp → k.origin ≠ .end_ →
      ∃ n, exec (.holdAdd t a) s = .next n ∧ added n ∧ (n.tr t).state = .changing ∧ (n.tr t).context = some k ∧
        (n.tr t).unmuted = false ∧ n.out.log = s.out.log ∧
        n.out.port = s.out.port ++ (if r.unmuted = true then [(t, .mute)] else []) ∧
        (r.rf = some true → (n.stations.get t).refl = (s.stations.get t).refl)

/-- The last source leaves the hold set of a HELD transmitter, or its column comes back into service (R132, R134, R142):
with an empty Pending slot, a column IN_SERVICE and time left in its window it resumes at the RAMP threshold with PWR
and UNMUTE; a window that has passed ends it with END(HOLD), READY. A removal that leaves a source changes only the
set. -/
def Sys2Proof.Claims.HeldTransmissionResumesOrEnds : Prop :=
  (∀ (t : Tx) (g : Sources) (x : Transmission) (i : Instr) (s : State), live s → (s.tr t).state = .held →
    (s.tr t).current = some x → (s.tr t).context = none → (s.tr t).slot = none →
    (s.matrix.column x.column).inService = true →
    ((i = .holdRemove t g ∧ (s.tr t).holds.empty = false ∧ ((s.tr t).holds.remove g).empty = true) ∨
      (i = .serviceChanged t x.column true ∧ (s.tr t).holds.empty = true)) →
    let kW := (s.tr t).desc.powerSent x.kW
    ((∀ w, x.work = some w → s.now < w.windowEnd) →
      ∃ n k, exec i s = .next n ∧ (n.tr t).state = .changing ∧ (n.tr t).context = some k ∧ k.origin = .resume ∧
        k.phase = .ramp ∧ (n.tr t).current = some x ∧ n.out.log = s.out.log ∧
        n.out.port = s.out.port ++ [(t, .pwr kW), (t, .unmute)]) ∧
    (∀ w, x.work = some w → w.windowEnd ≤ s.now →
      ∃ n m, exec i s = .next n ∧ (n.tr t).state = .ready ∧ (n.tr t).current = none ∧ n.out.port = s.out.port ∧
        n.out.log.records.getLast? = some m ∧ m.kind = .end_ ∧ m.detail = .hold ∧
        Instr.scheduleWorkEnded t w ∈ n.out.handed)) ∧
  ∀ (t : Tx) (g : Sources) (s : State), live s → ((s.tr t).holds.remove g).empty = false →
    ∃ n, exec (.holdRemove t g) s = .next n ∧ (n.tr t).holds = (s.tr t).holds.remove g ∧
      (n.tr t).state = (s.tr t).state ∧ (n.tr t).context = (s.tr t).context ∧ n.out.port = s.out.port

/-- Holds, withdrawals and matrix faults of a transmission, and the end of a hold. -/
def Obligations.HoldsAndResumes : Prop :=
  HoldsAndFaultsTakeTheCarrierDown ∧ WithdrawalAbandons ∧ HoldsTakenElsewhere ∧ HeldTransmissionResumesOrEnds

/-- RF reports outside a changeover (R117): ABSENT confirms a mute in READY and reports it to MXC; PRESENT on a muted
and confirmed READY transmitter is an unbidden carrier: MUTE again, and LOCKED(MUTE_FAILED) with TX_LOCKED. On a
transmitter that is unmuted either report is recorded. Stated with an empty Pending slot; start-up's muting of a
candidate is stated with start-up (CandidateMuted). -/
def Sys2Proof.Claims.RfReportsFollowed : Prop :=
  (∀ (t : Tx) (s : State), live s → (s.tr t).state = .ready → (s.tr t).context = none → (s.tr t).unmuted = false →
    (s.tr t).muteConfirmed = false → (∀ m, (s.tr t).startup ≠ .muting m) →
    ∃ n, exec (.rfAbsent t) s = .next n ∧ (n.tr t).rf = some false ∧ (n.tr t).muteConfirmed = true ∧
      (n.tr t).state = .ready ∧ Instr.muteConfirmedReport t true ∈ n.out.handed ∧ n.out.port = s.out.port) ∧
  (∀ (t : Tx) (s : State), live s → (s.tr t).state = .ready → (s.tr t).slot = none → (s.tr t).unmuted = false →
    (s.tr t).muteConfirmed = true →
    ∃ n, exec (.rfPresent t) s = .next n ∧ (n.tr t).rf = some true ∧ (n.tr t).muteConfirmed = false ∧
      (n.tr t).state = .locked .muteFailed ∧ (n.tr t).lock = some .muteFailed ∧
      n.out.port = s.out.port ++ [(t, .mute)] ∧ raises s n [locking t .muteFailed []]) ∧
  ∀ (t : Tx) (s : State), live s → (s.tr t).unmuted = true → (s.tr t).reported = (s.tr t).condition →
    (∃ n, exec (.rfAbsent t) s = .next n ∧ n.out = s.out ∧ n.tr t = { s.tr t with rf := some false }) ∧
    ∃ n, exec (.rfPresent t) s = .next n ∧ n.out = s.out ∧ n.tr t = { s.tr t with rf := some true }

/-- The transmitter port while polled (R118-R120): a poll instant sends STAT? and counts a silence, and the fourth in a
row without a reply makes a READY transmitter DARK(PORT_SILENT); STAT READY clears the count and takes a silent
transmitter on with MUTE; STAT OFF makes it DARK(OFF); STAT FAULT and a FAULT line lock it, its code in TX_LOCKED; OK
and an unknown line change nothing. Stated outside a changeover, with an empty Pending slot, for a transmitter that is not
in start-up's query or adoption: before its first query, or once it has ended both for the transmitter (QueryAnswered
and CandidateMuted state the rest). That a FAULT line locks one that is READY while step 5 goes on for others is the
model's reading (log 67). -/
def Sys2Proof.Claims.PortLinesFollowed : Prop :=
  ∀ (t : Tx) (s : State), live s → (s.tr t).context = none → (s.tr t).current = none → (s.tr t).slot = none →
    (s.tr t).startup ≠ .asked → (s.tr t).startup ≠ .candidate → (∀ m, (s.tr t).startup ≠ .muting m) →
    let r := s.tr t
    (∀ p, r.poll = some p → r.silence < 3 →
      ∃ n, exec (.statPollInstant t) s = .next n ∧ n.out.port = s.out.port ++ [(t, .stat)] ∧
        (n.tr t).silence = r.silence + 1 ∧ (n.tr t).poll = some 0 ∧ (n.tr t).state = r.state) ∧
    (∀ p, r.poll = some p → 3 ≤ r.silence → r.state = .ready →
      ∃ n, exec (.statPollInstant t) s = .next n ∧ n.out.port = s.out.port ++ [(t, .stat)] ∧
        (n.tr t).state = .dark .portSilent) ∧
    (r.state = .ready → ∃ n, exec (.statReady t) s = .next n ∧ (n.tr t).silence = 0 ∧ (n.tr t).state = .ready ∧
      n.out.port = s.out.port) ∧
    ((r.state = .dark .portSilent ∨ r.state = .dark .off) → r.lock = none →
      ∃ n, exec (.statReady t) s = .next n ∧ (n.tr t).silence = 0 ∧ (n.tr t).state = .ready ∧
        n.out.port = s.out.port ++ [(t, .mute)]) ∧
    (r.state = .ready → ∃ n, exec (.statOff t) s = .next n ∧ (n.tr t).state = .dark .off ∧ (n.tr t).silence = 0) ∧
    (r.state = .ready → ∃ n, exec (.statFault t) s = .next n ∧ (n.tr t).state = .locked .txFault ∧
      (n.tr t).lock = some .txFault ∧ raises s n [locking t .txFault (b2 0xFFFF)]) ∧
    (∀ code, r.state = .ready → ∃ n, exec (.fault t code) s = .next n ∧ (n.tr t).state = .locked .txFault ∧
      (n.tr t).lock = some .txFault ∧ raises s n [locking t .txFault (b2 code)]) ∧
    (∀ code, r.state.off = true → r.reported = .quiet → exec (.fault t code) s = .next s) ∧
    exec (.ok t) s = .next s ∧ exec (.unknownPortLine t) s = .next s

/-- RF reports and the lines of the transmitter ports outside a changeover. -/
def Obligations.PortsAndRfFollowed : Prop := RfReportsFollowed ∧ PortLinesFollowed

/-- A loss outside a changeover (R119, R120, R163, R164, R122): on a transmitter ON_AIR, HELD or TRIPPED STAT OFF, STAT
FAULT, a FAULT line and the poll instant at which its port is found silent send MUTE and end the transmission with their
detail, leaving DARK(OFF), LOCKED(TX_FAULT) or DARK(PORT_SILENT); so does ON_AIR the carrier loss count's expiry, with
LOCKED(CARRIER_LOST); an open tune's failure or expiry leaves an END context of its cause, as it does when it was kept
through HELD into a RESUME context. Stated with an empty Pending slot. -/
def Sys2Proof.Claims.LossOnAirEndsTheTransmission : Prop :=
  ∀ (t : Tx) (x : Transmission) (s : State), live s → (s.tr t).current = some x → (s.tr t).slot = none →
    let endedBy (i : Instr) (orders : List PortOrder) (why : Detail) (after : TxState) (es : List Event) : Prop :=
      ∃ n m, exec i s = .next n ∧ (n.tr t).state = after ∧ (n.tr t).current = none ∧ (n.tr t).unmuted = false ∧
      n.out.port = s.out.port ++ orders.map (fun o => (t, o)) ∧ logs s n [m] ∧ m.kind = .end_ ∧
      m.detail = why ∧ m.t = t ∧ raises s n (failure t why true :: es) ∧ (n.tr t).stage = .none ∧
      (n.stations.get t).fwd.state = .off ∧ (n.stations.get t).refl.state = .off ∧
      ∀ w, x.work = some w → Instr.scheduleWorkEnded t w ∈ n.out.handed
    let ended (i : Instr) (why : Detail) (after : TxState) (es : List Event) : Prop :=
      endedBy i [.mute] why after es
    let muting (i : Instr) (cause : Detail) : Prop := ∃ n k, exec i s = .next n ∧ (n.tr t).state = .changing ∧
      (n.tr t).context = some k ∧ k.origin = .end_ ∧ k.phase = .mute ∧ k.closing = cause ∧
      n.out.port = s.out.port ++ [(t, .mute)]
    let up : Prop := (s.tr t).state = .onAir ∧ (s.tr t).context = none
    let resumes : Prop := (s.tr t).state = .changing ∧ ∃ k, (s.tr t).context = some k ∧ k.origin = .resume ∧
      k.phase ≠ .windUp ∧ k.tune = .none
    let carries : Prop := ((s.tr t).state = .onAir ∨ (s.tr t).state = .held ∨ (s.tr t).state = .tripped) ∧
      (s.tr t).context = none
    (carries → ended (.statOff t) .txOff (.dark .off) [] ∧
      ((s.tr t).startup ≠ .asked →
        ended (.statFault t) .txFault (.locked .txFault) [locking t .txFault (b2 0xFFFF)]) ∧
      (∀ code, ended (.fault t code) .txFault (.locked .txFault) [locking t .txFault (b2 code)]) ∧
      ((s.tr t).poll.isSome → 3 ≤ (s.tr t).silence →
        endedBy (.statPollInstant t) [.stat, .mute] .portSilent (.dark .portSilent) [])) ∧
    (up → (s.stations.get t).fwd.state = .armed → (s.stations.get t).fwd.loss.isSome →
      ended (.carrierLossExpiry t) .carrierLost (.locked .carrierLost) [locking t .carrierLost []]) ∧
    ((up ∨ resumes) → (s.tr t).openTune.isSome → (s.tr t).rf = some true →
      muting (.openTuneExpiry t) .tuneTimeout ∧ muting (.tunefail t) .tuneFailed ∧
      ∀ f o, (s.tr t).openTune = some o → o.kHz ≠ f → muting (.tuned t f) .tuneFailed)

/-- A mute that fails, and the losses of a transmission on air. -/
def Obligations.CarrierLossesEnd : Prop := MuteFailureLocks ∧ LossOnAirEndsTheTransmission

/-! ### The RF monitors -/

/-- A rising crossing of the ARMED reflected monitor while ON_AIR, in the RAMP of a changeover or in a restrike's ramp
is a trip (R154): MUTE with its watch, TRIPPED with the restrike count one up and the restrike delay running, TRIP raised
and recorded, and REFLECTED_HIGH raised where the edge selection allows it; a RAMP context releases its grant and is
discarded. Exhausted, it is recorded EXHAUSTED, marks the column SUSPECT and raises ANTENNA_SUSPECT (R160); an unused
reserve gets a RESERVE context (R161), and without one an END context of cause REFLECTION mutes it (R162), which with RF
ABSENT ends at once with END(REFLECTION) and CHANGEOVER_FAILED. With restrikes left it marks no column and raises nothing
more. The trip of a RAMP context is stated with an empty Pending slot. -/
def Sys2Proof.Claims.ReflectedTrip : Prop :=
  ∀ (t : Tx) (x : Transmission) (s : State), live s → (s.tr t).current = some x →
    (s.stations.get t).refl.state = .armed →
    (((s.tr t).state = .onAir ∧ (s.tr t).context = none) ∨
      ((s.tr t).state = .tripped ∧ (s.tr t).context = none ∧ ∃ w, (s.tr t).stage = .ramp w) ∨
      ((s.tr t).state = .changing ∧ (s.tr t).slot = none ∧ ∃ k, (s.tr t).context = some k ∧ k.phase = .ramp)) →
    let n := (s.tr t).restrikes + 1
    let g := (s.stations.get t).refl.config
    let trip : Event := { kind := .trip, subject := .transmitter t, detail := b1 n ++ b1 x.column.val }
    let high : List Event := if g.edges = .fall then []
      else [{ kind := .reflectedHigh, subject := .transmitter t, detail := b1 (reflectedLevel g.level) }]
    let suspect : Event := { kind := .antennaSuspect, subject := .column x.column, detail := b1 t.val }
    (n ≤ s.protection.restrikeLimit →
      ∃ v m, exec (.reflectedRisingCrossing t) s = .next v ∧ (v.tr t).state = .tripped ∧ (v.tr t).restrikes = n ∧
        (v.tr t).stage = .delay { count := 0, limit := s.protection.restrikeDelay } ∧ (v.tr t).current = some x ∧
        (v.tr t).unmuted = false ∧ v.out.port = s.out.port ++ [(t, .mute)] ∧
        logs s v [m] ∧ m.kind = .trip ∧ m.detail = .restrike ∧ m.column = some x.column ∧
        raises s v (trip :: high) ∧ (∀ c, Instr.suspectMark c ∈ v.out.handed → Instr.suspectMark c ∈ s.out.handed) ∧
        (v.stations.get t).fwd.state = .off ∧ (v.tr t).context = none ∧
        ((s.tr t).rf = some true → (v.tr t).tripWatch = some { count := 0, limit := s.limits.mute }) ∧
        (∀ k q, (s.tr t).context = some k → k.claim = some q → Instr.release t q.column ∈ v.out.handed)) ∧
    (s.protection.restrikeLimit < n →
      ∃ v m rest es, exec (.reflectedRisingCrossing t) s = .next v ∧ Instr.suspectMark x.column ∈ v.out.handed ∧
        (v.tr t).state ≠ .onAir ∧ v.out.log = (m :: rest).foldl Log.write s.out.log ∧ m.kind = .trip ∧
        m.detail = .exhausted ∧ m.t = t ∧ m.column = some x.column ∧
        raises s v (trip :: high ++ [suspect] ++ es) ∧ ((s.tr t).rf = some true → es = [] ∧ rest = []) ∧
        (∀ k q, (s.tr t).context = some k → k.claim = some q → Instr.release t q.column ∈ v.out.handed) ∧
        (∀ c, x.reserve = some c → x.reserveUsed = false → ∃ k, (v.tr t).context = some k ∧ k.origin = .reserve ∧
          k.target = c ∧ Instr.claim t c ∈ v.out.handed) ∧
        ((x.reserve = none ∨ x.reserveUsed = true) → v.out.port = s.out.port ++ [(t, .mute), (t, .mute)] ∧
          ((s.tr t).rf = some true → (v.tr t).state = .changing ∧ (v.tr t).current = some x ∧
            (v.tr t).tripWatch = none ∧ ∃ k, (v.tr t).context = some k ∧ k.origin = .end_ ∧ k.phase = .mute ∧
              k.closing = .reflection ∧ k.deadline = some { count := 0, limit := s.limits.mute }) ∧
          ((s.tr t).rf = some false → (s.tr t).slot = none →
            (v.tr t).state = .ready ∧ (v.tr t).current = none ∧ (v.tr t).context = none ∧
            es = [failure t .reflection true] ∧
            (∃ z, rest = [z] ∧ z.kind = .end_ ∧ z.detail = .reflection ∧ z.t = t) ∧
            ∀ w, x.work = some w → Instr.scheduleWorkEnded t w ∈ v.out.handed)))

/-- A pre-mute trip (R155): an accepted rising crossing of the reflected monitor that the changeover has left ARMED, in
phase CLAIM over a transmission already closed, sends MUTE, disarms the forward monitor, raises TRIP with a count of 0
and REFLECTED_HIGH where the edge selection allows it, and records TRIP(PRE_MUTE) with what is radiated and the
context's origin, without bank and entry. The restrike count stays, no column is marked and the context runs on; so it
is after a hold's MUTE too, confirmed or not. That the reflected monitor then stays ARMED HIGH until this trip's mute is
confirmed is the model's reading (log 45), and so is how long what is radiated stays known (log 23). -/
def Sys2Proof.Claims.PreMuteTrip : Prop :=
  ∀ (t : Tx) (k : Context) (y : Radiated) (s : State), live s → (s.tr t).state = .changing →
    (s.tr t).current = none → (s.tr t).context = some k → k.phase = .claim → (s.tr t).radiated = some y →
    (s.stations.get t).refl.state = .armed →
    let g := (s.stations.get t).refl.config
    let trip : Event := { kind := .trip, subject := .transmitter t, detail := b1 0 ++ b1 y.column.val }
    let high : List Event := if g.edges = .fall then []
      else [{ kind := .reflectedHigh, subject := .transmitter t, detail := b1 (reflectedLevel g.level) }]
    ∃ n m, exec (.reflectedRisingCrossing t) s = .next n ∧ (n.tr t).state = .changing ∧ (n.tr t).context = some k ∧
      (n.tr t).restrikes = (s.tr t).restrikes ∧ (n.tr t).unmuted = false ∧
      n.out.port = s.out.port ++ [(t, .mute)] ∧ (n.stations.get t).fwd.state = .off ∧
      ((s.tr t).rf = some true →
        (n.stations.get t).refl = { (s.stations.get t).refl with side := some .high, pending := false, tripped := true }) ∧
      raises s n (trip :: high) ∧ logs s n [m] ∧ m.kind = .trip ∧ m.detail = .preMute ∧ m.t = t ∧ m.work = none ∧
      m.column = some y.column ∧ m.kHz = some y.kHz ∧ m.kW = some y.kW ∧
      (m.manual = true ↔ k.origin ≠ .schedule) ∧
      ∀ c, Instr.suspectMark c ∈ n.out.handed → Instr.suspectMark c ∈ s.out.handed

/-- The restrike (R157-R159): the delay's end with the mute confirmed, the route CLOSED, no hold and the column
IN_SERVICE sends PWR and UNMUTE with the ramp limit running; without the mute confirmed it waits for it, and RF ABSENT
then begins that ramp; with the route not CLOSED either ends the transmission by an END context of cause ROUTE_LOST,
which finds RF ABSENT and so ends at once, with CHANGEOVER_FAILED (R133); the forward
crossing returns the transmitter to ON_AIR with its count kept; the ramp limit's expiry locks it; and the restrike
window's expiry clears the count. -/
def Sys2Proof.Claims.RestrikeFollows : Prop :=
  (∀ (t : Tx) (x : Transmission) (w : Timer) (s : State), live s → (s.tr t).state = .tripped →
    (s.tr t).stage = .delay w → (s.tr t).current = some x →
    ((s.tr t).muteConfirmed = true → s.matrix.xstate t x.column = .closed → (s.tr t).holds.empty = true →
      (s.matrix.column x.column).inService = true →
      ∃ n, exec (.restrikeDelayExpiry t) s = .next n ∧ (n.tr t).state = .tripped ∧
        (n.tr t).stage = .ramp { count := 0, limit := s.limits.ramp } ∧ (n.tr t).unmuted = true ∧
        n.out.port = s.out.port ++ [(t, .pwr x.kW), (t, .unmute)] ∧ (n.stations.get t).fwd.state = .ramp) ∧
    ((s.tr t).muteConfirmed = false →
      ∃ n, exec (.restrikeDelayExpiry t) s = .next n ∧ (n.tr t).stage = .waitMute ∧ n.out.port = s.out.port)) ∧
  (∀ (t : Tx) (x : Transmission) (s : State), live s → (s.tr t).state = .tripped → (s.tr t).context = none →
    (s.tr t).current = some x → (s.tr t).stage = .waitMute → (s.tr t).unmuted = false →
    (s.tr t).muteConfirmed = false → (∀ m, (s.tr t).startup ≠ .muting m) → s.matrix.xstate t x.column = .closed →
    (s.tr t).holds.empty = true → (s.matrix.column x.column).inService = true →
    ∃ n, exec (.rfAbsent t) s = .next n ∧ (n.tr t).state = .tripped ∧
      (n.tr t).stage = .ramp { count := 0, limit := s.limits.ramp } ∧ (n.tr t).unmuted = true ∧
      (n.tr t).tripWatch = none ∧ n.out.port = s.out.port ++ [(t, .pwr x.kW), (t, .unmute)] ∧
      (n.stations.get t).fwd.state = .ramp) ∧
  (∀ (t : Tx) (x : Transmission) (i : Instr) (s : State), live s → (s.tr t).state = .tripped →
    (s.tr t).context = none → (s.tr t).current = some x → (s.tr t).slot = none → (s.tr t).unmuted = false →
    s.matrix.xstate t x.column ≠ .closed →
    ((i = .restrikeDelayExpiry t ∧ (∃ w, (s.tr t).stage = .delay w) ∧ (s.tr t).muteConfirmed = true ∧
        (s.tr t).rf = some false) ∨
      (i = .rfAbsent t ∧ (s.tr t).stage = .waitMute ∧ (s.tr t).muteConfirmed = false ∧
        ∀ m, (s.tr t).startup ≠ .muting m)) →
    ∃ n m, exec i s = .next n ∧ (n.tr t).state = .ready ∧ (n.tr t).current = none ∧ (n.tr t).context = none ∧
      n.out.port = s.out.port ++ [(t, .mute)] ∧ logs s n [m] ∧ m.kind = .end_ ∧ m.detail = .routeLost ∧ m.t = t ∧
      raises s n [failure t .routeLost true] ∧
      ∀ w, x.work = some w → Instr.scheduleWorkEnded t w ∈ n.out.handed) ∧
  (∀ (t : Tx) (x : Transmission) (w : Timer) (s : State), live s → (s.tr t).state = .tripped →
    (s.tr t).stage = .ramp w → (s.tr t).current = some x → (s.tr t).context = none → (s.tr t).slot = none →
    ((s.stations.get t).fwd.state = .ramp →
      ((s.stations.get t).fwd.config.source = .transmitter ∨ s.matrix.xstate t x.column = .closed) →
      ∃ n, exec (.forwardRisingCrossing t) s = .next n ∧ (n.tr t).state = .onAir ∧ (n.tr t).stage = .none ∧
        (n.tr t).restrikes = (s.tr t).restrikes ∧
        (n.tr t).window = some { count := 0, limit := s.protection.restrikeWindow }) ∧
    ∃ n m, exec (.restrikeRampLimitExpiry t) s = .next n ∧ (n.tr t).state = .locked .carrierLost ∧
      (n.tr t).current = none ∧ n.out.port = s.out.port ++ [(t, .mute)] ∧
      raises s n [failure t .noCarrier true, locking t .carrierLost []] ∧
      logs s n [m] ∧ m.kind = .end_ ∧ m.detail = .noCarrier) ∧
  ∀ (t : Tx) (w : Timer) (s : State), live s → (s.tr t).window = some w →
    ∃ n, exec (.restrikeWindowExpiry t) s = .next n ∧ (n.tr t).restrikes = 0 ∧ (n.tr t).window = none ∧
      (n.tr t).state = (s.tr t).state ∧ n.out.port = s.out.port

/-- The reflected trip, on air and before the MUTE phase, and the restrike. -/
def Obligations.TripsAndRestrikes : Prop := ReflectedTrip ∧ PreMuteTrip ∧ RestrikeFollows

/-- The other crossings and the arming delay (R150, R152, R156, R164): a falling crossing of the ARMED reflected monitor
records the LOW side; the forward monitor's falling crossing starts the loss count, its rising crossing stops it, each
with its event where the edge selection allows it; the arming delay's end arms the reflected monitor on the LOW side.
A monitor that is OFF takes no crossing, and the forward monitor no rising one while it reads 0% off an open route
(R149). -/
def Sys2Proof.Claims.CrossingsFollowed : Prop :=
  ∀ (t : Tx) (s : State), live s → (s.tr t).reported = (s.tr t).condition →
    let u := s.stations.get t
    let at_ (v : Station) : State := { s with stations := upd s.stations t v }
    let open_ : Prop := u.fwd.config.source = .line ∧ ∀ c, (s.tr t).route = some c → s.matrix.xstate t c ≠ .closed
    (open_ → exec (.forwardRisingCrossing t) s = .next s) ∧
    (u.refl.state = .armed →
      let low : State := at_ { u with refl := { u.refl with side := some .low, pending := false } }
      exec (.reflectedFallingCrossing t) s = .next
        (if u.refl.config.edges = .rise then low
        else event low .reflectedNormal (.transmitter t) (b1 (reflectedLevel u.refl.config.level)))) ∧
    (u.fwd.state = .armed →
      let low : State := at_ { u with fwd := { u.fwd with
        side := some .low, pending := false, loss := some { count := 0, limit := s.protection.carrierLoss } } }
      exec (.forwardFallingCrossing t) s = .next
        (if u.fwd.config.edges = .rise then low
        else event low .carrierLow (.transmitter t) (b1 (forwardLevel u.fwd.config.level)))) ∧
    (u.fwd.state = .armed → ¬ open_ →
      let high : State := at_ { u with fwd := { u.fwd with side := some .high, pending := false, loss := none } }
      exec (.forwardRisingCrossing t) s = .next
        (if u.fwd.config.edges = .fall then high
        else event high .carrierNormal (.transmitter t) (b1 (forwardLevel u.fwd.config.level)))) ∧
    (u.refl.state = .waiting →
      exec (.armingDelayExpiry t) s = .next (at_ { u with refl := { u.refl with
        state := .armed, side := some .low, pending := false, arming := none, tripped := false } })) ∧
    (u.refl.state = .off → exec (.reflectedRisingCrossing t) s = .next s ∧
      exec (.reflectedFallingCrossing t) s = .next s) ∧
    (u.fwd.state = .off → exec (.forwardRisingCrossing t) s = .next s ∧
      exec (.forwardFallingCrossing t) s = .next s)

/-- What a sample of the detectors is compared with (R147-R149): the forward reading with 2% of rated power; the
reflected reading, in percent of the forward one, with the level of the monitor's index, a reading without carrier being
0%; and the forward monitor's reading, off its coupler, with its level in percent of the power sent. -/
def Sys2Proof.Claims.SamplesMeasured : Prop :=
  ∀ (d : Detectors) (rated level : Nat),
    (d.carrier rated = true ↔ 2 * (rated * 1000) ≤ 100 * d.forward) ∧
    (0 < level → (d.reflectedHigh rated level = true ↔
      d.carrier rated = true ∧ level * d.forward ≤ 100 * d.reflected)) ∧
    ∀ (e : Env) (kW : Nat) (b : Bench),
      let g := b.u.fwd.config
      let closed : Prop := ∃ c, b.u.tr.route = some c ∧ e.matrix.xstate e.t c = .closed
      let high (watts : Nat) : Prop := b.forwardHigh e d kW = true ↔ forwardLevel g.level * (kW * 1000) ≤ 100 * watts
      (g.source = .transmitter → high d.forward) ∧ (g.source = .line → closed → high d.line) ∧
      (g.source = .line → ¬ closed → high 0)

/-- A sample of a monitor (R145, R146): one that agrees with the side clears the pending count, the first one that does
not is counted with the filter ON, and the next one, or the first without the filter, is the crossing, with all that
the crossing's command does. The absent comparator's filter is ON, but for its first sample, which sets its side (R147).
-/
def Sys2Proof.Claims.SamplesCompared : Prop :=
  ∀ (d : Detectors) (t : Tx) (s : State), live s → (s.tr t).reported = (s.tr t).condition →
    let u := s.stations.get t
    let at_ (v : Station) : State := { s with stations := upd s.stations t v }
    let side (high : Bool) : Side := if high then .high else .low
    (u.refl.state ≠ .armed → s.csq t (Bench.sampleReflected d) = s) ∧
    (u.refl.state = .armed →
      let high := d.reflectedHigh u.tr.desc.rated (reflectedLevel u.refl.config.level)
      let after := s.csq t (Bench.sampleReflected d)
      (u.refl.side = some (side high) → after = at_ { u with refl := { u.refl with pending := false } }) ∧
      (u.refl.side ≠ some (side high) → u.refl.config.filter = true → u.refl.pending = false →
        after = at_ { u with refl := { u.refl with pending := true } }) ∧
      (u.refl.side ≠ some (side high) → (u.refl.config.filter = false ∨ u.refl.pending = true) →
        exec (if high then .reflectedRisingCrossing t else .reflectedFallingCrossing t) s = .next after)) ∧
    (∀ x, u.fwd.state ≠ .off → u.tr.current = some x →
      let high := Bench.forwardHigh (s.env t) d x.kW { u := u, o := s.out }
      let after := s.csq t (Bench.sampleForward d)
      (u.fwd.side = some (side high) → after = at_ { u with fwd := { u.fwd with pending := false } }) ∧
      (u.fwd.side ≠ some (side high) → u.fwd.config.filter = true → u.fwd.pending = false →
        after = at_ { u with fwd := { u.fwd with pending := true } }) ∧
      (u.fwd.side ≠ some (side high) → (u.fwd.config.filter = false ∨ u.fwd.pending = true) →
        exec (if high then .forwardRisingCrossing t else .forwardFallingCrossing t) s = .next after)) ∧
    let high := d.carrier u.tr.desc.rated
    let after := s.csq t (Bench.sampleAbsent d)
    (u.absent.side = some (side high) → after = at_ { u with absent := { u.absent with pending := false } }) ∧
    (u.absent.side ≠ some (side high) → u.absent.side ≠ none → u.absent.pending = false →
      after = at_ { u with absent := { u.absent with pending := true } }) ∧
    (u.absent.side ≠ some (side high) → (u.absent.side = none ∨ u.absent.pending = true) →
      exec (if high then .rfPresent t else .rfAbsent t) s = .next after)

/-- A mute confirmed in phase CLAIM, as a hold's may be, keeps the reflected monitor as it is until the MUTE phase
(R152), unless a trip has left it ARMED: that one it disarms (R156). That what a pre-mute trip would record (R155) stays
is the model's reading (log 23). -/
def Sys2Proof.Claims.MuteKeepsTheMonitor : Prop :=
  ∀ (t : Tx) (k : Context) (s : State), live s → (s.tr t).context = some k → k.phase = .claim →
    (s.tr t).unmuted = false → (s.tr t).muteConfirmed = false → (∀ m, (s.tr t).startup ≠ .muting m) →
    let r := (s.stations.get t).refl
    ∃ n, exec (.rfAbsent t) s = .next n ∧ (n.tr t).muteConfirmed = true ∧ (n.tr t).context = some k ∧
      (n.tr t).radiated = (s.tr t).radiated ∧
      (n.stations.get t).refl = (if r.tripped = true then
        { r with state := .off, side := none, pending := false, arming := none, tripped := false } else r)

/-- The mains monitor (R166, R167): a sample below the level in NORMAL makes it LOW, puts MAINS in every hold set and
the suspension set and raises MAINS_LOW; one at or above it in LOW starts the recovery hold, which a sample below it
ends; the hold's expiry makes it NORMAL and takes MAINS away. -/
def Sys2Proof.Claims.MainsMonitorFollows : Prop :=
  (∀ (percent : Nat) (s : State), live s → s.boot.phase = .done →
    exec (.mainsSample percent) s = .next
      (match s.mains.state with
        | .normal =>
          if s.protection.mainsLevel ≤ percent then s
          else event (handed { s with mains := { state := .low, recovery := none } }
            ((allTx.map fun t => .holdAdd t .mains) ++ [.suspensionSourceAdd .mains])) .mainsLow .none
            (b1 s.protection.mainsLevel)
        | .low =>
          if s.protection.mainsLevel ≤ percent then
            { s with mains := { state := .recovering
                                recovery := some { count := 0, limit := s.protection.mainsRecovery } } }
          else s
        | .recovering =>
          if s.protection.mainsLevel ≤ percent then s
          else { s with mains := { state := .low, recovery := none } })) ∧
  ∀ s : State, live s → s.mains.state = .recovering →
    let only : Sources := { members := 0, emergency := false, mains := true }
    exec .mainsRecoveryExpiry s = .next
      (event (handed { s with mains := { state := .normal, recovery := none } }
        ((allTx.map fun t => .holdRemove t only) ++ [.suspensionSourceRemove only])) .mainsNormal .none
        (b1 s.protection.mainsLevel))

/-- When a monitor is sampled (R145): a sample instant takes what the inputs then read; a monitor of divisor `n` is
sampled at one of every `n` instants, those whose number `n` divides (which ones is the model's choice, log 11, and the
order of a transmitter's samples too, log 24), and at another it is passed over; the absent comparator is sampled at
each. -/
def Sys2Proof.Claims.SamplesTakenByDivisor : Prop :=
  (∀ (t : Tx) (d : Detectors) (n : Nat) (s : State),
    let reflected : Prop := n % (s.stations.get t).refl.config.divisor = 0
    let forward : Prop := n % (s.stations.get t).fwd.config.divisor = 0
    let after := s.sampleStation n d t
    (¬ reflected → ¬ forward → after = s.csq t (Bench.sampleAbsent d)) ∧
    (reflected → ¬ forward → after = (s.csq t (Bench.sampleReflected d)).csq t (Bench.sampleAbsent d)) ∧
    (¬ reflected → forward → after = (s.csq t (Bench.sampleForward d)).csq t (Bench.sampleAbsent d)) ∧
    (reflected → forward → after =
      ((s.csq t (Bench.sampleReflected d)).csq t (Bench.sampleForward d)).csq t (Bench.sampleAbsent d))) ∧
  (∀ n ∈ ([1, 2, 4, 8] : List Nat), ∀ k, k < 8 →
    ((List.range n).filter fun j => (k + j) % 8 % n == 0).length = 1) ∧
  ∀ s : State,
    let next (feed : List Inputs) : State :=
      { s with sampling := { instant := (s.sampling.instant + 1) % 8, feed := feed } }
    (s.sampling.feed = [] → s.passInstant = next []) ∧
    ∀ i rest, s.sampling.feed = i :: rest → s.passInstant = State.sample s.sampling.instant i (next rest)

/-- The monitors' samples and their other crossings, the arming delay and the mains monitor. -/
def Obligations.MonitorsFollowed : Prop :=
  CrossingsFollowed ∧ SamplesMeasured ∧ SamplesTakenByDivisor ∧ SamplesCompared ∧ MuteKeepsTheMonitor ∧
  MainsMonitorFollows

/-- What a command about one transmitter leaves alone: everything but the record of cell writes now complete, that
transmitter's record and monitors and what the part puts out; and of that, the matrix link and the enables. -/
def Sys2Proof.Claims.StationFrame : Prop :=
  ∀ (t row : Tx) (c : Col) (w : DriveFailure) (yes : Bool) (a : Source) (g : Sources) (f : Nat) (i : Instr)
    (s n : State),
    i ∈ ([.claimGranted t c, .claimListed t c, .claimRefused t c, .driveStarted t row c, .driveDone t row c,
      .driveFailed t row c w, .matrixFault t, .serviceChanged t c yes, .withdrawEndOrder t, .holdAdd t a,
      .holdRemove t g, .rfAbsent t, .rfPresent t, .statPollInstant t, .statReady t, .statOff t, .statFault t,
      .fault t f, .ok t, .tuned t f, .tunefail t, .unknownPortLine t, .claimWaitExpiry t, .muteLimitExpiry t,
      .settleExpiry t, .tuneLimitExpiry t, .openTuneExpiry t, .holdTimeExpiry t, .rampLimitExpiry t,
      .restrikeRampLimitExpiry t, .reflectedRisingCrossing t, .reflectedFallingCrossing t,
      .forwardRisingCrossing t, .forwardFallingCrossing t, .armingDelayExpiry t, .restrikeDelayExpiry t,
      .tripMuteWatchExpiry t, .restrikeWindowExpiry t, .carrierLossExpiry t] : List Instr) →
    exec i s = .next n →
    { n with stations := s.stations, out := s.out } = (if s.boot.asserted = true then s else s.settled) ∧
    (∀ u, u ≠ t → n.stations.get u = s.stations.get u) ∧
    n.out.link = s.out.link ∧ n.out.enables = s.out.enables ∧
    (∃ orders, n.out.port = s.out.port ++ orders ∧ ∀ o ∈ orders, o.1 = t)

/-- What the matrix controller's commands, and the commands about one transmitter, leave unchanged. -/
def Obligations.FramesOfOneBlock : Prop := MatrixFrame ∧ StationFrame

/-! ### Resets and start-up -/

/-- POWER_ON (R205, R28): the clock reads 2000-01-01 00:00:00.0 NOT_SET on the internal source, the start kind is
COLD; a reset by the reset line, from its assertion to its release, and the end of an accepted RESTART's reply frame
keep the clock's reading, flag, source and presence and the start kind. After each the cause is recorded, start-up has
polled the modules, the host link, the log, the check, the engine and the matrix are empty, and the limits, protection
settings and enables are as the settings block has them, or the defaults where it is missing or a write of it was cut
(R197, R200, R204, R207). -/
def Sys2Proof.Claims.ResetsBeginStartup : Prop :=
  ∀ s : State,
    let block : Settings := match s.store.op with
      | some (.settings _) => Settings.default
      | _ => s.store.settings.getD Settings.default
    let fresh (t : State) : Prop :=
      t.boot.phase = .table ∧ t.boot.asserted = false ∧
      t.boot.poll = some { count := 0, limit := 100 } ∧
      (∃ polls, t.out.link = s.out.link ++ polls ∧ polls = [.poll 0, .poll 1, .poll 2, .poll 3, .poll 4, .poll 5]) ∧
      t.out.port = s.out.port ∧ t.link.receiver = .hunting ∧ t.link.queue = [] ∧ t.link.refusal = none ∧
      t.link.reply = none ∧ t.link.line = none ∧ t.out.log = { records := [], unread := 0, overrun := false, next := 0 } ∧
      t.check = none ∧ t.store.op = none ∧ t.engine.state = .halted ∧ t.engine.upcoming = [] ∧ t.engine.fill = none ∧
      t.engine.armed = false ∧ t.matrix.claims = [] ∧ t.matrix.queue = [] ∧ t.matrix.free = 3 ∧
      t.matrix.granting = false ∧ (∀ u c, t.matrix.xstate u c = .unknown) ∧
      t.limits = block.limits ∧ t.protection = block.protection ∧ t.out.enables = block.enables ∧
      (∀ u, (t.tr u).desc = block.transmitters.get u ∧ (t.tr u).state = startState (block.transmitters.get u) ∧
        (t.tr u).current = none ∧ (t.tr u).context = none) ∧
      t.ilu.firstOut = none ∧ t.ilu.emergency = false ∧ t.mains.state = .normal
    let kept (t : State) : Prop :=
      t.clock.reading = s.clock.reading ∧ t.clock.divider = s.clock.divider ∧ t.clock.isSet = s.clock.isSet ∧
      t.clock.source = s.clock.source ∧ t.clock.present = s.clock.present ∧ t.clock.seen = s.clock.seen ∧
      t.boot.kind = s.boot.kind
    (∃ t, exec .powerOn s = .next t ∧ fresh t ∧ t.boot.cause = .powerOn ∧ t.boot.kind = .cold ∧
      t.clock.reading = { date := { year := 2000, month := 1, day := 1 }, minute := 0, second := 0, tenth := 0 } ∧
      t.clock.divider = 0 ∧ t.clock.isSet = false ∧ t.clock.source = .internal ∧ t.clock.present = false ∧
      t.clock.seen = 0) ∧
    (∃ a t, exec .resetLineAssert s = .next a ∧ exec .resetLineRelease a = .next t ∧ fresh t ∧
      t.boot.cause = .resetLine ∧ kept t) ∧
    (∀ (r : Reply) (a : Answer), s.boot.asserted = false → s.link.line = some (.reply r) → r.kind = 0x74 →
      r.verdict = .accepted a →
      ∃ t, exec .outgoingFrameEnd s = .next t ∧ fresh t ∧ t.boot.cause = .restart ∧ kept t)

/-- RESET_LINE_ASSERT (R205) resets every block and holds the part: until the release it takes no command but the
clock's own, POWER_ON and the reset line's. The release begins start-up on the part as the assertion and the running
clock have left it: the clock, the source flags and the notices raised since are kept (R28, log 28). A release without
an assertion does nothing. -/
def Sys2Proof.Claims.ResetLineHoldsThePart : Prop :=
  (∀ s : State, ∃ t, exec .resetLineAssert s = .next t ∧ t.boot.asserted = true ∧ t.boot.cause = .resetLine ∧
    t.clock.reading = s.clock.reading ∧ t.link.queue = [] ∧ t.check = none ∧ t.engine.state = .halted ∧
    t.out.notices = [] ∧ t.out.log.records = [] ∧ t.store.op = none) ∧
  (∀ (c : Instr) (s : State), s.boot.asserted = true →
    c ∉ ([.clockTenthAdvance, .referenceJudgedPresent, .referenceInputFailure, .powerOn, .resetLineAssert,
      .resetLineRelease] : List Instr) → exec c s = .next s) ∧
  (∀ s : State, s.boot.asserted = true →
    ∃ t, exec .resetLineRelease s = .next t ∧ t.boot.asserted = false ∧ t.boot.phase = .table ∧
      t.clock.reading = s.clock.reading ∧ t.clock.isSet = s.clock.isSet ∧ t.clock.source = s.clock.source ∧
      t.clock.present = s.clock.present ∧ t.clock.seen = s.clock.seen ∧
      (∀ n, n < 8 → s.out.sources.getLsbD n = true → t.out.sources.getLsbD n = true) ∧
      ∃ es, t.out.notices = s.out.notices ++ es) ∧
  ∀ s : State, live s → exec .resetLineRelease s = .next s

/-- The three kinds of reset. -/
def Obligations.ResetsTaken : Prop := ResetsBeginStartup ∧ ResetLineHoldsThePart

/-- A reset that cuts an event's state cell writes (R34, R46): a bank's cell reads as it was written or as it stood
before; and of a switch's two writes the first is whole before the second begins. -/
def Sys2Proof.Claims.CellWritesCut : Prop :=
  ∀ (k : Store) (n : Nat),
    let reads (b : Bank) : Cell := ((k.cut n).bank b).cell.recover.latest.contents
    let stands (b : Bank) : Cell := (k.bank b).cell.latest.contents
    (∀ (b : Bank) (old : StateCell) (new : Cell), k.cellWrites = [(b, old)] → old.latest.good = true →
      (k.bank b).cell = old.write new → reads b = new ∨ reads b = old.latest.contents) ∧
    (∀ (b : Bank) (old old' : StateCell) (new new' : Cell), k.cellWrites = [(b, old), (otherBank b, old')] →
      old.latest.good = true → old'.latest.good = true → (k.bank b).cell = old.write new →
      (k.bank (otherBank b)).cell = old'.write new' →
      (reads b = new ∧ reads (otherBank b) = new') ∨
      (reads b = new ∧ reads (otherBank b) = old'.latest.contents) ∨
      (reads b = old.latest.contents ∧ reads (otherBank b) = old'.latest.contents)) ∧
    (k.cellWrites = [] → ∀ b, (k.bank b).cell.latest.good = true → reads b = stands b) ∧
    (k.cut n).cellWrites = [] ∧ (k.cut n).op = none

/-- Start-up's tests of a bank whose state cell is good, with nothing in flight and not both banks ACTIVE (R46, R47,
R16): erase pending, a missing header or a failing page makes it DAMAGED without a report; a CHECKING bank becomes
CLOSED; a VALID bank checked under another serial number than the loaded one becomes CLOSED; any other keeps its
state. -/
def Sys2Proof.Claims.StartupTestsTheBanks : Prop :=
  ∀ (k : Bank) (s : State), s.store.op = none → s.store.cellWrites = [] →
    (∀ b, (s.store.bank b).cell.latest.good = true) → oneActive s.store →
    let b := s.store.bank k
    let serial := (s.store.settings.getD Settings.default).serial
    let failing : Prop := b.headerPage = .failing ∨ ∃ p, b.pages.get p = .failing
    let damaged : Prop := b.read.erasePending = true ∨ (b.state ≠ .erased ∧ (b.headerPage = .erased ∨ failing))
    ∃ t, exec .powerOn s = .next t ∧
      (damaged → (t.store.bank k).state = .damaged ∧ (t.store.bank k).read.report = none ∧
        t.out.sources.getLsbD 5 = true) ∧
      (¬ damaged → b.state = .checking → (t.store.bank k).state = .closed ∧ (t.store.bank k).read.report = none) ∧
      (¬ damaged → b.state = .valid → (t.store.bank k).state =
        (if ∃ r, b.read.report = some r ∧ r.serial = serial then .valid else .closed)) ∧
      (¬ damaged → b.state ≠ .checking → b.state ≠ .valid → (t.store.bank k).state = b.state)

/-- Two banks that read ACTIVE and pass the tests (R48): the one whose activation number is one above the other's stays
ACTIVE; where neither is, the one with the later effective start, bank 1 where equal. The other is RETIRED, without an
event. -/
def Sys2Proof.Claims.OneActiveBankKept : Prop :=
  ∀ (x y : Header) (s : State), s.store.op = none → s.store.cellWrites = [] →
    (∀ b, (s.store.bank b).cell.latest.good = true ∧ (s.store.bank b).state = .active ∧
      (s.store.bank b).read.erasePending = false ∧ (s.store.bank b).headerPage = .programmed ∧
      ∀ p, (s.store.bank b).pages.get p ≠ .failing) →
    (s.store.bank 0).header = some x → (s.store.bank 1).header = some y →
    let number (b : Bank) : BitVec 32 := (s.store.bank b).read.activation
    let start (h : Header) : Nat := h.date.number * 1440 + h.minute
    let kept : Bank := if number 1 = number 0 + 1 then 1 else if number 0 = number 1 + 1 then 0
      else if start y < start x then 0 else 1
    ∃ t, exec .powerOn s = .next t ∧ (t.store.bank kept).read = (s.store.bank kept).read ∧
      (t.store.bank (otherBank kept)).state = .retired ∧
      (t.store.bank (otherBank kept)).read.report = (s.store.bank (otherBank kept)).read.report ∧
      (s.store.settings.isSome → t.out.sources = 0 ∧ t.out.notices = [])

/-- The steps of start-up (R207-R210): a second after the last POLL the hall is evaluated; the evaluation, its levels
settled, samples the mains, puts the holds and suspensions of a low mains, an active emergency input and the active
members in force, begins the queries and polls each present and available transmitter; the adoption mutes a candidate
that may not be adopted, which with RF ABSENT is READY at once, and every other transmitter not sent MUTE yet; the end
arms autorun from the option, lets motor slots be granted and takes no minute boundary raised before it, and then takes
the request at the head of the queue, if one waits (R189). Out of its place each does nothing; stated for the end with a
queue as every step keeps it. -/
def Sys2Proof.Claims.StartupStepsFollow : Prop :=
  (∀ s : State, live s →
    exec .startupPollTimeout s = .next
      (if s.boot.phase = .table then { s with boot := { s.boot with phase := .evaluate, poll := none } } else s)) ∧
  (∀ (percent : Nat) (s : State), live s → s.boot.phase = .evaluate → s.levelsSettled = true →
    ∃ t, exec (.startupHallEvaluation percent) s = .next t ∧ t.boot.phase = .query ∧
      (percent < s.protection.mainsLevel → t.mains.state = .low ∧ t.matrix.suspension.mains = true ∧
        ∀ u, (t.tr u).holds.mains = true) ∧
      (s.ilu.input = some true → t.ilu.emergency = true ∧ t.matrix.suspension.emergency = true ∧
        ∀ u, (t.tr u).holds.emergency = true) ∧
      (∀ m g, (s.ilu.members.get m).config = some g → (s.lines.get g.line).pin = some g.activeHigh →
        m ∈ t.ilu.latchedSet ∧ (t.ilu.members.get m).level = .active) ∧
      (∀ u, (s.tr u).desc.present = true → (s.tr u).desc.available = true → (s.tr u).state = .dark .portSilent →
        (s.tr u).silence = 0 → (t.tr u).startup = .asked ∧ (t.tr u).poll = some 0 ∧ (u, .stat) ∈ t.out.port)) ∧
  (∀ s : State, live s → s.boot.phase = .query → s.queryEnded = true →
    ∃ t, exec .startupAdoption s = .next t ∧ t.boot.phase = .adopt ∧
      (∀ u, (s.tr u).startup = .candidate → s.adoption u = none → (u, .mute) ∈ t.out.port ∧
        (t.tr u).unmuted = false ∧
        ((s.tr u).rf = some false → (t.tr u).state = .ready ∧ (t.tr u).muteConfirmed = true ∧
          (t.tr u).startup = .done ∧ (t.tr u).poll = some 0) ∧
        ((s.tr u).rf ≠ some false → (t.tr u).state = (s.tr u).state ∧
          (t.tr u).startup = .muting { count := 0, limit := s.limits.mute })) ∧
      ∀ u, (s.tr u).startup ≠ .candidate → (s.tr u).mutedOnce = false → (s.tr u).state ≠ .onAir →
        (u, .mute) ∈ t.out.port) ∧
  (∀ s : State, live s → s.boot.phase = .adopt → s.adoptionEnded = true →
    ∃ t, t.boot.phase = .done ∧ t.engine.armed = s.store.autorun ∧ t.matrix.granting = true ∧ t.link = s.link ∧
      (∀ b, Instr.minuteBoundary b ∉ t.out.handed) ∧
      ((s.link.queue = [] ∨ s.link.reply.isSome) → exec .startupEnd s = .next t) ∧
      ∀ q rest, s.link.queue = q :: rest → s.link.reply = none → (requestOf q.command).isSome = true →
        exec .startupEnd s = exec q.command (takingHead t rest)) ∧
  ∀ (percent : Nat) (s : State), live s → queueServed s →
    (s.boot.phase ≠ .evaluate → exec (.startupHallEvaluation percent) s = .next s) ∧
    (s.boot.phase ≠ .query → exec .startupAdoption s = .next s) ∧
    (s.boot.phase ≠ .adopt → exec .startupEnd s = .next s)

/-- The replies to start-up's query (R207): STAT READY of a transmitter that waits for its first reply makes it a
candidate without MUTE and without polling, DARK(PORT_SILENT) until step 6; STAT OFF makes it DARK(OFF); STAT FAULT sends
MUTE and locks it, with TX_LOCKED (its code 0xFFFF is the model's, log 22); a FAULT line is discarded; a poll instant
counts one more silence, and the fourth ends the step for it. The step ends when no transmitter waits, and step 6 when
none is a candidate any more. -/
def Sys2Proof.Claims.QueryAnswered : Prop :=
  (∀ (t : Tx) (s : State), live s → (s.tr t).startup = .asked → (s.tr t).state = .dark .portSilent →
    (s.tr t).reported = .quiet → (s.tr t).context = none → (s.tr t).slot = none →
    let r := s.tr t
    let at_ (x : TxRecord) : State := { s with stations := upd s.stations t { s.stations.get t with tr := x } }
    exec (.statReady t) s = .next (at_ { r with silence := 0, startup := .candidate, poll := none }) ∧
    exec (.statOff t) s = .next (at_ { r with
      silence := 0, startup := .done, poll := some (r.poll.getD 0), state := .dark .off }) ∧
    (∃ n, exec (.statFault t) s = .next n ∧ n.out.port = s.out.port ++ [(t, .mute)] ∧
      (n.tr t).state = .locked .txFault ∧ (n.tr t).lock = some .txFault ∧ (n.tr t).startup = .done ∧
      (n.tr t).poll.isSome ∧ (n.tr t).silence = 0 ∧ n.out.log = s.out.log ∧
      raises s n [locking t .txFault (b2 0xFFFF)]) ∧
    (∀ code, exec (.fault t code) s = .next s) ∧
    ∀ p, r.poll = some p → ∃ n, exec (.statPollInstant t) s = .next n ∧
      n.out.port = s.out.port ++ [(t, .stat)] ∧ raises s n [] ∧ (n.tr t).poll = some 0 ∧ (n.tr t).state = r.state ∧
      (r.silence < 3 → (n.tr t).silence = r.silence + 1 ∧ (n.tr t).startup = .asked) ∧
      (3 ≤ r.silence → (n.tr t).startup = .done)) ∧
  ∀ s : State, (s.queryEnded = true ↔ ∀ t, (s.tr t).startup ≠ .asked) ∧
    (s.adoptionEnded = true ↔ ∀ t, (s.tr t).startup ≠ .candidate ∧ ∀ m, (s.tr t).startup ≠ .muting m)

/-- A candidate that waits is not polled (R207), and one that is being muted (R209) becomes READY at RF ABSENT, with its
mute confirmed, or LOCKED(MUTE_FAILED) with TX_LOCKED when the mute limit runs out; polling goes on, its interval from 0,
the model's choice (log 20), and no record is written. -/
def Sys2Proof.Claims.CandidateMuted : Prop :=
  (∀ (t : Tx) (s : State), live s → (s.tr t).poll = none → (s.tr t).reported = (s.tr t).condition →
    exec (.statPollInstant t) s = .next s) ∧
  ∀ (t : Tx) (w : Timer) (s : State), live s → (s.tr t).startup = .muting w → (s.tr t).unmuted = false →
    (s.tr t).muteConfirmed = false → (s.tr t).slot = none →
    (∃ n, exec (.rfAbsent t) s = .next n ∧ (n.tr t).state = .ready ∧ (n.tr t).muteConfirmed = true ∧
      (n.tr t).startup = .done ∧ (n.tr t).poll = some 0 ∧ n.out.port = s.out.port ∧ n.out.log = s.out.log ∧
      raises s n []) ∧
    ∃ n, exec (.muteLimitExpiry t) s = .next n ∧ (n.tr t).state = .locked .muteFailed ∧
      (n.tr t).lock = some .muteFailed ∧ (n.tr t).startup = .done ∧ (n.tr t).poll = some 0 ∧
      n.out.port = s.out.port ∧ n.out.log = s.out.log ∧ raises s n [locking t .muteFailed []]

/-- What a candidate must be to be adopted (R208): a WARM start with the option on and the clock set, RF PRESENT, no
hold, its row's one CLOSED crosspoint in a column IN_SERVICE with every other OPEN, and an entry of the ACTIVE bank on
the transmitter that names the column, fits the descriptions and has a window that contains the minute. -/
def Sys2Proof.Claims.AdoptionTested : Prop :=
  ∀ (s : State) (u : Tx),
    let tests (b : Bank) (c : Col) (x : Entry) (day : Nat) : Prop :=
      s.store.active = some b ∧ s.boot.kind = .warm ∧ s.store.warmAdopt = true ∧ s.clock.isSet = true ∧
      (s.tr u).rf = some true ∧ (s.tr u).holds.empty = true ∧ (s.matrix.column c).inService = true ∧
      s.matrix.xstate u c = .closed ∧ (∀ d, d ≠ c → s.matrix.xstate u d = .opened) ∧ x ∈ s.entries b ∧
      tx x.transmitter = u ∧ (x.primary = c.val ∨ x.reserveCol = some c) ∧
      (s.tr u).desc.fits x.kHz x.programme = true ∧ (s.matrix.column c).desc.permits x.kHz = true ∧
      (day = s.now / 1440 ∨ day = s.now / 1440 - 1) ∧ x.inEffect day = true ∧ x.begins day ≤ s.now ∧ s.now < x.ends day
    (∀ b c x day, s.adoption u = some (b, c, x, day) → tests b c x day) ∧
    (s.adoption u = none → ∀ b c x day, ¬ tests b c x day)

/-- The adoption of a candidate (R209), stated for the only one: the transmitter is ON_AIR with its transmission and
its monitors armed, START(ADOPTED) is recorded, the Fired Table takes the window date, no order leaves for it, and
nothing is raised. -/
def Sys2Proof.Claims.CandidateAdopted : Prop :=
  ∀ (u : Tx) (b : Bank) (c : Col) (x : Entry) (day : Nat) (s : State), live s → s.boot.phase = .query →
    s.queryEnded = true → (s.tr u).startup = .candidate → (∀ v, v ≠ u → (s.tr v).startup ≠ .candidate) →
    s.adoption u = some (b, c, x, day) →
    let kW := (s.tr u).desc.powerSent x.kW
    ∃ t orders m, exec .startupAdoption s = .next t ∧ t.boot.phase = .adopt ∧ (t.tr u).state = .onAir ∧
      (t.tr u).startup = .done ∧ (t.tr u).unmuted = true ∧ (t.tr u).muteConfirmed = false ∧
      (∃ y, (t.tr u).current = some y ∧ y.work = some (x.work b day) ∧ y.column = c ∧ y.kHz = x.kHz ∧ y.kW = kW ∧
        y.programme = x.programme ∧ y.reserveUsed = (x.primary != c.val)) ∧
      (t.stations.get u).fwd.state = .armed ∧ (t.stations.get u).refl.state = .armed ∧
      t.engine.firedOn x.number = some day ∧ logs s t [m] ∧ m.kind = .start ∧ m.detail = .adopted ∧ m.t = u ∧
      m.work = some (b, x.number) ∧ m.column = some c ∧ m.kHz = some x.kHz ∧ m.kW = some kW ∧ raises s t [] ∧
      t.out.port = s.out.port ++ orders ∧ ∀ o ∈ orders, o.1 ≠ u ∧ o.2 = .mute

/-- What a reset leaves of the store, start-up's bank tests, its steps, the replies to its query, and the adoption. -/
def Obligations.StartupFollows : Prop :=
  CellWritesCut ∧ StartupTestsTheBanks ∧ OneActiveBankKept ∧ StartupStepsFollow ∧ QueryAnswered ∧ AdoptionTested ∧
  CandidateAdopted ∧ CandidateMuted
end

