-- ==== Sys2Proof/Laws/State.lean ====
section
/-! SUPPORT. One lemma per field per update: what each operation on one block of the machine leaves of every field, and
what reading a vector after a change of one place gives. All are true by definition. -/

namespace Sys2Proof

theorem upd_get {α : Type} {n : Nat} (v : Vector α n) (i j : Fin n) (x : α) :
    (upd v i x).get j = if j = i then x else v.get j := by
  change (v.set i.val x i.isLt)[j.val] = _
  rw [Vector.getElem_set]
  by_cases h : j = i
  · simp [h]
  · have h2 : i.val ≠ j.val := fun e => h (Fin.ext e.symm)
    rw [if_neg h2, if_neg h]
    rfl

@[simp] theorem upd_get_same {α : Type} {n : Nat} (v : Vector α n) (i : Fin n) (x : α) : (upd v i x).get i = x := by
  simp [upd_get]

theorem upd_get_other {α : Type} {n : Nat} (v : Vector α n) (i j : Fin n) (x : α) (h : j ≠ i) :
    (upd v i x).get j = v.get j := by
  simp [upd_get, h]

@[simp] theorem upd_self {α : Type} {n : Nat} (v : Vector α n) (i : Fin n) : upd v i (v.get i) = v := by
  ext j hj
  simp only [upd, Vector.getElem_set]
  split
  · next h => subst h; rfl
  · rfl

@[simp] theorem upd_upd {α : Type} {n : Nat} (v : Vector α n) (i : Fin n) (x y : α) :
    upd (upd v i x) i y = upd v i y := by
  ext j hj
  simp only [upd, Vector.getElem_set]
  split <;> rfl

theorem upTo_eq_range (k : Nat) : upTo k = List.range k := by
  induction k with
  | zero => rfl
  | succ k ih => simp [upTo, ih, List.range_succ]

theorem mem_allTx (t : Tx) : t ∈ allTx := by
  revert t
  decide

theorem mem_allCols (c : Col) : c ∈ allCols := by
  revert c
  decide

theorem mem_allMembers (m : Member) : m ∈ allMembers := by
  revert m
  decide

theorem mem_allLines (l : Line) : l ∈ allLines := by
  revert l
  decide

namespace Machine

/-! ### Operations on one transmitter -/

@[simp] theorem State.onStation_pending (s : State) (t : Tx) (f : Env → Bench → Bench) :
    (s.onStation t f).pending = s.pending := rfl
@[simp] theorem State.onStation_sampling (s : State) (t : Tx) (f : Env → Bench → Bench) :
    (s.onStation t f).sampling = s.sampling := rfl
@[simp] theorem State.onStation_link (s : State) (t : Tx) (f : Env → Bench → Bench) :
    (s.onStation t f).link = s.link := rfl
@[simp] theorem State.onStation_clock (s : State) (t : Tx) (f : Env → Bench → Bench) :
    (s.onStation t f).clock = s.clock := rfl
@[simp] theorem State.onStation_store (s : State) (t : Tx) (f : Env → Bench → Bench) :
    (s.onStation t f).store = s.store := rfl
@[simp] theorem State.onStation_check (s : State) (t : Tx) (f : Env → Bench → Bench) :
    (s.onStation t f).check = s.check := rfl
@[simp] theorem State.onStation_engine (s : State) (t : Tx) (f : Env → Bench → Bench) :
    (s.onStation t f).engine = s.engine := rfl
@[simp] theorem State.onStation_matrix (s : State) (t : Tx) (f : Env → Bench → Bench) :
    (s.onStation t f).matrix = s.matrix := rfl
@[simp] theorem State.onStation_limits (s : State) (t : Tx) (f : Env → Bench → Bench) :
    (s.onStation t f).limits = s.limits := rfl
@[simp] theorem State.onStation_protection (s : State) (t : Tx) (f : Env → Bench → Bench) :
    (s.onStation t f).protection = s.protection := rfl
@[simp] theorem State.onStation_mains (s : State) (t : Tx) (f : Env → Bench → Bench) :
    (s.onStation t f).mains = s.mains := rfl
@[simp] theorem State.onStation_ilu (s : State) (t : Tx) (f : Env → Bench → Bench) :
    (s.onStation t f).ilu = s.ilu := rfl
@[simp] theorem State.onStation_lines (s : State) (t : Tx) (f : Env → Bench → Bench) :
    (s.onStation t f).lines = s.lines := rfl
@[simp] theorem State.onStation_boot (s : State) (t : Tx) (f : Env → Bench → Bench) :
    (s.onStation t f).boot = s.boot := rfl
@[simp] theorem State.onStation_freeCount (s : State) (t : Tx) (f : Env → Bench → Bench) :
    (s.onStation t f).freeCount = s.freeCount := rfl

@[simp] theorem State.onStation_out (s : State) (t : Tx) (f : Env → Bench → Bench) :
    (s.onStation t f).out = (f (s.env t) { u := s.stations.get t, o := s.out }).o := rfl
@[simp] theorem State.onStation_stations (s : State) (t : Tx) (f : Env → Bench → Bench) :
    (s.onStation t f).stations = upd s.stations t (f (s.env t) { u := s.stations.get t, o := s.out }).u := rfl

@[simp] theorem State.csq_pending (s : State) (t : Tx) (f : Env → Bench → Bench) :
    (s.csq t f).pending = s.pending := rfl
@[simp] theorem State.csq_sampling (s : State) (t : Tx) (f : Env → Bench → Bench) :
    (s.csq t f).sampling = s.sampling := rfl
@[simp] theorem State.csq_link (s : State) (t : Tx) (f : Env → Bench → Bench) : (s.csq t f).link = s.link := rfl
@[simp] theorem State.csq_clock (s : State) (t : Tx) (f : Env → Bench → Bench) : (s.csq t f).clock = s.clock := rfl
@[simp] theorem State.csq_store (s : State) (t : Tx) (f : Env → Bench → Bench) : (s.csq t f).store = s.store := rfl
@[simp] theorem State.csq_check (s : State) (t : Tx) (f : Env → Bench → Bench) : (s.csq t f).check = s.check := rfl
@[simp] theorem State.csq_engine (s : State) (t : Tx) (f : Env → Bench → Bench) : (s.csq t f).engine = s.engine := rfl
@[simp] theorem State.csq_matrix (s : State) (t : Tx) (f : Env → Bench → Bench) : (s.csq t f).matrix = s.matrix := rfl
@[simp] theorem State.csq_limits (s : State) (t : Tx) (f : Env → Bench → Bench) : (s.csq t f).limits = s.limits := rfl
@[simp] theorem State.csq_protection (s : State) (t : Tx) (f : Env → Bench → Bench) :
    (s.csq t f).protection = s.protection := rfl
@[simp] theorem State.csq_mains (s : State) (t : Tx) (f : Env → Bench → Bench) : (s.csq t f).mains = s.mains := rfl
@[simp] theorem State.csq_ilu (s : State) (t : Tx) (f : Env → Bench → Bench) : (s.csq t f).ilu = s.ilu := rfl
@[simp] theorem State.csq_lines (s : State) (t : Tx) (f : Env → Bench → Bench) : (s.csq t f).lines = s.lines := rfl
@[simp] theorem State.csq_boot (s : State) (t : Tx) (f : Env → Bench → Bench) : (s.csq t f).boot = s.boot := rfl
@[simp] theorem State.csq_freeCount (s : State) (t : Tx) (f : Env → Bench → Bench) :
    (s.csq t f).freeCount = s.freeCount := rfl

@[simp] theorem State.csq_out (s : State) (t : Tx) (f : Env → Bench → Bench) :
    (s.csq t f).out = ((f (s.env t) { u := s.stations.get t, o := s.out }).reportRow (s.env t)).o := rfl
@[simp] theorem State.csq_stations (s : State) (t : Tx) (f : Env → Bench → Bench) :
    (s.csq t f).stations = upd s.stations t ((f (s.env t) { u := s.stations.get t, o := s.out }).reportRow (s.env t)).u := rfl

@[simp] theorem State.env_t (s : State) (t : Tx) : (s.env t).t = t := rfl
@[simp] theorem State.env_reading (s : State) (t : Tx) : (s.env t).reading = s.clock.reading := rfl
@[simp] theorem State.env_matrix (s : State) (t : Tx) : (s.env t).matrix = s.matrix := rfl
@[simp] theorem State.env_limits (s : State) (t : Tx) : (s.env t).limits = s.limits := rfl
@[simp] theorem State.env_protection (s : State) (t : Tx) : (s.env t).protection = s.protection := rfl
@[simp] theorem State.env_active (s : State) (t : Tx) : (s.env t).active = s.store.active := rfl

@[simp] theorem Bench.tr_refl (b : Bench) (f : TxRecord → TxRecord) : (b.tr f).u.refl = b.u.refl := rfl
@[simp] theorem Bench.tr_fwd (b : Bench) (f : TxRecord → TxRecord) : (b.tr f).u.fwd = b.u.fwd := rfl
@[simp] theorem Bench.tr_absent (b : Bench) (f : TxRecord → TxRecord) : (b.tr f).u.absent = b.u.absent := rfl
@[simp] theorem Bench.tr_tr (b : Bench) (f : TxRecord → TxRecord) : (b.tr f).u.tr = f b.u.tr := rfl
@[simp] theorem Bench.tr_o (b : Bench) (f : TxRecord → TxRecord) : (b.tr f).o = b.o := rfl
@[simp] theorem Bench.out_u (b : Bench) (f : Outbox → Outbox) : (b.out f).u = b.u := rfl
@[simp] theorem Bench.out_o (b : Bench) (f : Outbox → Outbox) : (b.out f).o = f b.o := rfl
@[simp] theorem Bench.station_u (b : Bench) (f : Station → Station) : (b.station f).u = f b.u := rfl
@[simp] theorem Bench.station_o (b : Bench) (f : Station → Station) : (b.station f).o = b.o := rfl
@[simp] theorem Bench.ctx_tr (b : Bench) (f : Context → Context) :
    (b.ctx f).u.tr = { b.u.tr with context := b.u.tr.context.map f } := rfl
@[simp] theorem Bench.ctx_o (b : Bench) (f : Context → Context) : (b.ctx f).o = b.o := rfl
@[simp] theorem Bench.ctx_refl (b : Bench) (f : Context → Context) : (b.ctx f).u.refl = b.u.refl := rfl
@[simp] theorem Bench.ctx_fwd (b : Bench) (f : Context → Context) : (b.ctx f).u.fwd = b.u.fwd := rfl
@[simp] theorem Bench.ctx_absent (b : Bench) (f : Context → Context) : (b.ctx f).u.absent = b.u.absent := rfl
@[simp] theorem Station.disarm_tr (u : Station) : u.disarm.tr = u.tr := rfl
@[simp] theorem Station.disarmForward_tr (u : Station) : u.disarmForward.tr = u.tr := rfl
@[simp] theorem Station.tripped_tr (u : Station) : u.tripped.tr = u.tr := rfl
@[simp] theorem Station.disarmForward_refl (u : Station) : u.disarmForward.refl = u.refl := rfl
@[simp] theorem Station.tripped_fwd (u : Station) : u.tripped.fwd = u.fwd := rfl
@[simp] theorem Station.disarm_absent (u : Station) : u.disarm.absent = u.absent := rfl
@[simp] theorem Station.disarmForward_absent (u : Station) : u.disarmForward.absent = u.absent := rfl
@[simp] theorem Station.tripped_absent (u : Station) : u.tripped.absent = u.absent := rfl
@[simp] theorem Station.arm_tr (u : Station) (d : Nat) : (u.arm d).tr = u.tr := rfl
@[simp] theorem Station.arm_absent (u : Station) (d : Nat) : (u.arm d).absent = u.absent := rfl

/-! ### Operations on the matrix -/

@[simp] theorem State.onMatrix_pending (s : State) (f : Board → Board) : (s.onMatrix f).pending = s.pending := rfl
@[simp] theorem State.onMatrix_sampling (s : State) (f : Board → Board) : (s.onMatrix f).sampling = s.sampling := rfl
@[simp] theorem State.onMatrix_link (s : State) (f : Board → Board) : (s.onMatrix f).link = s.link := rfl
@[simp] theorem State.onMatrix_clock (s : State) (f : Board → Board) : (s.onMatrix f).clock = s.clock := rfl
@[simp] theorem State.onMatrix_store (s : State) (f : Board → Board) : (s.onMatrix f).store = s.store := rfl
@[simp] theorem State.onMatrix_check (s : State) (f : Board → Board) : (s.onMatrix f).check = s.check := rfl
@[simp] theorem State.onMatrix_engine (s : State) (f : Board → Board) : (s.onMatrix f).engine = s.engine := rfl
@[simp] theorem State.onMatrix_stations (s : State) (f : Board → Board) : (s.onMatrix f).stations = s.stations := rfl
@[simp] theorem State.onMatrix_limits (s : State) (f : Board → Board) : (s.onMatrix f).limits = s.limits := rfl
@[simp] theorem State.onMatrix_protection (s : State) (f : Board → Board) :
    (s.onMatrix f).protection = s.protection := rfl
@[simp] theorem State.onMatrix_mains (s : State) (f : Board → Board) : (s.onMatrix f).mains = s.mains := rfl
@[simp] theorem State.onMatrix_ilu (s : State) (f : Board → Board) : (s.onMatrix f).ilu = s.ilu := rfl
@[simp] theorem State.onMatrix_lines (s : State) (f : Board → Board) : (s.onMatrix f).lines = s.lines := rfl
@[simp] theorem State.onMatrix_boot (s : State) (f : Board → Board) : (s.onMatrix f).boot = s.boot := rfl
@[simp] theorem State.onMatrix_freeCount (s : State) (f : Board → Board) :
    (s.onMatrix f).freeCount = s.freeCount := rfl

@[simp] theorem State.onMatrix_matrix (s : State) (f : Board → Board) :
    (s.onMatrix f).matrix = (f { m := s.matrix, o := s.out }).m := rfl
@[simp] theorem State.onMatrix_out (s : State) (f : Board → Board) :
    (s.onMatrix f).out = (f { m := s.matrix, o := s.out }).o := rfl

@[simp] theorem Matrix.onPoint_columns (m : Matrix) (t : Tx) (c : Col) (f : Crosspoint → Crosspoint) :
    (m.onPoint t c f).columns = m.columns := rfl
@[simp] theorem Matrix.onPoint_rows (m : Matrix) (t : Tx) (c : Col) (f : Crosspoint → Crosspoint) :
    (m.onPoint t c f).rows = m.rows := rfl
@[simp] theorem Matrix.onPoint_claims (m : Matrix) (t : Tx) (c : Col) (f : Crosspoint → Crosspoint) :
    (m.onPoint t c f).claims = m.claims := rfl
@[simp] theorem Matrix.onPoint_queue (m : Matrix) (t : Tx) (c : Col) (f : Crosspoint → Crosspoint) :
    (m.onPoint t c f).queue = m.queue := rfl
@[simp] theorem Matrix.onPoint_free (m : Matrix) (t : Tx) (c : Col) (f : Crosspoint → Crosspoint) :
    (m.onPoint t c f).free = m.free := rfl
@[simp] theorem Matrix.onPoint_suspension (m : Matrix) (t : Tx) (c : Col) (f : Crosspoint → Crosspoint) :
    (m.onPoint t c f).suspension = m.suspension := rfl
@[simp] theorem Matrix.onPoint_granting (m : Matrix) (t : Tx) (c : Col) (f : Crosspoint → Crosspoint) :
    (m.onPoint t c f).granting = m.granting := rfl

@[simp] theorem Matrix.onColumn_points (m : Matrix) (c : Col) (f : Column → Column) :
    (m.onColumn c f).points = m.points := rfl
@[simp] theorem Matrix.onColumn_rows (m : Matrix) (c : Col) (f : Column → Column) :
    (m.onColumn c f).rows = m.rows := rfl
@[simp] theorem Matrix.onColumn_claims (m : Matrix) (c : Col) (f : Column → Column) :
    (m.onColumn c f).claims = m.claims := rfl
@[simp] theorem Matrix.onColumn_queue (m : Matrix) (c : Col) (f : Column → Column) :
    (m.onColumn c f).queue = m.queue := rfl
@[simp] theorem Matrix.onColumn_free (m : Matrix) (c : Col) (f : Column → Column) :
    (m.onColumn c f).free = m.free := rfl
@[simp] theorem Matrix.onColumn_suspension (m : Matrix) (c : Col) (f : Column → Column) :
    (m.onColumn c f).suspension = m.suspension := rfl
@[simp] theorem Matrix.onColumn_granting (m : Matrix) (c : Col) (f : Column → Column) :
    (m.onColumn c f).granting = m.granting := rfl

@[simp] theorem Matrix.onRow_points (m : Matrix) (t : Tx) (f : RowRecord → RowRecord) :
    (m.onRow t f).points = m.points := rfl
@[simp] theorem Matrix.onRow_columns (m : Matrix) (t : Tx) (f : RowRecord → RowRecord) :
    (m.onRow t f).columns = m.columns := rfl
@[simp] theorem Matrix.onRow_claims (m : Matrix) (t : Tx) (f : RowRecord → RowRecord) :
    (m.onRow t f).claims = m.claims := rfl
@[simp] theorem Matrix.onRow_queue (m : Matrix) (t : Tx) (f : RowRecord → RowRecord) :
    (m.onRow t f).queue = m.queue := rfl
@[simp] theorem Matrix.onRow_free (m : Matrix) (t : Tx) (f : RowRecord → RowRecord) :
    (m.onRow t f).free = m.free := rfl
@[simp] theorem Matrix.onRow_suspension (m : Matrix) (t : Tx) (f : RowRecord → RowRecord) :
    (m.onRow t f).suspension = m.suspension := rfl
@[simp] theorem Matrix.onRow_granting (m : Matrix) (t : Tx) (f : RowRecord → RowRecord) :
    (m.onRow t f).granting = m.granting := rfl

@[simp] theorem Matrix.setClaimant_points (m : Matrix) (c : Col) (t : Option Tx) :
    (m.setClaimant c t).points = m.points := rfl
@[simp] theorem Matrix.setClaimant_rows (m : Matrix) (c : Col) (t : Option Tx) :
    (m.setClaimant c t).rows = m.rows := rfl
@[simp] theorem Matrix.setClaimant_claims (m : Matrix) (c : Col) (t : Option Tx) :
    (m.setClaimant c t).claims = m.claims := rfl
@[simp] theorem Matrix.setClaimant_queue (m : Matrix) (c : Col) (t : Option Tx) :
    (m.setClaimant c t).queue = m.queue := rfl
@[simp] theorem Matrix.setClaimant_free (m : Matrix) (c : Col) (t : Option Tx) :
    (m.setClaimant c t).free = m.free := rfl
@[simp] theorem Matrix.setClaimant_suspension (m : Matrix) (c : Col) (t : Option Tx) :
    (m.setClaimant c t).suspension = m.suspension := rfl
@[simp] theorem Matrix.setClaimant_granting (m : Matrix) (c : Col) (t : Option Tx) :
    (m.setClaimant c t).granting = m.granting := rfl

@[simp] theorem Matrix.reholder_points (m : Matrix) (c : Col) : (m.reholder c).points = m.points := rfl
@[simp] theorem Matrix.reholder_rows (m : Matrix) (c : Col) : (m.reholder c).rows = m.rows := rfl
@[simp] theorem Matrix.reholder_claims (m : Matrix) (c : Col) : (m.reholder c).claims = m.claims := rfl
@[simp] theorem Matrix.reholder_queue (m : Matrix) (c : Col) : (m.reholder c).queue = m.queue := rfl
@[simp] theorem Matrix.reholder_free (m : Matrix) (c : Col) : (m.reholder c).free = m.free := rfl
@[simp] theorem Matrix.reholder_suspension (m : Matrix) (c : Col) : (m.reholder c).suspension = m.suspension := rfl
@[simp] theorem Matrix.reholder_granting (m : Matrix) (c : Col) : (m.reholder c).granting = m.granting := rfl

@[simp] theorem Matrix.returnSlot_points (m : Matrix) : (m.returnSlot).points = m.points := rfl
@[simp] theorem Matrix.returnSlot_columns (m : Matrix) : (m.returnSlot).columns = m.columns := rfl
@[simp] theorem Matrix.returnSlot_rows (m : Matrix) : (m.returnSlot).rows = m.rows := rfl
@[simp] theorem Matrix.returnSlot_claims (m : Matrix) : (m.returnSlot).claims = m.claims := rfl
@[simp] theorem Matrix.returnSlot_queue (m : Matrix) : (m.returnSlot).queue = m.queue := rfl
@[simp] theorem Matrix.returnSlot_suspension (m : Matrix) : (m.returnSlot).suspension = m.suspension := rfl
@[simp] theorem Matrix.returnSlot_granting (m : Matrix) : (m.returnSlot).granting = m.granting := rfl

theorem Matrix.onPoint_point (m : Matrix) (t u : Tx) (c d : Col) (f : Crosspoint → Crosspoint) :
    (m.onPoint t c f).point u d = if u = t ∧ d = c then f (m.point t c) else m.point u d := by
  simp only [Matrix.point, Matrix.onPoint, upd_get]
  by_cases h : u = t <;> by_cases h2 : d = c <;> simp [h, h2, upd_get]

theorem Matrix.onColumn_column (m : Matrix) (c d : Col) (f : Column → Column) :
    (m.onColumn c f).column d = if d = c then f (m.column c) else m.column d := by
  simp only [Matrix.column, Matrix.onColumn, upd_get]

theorem Matrix.onRow_row (m : Matrix) (t u : Tx) (f : RowRecord → RowRecord) :
    (m.onRow t f).row u = if u = t then f (m.row t) else m.row u := by
  simp only [Matrix.row, Matrix.onRow, upd_get]

/-! ### Operations on the other blocks -/

@[simp] theorem State.onOut_pending (s : State) (f : Outbox → Outbox) : (s.onOut f).pending = s.pending := rfl
@[simp] theorem State.onOut_sampling (s : State) (f : Outbox → Outbox) : (s.onOut f).sampling = s.sampling := rfl
@[simp] theorem State.onOut_link (s : State) (f : Outbox → Outbox) : (s.onOut f).link = s.link := rfl
@[simp] theorem State.onOut_clock (s : State) (f : Outbox → Outbox) : (s.onOut f).clock = s.clock := rfl
@[simp] theorem State.onOut_store (s : State) (f : Outbox → Outbox) : (s.onOut f).store = s.store := rfl
@[simp] theorem State.onOut_check (s : State) (f : Outbox → Outbox) : (s.onOut f).check = s.check := rfl
@[simp] theorem State.onOut_engine (s : State) (f : Outbox → Outbox) : (s.onOut f).engine = s.engine := rfl
@[simp] theorem State.onOut_matrix (s : State) (f : Outbox → Outbox) : (s.onOut f).matrix = s.matrix := rfl
@[simp] theorem State.onOut_stations (s : State) (f : Outbox → Outbox) : (s.onOut f).stations = s.stations := rfl
@[simp] theorem State.onOut_limits (s : State) (f : Outbox → Outbox) : (s.onOut f).limits = s.limits := rfl
@[simp] theorem State.onOut_protection (s : State) (f : Outbox → Outbox) :
    (s.onOut f).protection = s.protection := rfl
@[simp] theorem State.onOut_mains (s : State) (f : Outbox → Outbox) : (s.onOut f).mains = s.mains := rfl
@[simp] theorem State.onOut_ilu (s : State) (f : Outbox → Outbox) : (s.onOut f).ilu = s.ilu := rfl
@[simp] theorem State.onOut_lines (s : State) (f : Outbox → Outbox) : (s.onOut f).lines = s.lines := rfl
@[simp] theorem State.onOut_boot (s : State) (f : Outbox → Outbox) : (s.onOut f).boot = s.boot := rfl
@[simp] theorem State.onOut_freeCount (s : State) (f : Outbox → Outbox) : (s.onOut f).freeCount = s.freeCount := rfl

@[simp] theorem State.onOut_out (s : State) (f : Outbox → Outbox) : (s.onOut f).out = f s.out := rfl

@[simp] theorem State.onClock_pending (s : State) (f : Clock → Clock) : (s.onClock f).pending = s.pending := rfl
@[simp] theorem State.onClock_sampling (s : State) (f : Clock → Clock) : (s.onClock f).sampling = s.sampling := rfl
@[simp] theorem State.onClock_out (s : State) (f : Clock → Clock) : (s.onClock f).out = s.out := rfl
@[simp] theorem State.onClock_link (s : State) (f : Clock → Clock) : (s.onClock f).link = s.link := rfl
@[simp] theorem State.onClock_store (s : State) (f : Clock → Clock) : (s.onClock f).store = s.store := rfl
@[simp] theorem State.onClock_check (s : State) (f : Clock → Clock) : (s.onClock f).check = s.check := rfl
@[simp] theorem State.onClock_engine (s : State) (f : Clock → Clock) : (s.onClock f).engine = s.engine := rfl
@[simp] theorem State.onClock_matrix (s : State) (f : Clock → Clock) : (s.onClock f).matrix = s.matrix := rfl
@[simp] theorem State.onClock_stations (s : State) (f : Clock → Clock) : (s.onClock f).stations = s.stations := rfl
@[simp] theorem State.onClock_limits (s : State) (f : Clock → Clock) : (s.onClock f).limits = s.limits := rfl
@[simp] theorem State.onClock_protection (s : State) (f : Clock → Clock) :
    (s.onClock f).protection = s.protection := rfl
@[simp] theorem State.onClock_mains (s : State) (f : Clock → Clock) : (s.onClock f).mains = s.mains := rfl
@[simp] theorem State.onClock_ilu (s : State) (f : Clock → Clock) : (s.onClock f).ilu = s.ilu := rfl
@[simp] theorem State.onClock_lines (s : State) (f : Clock → Clock) : (s.onClock f).lines = s.lines := rfl
@[simp] theorem State.onClock_boot (s : State) (f : Clock → Clock) : (s.onClock f).boot = s.boot := rfl
@[simp] theorem State.onClock_freeCount (s : State) (f : Clock → Clock) : (s.onClock f).freeCount = s.freeCount := rfl

@[simp] theorem State.onClock_clock (s : State) (f : Clock → Clock) : (s.onClock f).clock = f s.clock := rfl

@[simp] theorem State.onStore_pending (s : State) (f : Store → Store) : (s.onStore f).pending = s.pending := rfl
@[simp] theorem State.onStore_sampling (s : State) (f : Store → Store) : (s.onStore f).sampling = s.sampling := rfl
@[simp] theorem State.onStore_out (s : State) (f : Store → Store) : (s.onStore f).out = s.out := rfl
@[simp] theorem State.onStore_link (s : State) (f : Store → Store) : (s.onStore f).link = s.link := rfl
@[simp] theorem State.onStore_clock (s : State) (f : Store → Store) : (s.onStore f).clock = s.clock := rfl
@[simp] theorem State.onStore_check (s : State) (f : Store → Store) : (s.onStore f).check = s.check := rfl
@[simp] theorem State.onStore_engine (s : State) (f : Store → Store) : (s.onStore f).engine = s.engine := rfl
@[simp] theorem State.onStore_matrix (s : State) (f : Store → Store) : (s.onStore f).matrix = s.matrix := rfl
@[simp] theorem State.onStore_stations (s : State) (f : Store → Store) : (s.onStore f).stations = s.stations := rfl
@[simp] theorem State.onStore_limits (s : State) (f : Store → Store) : (s.onStore f).limits = s.limits := rfl
@[simp] theorem State.onStore_protection (s : State) (f : Store → Store) :
    (s.onStore f).protection = s.protection := rfl
@[simp] theorem State.onStore_mains (s : State) (f : Store → Store) : (s.onStore f).mains = s.mains := rfl
@[simp] theorem State.onStore_ilu (s : State) (f : Store → Store) : (s.onStore f).ilu = s.ilu := rfl
@[simp] theorem State.onStore_lines (s : State) (f : Store → Store) : (s.onStore f).lines = s.lines := rfl
@[simp] theorem State.onStore_boot (s : State) (f : Store → Store) : (s.onStore f).boot = s.boot := rfl
@[simp] theorem State.onStore_freeCount (s : State) (f : Store → Store) : (s.onStore f).freeCount = s.freeCount := rfl

@[simp] theorem State.onStore_store (s : State) (f : Store → Store) : (s.onStore f).store = f s.store := rfl

@[simp] theorem State.onEngine_pending (s : State) (f : Engine → Engine) : (s.onEngine f).pending = s.pending := rfl
@[simp] theorem State.onEngine_sampling (s : State) (f : Engine → Engine) :
    (s.onEngine f).sampling = s.sampling := rfl
@[simp] theorem State.onEngine_out (s : State) (f : Engine → Engine) : (s.onEngine f).out = s.out := rfl
@[simp] theorem State.onEngine_link (s : State) (f : Engine → Engine) : (s.onEngine f).link = s.link := rfl
@[simp] theorem State.onEngine_clock (s : State) (f : Engine → Engine) : (s.onEngine f).clock = s.clock := rfl
@[simp] theorem State.onEngine_store (s : State) (f : Engine → Engine) : (s.onEngine f).store = s.store := rfl
@[simp] theorem State.onEngine_check (s : State) (f : Engine → Engine) : (s.onEngine f).check = s.check := rfl
@[simp] theorem State.onEngine_matrix (s : State) (f : Engine → Engine) : (s.onEngine f).matrix = s.matrix := rfl
@[simp] theorem State.onEngine_stations (s : State) (f : Engine → Engine) :
    (s.onEngine f).stations = s.stations := rfl
@[simp] theorem State.onEngine_limits (s : State) (f : Engine → Engine) : (s.onEngine f).limits = s.limits := rfl
@[simp] theorem State.onEngine_protection (s : State) (f : Engine → Engine) :
    (s.onEngine f).protection = s.protection := rfl
@[simp] theorem State.onEngine_mains (s : State) (f : Engine → Engine) : (s.onEngine f).mains = s.mains := rfl
@[simp] theorem State.onEngine_ilu (s : State) (f : Engine → Engine) : (s.onEngine f).ilu = s.ilu := rfl
@[simp] theorem State.onEngine_lines (s : State) (f : Engine → Engine) : (s.onEngine f).lines = s.lines := rfl
@[simp] theorem State.onEngine_boot (s : State) (f : Engine → Engine) : (s.onEngine f).boot = s.boot := rfl
@[simp] theorem State.onEngine_freeCount (s : State) (f : Engine → Engine) :
    (s.onEngine f).freeCount = s.freeCount := rfl

@[simp] theorem State.onEngine_engine (s : State) (f : Engine → Engine) : (s.onEngine f).engine = f s.engine := rfl

@[simp] theorem State.onIlu_pending (s : State) (f : Interlocks → Interlocks) : (s.onIlu f).pending = s.pending := rfl
@[simp] theorem State.onIlu_sampling (s : State) (f : Interlocks → Interlocks) :
    (s.onIlu f).sampling = s.sampling := rfl
@[simp] theorem State.onIlu_out (s : State) (f : Interlocks → Interlocks) : (s.onIlu f).out = s.out := rfl
@[simp] theorem State.onIlu_link (s : State) (f : Interlocks → Interlocks) : (s.onIlu f).link = s.link := rfl
@[simp] theorem State.onIlu_clock (s : State) (f : Interlocks → Interlocks) : (s.onIlu f).clock = s.clock := rfl
@[simp] theorem State.onIlu_store (s : State) (f : Interlocks → Interlocks) : (s.onIlu f).store = s.store := rfl
@[simp] theorem State.onIlu_check (s : State) (f : Interlocks → Interlocks) : (s.onIlu f).check = s.check := rfl
@[simp] theorem State.onIlu_engine (s : State) (f : Interlocks → Interlocks) : (s.onIlu f).engine = s.engine := rfl
@[simp] theorem State.onIlu_matrix (s : State) (f : Interlocks → Interlocks) : (s.onIlu f).matrix = s.matrix := rfl
@[simp] theorem State.onIlu_stations (s : State) (f : Interlocks → Interlocks) :
    (s.onIlu f).stations = s.stations := rfl
@[simp] theorem State.onIlu_limits (s : State) (f : Interlocks → Interlocks) : (s.onIlu f).limits = s.limits := rfl
@[simp] theorem State.onIlu_protection (s : State) (f : Interlocks → Interlocks) :
    (s.onIlu f).protection = s.protection := rfl
@[simp] theorem State.onIlu_mains (s : State) (f : Interlocks → Interlocks) : (s.onIlu f).mains = s.mains := rfl
@[simp] theorem State.onIlu_lines (s : State) (f : Interlocks → Interlocks) : (s.onIlu f).lines = s.lines := rfl
@[simp] theorem State.onIlu_boot (s : State) (f : Interlocks → Interlocks) : (s.onIlu f).boot = s.boot := rfl
@[simp] theorem State.onIlu_freeCount (s : State) (f : Interlocks → Interlocks) :
    (s.onIlu f).freeCount = s.freeCount := rfl

@[simp] theorem State.onIlu_ilu (s : State) (f : Interlocks → Interlocks) : (s.onIlu f).ilu = f s.ilu := rfl

@[simp] theorem State.onLink_pending (s : State) (f : HostLink → HostLink) : (s.onLink f).pending = s.pending := rfl
@[simp] theorem State.onLink_sampling (s : State) (f : HostLink → HostLink) :
    (s.onLink f).sampling = s.sampling := rfl
@[simp] theorem State.onLink_out (s : State) (f : HostLink → HostLink) : (s.onLink f).out = s.out := rfl
@[simp] theorem State.onLink_clock (s : State) (f : HostLink → HostLink) : (s.onLink f).clock = s.clock := rfl
@[simp] theorem State.onLink_store (s : State) (f : HostLink → HostLink) : (s.onLink f).store = s.store := rfl
@[simp] theorem State.onLink_check (s : State) (f : HostLink → HostLink) : (s.onLink f).check = s.check := rfl
@[simp] theorem State.onLink_engine (s : State) (f : HostLink → HostLink) : (s.onLink f).engine = s.engine := rfl
@[simp] theorem State.onLink_matrix (s : State) (f : HostLink → HostLink) : (s.onLink f).matrix = s.matrix := rfl
@[simp] theorem State.onLink_stations (s : State) (f : HostLink → HostLink) :
    (s.onLink f).stations = s.stations := rfl
@[simp] theorem State.onLink_limits (s : State) (f : HostLink → HostLink) : (s.onLink f).limits = s.limits := rfl
@[simp] theorem State.onLink_protection (s : State) (f : HostLink → HostLink) :
    (s.onLink f).protection = s.protection := rfl
@[simp] theorem State.onLink_mains (s : State) (f : HostLink → HostLink) : (s.onLink f).mains = s.mains := rfl
@[simp] theorem State.onLink_ilu (s : State) (f : HostLink → HostLink) : (s.onLink f).ilu = s.ilu := rfl
@[simp] theorem State.onLink_lines (s : State) (f : HostLink → HostLink) : (s.onLink f).lines = s.lines := rfl
@[simp] theorem State.onLink_boot (s : State) (f : HostLink → HostLink) : (s.onLink f).boot = s.boot := rfl
@[simp] theorem State.onLink_freeCount (s : State) (f : HostLink → HostLink) :
    (s.onLink f).freeCount = s.freeCount := rfl

@[simp] theorem State.onLink_link (s : State) (f : HostLink → HostLink) : (s.onLink f).link = f s.link := rfl

@[simp] theorem State.onLine_pending (s : State) (l : Line) (f : FieldLine → FieldLine) :
    (s.onLine l f).pending = s.pending := rfl
@[simp] theorem State.onLine_sampling (s : State) (l : Line) (f : FieldLine → FieldLine) :
    (s.onLine l f).sampling = s.sampling := rfl
@[simp] theorem State.onLine_out (s : State) (l : Line) (f : FieldLine → FieldLine) :
    (s.onLine l f).out = s.out := rfl
@[simp] theorem State.onLine_link (s : State) (l : Line) (f : FieldLine → FieldLine) :
    (s.onLine l f).link = s.link := rfl
@[simp] theorem State.onLine_clock (s : State) (l : Line) (f : FieldLine → FieldLine) :
    (s.onLine l f).clock = s.clock := rfl
@[simp] theorem State.onLine_store (s : State) (l : Line) (f : FieldLine → FieldLine) :
    (s.onLine l f).store = s.store := rfl
@[simp] theorem State.onLine_check (s : State) (l : Line) (f : FieldLine → FieldLine) :
    (s.onLine l f).check = s.check := rfl
@[simp] theorem State.onLine_engine (s : State) (l : Line) (f : FieldLine → FieldLine) :
    (s.onLine l f).engine = s.engine := rfl
@[simp] theorem State.onLine_matrix (s : State) (l : Line) (f : FieldLine → FieldLine) :
    (s.onLine l f).matrix = s.matrix := rfl
@[simp] theorem State.onLine_stations (s : State) (l : Line) (f : FieldLine → FieldLine) :
    (s.onLine l f).stations = s.stations := rfl
@[simp] theorem State.onLine_limits (s : State) (l : Line) (f : FieldLine → FieldLine) :
    (s.onLine l f).limits = s.limits := rfl
@[simp] theorem State.onLine_protection (s : State) (l : Line) (f : FieldLine → FieldLine) :
    (s.onLine l f).protection = s.protection := rfl
@[simp] theorem State.onLine_mains (s : State) (l : Line) (f : FieldLine → FieldLine) :
    (s.onLine l f).mains = s.mains := rfl
@[simp] theorem State.onLine_ilu (s : State) (l : Line) (f : FieldLine → FieldLine) :
    (s.onLine l f).ilu = s.ilu := rfl
@[simp] theorem State.onLine_boot (s : State) (l : Line) (f : FieldLine → FieldLine) :
    (s.onLine l f).boot = s.boot := rfl
@[simp] theorem State.onLine_freeCount (s : State) (l : Line) (f : FieldLine → FieldLine) :
    (s.onLine l f).freeCount = s.freeCount := rfl

@[simp] theorem State.onLine_lines (s : State) (l : Line) (f : FieldLine → FieldLine) :
    (s.onLine l f).lines = upd s.lines l (f (s.lines.get l)) := rfl

@[simp] theorem State.answer_pending (s : State) (k t : Byte) (v : Verdict) :
    (s.answer k t v).pending = s.pending := rfl
@[simp] theorem State.answer_sampling (s : State) (k t : Byte) (v : Verdict) :
    (s.answer k t v).sampling = s.sampling := rfl
@[simp] theorem State.answer_out (s : State) (k t : Byte) (v : Verdict) : (s.answer k t v).out = s.out := rfl
@[simp] theorem State.answer_clock (s : State) (k t : Byte) (v : Verdict) : (s.answer k t v).clock = s.clock := rfl
@[simp] theorem State.answer_store (s : State) (k t : Byte) (v : Verdict) : (s.answer k t v).store = s.store := rfl
@[simp] theorem State.answer_check (s : State) (k t : Byte) (v : Verdict) : (s.answer k t v).check = s.check := rfl
@[simp] theorem State.answer_engine (s : State) (k t : Byte) (v : Verdict) : (s.answer k t v).engine = s.engine := rfl
@[simp] theorem State.answer_matrix (s : State) (k t : Byte) (v : Verdict) : (s.answer k t v).matrix = s.matrix := rfl
@[simp] theorem State.answer_stations (s : State) (k t : Byte) (v : Verdict) :
    (s.answer k t v).stations = s.stations := rfl
@[simp] theorem State.answer_limits (s : State) (k t : Byte) (v : Verdict) : (s.answer k t v).limits = s.limits := rfl
@[simp] theorem State.answer_protection (s : State) (k t : Byte) (v : Verdict) :
    (s.answer k t v).protection = s.protection := rfl
@[simp] theorem State.answer_mains (s : State) (k t : Byte) (v : Verdict) : (s.answer k t v).mains = s.mains := rfl
@[simp] theorem State.answer_ilu (s : State) (k t : Byte) (v : Verdict) : (s.answer k t v).ilu = s.ilu := rfl
@[simp] theorem State.answer_lines (s : State) (k t : Byte) (v : Verdict) : (s.answer k t v).lines = s.lines := rfl
@[simp] theorem State.answer_boot (s : State) (k t : Byte) (v : Verdict) : (s.answer k t v).boot = s.boot := rfl
@[simp] theorem State.answer_freeCount (s : State) (k t : Byte) (v : Verdict) :
    (s.answer k t v).freeCount = s.freeCount := rfl

@[simp] theorem State.answer_reply (s : State) (k t : Byte) (v : Verdict) :
    (s.answer k t v).link.reply = some { kind := k, tag := t, verdict := v } := rfl
@[simp] theorem State.answer_receiver (s : State) (k t : Byte) (v : Verdict) :
    (s.answer k t v).link.receiver = s.link.receiver := rfl
@[simp] theorem State.answer_gap (s : State) (k t : Byte) (v : Verdict) :
    (s.answer k t v).link.gap = s.link.gap := rfl
@[simp] theorem State.answer_queue (s : State) (k t : Byte) (v : Verdict) :
    (s.answer k t v).link.queue = s.link.queue := rfl
@[simp] theorem State.answer_taking (s : State) (k t : Byte) (v : Verdict) :
    (s.answer k t v).link.taking = s.link.taking := rfl
@[simp] theorem State.answer_refusal (s : State) (k t : Byte) (v : Verdict) :
    (s.answer k t v).link.refusal = s.link.refusal := rfl
@[simp] theorem State.answer_line (s : State) (k t : Byte) (v : Verdict) :
    (s.answer k t v).link.line = s.link.line := rfl
@[simp] theorem State.answer_fast (s : State) (k t : Byte) (v : Verdict) :
    (s.answer k t v).link.fast = s.link.fast := rfl

@[simp] theorem State.settled_pending (s : State) : (s.settled).pending = s.pending := rfl
@[simp] theorem State.settled_sampling (s : State) : (s.settled).sampling = s.sampling := rfl
@[simp] theorem State.settled_out (s : State) : (s.settled).out = s.out := rfl
@[simp] theorem State.settled_link (s : State) : (s.settled).link = s.link := rfl
@[simp] theorem State.settled_clock (s : State) : (s.settled).clock = s.clock := rfl
@[simp] theorem State.settled_check (s : State) : (s.settled).check = s.check := rfl
@[simp] theorem State.settled_engine (s : State) : (s.settled).engine = s.engine := rfl
@[simp] theorem State.settled_matrix (s : State) : (s.settled).matrix = s.matrix := rfl
@[simp] theorem State.settled_stations (s : State) : (s.settled).stations = s.stations := rfl
@[simp] theorem State.settled_limits (s : State) : (s.settled).limits = s.limits := rfl
@[simp] theorem State.settled_protection (s : State) : (s.settled).protection = s.protection := rfl
@[simp] theorem State.settled_mains (s : State) : (s.settled).mains = s.mains := rfl
@[simp] theorem State.settled_ilu (s : State) : (s.settled).ilu = s.ilu := rfl
@[simp] theorem State.settled_lines (s : State) : (s.settled).lines = s.lines := rfl
@[simp] theorem State.settled_boot (s : State) : (s.settled).boot = s.boot := rfl
@[simp] theorem State.settled_freeCount (s : State) : (s.settled).freeCount = s.freeCount := rfl

@[simp] theorem State.settled_banks (s : State) : s.settled.store.banks = s.store.banks := rfl
@[simp] theorem State.settled_op (s : State) : s.settled.store.op = s.store.op := rfl
@[simp] theorem State.settled_opTicks (s : State) : s.settled.store.opTicks = s.store.opTicks := rfl
@[simp] theorem State.settled_settings (s : State) : s.settled.store.settings = s.store.settings := rfl
@[simp] theorem State.settled_autorun (s : State) : s.settled.store.autorun = s.store.autorun := rfl
@[simp] theorem State.settled_warmAdopt (s : State) : s.settled.store.warmAdopt = s.store.warmAdopt := rfl
@[simp] theorem State.settled_serial (s : State) : s.settled.store.serial = s.store.serial := rfl
@[simp] theorem State.settled_cellWrites (s : State) : s.settled.store.cellWrites = [] := rfl
@[simp] theorem State.settled_settled (s : State) : s.settled.settled = s.settled := rfl

@[simp] theorem Store.onBank_op (k : Store) (b : Bank) (f : SeasonBank → SeasonBank) : (k.onBank b f).op = k.op := rfl
@[simp] theorem Store.onBank_opTicks (k : Store) (b : Bank) (f : SeasonBank → SeasonBank) :
    (k.onBank b f).opTicks = k.opTicks := rfl
@[simp] theorem Store.onBank_settings (k : Store) (b : Bank) (f : SeasonBank → SeasonBank) :
    (k.onBank b f).settings = k.settings := rfl
@[simp] theorem Store.onBank_autorun (k : Store) (b : Bank) (f : SeasonBank → SeasonBank) :
    (k.onBank b f).autorun = k.autorun := rfl
@[simp] theorem Store.onBank_warmAdopt (k : Store) (b : Bank) (f : SeasonBank → SeasonBank) :
    (k.onBank b f).warmAdopt = k.warmAdopt := rfl
@[simp] theorem Store.onBank_serial (k : Store) (b : Bank) (f : SeasonBank → SeasonBank) :
    (k.onBank b f).serial = k.serial := rfl
@[simp] theorem Store.onBank_cellWrites (k : Store) (b : Bank) (f : SeasonBank → SeasonBank) :
    (k.onBank b f).cellWrites = k.cellWrites := rfl
@[simp] theorem Store.onBank_banks (k : Store) (b : Bank) (f : SeasonBank → SeasonBank) :
    (k.onBank b f).banks = upd k.banks b (f (k.bank b)) := rfl
@[simp] theorem Store.writeCell_op (k : Store) (b : Bank) (f : SeasonBank → SeasonBank) :
    (k.writeCell b f).op = k.op := rfl
@[simp] theorem Store.writeCell_opTicks (k : Store) (b : Bank) (f : SeasonBank → SeasonBank) :
    (k.writeCell b f).opTicks = k.opTicks := rfl
@[simp] theorem Store.writeCell_settings (k : Store) (b : Bank) (f : SeasonBank → SeasonBank) :
    (k.writeCell b f).settings = k.settings := rfl
@[simp] theorem Store.writeCell_autorun (k : Store) (b : Bank) (f : SeasonBank → SeasonBank) :
    (k.writeCell b f).autorun = k.autorun := rfl
@[simp] theorem Store.writeCell_warmAdopt (k : Store) (b : Bank) (f : SeasonBank → SeasonBank) :
    (k.writeCell b f).warmAdopt = k.warmAdopt := rfl
@[simp] theorem Store.writeCell_serial (k : Store) (b : Bank) (f : SeasonBank → SeasonBank) :
    (k.writeCell b f).serial = k.serial := rfl
@[simp] theorem Store.writeCell_banks (k : Store) (b : Bank) (f : SeasonBank → SeasonBank) :
    (k.writeCell b f).banks = upd k.banks b (f (k.bank b)) := rfl
@[simp] theorem Store.writeCell_cellWrites (k : Store) (b : Bank) (f : SeasonBank → SeasonBank) :
    (k.writeCell b f).cellWrites = k.cellWrites ++ [(b, (k.bank b).cell)] := rfl

/-! ### The outbox -/

@[simp] theorem Outbox.hand_sources (o : Outbox) (i : Instr) : (o.hand i).sources = o.sources := rfl
@[simp] theorem Outbox.hand_enables (o : Outbox) (i : Instr) : (o.hand i).enables = o.enables := rfl
@[simp] theorem Outbox.hand_notices (o : Outbox) (i : Instr) : (o.hand i).notices = o.notices := rfl
@[simp] theorem Outbox.hand_noticeLost (o : Outbox) (i : Instr) : (o.hand i).noticeLost = o.noticeLost := rfl
@[simp] theorem Outbox.hand_log (o : Outbox) (i : Instr) : (o.hand i).log = o.log := rfl
@[simp] theorem Outbox.hand_port (o : Outbox) (i : Instr) : (o.hand i).port = o.port := rfl
@[simp] theorem Outbox.hand_link (o : Outbox) (i : Instr) : (o.hand i).link = o.link := rfl

@[simp] theorem Outbox.hand_handed (o : Outbox) (i : Instr) : (o.hand i).handed = o.handed ++ [i] := rfl
@[simp] theorem Outbox.handAll_sources (o : Outbox) (is : List Instr) : (o.handAll is).sources = o.sources := rfl
@[simp] theorem Outbox.handAll_enables (o : Outbox) (is : List Instr) : (o.handAll is).enables = o.enables := rfl
@[simp] theorem Outbox.handAll_notices (o : Outbox) (is : List Instr) : (o.handAll is).notices = o.notices := rfl
@[simp] theorem Outbox.handAll_noticeLost (o : Outbox) (is : List Instr) :
    (o.handAll is).noticeLost = o.noticeLost := rfl
@[simp] theorem Outbox.handAll_log (o : Outbox) (is : List Instr) : (o.handAll is).log = o.log := rfl
@[simp] theorem Outbox.handAll_port (o : Outbox) (is : List Instr) : (o.handAll is).port = o.port := rfl
@[simp] theorem Outbox.handAll_link (o : Outbox) (is : List Instr) : (o.handAll is).link = o.link := rfl

@[simp] theorem Outbox.handAll_handed (o : Outbox) (is : List Instr) : (o.handAll is).handed = o.handed ++ is := rfl
@[simp] theorem Outbox.order_handed (o : Outbox) (t : Tx) (p : PortOrder) : (o.order t p).handed = o.handed := rfl
@[simp] theorem Outbox.order_sources (o : Outbox) (t : Tx) (p : PortOrder) : (o.order t p).sources = o.sources := rfl
@[simp] theorem Outbox.order_enables (o : Outbox) (t : Tx) (p : PortOrder) : (o.order t p).enables = o.enables := rfl
@[simp] theorem Outbox.order_notices (o : Outbox) (t : Tx) (p : PortOrder) : (o.order t p).notices = o.notices := rfl
@[simp] theorem Outbox.order_noticeLost (o : Outbox) (t : Tx) (p : PortOrder) :
    (o.order t p).noticeLost = o.noticeLost := rfl
@[simp] theorem Outbox.order_log (o : Outbox) (t : Tx) (p : PortOrder) : (o.order t p).log = o.log := rfl
@[simp] theorem Outbox.order_link (o : Outbox) (t : Tx) (p : PortOrder) : (o.order t p).link = o.link := rfl

@[simp] theorem Outbox.order_port (o : Outbox) (t : Tx) (p : PortOrder) :
    (o.order t p).port = o.port ++ [(t, p)] := rfl
@[simp] theorem Outbox.send_handed (o : Outbox) (m : MatrixOrder) : (o.send m).handed = o.handed := rfl
@[simp] theorem Outbox.send_sources (o : Outbox) (m : MatrixOrder) : (o.send m).sources = o.sources := rfl
@[simp] theorem Outbox.send_enables (o : Outbox) (m : MatrixOrder) : (o.send m).enables = o.enables := rfl
@[simp] theorem Outbox.send_notices (o : Outbox) (m : MatrixOrder) : (o.send m).notices = o.notices := rfl
@[simp] theorem Outbox.send_noticeLost (o : Outbox) (m : MatrixOrder) : (o.send m).noticeLost = o.noticeLost := rfl
@[simp] theorem Outbox.send_log (o : Outbox) (m : MatrixOrder) : (o.send m).log = o.log := rfl
@[simp] theorem Outbox.send_port (o : Outbox) (m : MatrixOrder) : (o.send m).port = o.port := rfl

@[simp] theorem Outbox.send_link (o : Outbox) (m : MatrixOrder) : (o.send m).link = o.link ++ [m] := rfl
@[simp] theorem Outbox.raise_handed (o : Outbox) (e : Event) : (o.raise e).handed = o.handed := rfl
@[simp] theorem Outbox.raise_enables (o : Outbox) (e : Event) : (o.raise e).enables = o.enables := rfl
@[simp] theorem Outbox.raise_log (o : Outbox) (e : Event) : (o.raise e).log = o.log := rfl
@[simp] theorem Outbox.raise_port (o : Outbox) (e : Event) : (o.raise e).port = o.port := rfl
@[simp] theorem Outbox.raise_link (o : Outbox) (e : Event) : (o.raise e).link = o.link := rfl

@[simp] theorem Outbox.raise_sources (o : Outbox) (e : Event) :
    (o.raise e).sources = setBit o.sources e.kind.class := rfl
@[simp] theorem Outbox.event_handed (o : Outbox) (k : EventKind) (x : Subject) (d : List Byte) :
    (o.event k x d).handed = o.handed := rfl
@[simp] theorem Outbox.event_enables (o : Outbox) (k : EventKind) (x : Subject) (d : List Byte) :
    (o.event k x d).enables = o.enables := rfl
@[simp] theorem Outbox.event_log (o : Outbox) (k : EventKind) (x : Subject) (d : List Byte) :
    (o.event k x d).log = o.log := rfl
@[simp] theorem Outbox.event_port (o : Outbox) (k : EventKind) (x : Subject) (d : List Byte) :
    (o.event k x d).port = o.port := rfl
@[simp] theorem Outbox.event_link (o : Outbox) (k : EventKind) (x : Subject) (d : List Byte) :
    (o.event k x d).link = o.link := rfl

@[simp] theorem Outbox.event_sources (o : Outbox) (k : EventKind) (x : Subject) (d : List Byte) :
    (o.event k x d).sources = setBit o.sources k.class := rfl
@[simp] theorem Outbox.forget_sources (o : Outbox) (m : Member) : (o.forget m).sources = o.sources := rfl
@[simp] theorem Outbox.forget_enables (o : Outbox) (m : Member) : (o.forget m).enables = o.enables := rfl
@[simp] theorem Outbox.forget_notices (o : Outbox) (m : Member) : (o.forget m).notices = o.notices := rfl
@[simp] theorem Outbox.forget_noticeLost (o : Outbox) (m : Member) : (o.forget m).noticeLost = o.noticeLost := rfl
@[simp] theorem Outbox.forget_log (o : Outbox) (m : Member) : (o.forget m).log = o.log := rfl
@[simp] theorem Outbox.forget_port (o : Outbox) (m : Member) : (o.forget m).port = o.port := rfl
@[simp] theorem Outbox.forget_link (o : Outbox) (m : Member) : (o.forget m).link = o.link := rfl

end Machine

end Sys2Proof
end

