-- ==== Sys2Proof/Laws/Engine.lean ====
section
/-! SUPPORT. What the Schedule Engine's shared operations can do, said once: sorting, gathering the firings of a minute,
and the records of the Carried List. -/

namespace Sys2Proof.Machine

/-! ### Sorting -/

theorem insertBy_perm {α : Type} (key : α → Nat) (x : α) (ys : List α) : (insertBy key x ys).Perm (x :: ys) := by
  induction ys with
  | nil => exact .refl _
  | cons y ys ih =>
    simp only [insertBy]
    split
    · exact .refl _
    · exact (ih.cons y).trans (.swap x y ys)

theorem insertBy_sorted {α : Type} (key : α → Nat) (x : α) (ys : List α)
    (h : ys.Pairwise fun a b => key a ≤ key b) : (insertBy key x ys).Pairwise fun a b => key a ≤ key b := by
  induction ys with
  | nil => simp [insertBy]
  | cons y ys ih =>
    obtain ⟨hy, hs⟩ := List.pairwise_cons.mp h
    simp only [insertBy]
    split
    next hx =>
      refine List.pairwise_cons.mpr ⟨fun a ha => ?_, h⟩
      rcases List.mem_cons.mp ha with rfl | ha
      · omega
      · have := hy a ha; omega
    next hx =>
      refine List.pairwise_cons.mpr ⟨fun a ha => ?_, ih hs⟩
      rcases List.mem_cons.mp ((insertBy_perm key x ys).mem_iff.mp ha) with rfl | ha
      · omega
      · exact hy a ha

theorem sortBy_perm {α : Type} (key : α → Nat) (xs : List α) : (sortBy key xs).Perm xs := by
  have h : ∀ (xs acc : List α), (xs.foldl (fun ys x => insertBy key x ys) acc).Perm (xs ++ acc) := by
    intro xs
    induction xs with
    | nil => exact fun acc => .refl _
    | cons x xs ih =>
      exact fun acc => (ih _).trans (((insertBy_perm key x acc).append_left xs).trans List.perm_middle)
  unfold sortBy
  simpa using h xs []

theorem sortBy_sorted {α : Type} (key : α → Nat) (xs : List α) :
    (sortBy key xs).Pairwise fun a b => key a ≤ key b := by
  have h : ∀ (xs acc : List α), acc.Pairwise (fun a b => key a ≤ key b) →
      (xs.foldl (fun ys x => insertBy key x ys) acc).Pairwise fun a b => key a ≤ key b := by
    intro xs
    induction xs with
    | nil => exact fun acc ha => ha
    | cons x xs ih => exact fun acc ha => ih _ (insertBy_sorted key x acc ha)
  exact h xs [] .nil

/-! ### Gathering (R69, R70) -/

theorem nodup_eraseDups {α : Type} [DecidableEq α] (l : List α) : l.eraseDups.Nodup := by
  have h : ∀ (n : Nat) (l : List α), l.length ≤ n → l.eraseDups.Nodup := by
    intro n
    induction n with
    | zero => intro l hl; simp [List.length_eq_zero_iff.mp (Nat.le_zero.mp hl)]
    | succ n ih =>
      intro l hl
      cases l with
      | nil => simp
      | cons x l =>
        rw [List.eraseDups_cons]
        refine List.nodup_cons.mpr ⟨?_, ih _ ?_⟩
        · simp [List.mem_eraseDups]
        · exact (List.length_filter_le _ _).trans (Nat.le_of_succ_le_succ hl)
  exact h l.length l le_rfl

/-- A minute's firings are gathered each once. -/
theorem State.gather_nodup (s : State) (x : Nat) : (s.gather x).Nodup :=
  (sortBy_perm _ _).nodup_iff.mpr (nodup_eraseDups _)

/-- A minute's firings stand in the order of R69. -/
theorem State.gather_sorted (s : State) (x : Nat) : (s.gather x).Pairwise fun f g => f.key ≤ g.key :=
  sortBy_sorted _ _

/-! ### The Carried List (R89) -/

/-- What is left of the Carried List when a work ends: every record but that work's. -/
theorem Engine.mem_uncarry (g : Engine) (t : Tx) (b : Bank) (entry day : Nat) (c : Carried) :
    c ∈ (g.uncarry t b entry day).carried ↔
      c ∈ g.carried ∧ ¬ (c.t = t ∧ c.bank = b ∧ c.entry = entry ∧ c.day = day) := by
  rw [Engine.uncarry, List.mem_filter, Bool.not_eq_true', ← Bool.not_eq_true]
  simp only [Bool.and_eq_true, beq_iff_eq, and_assoc]

/-- The Carried List after a work is carried: its record, and those of the other transmitters. -/
theorem Engine.mem_carry (g : Engine) (t : Tx) (w : SchedRef) (c : Carried) (h : c.t ≠ t) :
    c ∈ (g.carry t w).carried ↔ c ∈ g.carried := by
  simp only [Engine.carry]
  split
  · rfl
  · have : c ≠ { t := t, bank := w.bank, entry := w.entry, day := w.day, endTime := w.windowEnd } := by
      rintro rfl; exact h rfl
    simp [h, this]

/-- A carried work has its record. -/
theorem Engine.carry_record (g : Engine) (t : Tx) (w : SchedRef) :
    { t := t, bank := w.bank, entry := w.entry, day := w.day, endTime := w.windowEnd } ∈ (g.carry t w).carried := by
  simp only [Engine.carry]
  split
  · assumption
  · simp

/-- Carrying a work keeps at most one record of each transmitter. -/
theorem Engine.carry_nodup (g : Engine) (t : Tx) (w : SchedRef) (h : (g.carried.map (·.t)).Nodup) :
    ((g.carry t w).carried.map (·.t)).Nodup := by
  simp only [Engine.carry]
  split
  · exact h
  · rw [List.map_append, List.nodup_append]
    refine ⟨h.sublist (List.filter_sublist.map _), by simp, ?_⟩
    intro a ha b hb
    simp only [List.mem_map, List.mem_filter, bne_iff_ne] at ha
    obtain ⟨c, ⟨_, hc⟩, rfl⟩ := ha
    simp only [List.map_cons, List.map_nil, List.mem_singleton] at hb
    exact hb ▸ hc

end Sys2Proof.Machine
end

