-- ==== Sys2Proof/Laws/Ops.lean ====
section
/-! SUPPORT. What the shared operations can do, said once: taking a command, testing and answering a request, reporting
the row condition, writing the log, reading the vectors by place, and the matrix's claims and crosspoints. -/

namespace Sys2Proof

theorem setBit_getLsbD {n : Nat} (s : BitVec n) (i j : Nat) (hj : j < n) :
    (setBit s i).getLsbD j = (s.getLsbD j || decide (i = j)) := by
  simp only [setBit, BitVec.getLsbD_or, BitVec.getLsbD_ofNat, Nat.testBit_two_pow, hj, decide_true, Bool.true_and]

theorem without_getLsbD {n : Nat} (s r : BitVec n) (j : Nat) :
    (without s r).getLsbD j = (s.getLsbD j && !r.getLsbD j) := by
  by_cases h : j < n
  · simp [without, h]
  · have hs : s.getLsbD j = false := BitVec.getLsbD_of_ge s j (by omega)
    simp [without, hs]

theorem mapV_get {α β : Type} {n : Nat} (f : α → β) (v : Vector α n) (i : Fin n) : (mapV f v).get i = f (v.get i) := by
  simp [mapV, Vector.get]
  rfl

namespace Machine

/-! ### The vectors of the blocks, by place -/

theorem txVector_get {α : Type} (f : Tx → α) (t : Tx) : (txVector f).get t = f t := by
  fin_cases t <;> rfl

theorem colVector_get {α : Type} (f : Col → α) (c : Col) : (colVector f).get c = f c := by
  fin_cases c <;> rfl

theorem memberVector_get {α : Type} (f : Member → α) (m : Member) : (memberVector f).get m = f m := by
  fin_cases m <;> rfl

theorem lineVector_get {α : Type} (f : Line → α) (l : Line) : (lineVector f).get l = f l := by
  fin_cases l <;> rfl

/-! ### Taking a command and answering a request -/

/-- With no state cell write left of the event before, a new event finds the machine as it stands. -/
theorem State.settled_of_none (s : State) (h : s.store.cellWrites = []) : s.settled = s := by
  cases s with
  | mk a b c d e f => cases f with | mk => simp_all [State.settled]

theorem State.take_live (s : State) (f : State → State) (h : s.boot.asserted = false) : s.take f = .next (f s.settled) := by
  simp [State.take, h]

theorem State.take_held (s : State) (f : State → State) (h : s.boot.asserted = true) : s.take f = .next s := by
  simp [State.take, h]

/-- A request that may be taken is given to its block. -/
theorem State.host_serves (s : State) (i : Instr) (f : State → State) (h : s.boot.asserted = false)
    (hs : s.serves = true) : s.host i f = .next (f (s.settled.onLink fun k => { k with taking := false })) := by
  have h2 : s.settled.serves = true := hs
  simp [State.host, State.take, h, h2]

/-- A request that may not be taken joins the request queue. -/
theorem State.host_waits (s : State) (i : Instr) (f : State → State) (h : s.boot.asserted = false)
    (hs : s.serves = false) : s.host i f = .next (s.settled.enqueue (.spelled i)) := by
  have h2 : s.settled.serves = false := hs
  simp [State.host, State.take, h, h2]

/-- Joining the queue leaves everything but the host link and the record of events. -/
theorem State.enqueue_frame (s : State) (r : Request) :
    { s.enqueue r with link := s.link, out := s.out } = s := by
  simp only [State.enqueue]
  split
  · rfl
  · split <;> rfl

/-- A body of the wrong length is refused before any other test. -/
theorem State.request_short (s : State) (k : Byte) (h : Head) (ts : List (Bool × Reason)) (e : State → State)
    (a : State → Answer) (hz : h.sized = false) : s.request k h ts e a = s.refuse k h.tag .badLength := by
  simp [State.request, firstFailing, hz]

/-- The first test decides, or the rest do. -/
theorem State.request_test (s : State) (k : Byte) (h : Head) (b : Bool) (r : Reason) (ts : List (Bool × Reason))
    (e : State → State) (a : State → Answer) (hz : h.sized = true) :
    s.request k h ((b, r) :: ts) e a = if b then s.refuse k h.tag r else s.request k h ts e a := by
  cases b <;> simp [State.request, firstFailing, hz]

/-- A request that passes every test has its effect and its answer. -/
theorem State.request_accepted (s : State) (k : Byte) (h : Head) (e : State → State) (a : State → Answer)
    (hz : h.sized = true) : s.request k h [] e a = (e s).answer k h.tag (.accepted (a (e s))) := by
  simp [State.request, firstFailing, hz]

/-- Every request leaves a reply of its kind and tag. -/
theorem State.request_reply (s : State) (k : Byte) (h : Head) (ts : List (Bool × Reason)) (e : State → State)
    (a : State → Answer) : ∃ v, (s.request k h ts e a).link.reply = some { kind := k, tag := h.tag, verdict := v } := by
  simp only [State.request]
  split
  · exact ⟨_, rfl⟩
  · exact ⟨_, rfl⟩

/-- A request either is refused without effect, or is accepted with its effect. -/
theorem State.request_cases (s : State) (k : Byte) (h : Head) (ts : List (Bool × Reason)) (e : State → State)
    (a : State → Answer) :
    (∃ r, s.request k h ts e a = s.refuse k h.tag r) ∨
      s.request k h ts e a = (e s).answer k h.tag (.accepted (a (e s))) := by
  simp only [State.request]
  split
  · exact Or.inl ⟨_, rfl⟩
  · exact Or.inr rfl

/-! ### The log -/

/-- The record written last stands last. -/
theorem Log.write_last (l : Log) (r : LogRecord) :
    (l.write r).records.getLast? = some { r with sequence := l.next } := by
  simp only [Log.write]
  split <;> simp

theorem Log.write_next (l : Log) (r : LogRecord) : (l.write r).next = l.next + 1 := by
  simp only [Log.write]
  split <;> rfl

/-! ### Reporting the row condition -/

/-- Reporting changes nothing of the record but the item reported. -/
theorem Bench.reportRow_tr (e : Env) (b : Bench) :
    ∃ c, (b.reportRow e).u.tr = { b.u.tr with reported := c } := by
  simp only [Bench.reportRow]
  split
  · exact ⟨b.u.tr.reported, rfl⟩
  · exact ⟨_, rfl⟩

/-- Reporting an unchanged condition does nothing. -/
theorem Bench.reportRow_same (e : Env) (b : Bench) (h : b.u.tr.condition = b.u.tr.reported) : b.reportRow e = b := by
  simp [Bench.reportRow, h]

/-- Reporting hands nothing but a report, behind what was handed before. -/
theorem Bench.reportRow_handed (e : Env) (b : Bench) :
    (b.reportRow e).o.handed = b.o.handed ∨
      (b.reportRow e).o.handed = b.o.handed ++ [.rowConditionReport e.t b.u.tr.condition] := by
  simp only [Bench.reportRow]
  split
  · exact Or.inl rfl
  · exact Or.inr rfl

@[simp] theorem Bench.reportRow_port (e : Env) (b : Bench) : (b.reportRow e).o.port = b.o.port := by
  simp only [Bench.reportRow]
  split <;> rfl

@[simp] theorem Bench.reportRow_link (e : Env) (b : Bench) : (b.reportRow e).o.link = b.o.link := by
  simp only [Bench.reportRow]
  split <;> rfl

@[simp] theorem Bench.reportRow_log (e : Env) (b : Bench) : (b.reportRow e).o.log = b.o.log := by
  simp only [Bench.reportRow]
  split <;> rfl

@[simp] theorem Bench.reportRow_sources (e : Env) (b : Bench) : (b.reportRow e).o.sources = b.o.sources := by
  simp only [Bench.reportRow]
  split <;> rfl

@[simp] theorem Bench.reportRow_enables (e : Env) (b : Bench) : (b.reportRow e).o.enables = b.o.enables := by
  simp only [Bench.reportRow]
  split <;> rfl

@[simp] theorem Bench.reportRow_notices (e : Env) (b : Bench) : (b.reportRow e).o.notices = b.o.notices := by
  simp only [Bench.reportRow]
  split <;> rfl

@[simp] theorem Bench.reportRow_noticeLost (e : Env) (b : Bench) : (b.reportRow e).o.noticeLost = b.o.noticeLost := by
  simp only [Bench.reportRow]
  split <;> rfl

@[simp] theorem Bench.reportRow_refl (e : Env) (b : Bench) : (b.reportRow e).u.refl = b.u.refl := by
  simp only [Bench.reportRow]
  split <;> rfl

@[simp] theorem Bench.reportRow_fwd (e : Env) (b : Bench) : (b.reportRow e).u.fwd = b.u.fwd := by
  simp only [Bench.reportRow]
  split <;> rfl

@[simp] theorem Bench.reportRow_absent (e : Env) (b : Bench) : (b.reportRow e).u.absent = b.u.absent := by
  simp only [Bench.reportRow]
  split <;> rfl

@[simp] theorem Bench.reportRow_desc (e : Env) (b : Bench) : (b.reportRow e).u.tr.desc = b.u.tr.desc := by
  simp only [Bench.reportRow]
  split <;> rfl

@[simp] theorem Bench.reportRow_state (e : Env) (b : Bench) : (b.reportRow e).u.tr.state = b.u.tr.state := by
  simp only [Bench.reportRow]
  split <;> rfl

@[simp] theorem Bench.reportRow_lock (e : Env) (b : Bench) : (b.reportRow e).u.tr.lock = b.u.tr.lock := by
  simp only [Bench.reportRow]
  split <;> rfl

@[simp] theorem Bench.reportRow_current (e : Env) (b : Bench) : (b.reportRow e).u.tr.current = b.u.tr.current := by
  simp only [Bench.reportRow]
  split <;> rfl

@[simp] theorem Bench.reportRow_context (e : Env) (b : Bench) : (b.reportRow e).u.tr.context = b.u.tr.context := by
  simp only [Bench.reportRow]
  split <;> rfl

@[simp] theorem Bench.reportRow_slot (e : Env) (b : Bench) : (b.reportRow e).u.tr.slot = b.u.tr.slot := by
  simp only [Bench.reportRow]
  split <;> rfl

@[simp] theorem Bench.reportRow_holds (e : Env) (b : Bench) : (b.reportRow e).u.tr.holds = b.u.tr.holds := by
  simp only [Bench.reportRow]
  split <;> rfl

@[simp] theorem Bench.reportRow_manualHold (e : Env) (b : Bench) :
    (b.reportRow e).u.tr.manualHold = b.u.tr.manualHold := by
  simp only [Bench.reportRow]
  split <;> rfl

@[simp] theorem Bench.reportRow_unmuted (e : Env) (b : Bench) : (b.reportRow e).u.tr.unmuted = b.u.tr.unmuted := by
  simp only [Bench.reportRow]
  split <;> rfl

@[simp] theorem Bench.reportRow_rf (e : Env) (b : Bench) : (b.reportRow e).u.tr.rf = b.u.tr.rf := by
  simp only [Bench.reportRow]
  split <;> rfl

@[simp] theorem Bench.reportRow_muteConfirmed (e : Env) (b : Bench) :
    (b.reportRow e).u.tr.muteConfirmed = b.u.tr.muteConfirmed := by
  simp only [Bench.reportRow]
  split <;> rfl

@[simp] theorem Bench.reportRow_silence (e : Env) (b : Bench) : (b.reportRow e).u.tr.silence = b.u.tr.silence := by
  simp only [Bench.reportRow]
  split <;> rfl

@[simp] theorem Bench.reportRow_poll (e : Env) (b : Bench) : (b.reportRow e).u.tr.poll = b.u.tr.poll := by
  simp only [Bench.reportRow]
  split <;> rfl

@[simp] theorem Bench.reportRow_openTune (e : Env) (b : Bench) : (b.reportRow e).u.tr.openTune = b.u.tr.openTune := by
  simp only [Bench.reportRow]
  split <;> rfl

@[simp] theorem Bench.reportRow_restrikes (e : Env) (b : Bench) :
    (b.reportRow e).u.tr.restrikes = b.u.tr.restrikes := by
  simp only [Bench.reportRow]
  split <;> rfl

@[simp] theorem Bench.reportRow_windowStart (e : Env) (b : Bench) :
    (b.reportRow e).u.tr.windowStart = b.u.tr.windowStart := by
  simp only [Bench.reportRow]
  split <;> rfl

@[simp] theorem Bench.reportRow_window (e : Env) (b : Bench) : (b.reportRow e).u.tr.window = b.u.tr.window := by
  simp only [Bench.reportRow]
  split <;> rfl

@[simp] theorem Bench.reportRow_stage (e : Env) (b : Bench) : (b.reportRow e).u.tr.stage = b.u.tr.stage := by
  simp only [Bench.reportRow]
  split <;> rfl

@[simp] theorem Bench.reportRow_tripWatch (e : Env) (b : Bench) :
    (b.reportRow e).u.tr.tripWatch = b.u.tr.tripWatch := by
  simp only [Bench.reportRow]
  split <;> rfl

@[simp] theorem Bench.reportRow_radiated (e : Env) (b : Bench) : (b.reportRow e).u.tr.radiated = b.u.tr.radiated := by
  simp only [Bench.reportRow]
  split <;> rfl

@[simp] theorem Bench.reportRow_startup (e : Env) (b : Bench) : (b.reportRow e).u.tr.startup = b.u.tr.startup := by
  simp only [Bench.reportRow]
  split <;> rfl

@[simp] theorem Bench.reportRow_mutedOnce (e : Env) (b : Bench) :
    (b.reportRow e).u.tr.mutedOnce = b.u.tr.mutedOnce := by
  simp only [Bench.reportRow]
  split <;> rfl

/-- A sequencer command changes its transmitter's station to what its operation leaves, with the row reported. -/
theorem State.csq_station (s : State) (t : Tx) (f : Env → Bench → Bench) :
    (s.csq t f).stations.get t =
      ((f (s.env t) { u := s.stations.get t, o := s.out }).reportRow (s.env t)).u := by
  simp [State.csq, State.onStation]

/-- It leaves every other station alone. -/
theorem State.csq_other (s : State) (t u : Tx) (f : Env → Bench → Bench) (h : u ≠ t) :
    (s.csq t f).stations.get u = s.stations.get u := by
  simp [State.csq, State.onStation, upd_get_other _ _ _ _ h]

/-- It changes nothing but the stations and what the part puts out. -/
theorem State.csq_frame (s : State) (t : Tx) (f : Env → Bench → Bench) :
    { s.csq t f with stations := s.stations, out := s.out } = s := rfl

/-! ### The matrix -/

@[simp] theorem Board.pass_points (b : Board) (c : Col) : (b.pass c).m.points = b.m.points := by
  simp only [Board.pass]
  split
  · split <;> rfl
  · rfl

@[simp] theorem Board.pass_rows (b : Board) (c : Col) : (b.pass c).m.rows = b.m.rows := by
  simp only [Board.pass]
  split
  · split <;> rfl
  · rfl

@[simp] theorem Board.pass_queue (b : Board) (c : Col) : (b.pass c).m.queue = b.m.queue := by
  simp only [Board.pass]
  split
  · split <;> rfl
  · rfl

@[simp] theorem Board.pass_free (b : Board) (c : Col) : (b.pass c).m.free = b.m.free := by
  simp only [Board.pass]
  split
  · split <;> rfl
  · rfl

@[simp] theorem Board.pass_suspension (b : Board) (c : Col) : (b.pass c).m.suspension = b.m.suspension := by
  simp only [Board.pass]
  split
  · split <;> rfl
  · rfl

@[simp] theorem Board.pass_granting (b : Board) (c : Col) : (b.pass c).m.granting = b.m.granting := by
  simp only [Board.pass]
  split
  · split <;> rfl
  · rfl

@[simp] theorem Board.service_points (b : Board) (c : Col) (f : Column → Column) :
    (b.service c f).m.points = b.m.points := by
  simp only [Board.service]
  split
  · rfl
  · split
    · simp only [Board.pass_points]
      rfl
    · rfl

@[simp] theorem Board.service_rows (b : Board) (c : Col) (f : Column → Column) :
    (b.service c f).m.rows = b.m.rows := by
  simp only [Board.service]
  split
  · rfl
  · split
    · simp only [Board.pass_rows]
      rfl
    · rfl

@[simp] theorem Board.service_queue (b : Board) (c : Col) (f : Column → Column) :
    (b.service c f).m.queue = b.m.queue := by
  simp only [Board.service]
  split
  · rfl
  · split
    · simp only [Board.pass_queue]
      rfl
    · rfl

@[simp] theorem Board.service_free (b : Board) (c : Col) (f : Column → Column) :
    (b.service c f).m.free = b.m.free := by
  simp only [Board.service]
  split
  · rfl
  · split
    · simp only [Board.pass_free]
      rfl
    · rfl

@[simp] theorem Board.service_suspension (b : Board) (c : Col) (f : Column → Column) :
    (b.service c f).m.suspension = b.m.suspension := by
  simp only [Board.service]
  split
  · rfl
  · split
    · simp only [Board.pass_suspension]
      rfl
    · rfl

@[simp] theorem Board.service_granting (b : Board) (c : Col) (f : Column → Column) :
    (b.service c f).m.granting = b.m.granting := by
  simp only [Board.service]
  split
  · rfl
  · split
    · simp only [Board.pass_granting]
      rfl
    · rfl

@[simp] theorem Board.positionReason_points (b : Board) (c : Col) (x : XState) :
    (b.positionReason c x).m.points = b.m.points := by
  simp only [Board.positionReason]
  split
  · exact Board.service_points _ _ _
  · split
    · exact Board.service_points _ _ _
    · rfl

@[simp] theorem Board.positionReason_rows (b : Board) (c : Col) (x : XState) :
    (b.positionReason c x).m.rows = b.m.rows := by
  simp only [Board.positionReason]
  split
  · exact Board.service_rows _ _ _
  · split
    · exact Board.service_rows _ _ _
    · rfl

@[simp] theorem Board.positionReason_queue (b : Board) (c : Col) (x : XState) :
    (b.positionReason c x).m.queue = b.m.queue := by
  simp only [Board.positionReason]
  split
  · exact Board.service_queue _ _ _
  · split
    · exact Board.service_queue _ _ _
    · rfl

@[simp] theorem Board.positionReason_free (b : Board) (c : Col) (x : XState) :
    (b.positionReason c x).m.free = b.m.free := by
  simp only [Board.positionReason]
  split
  · exact Board.service_free _ _ _
  · split
    · exact Board.service_free _ _ _
    · rfl

@[simp] theorem Board.positionReason_suspension (b : Board) (c : Col) (x : XState) :
    (b.positionReason c x).m.suspension = b.m.suspension := by
  simp only [Board.positionReason]
  split
  · exact Board.service_suspension _ _ _
  · split
    · exact Board.service_suspension _ _ _
    · rfl

@[simp] theorem Board.positionReason_granting (b : Board) (c : Col) (x : XState) :
    (b.positionReason c x).m.granting = b.m.granting := by
  simp only [Board.positionReason]
  split
  · exact Board.service_granting _ _ _
  · split
    · exact Board.service_granting _ _ _
    · rfl

/-- Setting a crosspoint changes that crosspoint's state and drive and no other crosspoint. -/
theorem Board.setPoint_point (b : Board) (t u : Tx) (c d : Col) (x : XState) (w : Option Drive) :
    (b.setPoint t c x w).m.point u d =
      if u = t ∧ d = c then { b.m.point t c with state := x, drive := w } else b.m.point u d := by
  have h : (b.setPoint t c x w).m.points =
      (b.m.onPoint t c fun p => { p with state := x, drive := w }).points := by
    simp only [Board.setPoint, Board.settle, Board.pass_points, Board.positionReason_points]
    rfl
  have h2 := Matrix.onPoint_point b.m t u c d fun p => { p with state := x, drive := w }
  simp only [Matrix.point] at h2 ⊢
  rw [h, h2]

@[simp] theorem Board.setPoint_rows (b : Board) (t : Tx) (c : Col) (x : XState) (w : Option Drive) :
    (b.setPoint t c x w).m.rows = b.m.rows := by
  simp only [Board.setPoint, Board.settle, Board.pass_rows, Board.positionReason_rows]
  rfl

@[simp] theorem Board.setPoint_queue (b : Board) (t : Tx) (c : Col) (x : XState) (w : Option Drive) :
    (b.setPoint t c x w).m.queue = b.m.queue := by
  simp only [Board.setPoint, Board.settle, Board.pass_queue, Board.positionReason_queue]
  rfl

@[simp] theorem Board.setPoint_free (b : Board) (t : Tx) (c : Col) (x : XState) (w : Option Drive) :
    (b.setPoint t c x w).m.free = b.m.free := by
  simp only [Board.setPoint, Board.settle, Board.pass_free, Board.positionReason_free]
  rfl

@[simp] theorem Board.setPoint_suspension (b : Board) (t : Tx) (c : Col) (x : XState) (w : Option Drive) :
    (b.setPoint t c x w).m.suspension = b.m.suspension := by
  simp only [Board.setPoint, Board.settle, Board.pass_suspension, Board.positionReason_suspension]
  rfl

@[simp] theorem Board.setPoint_granting (b : Board) (t : Tx) (c : Col) (x : XState) (w : Option Drive) :
    (b.setPoint t c x w).m.granting = b.m.granting := by
  simp only [Board.setPoint, Board.settle, Board.pass_granting, Board.positionReason_granting]
  rfl

/-- With nothing waiting nothing is granted. -/
theorem Board.grant_nothing (travel : Nat) (b : Board) (h : b.m.queue = []) : b.grant travel = b := by
  simp [Board.grant, Board.grantUpTo, h]

end Machine

end Sys2Proof
end

