-- ==== Sys2Proof/Laws/PerInstr.lean ====
section
/-! SUPPORT. The family Request: a command that a host request spells is well formed whatever its arguments, because the
part answers an ill-formed one by a refusal (R190). One lemma for each constructor. -/

namespace Sys2Proof.Laws.Request

open Sys2Proof Sys2Proof.Machine

/-- A host request is always well formed. -/
def Statement (i : Instr) : Prop := ∀ q, requestOf i = some q → i.wf = true

theorem setTransmitter (h : Head) (t : Nat) (present : Bool) (rated step low high programmes : Nat) :
    Statement (.setTransmitter h t present rated step low high programmes) := fun _ _ => rfl
theorem setAntenna (h : Head) (c : Nat) (present : Bool) (kind : ColKind) (bands : BitVec 16) :
    Statement (.setAntenna h c present kind bands) := fun _ _ => rfl
theorem setAvailability (h : Head) (t : Nat) (available : Option Bool) :
    Statement (.setAvailability h t available) := fun _ _ => rfl
theorem setLimits (h : Head) (l : Limits) : Statement (.setLimits h l) := fun _ _ => rfl
theorem setMonitor (h : Head) (t : Nat) (which : Option MonitorName) (level : Nat) (filter : Option Bool) (n : Nat) (edges : Option Edges) (source : Option Coupler) :
    Statement (.setMonitor h t which level filter n edges source) := fun _ _ => rfl
theorem setProtection (h : Head) (p : Protection) : Statement (.setProtection h p) := fun _ _ => rfl
theorem setLine (h : Head) (line : Nat) (kind : Option LineUse) (parameter : Nat) :
    Statement (.setLine h line kind parameter) := fun _ _ => rfl
theorem setMember (h : Head) (m line : Nat) (activeHigh : Option Bool) (scope : ScopeArg) :
    Statement (.setMember h m line activeHigh scope) := fun _ _ => rfl
theorem setMemberRemove (h : Head) (m : Nat) : Statement (.setMemberRemove h m) := fun _ _ => rfl
theorem writeLines (h : Head) (writes : List (Nat × Nat)) : Statement (.writeLines h writes) := fun _ _ => rfl
theorem setTime (h : Head) (year month day minute second tenth : Nat) :
    Statement (.setTime h year month day minute second tenth) := fun _ _ => rfl
theorem setClockSource (h : Head) (source : Option ClockSource) :
    Statement (.setClockSource h source) := fun _ _ => rfl
theorem eraseBank (h : Head) (b : Nat) : Statement (.eraseBank h b) := fun _ _ => rfl
theorem openBank (h : Head) (b : Nat) (code : SeasonCode) (year month day minute : Nat) :
    Statement (.openBank h b code year month day minute) := fun _ _ => rfl
theorem writeEntries (h : Head) (b page : Nat) (entries : List Slot) :
    Statement (.writeEntries h b page entries) := fun _ _ => rfl
theorem closeBank (h : Head) (b : Nat) : Statement (.closeBank h b) := fun _ _ => rfl
theorem checkBank (h : Head) (b : Nat) : Statement (.checkBank h b) := fun _ _ => rfl
theorem cancelCheck (h : Head) (b : Nat) : Statement (.cancelCheck h b) := fun _ _ => rfl
theorem readBank (h : Head) (b : Nat) : Statement (.readBank h b) := fun _ _ => rfl
theorem readEntries (h : Head) (b page : Nat) : Statement (.readEntries h b page) := fun _ _ => rfl
theorem run (h : Head) : Statement (.run h) := fun _ _ => rfl
theorem haltDrain (h : Head) (named : Bool) : Statement (.haltDrain h named) := fun _ _ => rfl
theorem haltStop (h : Head) : Statement (.haltStop h) := fun _ _ => rfl
theorem readUpcoming (h : Head) (index : Nat) : Statement (.readUpcoming h index) := fun _ _ => rfl
theorem manualTune (h : Head) (o : TuneOrder) : Statement (.manualTune h o) := fun _ _ => rfl
theorem manualEnd (h : Head) (t : Nat) : Statement (.manualEnd h t) := fun _ _ => rfl
theorem resumeSchedule (h : Head) (t : Nat) : Statement (.resumeSchedule h t) := fun _ _ => rfl
theorem releaseTransmitter (h : Head) (t : Nat) : Statement (.releaseTransmitter h t) := fun _ _ => rfl
theorem readTransmitter (h : Head) (t : Nat) : Statement (.readTransmitter h t) := fun _ _ => rfl
theorem withdrawAntenna (h : Head) (c : Nat) (force : Option Bool) :
    Statement (.withdrawAntenna h c force) := fun _ _ => rfl
theorem restoreAntenna (h : Head) (c : Nat) : Statement (.restoreAntenna h c) := fun _ _ => rfl
theorem pollMatrix (h : Head) (module : Option Nat) : Statement (.pollMatrix h module) := fun _ _ => rfl
theorem readRoutes (h : Head) : Statement (.readRoutes h) := fun _ _ => rfl
theorem readAntenna (h : Head) (c : Nat) : Statement (.readAntenna h c) := fun _ _ => rfl
theorem readLines (h : Head) : Statement (.readLines h) := fun _ _ => rfl
theorem readInterlock (h : Head) : Statement (.readInterlock h) := fun _ _ => rfl
theorem interlockClearGroup (h : Head) (named : Bool) : Statement (.interlockClearGroup h named) := fun _ _ => rfl
theorem interlockClearEmergency (h : Head) : Statement (.interlockClearEmergency h) := fun _ _ => rfl
theorem readStatus (h : Head) : Statement (.readStatus h) := fun _ _ => rfl
theorem readLog (h : Head) : Statement (.readLog h) := fun _ _ => rfl
theorem setNoticeEnables (h : Head) (enables : Byte) : Statement (.setNoticeEnables h enables) := fun _ _ => rfl
theorem clearSources (h : Head) (classes : Byte) : Statement (.clearSources h classes) := fun _ _ => rfl
theorem saveSettings (h : Head) (autorun warmAdopt : Option Bool) :
    Statement (.saveSettings h autorun warmAdopt) := fun _ _ => rfl
theorem setStartKind (h : Head) (kind : Option StartKind) : Statement (.setStartKind h kind) := fun _ _ => rfl
theorem restart (h : Head) : Statement (.restart h) := fun _ _ => rfl
theorem unknownKind (h : Head) (kind : Byte) : Statement (.unknownKind h kind) := fun _ _ => rfl
theorem frameReceived (bytes : List Byte) : Statement (.frameReceived bytes) := fun _ hq => nomatch hq
theorem linkGapExpiry : Statement .linkGapExpiry := fun _ hq => nomatch hq
theorem outgoingFrameBegin : Statement .outgoingFrameBegin := fun _ hq => nomatch hq
theorem outgoingFrameEnd : Statement .outgoingFrameEnd := fun _ hq => nomatch hq
theorem clockTenthAdvance : Statement .clockTenthAdvance := fun _ hq => nomatch hq
theorem referenceJudgedPresent : Statement .referenceJudgedPresent := fun _ hq => nomatch hq
theorem referenceInputFailure : Statement .referenceInputFailure := fun _ hq => nomatch hq
theorem secondPulse : Statement .secondPulse := fun _ hq => nomatch hq
theorem pulseWatchExpiry : Statement .pulseWatchExpiry := fun _ hq => nomatch hq
theorem minuteBoundary (b : Boundary) : Statement (.minuteBoundary b) := fun _ hq => nomatch hq
theorem scheduleWorkEnded (t : Tx) (work : SchedRef) : Statement (.scheduleWorkEnded t work) := fun _ hq => nomatch hq
theorem headerWriteComplete : Statement .headerWriteComplete := fun _ hq => nomatch hq
theorem entryPageWriteComplete : Statement .entryPageWriteComplete := fun _ hq => nomatch hq
theorem settingsWriteComplete : Statement .settingsWriteComplete := fun _ hq => nomatch hq
theorem eraseComplete : Statement .eraseComplete := fun _ hq => nomatch hq
theorem checkComplete : Statement .checkComplete := fun _ hq => nomatch hq
theorem position (t : Tx) (c : Col) (k : Contacts) : Statement (.position t c k) := fun _ hq => nomatch hq
theorem travelLimitExpiry (t : Tx) (c : Col) : Statement (.travelLimitExpiry t c) := fun _ hq => nomatch hq
theorem claim (t : Tx) (c : Col) : Statement (.claim t c) := fun _ hq => nomatch hq
theorem release (t : Tx) (c : Col) : Statement (.release t c) := fun _ hq => nomatch hq
theorem withdrawClaim (t : Tx) (c : Col) : Statement (.withdrawClaim t c) := fun _ hq => nomatch hq
theorem driveRequest (t row : Tx) (c : Col) (d : Direction) (priority : Fin 4) :
    Statement (.driveRequest t row c d priority) := fun _ hq => nomatch hq
theorem cancelDrive (t : Tx) : Statement (.cancelDrive t) := fun _ hq => nomatch hq
theorem rowConditionReport (t : Tx) (r : RowCondition) : Statement (.rowConditionReport t r) := fun _ hq => nomatch hq
theorem muteConfirmedReport (t : Tx) (yes : Bool) : Statement (.muteConfirmedReport t yes) := fun _ hq => nomatch hq
theorem suspectMark (c : Col) : Statement (.suspectMark c) := fun _ hq => nomatch hq
theorem suspensionSourceAdd (a : Source) : Statement (.suspensionSourceAdd a) := fun _ hq => nomatch hq
theorem suspensionSourceRemove (r : Sources) : Statement (.suspensionSourceRemove r) := fun _ hq => nomatch hq
theorem gateMemberAdd (c : Col) (m : Member) : Statement (.gateMemberAdd c m) := fun _ hq => nomatch hq
theorem gateMemberRemove (c : Col) (ms : BitVec 24) : Statement (.gateMemberRemove c ms) := fun _ hq => nomatch hq
theorem claimGranted (t : Tx) (c : Col) : Statement (.claimGranted t c) := fun _ hq => nomatch hq
theorem claimListed (t : Tx) (c : Col) : Statement (.claimListed t c) := fun _ hq => nomatch hq
theorem claimRefused (t : Tx) (c : Col) : Statement (.claimRefused t c) := fun _ hq => nomatch hq
theorem driveStarted (t row : Tx) (c : Col) : Statement (.driveStarted t row c) := fun _ hq => nomatch hq
theorem driveDone (t row : Tx) (c : Col) : Statement (.driveDone t row c) := fun _ hq => nomatch hq
theorem driveFailed (t row : Tx) (c : Col) (why : DriveFailure) :
    Statement (.driveFailed t row c why) := fun _ hq => nomatch hq
theorem matrixFault (t : Tx) : Statement (.matrixFault t) := fun _ hq => nomatch hq
theorem serviceChanged (t : Tx) (c : Col) (inService : Bool) :
    Statement (.serviceChanged t c inService) := fun _ hq => nomatch hq
theorem withdrawEndOrder (t : Tx) : Statement (.withdrawEndOrder t) := fun _ hq => nomatch hq
theorem holdAdd (t : Tx) (a : Source) : Statement (.holdAdd t a) := fun _ hq => nomatch hq
theorem holdRemove (t : Tx) (r : Sources) : Statement (.holdRemove t r) := fun _ hq => nomatch hq
theorem rfAbsent (t : Tx) : Statement (.rfAbsent t) := fun _ hq => nomatch hq
theorem rfPresent (t : Tx) : Statement (.rfPresent t) := fun _ hq => nomatch hq
theorem statPollInstant (t : Tx) : Statement (.statPollInstant t) := fun _ hq => nomatch hq
theorem statReady (t : Tx) : Statement (.statReady t) := fun _ hq => nomatch hq
theorem statOff (t : Tx) : Statement (.statOff t) := fun _ hq => nomatch hq
theorem statFault (t : Tx) : Statement (.statFault t) := fun _ hq => nomatch hq
theorem fault (t : Tx) (code : Nat) : Statement (.fault t code) := fun _ hq => nomatch hq
theorem ok (t : Tx) : Statement (.ok t) := fun _ hq => nomatch hq
theorem tuned (t : Tx) (kHz : Nat) : Statement (.tuned t kHz) := fun _ hq => nomatch hq
theorem tunefail (t : Tx) : Statement (.tunefail t) := fun _ hq => nomatch hq
theorem unknownPortLine (t : Tx) : Statement (.unknownPortLine t) := fun _ hq => nomatch hq
theorem claimWaitExpiry (t : Tx) : Statement (.claimWaitExpiry t) := fun _ hq => nomatch hq
theorem muteLimitExpiry (t : Tx) : Statement (.muteLimitExpiry t) := fun _ hq => nomatch hq
theorem settleExpiry (t : Tx) : Statement (.settleExpiry t) := fun _ hq => nomatch hq
theorem tuneLimitExpiry (t : Tx) : Statement (.tuneLimitExpiry t) := fun _ hq => nomatch hq
theorem openTuneExpiry (t : Tx) : Statement (.openTuneExpiry t) := fun _ hq => nomatch hq
theorem holdTimeExpiry (t : Tx) : Statement (.holdTimeExpiry t) := fun _ hq => nomatch hq
theorem rampLimitExpiry (t : Tx) : Statement (.rampLimitExpiry t) := fun _ hq => nomatch hq
theorem restrikeRampLimitExpiry (t : Tx) : Statement (.restrikeRampLimitExpiry t) := fun _ hq => nomatch hq
theorem reflectedRisingCrossing (t : Tx) : Statement (.reflectedRisingCrossing t) := fun _ hq => nomatch hq
theorem reflectedFallingCrossing (t : Tx) : Statement (.reflectedFallingCrossing t) := fun _ hq => nomatch hq
theorem forwardRisingCrossing (t : Tx) : Statement (.forwardRisingCrossing t) := fun _ hq => nomatch hq
theorem forwardFallingCrossing (t : Tx) : Statement (.forwardFallingCrossing t) := fun _ hq => nomatch hq
theorem armingDelayExpiry (t : Tx) : Statement (.armingDelayExpiry t) := fun _ hq => nomatch hq
theorem restrikeDelayExpiry (t : Tx) : Statement (.restrikeDelayExpiry t) := fun _ hq => nomatch hq
theorem tripMuteWatchExpiry (t : Tx) : Statement (.tripMuteWatchExpiry t) := fun _ hq => nomatch hq
theorem restrikeWindowExpiry (t : Tx) : Statement (.restrikeWindowExpiry t) := fun _ hq => nomatch hq
theorem carrierLossExpiry (t : Tx) : Statement (.carrierLossExpiry t) := fun _ hq => nomatch hq
theorem mainsSample (percent : Nat) : Statement (.mainsSample percent) := fun _ hq => nomatch hq
theorem mainsRecoveryExpiry : Statement .mainsRecoveryExpiry := fun _ hq => nomatch hq
theorem fieldLineLevelChange (line : Line) (high : Bool) :
    Statement (.fieldLineLevelChange line high) := fun _ hq => nomatch hq
theorem memberLevelChange (m : Member) (level : MemberLevel) :
    Statement (.memberLevelChange m level) := fun _ hq => nomatch hq
theorem emergencyInputChange (active : Bool) : Statement (.emergencyInputChange active) := fun _ hq => nomatch hq
theorem powerOn : Statement .powerOn := fun _ hq => nomatch hq
theorem resetLineAssert : Statement .resetLineAssert := fun _ hq => nomatch hq
theorem resetLineRelease : Statement .resetLineRelease := fun _ hq => nomatch hq
theorem startupPollTimeout : Statement .startupPollTimeout := fun _ hq => nomatch hq
theorem startupHallEvaluation (mainsPercent : Nat) :
    Statement (.startupHallEvaluation mainsPercent) := fun _ hq => nomatch hq
theorem startupAdoption : Statement .startupAdoption := fun _ hq => nomatch hq
theorem startupEnd : Statement .startupEnd := fun _ hq => nomatch hq
theorem receivedByte (b : Byte) : Statement (.receivedByte b) := fun _ hq => nomatch hq

end Sys2Proof.Laws.Request
end

