-- ==== Sys2Proof/Laws/Requests.lean ====
section
/-! SUPPORT. What taking a waiting request can do (R189): the head of the queue is taken as its command is, and nothing
is taken without a request that may be. -/

namespace Sys2Proof.Machine

/-- A request taken from the queue does what its command does. -/
theorem serveRequest_eq_exec (i : Instr) (s : State) (h : (requestOf i).isSome) : serveRequest i s = exec i s := by
  cases i <;> first | exact absurd h Bool.false_ne_true | rfl

/-- With a request waiting that may be taken, it is taken. -/
theorem State.serveHead_takes (s : State) (r : Request) (rest : List Request) (hm : s.mayTake = true)
    (hq : s.link.queue = r :: rest) (hr : (requestOf r.command).isSome) :
    s.serveHead = exec r.command { s with link := { s.link with queue := rest, taking := true } } := by
  simp only [State.serveHead, hm, hq]
  exact serveRequest_eq_exec _ _ hr

/-- While none may be taken, none is. -/
theorem State.serveHead_closed (s : State) (hm : s.mayTake = false) : s.serveHead = .next s := by
  simp [State.serveHead, hm]

/-- With none waiting, none is. -/
theorem State.serveHead_empty (s : State) (hq : s.link.queue = []) : s.serveHead = .next s := by
  simp only [State.serveHead, hq]
  split <;> simp_all

/-- While the reset line is asserted nothing is taken. -/
theorem State.takeAndServe_held (s : State) (f : State → State) (h : s.boot.asserted = true) :
    s.takeAndServe f = .next s := by
  simp [State.takeAndServe, h]

/-- A command that may make room for a request has its effect, and the head of the queue is then taken. -/
theorem State.takeAndServe_live (s : State) (f : State → State) (h : s.boot.asserted = false) :
    s.takeAndServe f = (f s.settled).serveHead := by
  simp [State.takeAndServe, h]

/-- What a body of a laid-out kind spells is a host request. -/
theorem laidOut_isRequest (tag : Byte) (body : List Byte) (kind : Nat) (i : Instr) (h : laidOut tag body kind = some i) :
    (requestOf i).isSome := by
  unfold laidOut at h
  split at h <;> (cases h <;> rfl)

/-- What the values of a body spell is a host request. -/
theorem fromValues_isRequest (g : Head) (v : List Nat) (kind : Nat) (i : Instr) (h : fromValues g v kind = some i) :
    (requestOf i).isSome := by
  by_cases h1 : v.getD 1 0 = noValue <;> by_cases h2 : v.getD 0 0 = 1 <;>
    (simp only [fromValues, h1, h2, if_true, if_false] at h; split at h <;> (cases h <;> rfl))

/-- Every request that a frame spells is a host request. -/
theorem Frame.command_isRequest (f : Frame) : (requestOf f.command).isSome := by
  have values : ∀ (h : Head) (v : List Nat),
      (requestOf ((fromValues h v f.kind.toNat).getD (.unknownKind ⟨f.tag, true⟩ f.kind))).isSome := by
    intro h v
    cases hv : fromValues h v f.kind.toNat with
    | none => rfl
    | some i => exact fromValues_isRequest _ _ _ _ hv
  unfold Frame.command
  split
  · next i hi => exact laidOut_isRequest _ _ _ _ hi
  · split
    · exact values _ _
    · exact values _ _

end Sys2Proof.Machine
end

