-- ==== Sys2Proof/Laws/Sampling.lean ====
section
/-! SUPPORT. What the sampling of inputs and a reset's cut can do: the filter of a monitor, an instant at which nothing is
read, and a store with nothing in flight. -/

namespace Sys2Proof

namespace Machine

/-- A sample agrees exactly when it lies on the side. -/
theorem sampled_agrees (filter pending : Bool) (side : Option Side) (high : Bool) :
    sampled filter pending side high = .agrees ↔ side = some (sideOf high) := by
  unfold sampled
  split
  · simp [*]
  · split <;> simp [*]

/-- A sample off the side is counted exactly with the filter ON and none counted before it. -/
theorem sampled_pends (filter pending : Bool) (side : Option Side) (high : Bool) (h : side ≠ some (sideOf high)) :
    sampled filter pending side high = .pends ↔ filter = true ∧ pending = false := by
  unfold sampled
  cases filter <;> cases pending <;> simp [h]

/-- A sample off the side crosses exactly with the filter OFF or one counted before it. -/
theorem sampled_crosses (filter pending : Bool) (side : Option Side) (high : Bool) (h : side ≠ some (sideOf high)) :
    sampled filter pending side high = .crosses ↔ filter = false ∨ pending = true := by
  unfold sampled
  cases filter <;> cases pending <;> simp [h]

/-- The pin of a line that the part drives is not sampled. -/
theorem State.sampleLine_driven (s : State) (high : Bool) (l : Line) (h : (s.lines.get l).kind.drives = true) :
    s.sampleLine high l = s := by
  simp [State.sampleLine, h]

/-- A sample instant at which nothing is read only counts. -/
theorem State.passInstant_nil (s : State) (h : s.sampling.feed = []) :
    s.passInstant = { s with sampling := { s.sampling with instant := (s.sampling.instant + 1) % 8 } } := by
  simp [State.passInstant, h]

theorem State.carrySecond_sampling (s : State) (old : Reading) : (s.carrySecond old).sampling = s.sampling := by
  simp only [State.carrySecond]
  repeat' split
  all_goals rfl

theorem State.tickClock_sampling (s : State) : s.tickClock.sampling = s.sampling := by
  simp only [State.tickClock, State.advanceTenth]
  repeat' split
  all_goals first | rfl | exact State.carrySecond_sampling _ _

theorem State.tickCheck_sampling (s : State) : s.tickCheck.sampling = s.sampling := by
  simp only [State.tickCheck, State.checkVisits]
  repeat' split
  all_goals rfl

/-- The counts of a tick leave the sampling alone. -/
theorem State.tickAll_sampling (s : State) : s.tickAll.sampling = s.sampling := by
  simp only [State.tickAll]
  split <;> rw [State.tickClock_sampling]
  · rfl
  · rw [State.tickCheck_sampling]; rfl

/-- A tick at whose instants nothing is read: its counts, and two instants. -/
theorem State.tick_nil (s : State) (h : s.sampling.feed = []) :
    s.tick = { s.tickAll with sampling := { s.sampling with
      instant := ((s.sampling.instant + 1) % 8 + 1) % 8 } } := by
  have h' : s.tickAll.sampling.feed = [] := by rw [State.tickAll_sampling]; exact h
  rw [State.tick, State.passInstant_nil s.tickAll h', State.passInstant_nil _ (by exact h')]
  simp only [State.tickAll_sampling]

/-- An operation that writes a bank's state cell: the bank changed, and the write recorded behind those of the event. -/
theorem Store.writeCell_spec (k : Store) (b : Bank) (f : SeasonBank → SeasonBank) :
    k.writeCell b f =
      { k with banks := upd k.banks b (f (k.bank b)), cellWrites := k.cellWrites ++ [(b, (k.bank b).cell)] } := rfl

/-- With no cell write and no operation in flight a reset leaves the store as it is, its controller IDLE. -/
theorem Store.cut_nothing (k : Store) (n : Nat) (hw : k.cellWrites = []) (ho : k.op = none) : k.cut n = k.idle := by
  cases k
  cases hw
  cases ho
  rfl

end Machine

end Sys2Proof
end

