-- ==== Sys2Proof/Tests/Slice0.lean ====
section
/-! SUPPORT. Tests of the model on small states: ill-formed commands that the check refuses, worked examples of the spec,
and for every obligation states and operands that meet its hypotheses, clause by clause. -/

namespace Sys2Proof.Tests

set_option Elab.async false

open Sys2Proof Sys2Proof.Machine Sys2Proof.Claims

/-! ### Ill-formed commands -/

theorem test_wf_boundary_outside_century :
    (Instr.minuteBoundary { kind := .advance, now := 52596000, clockSet := true, previous := none }).wf = false := by
  decide
theorem test_wf_boundary_last_minute :
    (Instr.minuteBoundary { kind := .advance, now := 52595999, clockSet := true, previous := none }).wf = true := by
  decide
theorem test_wf_advance_without_reading_before :
    (Instr.minuteBoundary { kind := .advance, now := 0, clockSet := true, previous := some 0 }).wf = false := by decide
theorem test_wf_step_needs_reading_before :
    (Instr.minuteBoundary { kind := .step, now := 0, clockSet := true, previous := none }).wf = false := by decide
theorem test_wf_work_entry : (Instr.scheduleWorkEnded 0 ⟨0, 512, 0, 5⟩).wf = false := by decide
theorem test_wf_work_window : (Instr.scheduleWorkEnded 0 ⟨0, 511, 1, 1440⟩).wf = false := by decide
theorem test_wf_frame_short : (Instr.frameReceived [0, 2, 0x60]).wf = false := by decide
theorem test_wf_frame_length : (Instr.frameReceived [0, 1, 0x60, 1, 2]).wf = false := by decide
theorem test_wf_frame_whole : (Instr.frameReceived [0, 2, 0x60, 1, 0xAA, 0xBB]).wf = true := by decide
theorem test_wf_fault_code : (Instr.fault 0 10000).wf = false := by decide

/-! ### Worked examples -/

/-- The check of the nine characters 123456789 (R186). -/
theorem test_crc : crc16 [0x31, 0x32, 0x33, 0x34, 0x35, 0x36, 0x37, 0x38, 0x39] = 0x29B1 := by decide +kernel
theorem test_weekday_of_first_day : weekday (Date.number ⟨2000, 1, 1⟩) = 5 := by decide
theorem test_last_day : Date.number ⟨2099, 12, 31⟩ = 36524 := by decide
theorem test_date_round_trip : dateOf (Date.number ⟨2024, 2, 29⟩) = ⟨2024, 2, 29⟩ := by decide
theorem test_class_of_timeSet : EventKind.timeSet.class = 6 := by decide
theorem test_no_word_spells_a_command : decodeTableWord 8 0x41 = none := rfl
theorem test_withFetchWord : State.reset.withFetchWord 8 0 = State.reset := rfl

/-! ### States to test with -/

/-- A head of a sound body. -/
def hd : Head := { tag := 7, sized := true }
/-- A head of a body of the wrong length. -/
def short : Head := { tag := 7, sized := false }

/-- A matrix after start-up: every column present and IN_SERVICE, every crosspoint OPEN, every row muted. -/
def hall : Matrix :=
  { Matrix.reset Settings.default with
    points := Vector.replicate 12 (Vector.replicate 36 { state := .opened, contacts := some .openContact, drive := none })
    columns := colVector fun c =>
      { Column.reset { present := true, kind := (ColDesc.default c).kind, bands := BitVec.allOnes 14 } false false with
        position := false }
    rows := Vector.replicate 12 { condition := .quiet, muteConfirmed := true }
    granting := true }

/-- The hall with the route of transmitter 0 to column 5 CLOSED. -/
def routed : Matrix :=
  (hall.onPoint 0 5 fun p => { p with state := .closed, contacts := some .closedContact }).onColumn 5 fun k =>
    { k with holder := some 0 }

/-- A READY transmitter, muted and confirmed. -/
def readyStation : Station :=
  let s := Station.reset { TxDesc.default with present := true } .reflectedDefault .forwardDefault
  { s with tr := { s.tr with
      state := .ready, unmuted := false, rf := some false, muteConfirmed := true, poll := some 0, mutedOnce := true } }

/-- The machine after start-up, everything at rest. -/
def up : State :=
  { State.reset with
    matrix := hall, stations := Vector.replicate 12 readyStation
    boot := { State.reset.boot with phase := .done } }

/-- The machine at rest with transmitter 0's record changed. -/
def at0 (f : TxRecord → TxRecord) : State :=
  { up with stations := upd up.stations 0 { readyStation with tr := f readyStation.tr } }

/-- The machine in a step of start-up. -/
def booting (p : BootPhase) (f : TxRecord → TxRecord) : State :=
  { at0 f with boot := { up.boot with phase := p } }

/-- The machine with requests waiting. -/
def waiting (n : Nat) : State :=
  { up with link := { up.link with queue := List.replicate n (.spelled (.readStatus hd)) } }

/-- A schedule work. -/
def work : SchedRef := { bank := 0, entry := 3, day := 1, windowEnd := 2000 }

/-- A transmission on column 5. -/
def onFive : Transmission :=
  { work := some work, start := Clock.powerOn.reading, column := 5, kHz := 6000, kW := 10, programme := 0, priority := 2
    reserve := none, reserveUsed := false, late := false }

/-- A context that claims column 5. -/
def claiming : Context :=
  { origin := .schedule, work := some work, late := false, target := 5, reserve := none, reserveUsed := false
    kHz := 6000, kW := 10, programme := 0, priority := 2, phase := .claim, deadline := none
    claim := some { column := 5, status := .sent }, plan := [], tune := .none, outcome := none, started := false
    closing := .none, faultCode := none }

/-- The machine with transmitter 0 in a context. -/
def changing (k : Context) : State := at0 fun r => { r with state := .changing, context := some k }

/-- A station on air with both monitors armed. -/
def airStation : Station :=
  { readyStation with
    tr := { readyStation.tr with
      state := .onAir, current := some onFive, unmuted := true, rf := some true, muteConfirmed := false
      reported := .onAir }
    refl := readyStation.refl.ready
    fwd := { readyStation.fwd with state := .armed, side := some .high } }

/-- The machine with transmitter 0 on air on column 5. -/
def air : State := { up with matrix := routed, stations := upd up.stations 0 airStation }

/-- The machine with transmitter 0's carrying record changed. -/
def air0 (f : TxRecord → TxRecord) : State :=
  { air with stations := upd air.stations 0 { airStation with tr := f airStation.tr } }

/-- A command answers a next state that passes a test. -/
def leads (o : Host.Outcome State Fault Refusal) (p : State → Bool) : Bool :=
  match o with
  | .next t => p t
  | _ => false

/-- A sound READ_STATUS frame, its marker taken off. -/
def statusFrame : List Byte := (frameBytes 0x60 1 []).drop 1
/-- The machine with requests waiting for a reply to go. -/
def waitingReply (n : Nat) : State :=
  { waiting n with link := { (waiting n).link with reply := some { kind := 0x60, tag := 9, verdict := .accepted .empty } } }
/-- The machine at start-up's last step with requests waiting. -/
def waitingEnd (n : Nat) : State := { booting .adopt id with link := (waiting n).link }

/-- A held transmission on column 5 at a minute. -/
def heldAt (now : Nat) : State :=
  let s := air0 fun r =>
    { r with state := .held, unmuted := false, rf := some false, muteConfirmed := true, reported := .held
             holds := Sources.none.add .mains }
  { s with clock := { s.clock with reading := ⟨⟨2000, 1, 2⟩, now - 1440, 0, 0⟩ } }

/-! ### The machine: O1 to O6 -/

/-- StepRunsTheFrontCommand; the step goes on. -/
theorem test_front_command : ({ up with pending := [.ok 0, .ok 1] } : State).pending = .ok 0 :: [.ok 1] ∧
    step { up with pending := [.ok 0, .ok 1] } = .next { up with pending := [.ok 1] } := ⟨rfl, rfl⟩

/-- The words of the statements: a machine at rest is live and serves a request. -/
theorem test_serves : serves up ∧ live up := ⟨⟨⟨rfl, rfl⟩, rfl⟩, rfl, rfl⟩

/-- CommandsFindWritesComplete: a cell write of the event before. -/
theorem test_writes_complete :
    exec (.ok 0) { up with store := { up.store with cellWrites := [(1, StateCell.erased)] } } = exec (.ok 0) up ∧
    Instr.ok 0 ≠ .powerOn ∧ Instr.ok 0 ≠ .resetLineAssert := ⟨rfl, nofun, nofun⟩

/-- OwnWorkInOrder: each of its four cases. -/
theorem test_own_work_cases :
    (up.boot.asserted = false ∧ up.pending = [] ∧ up.boot.phase = .done) ∧
    (({ up with out := { up.out with handed := [.ok 0] } } : State).stands (.ok 0) = true) ∧
    (up.out.handed = [] ∧ up.link.reply = none ∧ up.link.line = none ∧ up.link.refusal = none ∧
      up.out.notices = [] ∧ up.link.queue = []) ∧
    ({ up with link := { up.link with queue := [.frame { kind := 0x60, tag := 1, body := [] }] } } : State).link.queue ≠ [] ∧
    ({ up with link := { up.link with refusal := some { tag := 0, kind := 0x60 } } } : State).link.refusal.isSome := by
  decide

/-- StartupWorkInOrder: the reset line asserted, the first step, a message on its way, the adoption and the end. -/
theorem test_startup_work :
    (({ up with boot := { up.boot with asserted := true } } : State).pending = [] ∧ up.store.cellWrites = []) ∧
    (booting .load id).boot.phase = .load ∧
    ({ booting .table id with out := { up.out with handed := [.ok 0] } } : State).stands (.ok 0) = true ∧
    ((booting .query id).out.handed = [] ∧ (booting .query id).queryEnded = true) ∧
    (booting .adopt id).adoptionEnded = true := by decide +kernel

/-- TickAdvancesTheCounts, each count one tick before its limit. -/
theorem test_tick_counts :
    (up.boot.asserted = false ∧ up.check = none ∧ up.sampling.feed = [] ∧
      ({ up with clock := { up.clock with divider := 8 } } : State).clock.divider < 9) ∧
    ((⟨299, 300⟩ : Timer).count < 300 ∧ (⟨299, 300⟩ : Timer).count + 1 = 300) ∧
    ((changing { claiming with phase := .mute, deadline := some ⟨199, 200⟩ }).tr 0).context =
      some { claiming with phase := .mute, deadline := some ⟨199, 200⟩ } := by decide

/-- RequestsAnsweredOnce: a refused request with its reason, and a body of the wrong length. -/
theorem test_requests :
    requestOf (.readUpcoming hd 128) = some (0x42, hd) ∧
    (∃ t, exec (.readUpcoming hd 128) up = .next t ∧
      t.link.reply = some { kind := 0x42, tag := 7, verdict := .refused .outOfRange [] }) ∧
    requestOf (.readStatus short) = some (0x60, short) ∧ short.sized = false :=
  ⟨rfl, ⟨_, rfl, rfl⟩, rfl, rfl⟩

/-- RequestsWait: the last place of the queue, the refusal slot, and neither free. -/
theorem test_requests_wait :
    (waiting 1).serves = false ∧
    (∃ t, exec (.readStatus hd) (waiting 3) = .next t ∧ t.link.queue.length = 4 ∧ t.link.reply = none) ∧
    (∃ t, exec (.readStatus hd) (waiting 4) = .next t ∧ t.link.queue.length = 4 ∧ t.link.refusal = some ⟨7, 0x60⟩) ∧
    ∃ t, exec (.readStatus hd) { waiting 4 with link := { (waiting 4).link with refusal := some ⟨1, 0x60⟩ } } = .next t ∧
      t.link.refusal = some ⟨1, 0x60⟩ ∧ t.out.sources.getLsbD 7 = true :=
  ⟨by decide +kernel, ⟨_, rfl, by decide +kernel⟩, ⟨_, rfl, by decide +kernel⟩, _, rfl, by decide +kernel⟩

/-- WaitingRequestsServed and the statements of a served queue: nothing waiting, and requests that wait for a reply to go
and for start-up's end. -/
theorem test_queue_served : queueServed up ∧ queueServed (waitingReply 4) ∧ queueServed (waitingEnd 1) := by
  unfold queueServed
  decide +kernel

/-- RaisingAnEvent and WritingALogRecord: enabled and disabled classes, room and none. -/
theorem test_outbox_cases :
    (up.out.enables.getLsbD EventKind.timeSet.class = true ∧ up.out.notices.length < 16) ∧
    (16 ≤ (List.replicate 16 ({ kind := .timeSet, subject := .none, detail := [] } : Event)).length) ∧
    ({ up.out with enables := 0 } : Outbox).enables.getLsbD EventKind.timeSet.class = false ∧
    up.out.log.records.length < 256 := by decide
theorem test_full_log (r : LogRecord) :
    ({ records := List.replicate 256 r, unread := 0, overrun := false, next := 0 } : Log).records.length = 256 :=
  List.length_replicate

/-! ### Invariants: O7 to O15 -/

/-- The bounds and the clock are met by a state that a step leaves. -/
theorem test_bounds_kept : up.clock.legal = true ∧ up.withinCapacity = true ∧ up.engine.upcoming.length ≤ 128 ∧
    up.check = none ∧ ∃ t, step up = .next t := ⟨by decide, by decide, by decide, rfl, ⟨_, rfl⟩⟩
theorem test_slots_balanced : slotsBalanced hall := by
  refine ⟨?_, ?_⟩ <;> decide +kernel
theorem test_one_claim : oneClaimEach { hall with claims := [⟨0, 5⟩, ⟨1, 5⟩] } := by
  unfold oneClaimEach
  decide +kernel
theorem test_one_active : oneSeason up ∧ haltedEmpty up.engine ∧ up.engine.state = .halted := by
  refine ⟨?_, ?_, rfl⟩
  · exact fun _ h => absurd h.1 (by decide +kernel)
  · exact fun _ => ⟨rfl, rfl, rfl⟩
theorem test_store_quiet : storeQuiet up :=
  ⟨fun _ => ⟨rfl, rfl⟩, fun b h => absurd h (by decide +revert +kernel), fun b h => absurd h (by decide +revert +kernel),
    fun _ h => nomatch h⟩

/-- NoCarrierUnderHold: UNMUTE leaves as the hold time ends. -/
theorem test_unmute_sent :
    ∃ t, exec (.holdTimeExpiry 0)
        { changing { claiming with phase := .hold, deadline := some ⟨30, 30⟩ } with matrix := routed } = .next t ∧
      t.out.port = [(0, .pwr 10), (0, .unmute)] := ⟨_, rfl, by decide⟩

/-- What the inputs read with no carrier anywhere, the mains at nominal, every pin LOW and the emergency input HIGH. -/
def silentInputs : Inputs :=
  { detectors := Vector.replicate 12 { forward := 0, reflected := 0, line := 0 }, mains := 100, pins := 0
    emergency := true, reference := true }
/-- Transmitter 0 waits in a restrike for its mute, of which one sample more is missing. -/
def awaitsMute : State :=
  let r : TxRecord := { airStation.tr with state := .tripped, stage := .waitMute, unmuted := false, reported := .tripped }
  let u : Station := { airStation with tr := r, absent := { side := some .high, pending := true } }
  { air with stations := upd air.stations 0 u, sampling := { instant := 0, feed := [silentInputs] } }

/-- NoCarrierUnderHold: UNMUTE leaves in a phase tick that confirms the mute of a restrike. -/
theorem test_unmute_by_sample :
    ∃ t, step awaitsMute = .next t ∧ t.out.port = [(0, .pwr 10), (0, .unmute)] := ⟨_, rfl, by decide +kernel⟩

/-- DrivesStartMuted: a crosspoint is set in motion. -/
theorem test_drive_starts :
    up.matrix.xstate 0 1 = .opened ∧
    ∃ t, exec (.driveRequest 0 0 1 .closing 2) up = .next t ∧ t.matrix.xstate 0 1 = .movingClose ∧
      t.matrix.free = 2 ∧ t.out.link = [.drive 0 1 .closing] := ⟨by decide +kernel, _, rfl, by decide +kernel⟩

/-! ### The clock: O16 to O19 -/

/-- The machine whose reference input has been good for a number of ticks. -/
def judged (ticks : Nat) : State := { up with clock := { up.clock with seen := ticks } }
/-- The machine with the reference PRESENT, and with its clock on it. -/
def referenced (source : ClockSource) : State :=
  { up with clock := { up.clock with source := source, present := true, seen := 100 } }

/-- PresenceRecorded and ReferenceKept: the last tick of the second and the one before it, a loss as the source, and a
clock that stays on its reference. -/
theorem test_reference_cases :
    (∃ t, exec .referenceJudgedPresent (judged 99) = .next t ∧ t.clock.present = false) ∧
    (∃ t, exec .referenceJudgedPresent (judged 100) = .next t ∧ t.clock.present = true) ∧
    (∃ t, exec .referenceInputFailure (referenced .reference) = .next t ∧ t.clock.source = .internal ∧
      t.clock.present = false ∧ t.clock.seen = 0) ∧
    (∃ t, exec .clockTenthAdvance (referenced .reference) = .next t ∧ t.clock.source = .reference) ∧
    (referenced .reference).sampling.feed = [] ∧ silentInputs.reference = true :=
  ⟨⟨_, rfl, rfl⟩, ⟨_, rfl, rfl⟩, ⟨_, rfl, rfl, rfl, rfl⟩, ⟨_, rfl, rfl⟩, rfl, rfl⟩

/-- SetClockSourceDecided: the two orders of loss and request. -/
theorem test_source_cases :
    (∃ t u, exec .referenceInputFailure (referenced .internal) = .next t ∧
      exec (.setClockSource hd (some .reference)) t = .next u ∧
      u.link.reply = some { kind := 0x21, tag := 7, verdict := .refused .wrongState [] }) ∧
    ∃ t u, exec (.setClockSource hd (some .reference)) (referenced .internal) = .next t ∧
      exec .referenceInputFailure t = .next u ∧ u.clock.source = .internal ∧
      u.out.notices = [{ kind := .referenceLost, subject := .none, detail := [] }] :=
  ⟨⟨_, _, rfl, rfl, by decide +kernel⟩, _, _, rfl, rfl, by decide +kernel⟩

/-- The machine with its clock on the reference, a reply being sent and a request waiting. -/
def replying (i : Instr) : State :=
  let r : Reply := { kind := 0x60, tag := 9, verdict := .accepted .empty }
  { referenced .reference with link := { up.link with line := some (.reply r), reply := some r, queue := [.spelled i] } }

/-- ReferenceKept and SetClockSourceDecided: the request that the end of a reply takes is a SET_CLOCK_SOURCE, or none. -/
theorem test_source_taken :
    nextRequest .outgoingFrameEnd (replying (.setClockSource hd (some .internal))) =
      some (.setClockSource hd (some .internal)) ∧
    leads (exec .outgoingFrameEnd (replying (.setClockSource hd (some .internal)))) (fun t =>
      t.clock.source == .internal && t.clock.present) = true ∧
    nextRequest .outgoingFrameEnd (replying (.readStatus hd)) = some (.readStatus hd) ∧
    leads (exec .outgoingFrameEnd (replying (.readStatus hd))) (fun t => t.clock.source == .reference) = true := by
  decide +kernel

/-- SetTimeDecided: the last reading of the calendar is taken, a day outside its month is not. -/
theorem test_set_time :
    (∃ t, exec (.setTime hd 2099 12 31 1439 59 9) up = .next t ∧ t.clock.isSet = true ∧
      t.clock.reading = { date := ⟨2099, 12, 31⟩, minute := 1439, second := 59, tenth := 9 }) ∧
    ∃ t, exec (.setTime hd 2023 2 29 0 0 0) up = .next t ∧
      t.link.reply = some { kind := 0x20, tag := 7, verdict := .refused .badField [] } :=
  ⟨⟨_, rfl, by decide +kernel⟩, _, rfl, by decide +kernel⟩

/-- The machine with its clock at a reading. -/
def reading (y m d minute second tenth : Nat) : State :=
  { up with clock := { up.clock with
      reading := { date := ⟨y, m, d⟩, minute := minute, second := second, tenth := tenth } } }

/-- TenthAdvances: the end of 2099 wraps, the end of a leap February carries. -/
theorem test_tenth_carries :
    (∃ t, exec .clockTenthAdvance (reading 2099 12 31 1439 59 9) = .next t ∧
      t.clock.reading = Clock.powerOn.reading ∧ t.out.sources.getLsbD 6 = true) ∧
    ∃ t, exec .clockTenthAdvance (reading 2024 2 29 1439 59 9) = .next t ∧ t.clock.reading.date = ⟨2024, 3, 1⟩ :=
  ⟨⟨_, rfl, by decide +kernel⟩, _, rfl, by decide +kernel⟩

/-- The machine with line 3 of kind PULSE. -/
def pulsed : State := { up with lines := upd up.lines 3 { kind := .pulse, latch := false, pin := none, last := none } }

/-- SecondPulseAligns: with and without a PULSE line, at both sides of the half second, the carries to the minute and
to the wrap, and the watch's expiry. -/
theorem test_pulse_cases :
    (∃ t, exec .secondPulse { pulsed with clock := (reading 2024 2 29 1439 59 5).clock } = .next t ∧
      t.clock.reading = ⟨⟨2024, 3, 1⟩, 0, 0, 0⟩ ∧ t.out.handed.length = 1 ∧ t.out.notices = []) ∧
    (∃ t, exec .secondPulse { pulsed with clock := (reading 2099 12 31 1439 59 5).clock } = .next t ∧
      t.clock.reading = Clock.powerOn.reading ∧ t.out.sources.getLsbD 6 = true) ∧
    pulsed.boot.asserted = false ∧ pulsed.pulseLine = some 3 ∧ up.pulseLine = none ∧
    (reading 2024 1 1 0 58 5).clock.reading.second < 59 ∧ (reading 2024 1 1 0 59 4).clock.reading.tenth < 5 ∧
    ({ pulsed with clock := { pulsed.clock with watch := some ⟨300, 300⟩ } } : State).clock.watch.isSome :=
  ⟨⟨_, rfl, by decide +kernel⟩, ⟨_, rfl, by decide +kernel⟩, by decide +kernel⟩

/-! ### The hall description: O20 to O22 -/

/-- A transmitter's state is one in which its description may be set: each of the three. -/
theorem test_describe_cases :
    (up.tr 11).state = .ready ∧
    (∃ t, exec (.setTransmitter hd 11 false 500 25 2300 26100 16) up = .next t ∧ (t.tr 11).state = .dark .absent ∧
      t.link.reply = some { kind := 0x10, tag := 7, verdict := .accepted (.serial 1) }) ∧
    (∃ t, exec (.setTransmitter hd 12 true 10 1 2300 2300 1) up = .next t ∧
      t.link.reply = some { kind := 0x10, tag := 7, verdict := .refused .outOfRange [] }) ∧
    (∃ t, exec (.setTransmitter hd 0 true 10 25 2300 2300 1) up = .next t ∧
      t.link.reply = some { kind := 0x10, tag := 7, verdict := .refused .badField [] }) ∧
    ∃ t, exec (.setTransmitter hd 0 true 10 1 2300 2300 1) air = .next t ∧
      t.link.reply = some { kind := 0x10, tag := 7, verdict := .refused .inUse [] } :=
  ⟨by decide +kernel, ⟨_, rfl, by decide +kernel⟩, ⟨_, rfl, by decide +kernel⟩, ⟨_, rfl, by decide +kernel⟩, _, rfl,
    by decide +kernel⟩

/-- A present transmitter is made unavailable, and available again with a kept lock reason and without one. -/
theorem test_availability_cases :
    (∃ t, exec (.setAvailability hd 11 (some false)) up = .next t ∧ (t.tr 11).state = .dark .withheld) ∧
    (∃ t, exec (.setAvailability hd 0 (some true)) (at0 fun r =>
        { r with state := .dark .withheld, poll := none, desc := { r.desc with available := false } }) = .next t ∧
      (t.tr 0).state = .dark .portSilent ∧ t.out.port = [(0, .mute), (0, .stat)]) ∧
    (∃ t, exec (.setAvailability hd 0 (some true)) (at0 fun r =>
        { r with state := .dark .withheld, lock := some .txFault, poll := none
                 desc := { r.desc with available := false } }) = .next t ∧ (t.tr 0).state = .locked .txFault) ∧
    ∃ t, exec (.setAvailability hd 0 (some false)) air = .next t ∧
      t.link.reply = some { kind := 0x12, tag := 7, verdict := .refused .inUse [] } :=
  ⟨⟨_, rfl, by decide +kernel⟩, ⟨_, rfl, by decide +kernel⟩, ⟨_, rfl, by decide +kernel⟩, _, rfl, by decide +kernel⟩

/-- The last antenna column and the last dummy load are described; a dummy load is no antenna. -/
theorem test_antenna_cases :
    (up.matrix.use 31 = .free ∧ up.matrix.use 35 = .free) ∧
    (∃ t, exec (.setAntenna hd 31 true .curtain 1) up = .next t ∧ (t.matrix.column 31).desc.kind = .curtain ∧
      t.store.serial = 1) ∧
    (∃ t, exec (.setAntenna hd 35 true .load 16383) up = .next t ∧ t.store.serial = 0) ∧
    (∃ t, exec (.setAntenna hd 32 true .curtain 16383) up = .next t ∧
      t.link.reply = some { kind := 0x11, tag := 7, verdict := .refused .badField [] }) ∧
    ∃ t, exec (.setAntenna hd 5 true .curtain 1) air = .next t ∧
      t.link.reply = some { kind := 0x11, tag := 7, verdict := .accepted (.serial 1) } :=
  ⟨by decide +kernel, ⟨_, rfl, by decide +kernel⟩, ⟨_, rfl, by decide +kernel⟩, ⟨_, rfl, by decide +kernel⟩, _, rfl,
    by decide +kernel⟩

/-! ### The store and the check: O23 to O27 -/

/-- The machine with bank 1 in a state. -/
def banked (x : BankState) : State :=
  let cell : Cell := { state := x, erasePending := false, activation := 0, report := none }
  let b : SeasonBank := { SeasonBank.blank with cell := StateCell.erased.write cell }
  { up with store := { up.store with banks := upd up.store.banks 1 b } }
/-- The machine with the store controller at work. -/
def working (s : State) (op : StoreOp) : State := { s with store := { s.store with op := some op } }
/-- A header. -/
def header : Header :=
  { code := #v[0x41, 0x32, 0x36, 0, 0, 0], date := ⟨2026, 3, 29⟩, minute := 60 }
/-- Settings to write. -/
def someSettings : Settings := { Settings.default with autorun := true }
/-- A check of bank 1 just begun. -/
def begun : CheckContext :=
  { bank := 1, serial := 0, pass := .entry, place := 0, faults := [], total := 0, ticks := 0 }

/-- The requests of a bank, each in the state that accepts it, and each completion with its operation in flight. -/
theorem test_bank_cases :
    (∃ t, exec (.eraseBank hd 1) (banked .closed) = .next t ∧ t.store.op = some (.erase 1)) ∧
    (working (banked .closed) (.erase 1)).store.op = some (.erase 1) ∧
    (∃ t, exec (.openBank hd 1 header.code 2026 3 29 60) up = .next t ∧ (t.store.bank 1).state = .opened ∧
      (t.store.bank 1).header = some header) ∧
    (working (banked .opened) (.header 1)).store.op = some (.header 1) ∧
    (∃ t, exec (.writeEntries hd 1 63 [0]) (banked .opened) = .next t ∧
      t.store.op = some (.page 1 63 (pageOf [0]))) ∧
    (working (banked .opened) (.page 1 63 (pageOf [0]))).store.op = some (.page 1 63 (pageOf [0])) ∧
    (∃ t, exec (.writeEntries hd 1 63 [0]) up = .next t ∧
      t.link.reply = some { kind := 0x32, tag := 7, verdict := .refused .wrongBank [] } ∧
      t.out.sources.getLsbD 5 = true) ∧
    ∃ t, exec (.closeBank hd 1) (banked .opened) = .next t ∧ (t.store.bank 1).state = .closed :=
  ⟨⟨_, rfl, by decide +kernel⟩, rfl, ⟨_, rfl, by decide +kernel⟩, rfl, ⟨_, rfl, by decide +kernel⟩, rfl,
    ⟨_, rfl, by decide +kernel⟩, _, rfl, by decide +kernel⟩

/-- Reading a bank and a page that was never written. -/
theorem test_bank_read :
    (∃ t, exec (.readBank hd 1) (banked .opened) = .next t ∧
      t.link.reply = some { kind := 0x36, tag := 7, verdict := .accepted (.bank .opened none false 0 0 none none) }) ∧
    ∃ t, exec (.readEntries hd 1 63) (banked .closed) = .next t ∧
      t.link.reply = some { kind := 0x37, tag := 7
                            verdict := .accepted (.entries false (List.replicate 8 (BitVec.allOnes 128))) } :=
  ⟨⟨_, rfl, by decide +kernel⟩, _, rfl, by decide +kernel⟩

/-- CHECK_BANK and CANCEL_CHECK in the states that accept them, and a check of a bank without a used slot. -/
theorem test_check_cases :
    (∃ t, exec (.checkBank hd 1) (banked .closed) = .next t ∧ (t.store.bank 1).state = .checking ∧ t.check.isSome) ∧
    (∃ t, exec (.cancelCheck hd 1) { banked .checking with check := some begun } = .next t ∧
      (t.store.bank 1).state = .closed ∧ t.check = none) ∧
    ((banked .checking).store.bank 1).used = [] ∧ (up.store.bank 1).state ≠ .checking :=
  ⟨⟨_, rfl, by decide +kernel⟩, ⟨_, rfl, by decide +kernel⟩, by decide +kernel, by decide +kernel⟩

/-- A sound entry: number 0, Monday 00:00 for 5 minutes, transmitter 0, 6000 kHz, 10 kW, antenna 5. -/
def sound : Entry :=
  { number := 0, start := 0, duration := 5, priority := 2, dayZero := 0, days := 1, validFrom := 0xFFFF
    validTo := 0xFFFF, transmitter := 0, programme := 0, kHz := 6000, kW := 10, primary := 5, hasReserve := 0
    reserve := 0, zero := 0 }
/-- The fault kinds of an entry alone in a bank. -/
def faultsOf (e : Entry) : List FaultKind := (entryFaults up.hall [(3, e)] 3 e).map (·.kind)
/-- Entries in the first places of a bank, all with the same firings. -/
def crowd (n : Nat) : List (Nat × Entry) := (upTo n).map fun i => (i, { sound with number := i })

/-- EntryFaultsFound: each kind of the ENTRY pass by a value next to a sound one. -/
theorem test_entry_faults :
    faultsOf sound = [] ∧ faultsOf { sound with number := 512 } = [.fieldRange] ∧
    faultsOf { sound with duration := 4 } = [.timeShape] ∧ faultsOf { sound with kHz := 6001 } = [.raster] ∧
    faultsOf { sound with kHz := 6205 } = [.outOfBand, .antennaBand] ∧
    faultsOf { sound with programme := 1 } = [.txRange] ∧ faultsOf { sound with kW := 11 } = [.powerRange] ∧
    (entryFaults State.reset.hall [] 3 { sound with hasReserve := 1, reserve := 9 }).map (·.kind) =
      [.txRange, .antennaBand, .reserveBand] ∧
    (entryFaults up.hall [(2, sound), (3, sound)] 3 sound).map (·.kind) = [.duplicateNumber] := by decide +kernel

/-- PairFaultsFound: entries of one transmitter and of one antenna that overlap, and two that only meet. -/
theorem test_pair_faults :
    (pairFaults [(0, sound)] 1 { sound with number := 1, start := 4 }).map (·.kind) = [.txOverlap] ∧
    (pairFaults [(0, sound)] 1 { sound with number := 1, transmitter := 1, start := 4 }).map (·.kind) =
      [.antennaOverlap] ∧
    pairFaults [(0, sound)] 1 { sound with number := 1, start := 5 } = [] := by decide +kernel

/-- EntryFaultsFound: a DUPLICATE_NUMBER names the first of three slots. -/
theorem test_duplicate_names :
    (entryFaults up.hall [(1, sound), (2, sound), (3, sound)] 3 sound).map (·.other) = [some ⟨0, 0, 1⟩] := by
  decide +kernel

/-- A bank that holds the entries of `crowd 65`. -/
def crowdedBank : SeasonBank :=
  let slot (i : Nat) : Slot := BitVec.ofNat 128 (i * 2 ^ 112 + 5 * 2 ^ 90 + 2 * 2 ^ 88 + 2 ^ 80 + 0xFFFFFFFF * 2 ^ 48 +
    6000 * 2 ^ 24 + 10 * 2 ^ 15 + 5 * 2 ^ 10)
  { SeasonBank.blank with
    pages := (upTo 9).foldl (fun v p => upd v (Fin.ofNat 64 p)
      (.programmed (pageOf ((((upTo 65).drop (8 * p)).take 8).map slot)))) SeasonBank.blank.pages }

/-- HorizonFaultFound: the fault of a bank names the entry of the 129th firing, here the 64th END. -/
theorem test_horizon_named :
    crowdedBank.used = crowd 65 ∧ (horizonFaults crowdedBank.used).map (·.entry) = [⟨63, 7, 7⟩] := by decide +kernel

/-- HorizonFaultFound: the last crowd of 128 firings, and the first with more. -/
theorem test_horizon_faults : horizonFaults (crowd 64) = [] ∧ (horizonFaults (crowd 65)).length = 1 := by
  decide +kernel

/-- VisitsFindEveryFault: a check just begun. -/
theorem test_visits_begin : begun.pass = .entry ∧ begun.place = 0 ∧ begun.faults = [] ∧ begun.total = 0 :=
  ⟨rfl, rfl, rfl, rfl⟩

/-- SAVE_SETTINGS accepted and refused BUSY, and its completion. -/
theorem test_settings_cases :
    (∃ t, exec (.saveSettings hd (some true) (some false)) up = .next t ∧ t.store.op.isSome ∧
      t.store.autorun = true) ∧
    (working up (.erase 0)).store.op ≠ none ∧
    (working up (.settings someSettings)).store.op = some (.settings someSettings) :=
  ⟨⟨_, rfl, by decide +kernel⟩, nofun, rfl⟩

/-! ### Limits and monitors: O28 -/

/-- The limits of each range are taken; one below is not; no changeover runs. -/
theorem test_limit_cases :
    (∃ t, exec (.setLimits hd ⟨600000, 10000, 0, 120000, 1000, 50, 20000, 5000⟩) up = .next t ∧
      t.limits = ⟨60000, 1000, 0, 12000, 100, 5, 2000, 500⟩) ∧
    (∃ t, exec (.setLimits hd ⟨999, 10000, 0, 120000, 1000, 50, 20000, 5000⟩) up = .next t ∧
      t.link.reply = some { kind := 0x13, tag := 7, verdict := .refused .outOfRange [] }) ∧
    (∃ t, exec (.setLimits hd ⟨1000, 100, 2000, 5000, 30000, 1000, 1000, 0⟩) (changing claiming) = .next t ∧
      t.link.reply = some { kind := 0x13, tag := 7, verdict := .refused .busy [] }) ∧
    (∃ t, exec (.setProtection hd ⟨9, 30000, 600000, 60000, 93, 500⟩) up = .next t ∧
      t.protection = ⟨9, 3000, 60000, 6000, 93, 50⟩) ∧
    (∃ t, exec (.setProtection hd ⟨0, 1000, 10000, 1000, 89, 10000⟩) up = .next t ∧
      t.link.reply = some { kind := 0x15, tag := 7, verdict := .refused .badField [] }) ∧
    (∃ t, exec (.setMonitor hd 11 (some .forward) 15 (some false) 8 (some .fall) (some .line)) up = .next t ∧
      (t.stations.get 11).fwd.config = ⟨15, false, 8, .fall, .line⟩) ∧
    (∃ t, exec (.setMonitor hd 0 (some .forward) 15 (some false) 8 (some .fall) (some .line)) air = .next t ∧
      t.link.reply = some { kind := 0x14, tag := 7, verdict := .refused .inUse [] }) :=
  ⟨⟨_, rfl, by decide +kernel⟩, ⟨_, rfl, by decide +kernel⟩, ⟨_, rfl, by decide +kernel⟩, ⟨_, rfl, by decide +kernel⟩,
    ⟨_, rfl, by decide +kernel⟩, ⟨_, rfl, by decide +kernel⟩, _, rfl, by decide +kernel⟩

/-! ### Field lines and interlocks: O29 to O32 -/

/-- A member on line 4, active HIGH. -/
def onFour (x : Scope) : MemberConfig := { line := 4, activeHigh := true, scope := x }
/-- The machine with member 23 configured on line 4 of kind INTERLOCK. -/
def guarded (x : Scope) : State :=
  let m : MemberRecord := { config := some (onFour x), level := .released, applied := 0 }
  { up with
    lines := upd up.lines 4 { kind := .interlock, latch := false, pin := some false, last := some false }
    ilu := { up.ilu with members := upd up.ilu.members 23 m } }
/-- The machine with member 23 latched at a level. -/
def latched (x : Scope) (level : MemberLevel) : State :=
  let m : MemberRecord := { config := some (onFour x), level := level, applied := 1 }
  { guarded x with ilu := { up.ilu with
      members := upd up.ilu.members 23 m, firstOut := some 23, latchedSet := [23] } }

/-- SET_LINE: the last line, a second PULSE line, a line of a latched group, a line that stops being INTERLOCK. -/
theorem test_line_cases :
    (∃ t, exec (.setLine hd 31 (some .lamp) 11) up = .next t ∧ (t.lines.get 31).kind = .lamp 11) ∧
    (∃ t, exec (.setLine hd 31 (some .pulse) 0) pulsed = .next t ∧
      t.link.reply = some { kind := 0x16, tag := 7, verdict := .refused .lineClaimed [] }) ∧
    (∃ t, exec (.setLine hd 3 (some .input) 0) pulsed = .next t ∧ t.clock.watch = none) ∧
    (∃ t, exec (.setLine hd 4 (some .input) 0) (latched .matrix .active) = .next t ∧
      t.link.reply = some { kind := 0x16, tag := 7, verdict := .refused .held [] }) ∧
    (∃ t, exec (.setLine hd 4 (some .input) 0) (guarded .matrix) = .next t ∧ (t.ilu.members.get 23).config = none) ∧
    ∃ t, exec (.writeLines hd [(31, 1), (0, 1), (31, 0)]) up = .next t ∧
      t.link.reply = some { kind := 0x18, tag := 7, verdict := .accepted (.latches 1) } :=
  ⟨⟨_, rfl, by decide +kernel⟩, ⟨_, rfl, by decide +kernel⟩, ⟨_, rfl, by decide +kernel⟩, ⟨_, rfl, by decide +kernel⟩,
    ⟨_, rfl, by decide +kernel⟩, _, rfl, by decide +kernel⟩

/-- SET_MEMBER: accepted with a line that is not active and with one that is, and each refusal of its state tests. -/
theorem test_member_cases :
    (∃ t, exec (.setMember hd 23 4 (some true) (.antenna 35)) (guarded .matrix) = .next t ∧
      t.ilu.latchedSet = [] ∧ (t.ilu.members.get 23).config = some (onFour (.antenna 35))) ∧
    (∃ t, exec (.setMember hd 23 4 (some false) (.transmitters 4095)) (guarded .matrix) = .next t ∧
      t.ilu.latchedSet = [23] ∧ t.ilu.firstOut = some 23) ∧
    (∃ t, exec (.setMember hd 22 4 (some true) .matrix) (guarded .matrix) = .next t ∧
      t.link.reply = some { kind := 0x17, tag := 7, verdict := .refused .lineClaimed [] }) ∧
    (∃ t, exec (.setMember hd 23 31 (some true) .matrix) up = .next t ∧
      t.link.reply = some { kind := 0x17, tag := 7, verdict := .refused .wrongState [] }) ∧
    ∃ t, exec (.setMemberRemove hd 23) (latched .matrix .active) = .next t ∧
      t.link.reply = some { kind := 0x17, tag := 7, verdict := .refused .held [] } :=
  ⟨⟨_, rfl, by decide +kernel⟩, ⟨_, rfl, by decide +kernel⟩, ⟨_, rfl, by decide +kernel⟩, ⟨_, rfl, by decide +kernel⟩, _,
    rfl, by decide +kernel⟩

/-- SET_MEMBER leaves no level change of the earlier line on its way. -/
theorem test_member_forgets :
    ∃ t, exec (.setMember hd 23 4 (some true) .matrix)
        { guarded .matrix with out := { up.out with handed := [.memberLevelChange 23 .active] } } = .next t ∧
      t.out.handed = [] ∧ t.ilu.latchedSet = [] := ⟨_, rfl, by decide +kernel⟩

/-- INTERLOCK_CLEAR: STILL_ACTIVE names the member, a released group clears; the emergency stop likewise. -/
theorem test_clear_cases :
    (∃ t, exec (.interlockClearGroup hd true) (latched (.antenna 5) .active) = .next t ∧
      t.link.reply = some { kind := 0x57, tag := 7, verdict := .refused .stillActive [23] }) ∧
    (∃ t, exec (.interlockClearGroup hd true) (latched (.antenna 5) .released) = .next t ∧ t.ilu.firstOut = none ∧
      t.out.handed = [.holdRemove 0 ⟨0x800000, false, false⟩, .gateMemberRemove 5 0x800000]) ∧
    (∃ t, exec (.emergencyInputChange true) up = .next t ∧ t.ilu.emergency = true ∧ t.out.handed.length = 13) ∧
    ∃ t, exec (.interlockClearEmergency hd)
        { up with ilu := { up.ilu with emergency := true, input := some false } } = .next t ∧
      t.ilu.emergency = false :=
  ⟨⟨_, rfl, by decide +kernel⟩, ⟨_, rfl, by decide +kernel⟩, ⟨_, rfl, by decide +kernel⟩, _, rfl, by decide +kernel⟩

/-- GroupClearDecided: a cleared member of MATRIX scope. -/
theorem test_clear_matrix :
    ∃ t, exec (.interlockClearGroup hd true) (latched .matrix .released) = .next t ∧
      t.out.handed = [.holdRemove 0 ⟨0x800000, false, false⟩, .suspensionSourceRemove ⟨0x800000, false, false⟩] :=
  ⟨_, rfl, by decide +kernel⟩

/-- LevelsLatch: a level change of a member's line, of a driven line, and the member that becomes ACTIVE. -/
theorem test_level_cases :
    (∃ t, exec (.fieldLineLevelChange 4 true) (guarded .matrix) = .next t ∧
      t.out.handed = [.memberLevelChange 23 .active]) ∧
    ((guarded .matrix).ilu.memberOn 4 = some 23 ∧ up.ilu.memberOn 4 = none) ∧
    (LineKind.output).drives = true ∧
    (∃ t, exec (.memberLevelChange 23 .active) (guarded .matrix) = .next t ∧ t.ilu.firstOut = some 23 ∧
      t.out.handed.length = 13 ∧ t.out.sources.getLsbD 3 = true) ∧
    (up.ilu.members.get 0).config = none ∧ (23 : Member) ∈ (latched .matrix .active).ilu.latchedSet :=
  ⟨⟨_, rfl, by decide +kernel⟩, by decide +kernel, rfl, ⟨_, rfl, by decide +kernel⟩, by decide +kernel⟩

/-- The machine with line 3 of kind PULSE, its pin LOW. -/
def lowPulse : State :=
  { pulsed with lines := upd pulsed.lines 3 { pulsed.lines.get 3 with pin := some false, last := some false } }

/-- LevelChangesFollowed and TwoSamplesAreAccepted: the rising edge of a PULSE line, the first and the second sample of a
level, of a driven line and of the emergency input. -/
theorem test_sample_cases :
    (∃ t, exec (.fieldLineLevelChange 3 true) lowPulse = .next t ∧ t.out.handed = [] ∧ t.clock.pulse = .locked ∧
      (t.lines.get 3).pin = some true) ∧
    (lowPulse.pulseLine = some 3 ∧ exec (.fieldLineLevelChange 3 true) lowPulse = exec .secondPulse lowPulse) ∧
    exec .secondPulse lowPulse = .next (lowPulse.sampleLine true 3) ∧
    ((lowPulse.sampleLine true 3).clock.pulse = .locked ∧ ((pulsed.sampleLine true 3).lines.get 3).pin = some true) ∧
    ((((guarded .matrix).sampleLine true 4).lines.get 4).pin = some false ∧
      (((guarded .matrix).sampleLine true 4).sampleLine true 4).out.handed = [.memberLevelChange 23 .active]) ∧
    ((up.lines.get 0).kind.drives = false ∧
      ((({ up with lines := upd up.lines 0 { kind := .output, latch := false, pin := none, last := none } } : State)
        ).lines.get 0).kind.drives = true) ∧
    ((up.sampleEmergency false).ilu.input = none ∧
      ((up.sampleEmergency false).sampleEmergency false).ilu.emergency = true) :=
  ⟨⟨_, rfl, by decide +kernel⟩, ⟨by decide +kernel, rfl⟩, rfl, by decide +kernel, by decide +kernel, by decide +kernel,
    by decide +kernel⟩

/-! ### The host link: O33 to O37 -/

/-- ClearSourcesClears: an event between two clearings. -/
theorem test_clear_sources :
    hd.sized = true ∧ (0x40 : Byte).getLsbD EventKind.timeSet.class = true ∧
    ∃ t, exec (.clearSources hd 0x40)
        { up with out := up.out.raise { kind := .timeSet, subject := .none, detail := [] } } = .next t ∧
      t.out.sources = 0 ∧ t.link.reply = some { kind := 0x71, tag := 7, verdict := .accepted (.sources 0x40) } :=
  ⟨rfl, by decide, _, rfl, by decide +kernel⟩

/-- The machine with its receiver in a partial frame. -/
def receiving (bytes : List Byte) : State := { up with link := { up.link with receiver := .receiving bytes } }

/-- FramesReceived: the shortest and the longest length, one beyond each, the last byte of a frame and a byte before. -/
theorem test_receiver_cases :
    lengthField [0, 2] = some 2 ∧ lengthField [2, 2] = some 514 ∧ lengthField [2, 3] = some 515 ∧
    lengthField [0, 1] = some 1 ∧ up.link.receiver = .hunting ∧
    (receiving [0, 2, 0x60, 1, 0xAA]).link.receiver = .receiving [0, 2, 0x60, 1, 0xAA] ∧
    ([0, 2, 0x60, 1, 0xAA, 0xBB] : List Byte).length = 2 + 4 := by decide

/-- ReceivedFrameIsQueued: a sound frame taken at once, one with a wrong check, and the queue with and without room. -/
theorem test_frame_cases :
    frameShape statusFrame = true ∧
    leads (exec (.frameReceived statusFrame) up) (fun t => t.link.queue.isEmpty && !t.link.taking &&
      t.link.reply.any fun r => r.kind == 0x60 && r.tag == 1) = true ∧
    leads (exec (.frameReceived [0, 2, 0x60, 1, 0, 0]) up)
      (fun t => t.link.queue.isEmpty && t.link.reply.isNone && t.out.sources.getLsbD 7) = true ∧
    leads (exec (.frameReceived statusFrame) (waitingReply 3))
      (fun t => t.link.queue.getLast? == some (.frame { kind := 0x60, tag := 1, body := [] })) = true ∧
    leads (exec (.frameReceived statusFrame) (waitingReply 4)) (fun t => t.link.refusal == some ⟨1, 0x60⟩) = true ∧
    leads (exec (.frameReceived statusFrame)
      { waitingReply 4 with link := { (waitingReply 4).link with refusal := some ⟨5, 0x60⟩ } })
      (fun t => t.link.refusal == some ⟨5, 0x60⟩ && t.out.sources.getLsbD 7) = true := by decide +kernel

/-- OutgoingFramesInOrder and StartupStepsFollow: a reply's end and start-up's take the request at the head of the
queue. -/
theorem test_request_taken :
    (∀ r ∈ (waitingReply 2).link.queue, (requestOf r.command).isSome = true) ∧
    leads (exec .outgoingFrameEnd { waitingReply 2 with link := { (waitingReply 2).link with
        line := some (.reply { kind := 0x60, tag := 9, verdict := .accepted .empty }) } })
      (fun t => t.link.queue.length == 1 && t.link.line.isNone && t.link.reply.any fun r => r.tag == 7) = true ∧
    leads (exec .startupEnd (waitingEnd 1))
      (fun t => t.boot.phase == .done && t.link.queue.isEmpty && t.link.reply.isSome) = true := by decide +kernel

/-- A reply of an accepted RESTART, and one of READ_STATUS refused. -/
def restartReply : Reply := { kind := 0x74, tag := 7, verdict := .accepted .empty }
/-- The machine with a frame on the line. -/
def sending (f : LineFrame) : State := { up with link := { up.link with line := some f } }

/-- OutgoingFramesInOrder: the three kinds of frame begin, and each kind's end. -/
theorem test_outgoing_cases :
    (∃ t, exec .outgoingFrameBegin { up with link := { up.link with refusal := some ⟨1, 0x60⟩ } } = .next t ∧
      t.link.line = some (.refusal ⟨1, 0x60⟩)) ∧
    (∃ t, exec .outgoingFrameBegin { up with link := { up.link with reply := some restartReply } } = .next t ∧
      t.link.line = some (.reply restartReply)) ∧
    (∃ t, exec .outgoingFrameBegin
        { up with out := up.out.raise { kind := .timeSet, subject := .none, detail := [] } } = .next t ∧
      t.link.line.isSome ∧ t.out.notices = []) ∧
    (sending (.refusal ⟨1, 0x60⟩)).link.line = some (.refusal ⟨1, 0x60⟩) ∧
    (sending (.reply { restartReply with kind := 0x60 })).link.line = some (.reply { restartReply with kind := 0x60 }) :=
  ⟨⟨_, rfl, by decide +kernel⟩, ⟨_, rfl, by decide +kernel⟩, ⟨_, rfl, by decide +kernel⟩, rfl, rfl⟩

/-! ### The schedule engine: O38 to O40 -/

/-- An entry slot: number 3, 08:00 for 60 minutes, every day, transmitter 0, 6000 kHz, 10 kW, antenna 5. -/
def slot : Slot :=
  BitVec.ofNat 128 (3 * 2 ^ 112 + 480 * 2 ^ 101 + 60 * 2 ^ 90 + 2 * 2 ^ 88 + 127 * 2 ^ 80 + 0xFFFFFFFF * 2 ^ 48 +
    6000 * 2 ^ 24 + 10 * 2 ^ 15 + 5 * 2 ^ 10)
/-- The entry of the slot. -/
def entry : Entry := Slot.entry slot
/-- Bank 0 in a state with that one entry and an effective start at minute 0. -/
def seasonal (x : BankState) : SeasonBank :=
  let cell : Cell := { state := x, erasePending := false, activation := 7, report := none }
  { SeasonBank.blank with
    header := some { header with date := ⟨2000, 1, 1⟩, minute := 0 }, headerPage := .programmed
    pages := upd SeasonBank.blank.pages 0 (.programmed (pageOf [slot])), cell := StateCell.erased.write cell }
/-- The machine at 2000-01-02 08:00 with bank 0 in a state, its clock set. -/
def scheduled (x : BankState) : State :=
  { up with
    store := { up.store with banks := upd up.store.banks 0 (seasonal x) }
    clock := { up.clock with isSet := true, reading := ⟨⟨2000, 1, 2⟩, 480, 0, 0⟩ } }
/-- The entry's firings of that day. -/
def startFiring : Firing := { time := 1920, kind := .start, bank := 0, entry := 3, day := 1, t := 0 }
/-- See `startFiring`. -/
def endFiring : Firing := { time := 1980, kind := .end_, bank := 0, entry := 3, day := 1, t := 0 }
/-- An engine that runs with one firing listed. -/
def runningWith (s : State) (f : Firing) : State :=
  { s with engine := { s.engine with state := .running, upcoming := [f], fill := some { next := 1980, placed := 0 } } }

/-- EntryParted: a window that ends at midnight, and one of a Sunday that goes on a minute into Monday. -/
theorem test_entry_parts :
    let upTo : Entry := { sound with start := 1380, duration := 60, days := 64 }
    (upTo.parts.map fun p => (p.days, p.lo, p.hi)) = [(64, 1380, 1440)] ∧
    (({ upTo with duration := 61 } : Entry).parts.map fun p => (p.days, p.lo, p.hi)) = [(64, 1380, 1440), (1, 0, 1)] := by
  decide +kernel

theorem test_entry_fields : entry.number = 3 ∧ entry.start = 480 ∧ entry.duration = 60 ∧ entry.days = 127 ∧
    entry.kHz = 6000 ∧ entry.kW = 10 ∧ entry.primary = 5 ∧ entry.fieldRange = false ∧ entry.timeShape = false := by
  decide +kernel

/-- Bank 0 VALID, and bank 1 under a running check. -/
def described : State :=
  let s := banked .checking
  { s with check := some begun, store := { s.store with banks := upd s.store.banks 0 (seasonal .valid) } }

/-- A station without its transmitter, whose lock reason is kept. -/
def relocked : Station :=
  { readyStation with tr := { readyStation.tr with
      state := .dark .absent, lock := some .txFault, poll := none, desc := { readyStation.tr.desc with present := false } } }

/-- TransmitterChangeRaises and SetAntennaDecided: a change that relocks the transmitter, takes the VALID bank back and
aborts the check; and an antenna's change with its bands and without. -/
theorem test_description_events :
    (∃ t, exec (.setTransmitter hd 0 true 10 1 2300 2300 1) { described with stations := upd up.stations 0 relocked } =
        .next t ∧
      t.out.notices = [locking 0 .txFault (b2 0xFFFF), { kind := .descriptionChanged, subject := .bank 0, detail := [] },
        { kind := .checkDone, subject := .bank 1, detail := [3] }]) ∧
    (∃ t, exec (.setAntenna hd 31 true .curtain 1) described = .next t ∧ t.check = none ∧
      (t.store.bank 0).state = .closed ∧ (t.store.bank 1).state = .closed ∧
      t.out.notices.map (·.kind) = [.descriptionChanged, .checkDone]) ∧
    (∃ t, exec (.setAntenna hd 31 true .curtain 16383) described = .next t ∧ t.check = some begun ∧
      t.out.notices = []) ∧ (described.tr 0).slot = none :=
  ⟨⟨_, rfl, by decide +kernel⟩, ⟨_, rfl, by decide +kernel⟩, ⟨_, rfl, by decide +kernel⟩, by decide +kernel⟩

/-- RUN with a clock that is not set, without a season, and accepted: the due START begins a changeover. -/
theorem test_run_cases :
    (∃ t, exec (.run hd) up = .next t ∧
      t.link.reply = some { kind := 0x40, tag := 7, verdict := .refused .clockNotSet [] }) ∧
    (∃ t, exec (.run hd) (scheduled .valid) = .next t ∧
      t.link.reply = some { kind := 0x40, tag := 7, verdict := .refused .noSeason [] }) ∧
    (scheduled .active).engine.state ≠ .running ∧ (scheduled .active).clock.isSet = true ∧
    (scheduled .active).store.active ≠ none ∧ (runningWith up startFiring).engine.state = .running :=
  ⟨⟨_, rfl, by decide +kernel⟩, ⟨_, rfl, by decide +kernel⟩, by decide +kernel⟩

/-- RUN accepted: the window that begins now is taken, and its end listed. -/
theorem test_run_accepted :
    ∃ t, exec (.run hd) (scheduled .active) = .next t ∧ t.engine.state = .running ∧ (t.tr 0).state = .changing ∧
      t.engine.upcoming = [] ∧ t.engine.leftOut = false ∧ t.engine.fill = some { next := 1980, placed := 0 } :=
  ⟨_, rfl, by decide +kernel⟩

/-- A boundary of kind ADVANCE whose clock is set. -/
def setAdvance (now : Nat) : Boundary := { kind := .advance, now := now, clockSet := true, previous := none }

/-- AutorunStartsAsRunDoes: armed and not, in the minute that the clock reads. -/
theorem test_autorun :
    ((setAdvance 1920).now = (scheduled .active).now ∧ ((scheduled .active).store.bank 0).state = .active ∧
      ((scheduled .active).store.bank 1).state = .erased) ∧
    (∃ t, exec (.minuteBoundary (setAdvance 1920))
        { scheduled .active with engine := { up.engine with armed := true } } = .next t ∧ t.engine.state = .running) ∧
    ∃ t, exec (.minuteBoundary (setAdvance 1920)) (scheduled .active) = .next t ∧ t.engine.state = .halted :=
  ⟨by decide +kernel, ⟨_, rfl, by decide +kernel⟩, _, rfl, by decide +kernel⟩

/-- A carried record that ends at a minute. -/
def carriedTo (now : Nat) : Carried := { t := 0, bank := 1, entry := 9, day := 1, endTime := now }

/-- FiringsGathered: a START, the END of its window, no START while DRAINING, a carried END behind the bank's, and one
that is the bank's own. -/
theorem test_gather :
    (scheduled .active).gather 1920 = [startFiring] ∧ (scheduled .active).gather 1979 = [] ∧
    ({ scheduled .active with engine := { up.engine with state := .draining } } : State).gather 1920 = [] ∧
    ({ scheduled .active with engine := { up.engine with carried := [carriedTo 1980] } } : State).gather 1980 =
      [endFiring, { time := 1980, kind := .end_, bank := 1, entry := 9, day := 1, t := 0 }] ∧
    ({ scheduled .active with engine := { up.engine with
      carried := [{ t := 0, bank := 0, entry := 3, day := 1, endTime := 1980 }] } } : State).gather 1980 =
      [endFiring] := by decide +kernel

/-- The machine with a number of carried records of their own entries, over the first minutes. -/
def crowded (n : Nat) : State :=
  let all : List Carried := (List.range n).map fun k => { carriedTo (k / 43) with entry := k }
  { up with engine := { up.engine with carried := all } }

/-- ListRebuilt: a list that its last place suffices for, and one firing more. -/
theorem test_rebuild : ((crowded 128).rebuild 0).engine.leftOut = false := by decide +kernel
/-- See `test_rebuild`. -/
theorem test_rebuild_overflow :
    let t := (crowded 129).rebuild 0
    t.engine.leftOut = true ∧ t.engine.upcoming.length = 128 ∧ t.out.sources.getLsbD 1 = true := by decide +kernel

/-- HALT: a drain with schedule work drains, one without halts, a stop leaves the carrier. -/
theorem test_halt_cases :
    (∃ t, exec (.haltDrain hd true) (runningWith air endFiring) = .next t ∧ t.engine.state = .draining) ∧
    (∃ t, exec (.haltDrain hd true) (runningWith up startFiring) = .next t ∧ t.engine.state = .halted) ∧
    ∃ t, exec (.haltStop hd) (runningWith air endFiring) = .next t ∧ (t.tr 0).state = .onAir ∧
      (t.tr 0).work = none :=
  ⟨⟨_, rfl, by decide +kernel⟩, ⟨_, rfl, by decide +kernel⟩, _, rfl, by decide +kernel⟩

/-- BoundarySwitchesSeason: the very minute of the effective start. -/
theorem test_switch_case :
    ((scheduled .valid).store.bank 0).state = .valid ∧ ((scheduled .valid).store.bank 0).effective = some 0 ∧
    ((scheduled .valid).store.bank 1).state ≠ .valid ∧ (scheduled .valid).engine.state = .halted ∧
    up.boot.phase = .done ∧ State.reset.boot.phase ≠ .done := by decide +kernel

/-- The bank of `seasonal` with its effective start at the minute of its window. -/
def nextSeason (x : BankState) : SeasonBank :=
  { seasonal x with header := some { header with date := ⟨2000, 1, 2⟩, minute := 480 } }
/-- Bank 0 in a state, and bank 1 with an effective start of this very minute in another. -/
def twoSeasons (x y : BankState) : State :=
  { scheduled x with store := { (scheduled x).store with banks := upd (scheduled x).store.banks 1 (nextSeason y) } }

/-- SeasonChosen: both banks, one of them, none. -/
theorem test_season_chosen :
    (twoSeasons .valid .valid).switchTo 1920 = some 1 ∧ (twoSeasons .valid .valid).switchTo 1919 = some 0 ∧
    (twoSeasons .valid .closed).switchTo 1920 = some 0 ∧ (twoSeasons .active .closed).switchTo 1920 = none := by
  decide +kernel

/-- SeasonMissed: the minute of the effective start, and the one after it. -/
theorem test_season_missed :
    (∃ t, exec (.minuteBoundary (setAdvance 1920)) (twoSeasons .erased .closed) = .next t ∧
      t.out.notices = [{ kind := .seasonMissed, subject := .bank 1, detail := [2] }]) ∧
    (∃ t, exec (.minuteBoundary (setAdvance 1921)) (twoSeasons .erased .closed) = .next t ∧ t.out.notices = []) ∧
    ((twoSeasons .erased .closed).store.bank (otherBank 1)).state = .erased ∧
    ((twoSeasons .erased .closed).store.bank 1).effective = some 1920 :=
  ⟨⟨_, rfl, by decide +kernel⟩, ⟨_, rfl, by decide +kernel⟩, by decide +kernel⟩

/-- A START request of bank 0 that waits in a Pending slot. -/
def waitingStart : StartRequest :=
  { work := some { work with windowEnd := 1980 }, late := false, column := 5, reserve := none, kHz := 6000, kW := 10
    programme := 0, priority := 2 }
/-- A running engine at the effective start of bank 1, transmitter 0 on air and a request of transmitter 1 waiting, both
of bank 0. -/
def carrying : State :=
  let s := twoSeasons .active .valid
  let waits : Station := { readyStation with tr := { readyStation.tr with state := .changing, slot := some waitingStart } }
  { s with
    matrix := routed, stations := upd (upd s.stations 0 airStation) 1 waits
    engine := { s.engine with state := .running, fill := some { next := 1980, placed := 0 } } }

/-- HaltRecordsMissed: the waiting request of transmitter 1, at a STOP and at a DRAIN. -/
theorem test_halt_missed :
    (∃ t, exec (.haltStop hd) carrying = .next t ∧ t.out.notices = [missing 1 .halted] ∧
      (t.out.log.records.map (·.detail)) = [.halted]) ∧
    ∃ t, exec (.haltDrain hd true) carrying = .next t ∧ t.out.notices = [missing 1 .halted] ∧
      (t.out.log.records.map (·.t)) = [1] ∧ t.engine.state = .draining :=
  ⟨⟨_, rfl, by decide +kernel⟩, _, rfl, by decide +kernel⟩

/-- SwitchCarries and SwitchIsServed: the carried work and the evicted request, and the record of a work that has ended
beside that of another transmitter. -/
theorem test_switch_carries :
    carrying.engine.state ≠ .halted ∧ carrying.switchTo 1920 = some 1 ∧
    (carrying.makeSwitch 1920 1).engine.carried = [{ t := 0, bank := 0, entry := 3, day := 1, endTime := 2000 }] ∧
    ((carrying.makeSwitch 1920 1).tr 1).slot = none ∧ (carrying.makeSwitch 1920 1).out.notices.length = 2 ∧
    (({ carrying with engine := { carrying.engine with
        carried := [carriedTo 1990, { carriedTo 1990 with t := 2 }] } } : State).makeSwitch 1920 1).engine.carried =
      [{ carriedTo 1990 with t := 2 }, { t := 0, bank := 0, entry := 3, day := 1, endTime := 2000 }] := by
  decide +kernel

/-- A boundary of kind ADVANCE whose clock is not set. -/
def advance (now : Nat) : Boundary := { kind := .advance, now := now, clockSet := false, previous := none }

/-- BoundaryTakesAStart: its hypotheses, for a READY transmitter. -/
theorem test_start_firing :
    (runningWith (scheduled .active) startFiring).entryOf 0 3 = some entry ∧
    (runningWith (scheduled .active) startFiring).engine.firedOn 3 ≠ some 1 ∧
    (runningWith (scheduled .active) startFiring).retest entry = true ∧ startFiring.time ≤ (advance 1920).now ∧
    ((scheduled .active).tr 0).state = .ready ∧ ((scheduled .active).tr 0).manualHold = false ∧
    ((scheduled .active).tr 0).current = none := by decide +kernel

/-- A boundary keeps the season: one that carries NOT_SET, and one that carries SET over an ACTIVE bank. -/
theorem test_keeps_season :
    keepsSeason (advance 1920) up ∧ keepsSeason (setAdvance 1920) (runningWith (scheduled .active) startFiring) := by
  have quiet : ∀ k, let x := ((runningWith (scheduled .active) startFiring).store.bank k).state
      ¬ (x = .opened ∨ x = .closed ∨ x = .checking ∨ x = .rejected) := by decide +kernel
  exact ⟨Or.inl rfl, Or.inr ⟨by decide +kernel, fun k _ _ h => absurd h (quiet k)⟩⟩

/-- The records of entry 3 on two dates. -/
def twoDates : List Carried :=
  [{ t := 0, bank := 0, entry := 3, day := 1, endTime := 1980 }, { t := 0, bank := 0, entry := 3, day := 2, endTime := 3420 }]

/-- BoundaryTakesAnEnd and WorkEndedReported: the window's own transmission ends; a firing that nothing matches, and a
report, remove the record of their own date alone; a draining engine halts. -/
theorem test_end_firing :
    (∃ t, exec (.minuteBoundary (setAdvance 1980)) (runningWith air endFiring) = .next t ∧
      (t.tr 0).state = .changing ∧ t.out.port = [(0, .mute)]) ∧
    (∃ t, exec (.minuteBoundary (setAdvance 1980)) (let s := runningWith up endFiring
        { s with engine := { s.engine with carried := twoDates } }) = .next t ∧ t.tr 0 = up.tr 0 ∧
      t.engine.carried = twoDates.drop 1) ∧
    (∃ t, exec (.scheduleWorkEnded 0 work)
        { up with engine := { up.engine with state := .running, carried := twoDates } } = .next t ∧
      t.engine.carried = twoDates.drop 1 ∧ t.engine.state = .running) ∧
    ∃ t, exec (.scheduleWorkEnded 0 work) { up with engine := { up.engine with state := .draining } } = .next t ∧
      t.engine.state = .halted :=
  ⟨⟨_, rfl, by decide +kernel⟩, ⟨_, rfl, by decide +kernel⟩, ⟨_, rfl, by decide +kernel⟩, _, rfl, by decide +kernel⟩

/-- A running engine with the START of entry 3 due, and transmitter 0 with a transmission of another bank or work. -/
def startDue (w : Option SchedRef) (f : TxRecord → TxRecord) : State :=
  let s := runningWith (scheduled .active) startFiring
  let r := f { airStation.tr with current := some { onFive with work := w } }
  { s with matrix := routed, stations := upd s.stations 0 { airStation with tr := r } }

/-- BoundaryTakesAStart: a continuation and a changeover of a transmission on air, of the ACTIVE bank, of the other bank
and of no bank; a restrike given up; a held transmission out of service; and a Pending slot that was full. -/
theorem test_start_takes_over :
    leads (exec (.minuteBoundary (setAdvance 1920)) (startDue (some { work with entry := 4 }) id)) (fun t =>
      (t.tr 0).state == .onAir && t.out.log.records.map (·.detail) == [.superseded, .continued] && t.out.port == []) =
      true ∧
    leads (exec (.minuteBoundary (setAdvance 1920)) (startDue (some { work with bank := 1 }) fun r =>
        { r with current := r.current.map fun x => { x with kHz := 6005 } })) (fun t =>
      (t.tr 0).state == .changing && t.out.log.records.map (·.detail) == [.season] && t.out.port == []) = true ∧
    leads (exec (.minuteBoundary (setAdvance 1920)) (startDue none fun r => { r with state := .tripped })) (fun t =>
      (t.tr 0).state == .changing && t.out.log.records.map (·.detail) == [.superseded]) = true ∧
    leads (exec (.minuteBoundary (setAdvance 1920)) (startDue none fun r => { r with state := .held })) (fun t =>
      (t.tr 0).state == .changing && (t.tr 0).slot.isNone &&
      t.out.log.records.map (·.detail) == [.superseded]) = true ∧
    leads (exec (.minuteBoundary (setAdvance 1920)) (startDue none fun r => { r with
        state := .held, holds := Sources.none.add .mains
        slot := some { work := none, late := false, column := 9, reserve := none, kHz := 7200, kW := 10, programme := 0
                       priority := 3 } })) (fun t =>
      (t.tr 0).state == .held && (t.tr 0).slot.any (fun q => q.column == 5) &&
      t.out.log.records.map (fun m => (m.detail, m.kHz)) == [(.superseded, some 7200)] &&
      t.out.notices == [missing 0 .superseded]) = true := by decide +kernel

/-- BoundaryTakesAnEnd: the window of a tripped transmission ends, and that of a held one whose RF is ABSENT. -/
theorem test_end_elsewhere :
    leads (exec (.minuteBoundary (setAdvance 1980)) (runningWith (air0 fun r => { r with state := .tripped }) endFiring))
      (fun t => (t.tr 0).state == .changing && t.out.port == [(0, .mute)]) = true ∧
    leads (exec (.minuteBoundary (setAdvance 1980)) (runningWith (heldAt 1980) endFiring)) (fun t =>
      (t.tr 0).state == .ready && t.out.port == [(0, .mute)] && t.out.log.records.map (·.detail) == [.window]) =
      true := by decide +kernel

/-- A plan whose one step is MOVING. -/
def movingStep : List PlanStep := [{ kind := .closeTarget, row := 0, column := 5, status := .moving }]

/-- BoundaryTakesAnEnd: the window of a transmission that a changeover builds ends, at once and with a drive moving; and
that of a waiting request. -/
theorem test_end_of_a_build :
    leads (exec (.minuteBoundary (setAdvance 1980)) (runningWith (changing claiming) endFiring)) (fun t =>
      (t.tr 0).state == .ready && (t.tr 0).context.isNone &&
      t.out.log.records.map (·.detail) == [.abandoned]) = true ∧
    leads (exec (.minuteBoundary (setAdvance 1980))
        (runningWith (changing { claiming with phase := .drive, plan := movingStep }) endFiring)) (fun t =>
      (t.tr 0).context.any (fun k => k.phase == .windUp && k.outcome == some .abandoned && k.closing == .window)) =
      true ∧
    leads (exec (.minuteBoundary (setAdvance 1980)) (runningWith (at0 fun r => { r with
        state := .held, reported := .held, holds := Sources.none.add .mains
        current := some { onFive with work := none }, slot := some waitingStart }) endFiring)) (fun t =>
      (t.tr 0).state == .held && (t.tr 0).slot.isNone && t.out.notices == [missing 0 .tooLate] &&
      t.out.log.records.map (·.detail) == [.tooLate]) = true := by decide +kernel

/-- StartTurnedAway: a date that the Fired Table holds, and an entry that fails the re-test. -/
theorem test_start_away :
    (∃ t, exec (.minuteBoundary (advance 1920))
        (let s := runningWith (scheduled .active) startFiring
         { s with engine := s.engine.fire 3 1 }) = .next t ∧ t.out.log.records = [] ∧ t.engine.upcoming = []) ∧
    ∃ t, exec (.minuteBoundary (advance 1920))
        (let s := runningWith (scheduled .active) startFiring
         { s with stations := upd s.stations 0 { readyStation with tr := { readyStation.tr with
            desc := { readyStation.tr.desc with low := 7000 } } } }) = .next t ∧
      (t.out.log.records.map (·.detail)) = [.description] ∧ t.engine.firedOn 3 = some 1 :=
  ⟨⟨_, rfl, by decide +kernel⟩, _, rfl, by decide +kernel⟩

/-- Transmitter 0 on air with entry 4 of bank 0, whose window ends as that of entry 3 begins, and both due. -/
def meeting (f : TxRecord → TxRecord) : State :=
  let s := scheduled .active
  let x : Transmission := { onFive with work := some { bank := 0, entry := 4, day := 1, windowEnd := 1920 } }
  let r := f { airStation.tr with current := some x }
  { s with
    matrix := routed, stations := upd s.stations 0 { airStation with tr := r }
    engine := { s.engine with
      state := .running, fill := some { next := 1980, placed := 0 }
      upcoming := [{ time := 1920, kind := .end_, bank := 0, entry := 4, day := 1, t := 0 }, startFiring] } }

/-- PairTakenTogether: a continuation, a changeover, and the manual hold flag. -/
theorem test_pair :
    (∃ t, exec (.minuteBoundary (setAdvance 1920)) (meeting id) = .next t ∧ (t.tr 0).state = .onAir ∧ t.out.port = [] ∧
      (t.out.log.records.map (·.detail)) = [.followed, .continued]) ∧
    (∃ t, exec (.minuteBoundary (setAdvance 1920)) (meeting fun r => { r with state := .tripped }) = .next t ∧
      (t.tr 0).state = .changing ∧ t.out.port = [] ∧ (t.out.log.records.map (·.detail)) = [.followed]) ∧
    ∃ t, exec (.minuteBoundary (setAdvance 1920)) (meeting fun r => { r with manualHold := true }) = .next t ∧
      t.out.port = [(0, .mute)] ∧ (t.out.log.records.map (·.detail)) = [.manualHold] :=
  ⟨⟨_, rfl, by decide +kernel⟩, ⟨_, rfl, by decide +kernel⟩, _, rfl, by decide +kernel⟩

/-- A STEP boundary that moves a set clock from one minute to another. -/
def stepTo (previous now : Nat) : Boundary := { kind := .step, now := now, clockSet := true, previous := some previous }
/-- A running engine with an empty list that is filled up to a minute beyond the hour. -/
def runningEmpty : State :=
  let s := scheduled .active
  { s with engine := { s.engine with state := .running, fill := some { next := 2200, placed := 0 } } }

/-- LateWindowsFound: a minute after the beginning, two minutes before the end, and one. -/
theorem test_late_start :
    (runningEmpty.entries 0 = [entry] ∧ entry.inEffect 1 = true ∧ runningEmpty.engine.firedOn entry.number ≠ some 1 ∧
      runningEmpty.retest entry = true ∧ entry.begins 1 = 1920 ∧ entry.ends 1 = 1980) ∧
    (∃ t, exec (.minuteBoundary (stepTo 1978 1978)) runningEmpty = .next t ∧ (t.tr 0).state = .changing ∧
      t.out.sources.getLsbD 1 = true) ∧
    ∃ t, exec (.minuteBoundary (stepTo 1979 1979)) runningEmpty = .next t ∧ (t.tr 0).state = .ready ∧
      (t.out.log.records.map (·.detail)) = [.tooLate] :=
  ⟨by decide +kernel, ⟨_, rfl, by decide +kernel⟩, _, rfl, by decide +kernel⟩

/-- ClockStepsRuled: the END of a transmission whose RF is ABSENT takes the waiting request up before the passed requests
are removed, the model's choice (log 68); that of a transmitter that goes on changing is removed. -/
theorem test_clock_step_order :
    let u : Station := { airStation with tr := { airStation.tr with rf := some false, slot := some waitingStart } }
    let t := ({ carrying with stations := upd carrying.stations 0 u } : State).clockStepRules 1920 2000
    (t.tr 0).slot = none ∧ ((t.tr 0).context.map (·.work)) = some waitingStart.work ∧
    (t.out.log.records.map fun m => (m.t, m.detail)) = [(0, .window), (1, .clockStep)] := by decide +kernel

/-- ClockStepsRuled: the same of a HELD transmission; and a changeover that builds a transmission whose window has ended
is abandoned, at once and with a drive moving, its waiting request being taken up in the one (log 68) and removed in the
other. -/
theorem test_clock_step_elsewhere :
    let held : Station := { airStation with tr := { airStation.tr with
      state := .held, rf := some false, holds := Sources.none.add .mains, slot := some waitingStart } }
    let build (p : List PlanStep) : Station := { readyStation with tr := { readyStation.tr with
      state := .changing, context := some { claiming with phase := .drive, plan := p }, slot := some waitingStart } }
    let step (u : Station) : TxRecord :=
      (({ carrying with stations := upd carrying.stations 0 u } : State).clockStepRules 1920 2000).tr 0
    ((step held).slot = none ∧ (step held).state = .changing ∧
      (step held).context.map (·.work) = some waitingStart.work) ∧
    ((step (build [])).slot = none ∧ (step (build [])).context.map (·.work) = some waitingStart.work) ∧
    ((step (build movingStep)).slot = none ∧ (step (build movingStep)).context.map (·.phase) = some .windUp) := by
  decide +kernel

/-- ClockStepsRuled: a waiting request alone is passed, with a bank ACTIVE and a transmission whose window goes on. -/
theorem test_clock_step_request :
    (∀ k, carrying.store.active = some k → carrying.passedWindows k 1920 1981 = []) ∧
    (∀ v x, (carrying.tr v).work = some x → 1981 < x.windowEnd) ∧
    (carrying.clockStepRules 1920 1981).out.notices = [missing 1 .clockStep] := by
  refine ⟨by decide +kernel, ?_, by decide +kernel⟩
  have all : ∀ v, (carrying.tr v).work = none ∨ (carrying.tr v).work = some work := by decide +kernel
  intro v x h
  rcases all v with h' | h' <;> rw [h'] at h <;> cases h
  decide

/-- PassedWindowsFound and ClockStepsRuled: a window that a step just passes over, one that still runs, a transmission and
a waiting request whose windows have ended, and a step back. -/
theorem test_clock_steps :
    (runningEmpty.passedWindows 0 1919 1980 = [(entry, 1)] ∧ runningEmpty.passedWindows 0 1919 1979 = [] ∧
      runningEmpty.passedWindows 0 1920 1980 = []) ∧
    ((runningEmpty.clockStepRules 1919 1980).out.log.records.map (·.detail)) = [.clockStep] ∧
    (((carrying.clockStepRules 1920 2000).tr 0).state = .changing ∧
      ((carrying.clockStepRules 1920 2000).tr 1).slot = none) ∧
    (runningEmpty.clockStepRules 1980 1980).out.log.records = [] := by decide +kernel

/-! ### Transmitters and antennas: O41 to O43 -/

/-- An order for transmitter 0, column 5, 6000 kHz. -/
def order : TuneOrder :=
  { transmitter := 0, column := 5, kHz := 6000, kW := 10, programme := 0, expected := .noColumn, override := some false }

/-- MANUAL_TUNE: accepted when READY, and each refusal of its last tests. -/
theorem test_tune_cases :
    (∃ t, exec (.manualTune hd order) up = .next t ∧ (t.tr 0).state = .changing ∧ (t.tr 0).manualHold = true ∧
      t.out.handed = [.claim 0 5]) ∧
    (∃ t, exec (.manualTune hd { order with column := 36 }) up = .next t ∧
      t.link.reply = some { kind := 0x50, tag := 7, verdict := .refused .outOfRange [] }) ∧
    (∃ t, exec (.manualTune hd { order with kHz := 6201 }) up = .next t ∧
      t.link.reply = some { kind := 0x50, tag := 7, verdict := .refused .badField [] }) ∧
    (∃ t, exec (.manualTune hd { order with kW := 11 }) up = .next t ∧
      t.link.reply = some { kind := 0x50, tag := 7, verdict := .refused .outOfRange [] }) ∧
    (∃ t, exec (.manualTune hd order) (changing claiming) = .next t ∧
      t.link.reply = some { kind := 0x50, tag := 7, verdict := .refused .wrongState [] }) ∧
    (∃ t, exec (.manualTune hd order) air = .next t ∧
      t.link.reply = some { kind := 0x50, tag := 7, verdict := .refused .scheduleOwned [] }) ∧
    ∃ t, exec (.manualTune hd { order with override := some true }) air = .next t ∧
      t.link.reply = some { kind := 0x50, tag := 7, verdict := .refused .stale [] } :=
  ⟨⟨_, rfl, by decide +kernel⟩, ⟨_, rfl, by decide +kernel⟩, ⟨_, rfl, by decide +kernel⟩, ⟨_, rfl, by decide +kernel⟩,
    ⟨_, rfl, by decide +kernel⟩, ⟨_, rfl, by decide +kernel⟩, _, rfl, by decide +kernel⟩

/-- ContinuationKeepsTheCarrier: an accepted order on the column and frequency that radiate. -/
theorem test_continuation :
    ∃ t, exec (.manualTune hd { order with override := some true, expected := .column 5 }) air = .next t ∧
      t.link.reply = some { kind := 0x50, tag := 7, verdict := .accepted .empty } ∧ (t.tr 0).state = .onAir ∧
      t.out.port = [] ∧ t.out.log.records.length = 2 := ⟨_, rfl, by decide +kernel⟩

/-- ChangeoverReplacesTheTransmission: an accepted order on another column. -/
theorem test_retune :
    ∃ t, exec (.manualTune hd { order with column := 9, override := some true, expected := .column 5 }) air = .next t ∧
      t.link.reply = some { kind := 0x50, tag := 7, verdict := .accepted .empty } ∧ (t.tr 0).state = .changing ∧
      t.out.port = [] ∧ (t.out.log.records.map (·.detail)) = [.superseded] := ⟨_, rfl, by decide +kernel⟩

/-- TransmitterOrdersDecided: each order accepted, and refused WRONG_STATE. -/
theorem test_order_cases :
    (∃ t, exec (.manualEnd hd 0) air = .next t ∧ (t.tr 0).state = .changing ∧ t.out.port = [(0, .mute)]) ∧
    (∃ t, exec (.manualEnd hd 11) up = .next t ∧
      t.link.reply = some { kind := 0x51, tag := 7, verdict := .refused .wrongState [] }) ∧
    (∃ t, exec (.resumeSchedule hd 0) (at0 fun r => { r with manualHold := true }) = .next t ∧
      (t.tr 0).manualHold = false) ∧
    ∃ t, exec (.releaseTransmitter hd 0) (at0 fun r => { r with state := .locked .txFault, lock := some .txFault }) =
      .next t ∧ (t.tr 0).state = .ready ∧ (t.tr 0).lock = none ∧ t.out.port = [(0, .mute)] :=
  ⟨⟨_, rfl, by decide +kernel⟩, ⟨_, rfl, by decide +kernel⟩, ⟨_, rfl, by decide +kernel⟩, _, rfl, by decide +kernel⟩

/-- The machine with its matrix changed. -/
def matrixed (f : Matrix → Matrix) : State := { up with matrix := f hall }
/-- The route of transmitter 0 to column 5, LIVE. -/
def liveRoute : State :=
  { up with matrix := routed.onRow 0 fun _ => { condition := .onAir, muteConfirmed := false } }
/-- Column 5 claimed by transmitter 1, with a claim of transmitter 2 listed for it. -/
def listedFor : State :=
  matrixed fun m => { m.setClaimant 5 (some 1) with claims := [{ t := 2, column := 5 }] }

/-- AntennaRequestsDecided: use LIVE and CLAIMED, the last column, and a column out of service that comes back. -/
theorem test_antenna_orders :
    (∃ t, exec (.withdrawAntenna hd 5 (some false)) liveRoute = .next t ∧
      t.link.reply = some { kind := 0x54, tag := 7, verdict := .refused .inUse [] }) ∧
    (∃ t, exec (.withdrawAntenna hd 5 (some true)) liveRoute = .next t ∧
      t.out.handed = [.serviceChanged 0 5 false, .withdrawEndOrder 0]) ∧
    (∃ t, exec (.withdrawAntenna hd 5 (some true)) listedFor = .next t ∧ t.matrix.claims = [] ∧
      t.out.handed = [.serviceChanged 1 5 false, .claimRefused 2 5, .withdrawEndOrder 1]) ∧
    (∃ t, exec (.restoreAntenna hd 35) (matrixed fun m => m.onColumn 35 fun k => { k with withdrawn := true }) =
      .next t ∧ (t.matrix.column 35).inService = true) ∧
    (∃ t, exec (.pollMatrix hd (some 5)) up = .next t ∧ t.out.link = [.poll 5]) ∧
    ∃ t, exec (.pollMatrix hd (some 6)) up = .next t ∧
      t.link.reply = some { kind := 0x56, tag := 7, verdict := .refused .outOfRange [] } :=
  ⟨⟨_, rfl, by decide +kernel⟩, ⟨_, rfl, by decide +kernel⟩, ⟨_, rfl, by decide +kernel⟩, ⟨_, rfl, by decide +kernel⟩,
    ⟨_, rfl, by decide +kernel⟩, _, rfl, by decide +kernel⟩

/-- AntennaRequestsDecided: a column restored whose gate stays, one that comes back to its claimant, and the routes and
the exceptions read. -/
theorem test_antenna_reads :
    leads (exec (.restoreAntenna hd 5) (matrixed fun m => m.onColumn 5 fun k => { k with suspect := true, gates := 1 }))
      (fun t => !(t.matrix.column 5).inService && t.out == up.out) = true ∧
    leads (exec (.restoreAntenna hd 5) { listedFor with matrix := listedFor.matrix.onColumn 5 fun k =>
        { k with suspect := true } }) (fun t => t.out.handed == [.serviceChanged 1 5 true]) = true ∧
    leads (exec (.readRoutes hd) { up with matrix := routed.onPoint 11 35 fun p => { p with state := .unknown } })
      (fun t => match t.link.reply with
        | some { kind := _, tag := _, verdict := .accepted (.routes rows total first _ free _ _) } =>
          rows == [5] :: List.replicate 11 [] && total == 1 && first.map (fun q => (q.1, q.2.1)) == [(11, 35)] && free == 3
        | _ => false) = true ∧
    leads (exec (.readAntenna hd 5) listedFor) (fun t => match t.link.reply with
        | some { kind := _, tag := _, verdict := .accepted (.antenna _ inService use claims) } =>
          inService && use == .claimed && claims == [2]
        | _ => false) = true := by decide +kernel

/-! ### The matrix controller: O44 to O49 -/

/-- ClaimsDecided: a grant on another column that passes to the claim listed for it, and one with none listed. -/
theorem test_claim_moves :
    (listedFor.matrix.column 5).claimant = some 1 ∧ (∀ e, e ≠ 5 → (listedFor.matrix.column e).claimant ≠ some 1) ∧
    leads (exec (.claim 1 9) listedFor)
      (fun t => t.out.handed == [.claimGranted 2 5, .claimGranted 1 9] && t.matrix.claims == []) = true ∧
    leads (exec (.claim 1 9) (matrixed fun m => m.setClaimant 5 (some 1)))
      (fun t => t.out.handed == [.claimGranted 1 9] && (t.matrix.column 5).claimant.isNone) = true := by decide +kernel

/-- ClaimsDecided: refused, granted again, granted, listed. -/
theorem test_claim_cases :
    (∃ t, exec (.claim 0 5) (matrixed fun m => m.onColumn 5 fun k => { k with suspect := true }) = .next t ∧
      t.out.handed = [.claimRefused 0 5]) ∧
    (∃ t, exec (.claim 1 5) listedFor = .next t ∧ t.out.handed = [.claimGranted 1 5]) ∧
    (∃ t, exec (.claim 11 35) up = .next t ∧ t.out.handed = [.claimGranted 11 35]) ∧
    (∃ t, exec (.claim 0 5) liveRoute = .next t ∧ t.out.handed = [.claimGranted 0 5]) ∧
    (∃ t, exec (.claim 0 5) listedFor = .next t ∧ t.out.handed = [.claimListed 0 5] ∧
      t.matrix.claims = [⟨2, 5⟩, ⟨0, 5⟩]) ∧ ∀ d, (up.matrix.column d).claimant ≠ some 0 :=
  ⟨⟨_, rfl, by decide +kernel⟩, ⟨_, rfl, by decide +kernel⟩, ⟨_, rfl, by decide +kernel⟩, ⟨_, rfl, by decide +kernel⟩,
    ⟨_, rfl, by decide +kernel⟩, by decide +kernel⟩

/-- ReleasesDecided: a grant that passes on, one with none listed, a listed claim, and none. -/
theorem test_release_cases :
    (∃ t, exec (.release 1 5) listedFor = .next t ∧ t.out.handed = [.claimGranted 2 5] ∧ t.matrix.claims = []) ∧
    (∃ t, exec (.release 1 5) (matrixed fun m => m.setClaimant 5 (some 1)) = .next t ∧
      (t.matrix.column 5).claimant = none ∧ t.out.handed = []) ∧
    (∃ t, exec (.withdrawClaim 2 5) listedFor = .next t ∧ t.matrix.claims = []) ∧
    exec (.withdrawClaim 0 5) listedFor = .next listedFor :=
  ⟨⟨_, rfl, by decide +kernel⟩, ⟨_, rfl, by decide +kernel⟩, ⟨_, rfl, by decide +kernel⟩, rfl⟩

/-- DriveRequestsDecided: the drives that open and close, no slot, an unknown crosspoint, a busy row and column, a row
not muted, and nothing to do. -/
theorem test_drive_cases :
    (∃ t, exec (.driveRequest 0 0 5 .opening 0) { up with matrix := routed } = .next t ∧
      t.out.link = [.drive 0 5 .opening]) ∧
    (∃ t, exec (.driveRequest 0 0 1 .closing 3) (matrixed fun m => { m with free := 0 }) = .next t ∧
      t.matrix.queue.length = 1) ∧
    (∃ t, exec (.driveRequest 0 0 1 .closing 0)
        (matrixed fun m => m.onPoint 0 1 fun p => { p with state := .unknown }) = .next t ∧
      t.out.handed = [.driveFailed 0 0 1 .routeUnknown]) ∧
    (∃ t, exec (.driveRequest 0 0 1 .closing 0) { up with matrix := routed } = .next t ∧
      t.out.handed = [.driveFailed 0 0 1 .rowBusy]) ∧
    (∃ t, exec (.driveRequest 1 1 5 .closing 0) { up with matrix := routed } = .next t ∧
      t.out.handed = [.driveFailed 1 1 5 .columnBusy]) ∧
    (∃ t, exec (.driveRequest 0 0 5 .opening 0) liveRoute = .next t ∧
      t.out.handed = [.driveFailed 0 0 5 .rowBusy]) ∧
    (∃ t, exec (.driveRequest 1 1 5 .closing 0) { up with matrix := hall.onColumn 5 fun k => { k with holder := some 0 } } =
      .next t ∧ t.out.handed = [.driveStarted 1 1 5]) ∧
    ∃ t, exec (.driveRequest 0 0 1 .opening 0) up = .next t ∧ t.out.handed = [.driveDone 0 0 1] :=
  ⟨⟨_, rfl, by decide +kernel⟩, ⟨_, rfl, by decide +kernel⟩, ⟨_, rfl, by decide +kernel⟩, ⟨_, rfl, by decide +kernel⟩,
    ⟨_, rfl, by decide +kernel⟩, ⟨_, rfl, by decide +kernel⟩, ⟨_, rfl, by decide +kernel⟩, _, rfl, by decide +kernel⟩

/-- A request of transmitter 0 that closes column 1. -/
def wanted (d : Direction) : SlotRequest := { t := 0, row := 0, column := 1, direction := d, priority := 2 }

/-- SlotsPassOn: no slot, no request, and the three ends of a request that is granted one. -/
theorem test_slots_pass :
    ({ hall with free := 0 } : Matrix).mayGrant = false ∧ hall.mayGrant = true ∧ hall.queue = [] ∧
    hall.startTest (wanted .closing) = .starts ∧ hall.startTest (wanted .opening) = .already ∧
    routed.startTest (wanted .closing) = .fails .rowBusy := by decide +kernel

/-- A drive of transmitter 0 that closes column 1. -/
def driven : State :=
  matrixed fun m =>
    { m.onPoint 0 1 fun p => { p with state := .movingClose, drive := some { t := 0, travel := ⟨799, 800⟩ } } with
      free := 2 }

/-- PositionsAndExpiries: a drive that ends, one that goes on, a stray movement, a resolution, and the travel limit. -/
theorem test_position_cases :
    (∃ t, exec (.position 0 1 .closedContact) driven = .next t ∧ t.matrix.xstate 0 1 = .closed ∧ t.matrix.free = 3 ∧
      t.out.handed = [.driveDone 0 0 1]) ∧
    (∃ t, exec (.position 0 1 .neither) driven = .next t ∧ t.matrix.xstate 0 1 = .movingClose) ∧
    (∃ t, exec (.position 11 35 .both) up = .next t ∧ t.matrix.xstate 11 35 = .unknown ∧
      (t.matrix.column 35).inService = false ∧ t.out.sources.getLsbD 4 = true) ∧
    (∃ t, exec (.position 0 1 .openContact)
        (matrixed fun m => m.onPoint 0 1 fun p => { p with state := .unknown }) = .next t ∧
      t.matrix.xstate 0 1 = .opened) ∧
    (∃ t, exec (.travelLimitExpiry 0 1) driven = .next t ∧ t.matrix.xstate 0 1 = .unknown ∧
      t.out.link = [.stop 0 1] ∧ t.matrix.free = 3) ∧ (up.matrix.point 0 1).drive = none :=
  ⟨⟨_, rfl, by decide +kernel⟩, ⟨_, rfl, by decide +kernel⟩, ⟨_, rfl, by decide +kernel⟩, ⟨_, rfl, by decide +kernel⟩,
    ⟨_, rfl, by decide +kernel⟩, by decide +kernel⟩

/-- PositionFaultsHanded and PositionReasonRemoved: a LIVE route that opens, a second switch that closes in its column, a
resolution to OPEN; the last unknown crosspoint of a column in a report and at the end of a drive, and one of two. -/
theorem test_position_follows :
    let lost (m : Matrix) (t : Tx) : Matrix :=
      (m.onPoint t 1 fun p => { p with state := .unknown }).onColumn 1 fun k =>
        { k with position := true, claimant := some 2 }
    let awaited : Matrix := driven.matrix.onColumn 1 fun k => { k with position := true }
    (∃ t, exec (.position 0 5 .openContact) liveRoute = .next t ∧ Instr.matrixFault 0 ∈ t.out.handed) ∧
    (∃ t, exec (.position 1 5 .closedContact) liveRoute = .next t ∧ t.out.handed = [.matrixFault 0]) ∧
    (∃ t, exec (.position 0 1 .openContact) { liveRoute with matrix := lost liveRoute.matrix 0 } = .next t ∧
      t.out.handed = [.serviceChanged 2 1 true] ∧ (t.matrix.column 1).inService = true) ∧
    (∃ t, exec (.position 0 1 .openContact) { up with matrix := lost (lost hall 0) 3 } = .next t ∧
      (t.matrix.column 1).position = true) ∧
    ∃ t, exec (.position 0 1 .closedContact) { driven with matrix := awaited } = .next t ∧
      t.out.handed = [.serviceChanged 0 1 true, .driveDone 0 0 1] :=
  ⟨⟨_, rfl, by decide +kernel⟩, ⟨_, rfl, by decide +kernel⟩, ⟨_, rfl, by decide +kernel⟩, ⟨_, rfl, by decide +kernel⟩,
    _, rfl, by decide +kernel⟩

/-- ReturnedSlotPassesOn: a request of transmitter 1 waits for the slot of a drive that ends, and of one that expires. -/
theorem test_slot_returned :
    let r : SlotRequest := { t := 1, row := 1, column := 9, direction := .closing, priority := 0 }
    let s : State := { driven with matrix := { driven.matrix with queue := [r] } }
    (∃ t, exec (.position 0 1 .closedContact) s = .next t ∧ t.matrix.queue = [] ∧ t.matrix.free = 2 ∧
      t.out.link = [.drive 1 9 .closing]) ∧
    (∃ t, exec (.travelLimitExpiry 0 1) s = .next t ∧ t.matrix.queue = [] ∧ t.matrix.free = 2) ∧
    s.matrix.suspension.empty = true ∧ s.matrix.granting = true ∧ (s.matrix.point 0 1).drive.isSome :=
  ⟨⟨_, rfl, by decide +kernel⟩, ⟨_, rfl, by decide +kernel⟩, by decide +kernel⟩

/-- ReportsAndReasonsFollowed: a row that becomes QUIET with a claim listed, the last gate member removed. -/
theorem test_report_cases :
    (∃ t, exec (.rowConditionReport 0 .quiet)
        { liveRoute with matrix := { liveRoute.matrix with claims := [{ t := 2, column := 5 }] } } = .next t ∧
      t.out.handed = [.claimGranted 2 5]) ∧
    (∃ t, exec (.gateMemberAdd 5 23) listedFor = .next t ∧
      t.out.handed = [.serviceChanged 1 5 false, .claimRefused 2 5]) ∧
    ∃ t, exec (.gateMemberRemove 5 0x800000)
        (matrixed fun m => m.onColumn 5 fun k => { k with gates := 0x800000, claimant := some 1 }) = .next t ∧
      t.out.handed = [.serviceChanged 1 5 true] :=
  ⟨⟨_, rfl, by decide +kernel⟩, ⟨_, rfl, by decide +kernel⟩, _, rfl, by decide +kernel⟩

/-- SuspensionStopsTheMatrix: the first source with a drive in motion, a second source, the last removed. -/
theorem test_suspension_cases :
    (driven.matrix.suspension.empty = true ∧
      ∃ t, exec (.suspensionSourceAdd .mains) driven = .next t ∧ t.matrix.free = 3 ∧ t.matrix.suspended = true ∧
        t.out.handed = [.driveFailed 0 0 1 .suspended]) ∧
    (Sources.none.add .emergency).empty = false ∧
    ∃ t, exec (.suspensionSourceRemove ⟨0, true, false⟩)
        (matrixed fun m => { m with suspension := Sources.none.add .emergency }) = .next t ∧
      t.matrix.suspended = false ∧ t.out.sources.getLsbD 4 = true :=
  ⟨⟨by decide, _, rfl, by decide +kernel⟩, by decide, _, rfl, by decide +kernel⟩
/-- The last suspension source removed with a request waiting. -/
theorem test_suspension_resumes :
    ∃ t, exec (.suspensionSourceRemove ⟨0, true, false⟩)
        (matrixed fun m => { m with suspension := Sources.none.add .emergency, queue := [wanted .closing] }) = .next t ∧
      t.matrix.queue = [] ∧ t.matrix.free = 2 ∧ t.out.link = [.drive 0 1 .closing] := ⟨_, rfl, by decide +kernel⟩
theorem test_driven_balanced : slotsBalanced driven.matrix := by
  refine ⟨?_, ?_⟩ <;> decide +kernel

/-! ### The changeover sequencer: O50 to O56 -/

/-- ClaimAnswersFollowed and RefusedStartFails: granted, listed, refused with a reserve and without, the wait's end. -/
theorem test_claim_answers :
    (∃ t, exec (.claimGranted 0 5) { at0 (fun r =>
        { r with state := .changing, context := some claiming, rf := some true, muteConfirmed := false }) with
        matrix := hall } = .next t ∧ t.out.port = [(0, .mute)]) ∧
    (∃ t, exec (.claimListed 0 5) (changing claiming) = .next t ∧
      ((t.tr 0).context.bind (·.deadline)) = some ⟨0, 3000⟩) ∧
    (∃ t, exec (.claimRefused 0 5) (changing { claiming with reserve := some 9 }) = .next t ∧
      t.out.handed = [.claim 0 9]) ∧
    (∃ t, exec (.claimWaitExpiry 0) (changing { claiming with
        reserve := some 9, claim := some { column := 5, status := .listed } }) = .next t ∧
      t.out.handed = [.withdrawClaim 0 5, .claim 0 9]) ∧
    (∃ t, exec (.claimRefused 0 5) (changing claiming) = .next t ∧ (t.tr 0).state = .ready ∧
      t.out.log.records.length = 1) ∧
    ∃ t, exec (.claimGranted 0 6) (changing claiming) = .next t ∧ (t.tr 0).context = some claiming :=
  ⟨⟨_, rfl, by decide +kernel⟩, ⟨_, rfl, by decide +kernel⟩, ⟨_, rfl, by decide +kernel⟩, ⟨_, rfl, by decide +kernel⟩,
    ⟨_, rfl, by decide +kernel⟩, _, rfl, by decide +kernel⟩

/-- One step of a plan that closes column 5. -/
def closing (x : StepStatus) : PlanStep := { kind := .closeTarget, row := 0, column := 5, status := x }
/-- A context in phase DRIVE. -/
def drives (plan : List PlanStep) (x : TuneStatus) : Context :=
  { claiming with
    phase := .drive, plan := plan, tune := x, claim := some { column := 5, status := .granted }
    deadline := some ⟨4499, 4500⟩ }

/-- ChangeoverPhasesFollow: each phase's end. -/
theorem test_phase_cases :
    (∃ t, exec (.rfAbsent 0) (at0 fun r => { r with
        state := .changing, muteConfirmed := false, rf := some true
        context := some { claiming with phase := .mute, deadline := some ⟨1, 200⟩ } }) = .next t ∧
      ((t.tr 0).context.map (·.phase)) = some .settle) ∧
    (∃ t, exec (.settleExpiry 0) (changing { claiming with phase := .settle, deadline := some ⟨20, 20⟩ }) = .next t ∧
      t.out.port = [(0, .tune 6000 0)] ∧ t.out.handed = [.driveRequest 0 0 5 .closing 2]) ∧
    (∃ t, exec (.driveStarted 0 0 5) (changing (drives [closing .waitingSlot] .sent)) = .next t ∧
      (t.tr 0).context = some (drives [closing .moving] .sent)) ∧
    (∃ t, exec (.driveDone 0 0 5) (changing (drives [closing .moving] .tuned)) = .next t ∧
      ((t.tr 0).context.map (·.phase)) = some .hold) ∧
    (∃ t, exec (.driveDone 0 0 5) (changing (drives [closing .moving] .sent)) = .next t ∧
      ((t.tr 0).context.map (·.phase)) = some .drive) ∧
    ∃ t, exec (.tuned 0 6000) (changing (drives [closing .done] .sent)) = .next t ∧
      ((t.tr 0).context.map (·.phase)) = some .hold :=
  ⟨⟨_, rfl, by decide +kernel⟩, ⟨_, rfl, by decide +kernel⟩, ⟨_, rfl, by decide +kernel⟩, ⟨_, rfl, by decide +kernel⟩,
    ⟨_, rfl, by decide +kernel⟩, _, rfl, by decide +kernel⟩

/-- A changeover of transmitter 0 fails by a command with a reason. -/
def failsBy (i : Instr) (k : Context) (why : Detail) : Prop :=
  ∃ t, exec i (changing k) = .next t ∧ (t.tr 0).state = .ready ∧
    (t.out.log.records.map (·.detail)) = [why] ∧ Instr.release 0 5 ∈ t.out.handed

/-- ClaimAnswersFollowed: the grant of a RESERVE context, with mute confirmed and without. -/
theorem test_reserve_granted :
    (∃ t, exec (.claimGranted 0 5) (changing { claiming with origin := .reserve }) = .next t ∧ t.out.port = [] ∧
      ((t.tr 0).context.map (·.phase)) = some .settle) ∧
    ∃ t, exec (.claimGranted 0 5) (at0 fun r => { r with
        state := .changing, muteConfirmed := false, rf := some true
        context := some { claiming with origin := .reserve } }) = .next t ∧ t.out.port = [] ∧
      ((t.tr 0).context.bind (·.deadline)) = none :=
  ⟨⟨_, rfl, by decide +kernel⟩, _, rfl, by decide +kernel⟩

/-- A state whose settle time is 0. -/
def unsettled (s : State) : State := { s with limits := { s.limits with settle := 0 } }

/-- PhasesEndAtOnce: a grant with RF ABSENT, and the settle time of 0 after a grant, a RESERVE's grant and RF ABSENT. -/
theorem test_phases_at_once :
    (∃ t, exec (.claimGranted 0 5) (changing claiming) = .next t ∧ t.out.port = [(0, .mute)] ∧
      ((t.tr 0).context.map (·.phase)) = some .settle ∧ (t.tr 0).muteConfirmed = true) ∧
    (∃ t, exec (.claimGranted 0 5) (unsettled (changing claiming)) = .next t ∧
      t.out.port = [(0, .mute), (0, .tune 6000 0)] ∧ ((t.tr 0).context.map (·.phase)) = some .drive) ∧
    (∃ t, exec (.claimGranted 0 5) (unsettled (changing { claiming with origin := .reserve })) = .next t ∧
      t.out.port = [(0, .tune 6000 0)]) ∧
    (∃ t, exec (.rfAbsent 0) (unsettled (at0 fun r => { r with
        state := .changing, muteConfirmed := false, rf := some true
        context := some { claiming with phase := .mute, deadline := some ⟨1, 200⟩ } })) = .next t ∧
      t.out.port = [(0, .tune 6000 0)]) ∧ hall.routeUnknown 0 5 = false :=
  ⟨⟨_, rfl, by decide +kernel⟩, ⟨_, rfl, by decide +kernel⟩, ⟨_, rfl, by decide +kernel⟩, ⟨_, rfl, by decide +kernel⟩,
    by decide +kernel⟩

/-- PlanMade: a plan of three steps, one of one, and one without any. -/
theorem test_plan :
    ((routed.onPoint 1 9 fun p => { p with state := .closed }).plan 1 5).map (fun p => (p.kind, p.row, p.column)) =
      [(.openOwn, 1, 9), (.openHolder, 0, 5), (.closeTarget, 1, 5)] ∧
    (hall.plan 0 5).map (·.kind) = [.closeTarget] ∧ routed.plan 0 5 = [] := by decide +kernel

/-- ChangeoverPhasesFollow: a step of a longer plan is done, and the next is asked for. -/
theorem test_next_step :
    let p : PlanStep := { kind := .openOwn, row := 0, column := 9, status := .moving }
    ∃ t, exec (.driveDone 0 0 9) (changing (drives [p, closing .planned] .sent)) = .next t ∧
      (t.tr 0).context = some (drives [{ p with status := .done }, closing .waitingSlot] .sent) ∧
      t.out.handed = [.driveRequest 0 0 5 .closing 2] := ⟨_, rfl, by decide +kernel⟩

/-- ManualEndAbandons: an END context, a step that waits, one in motion, a carrier that may be up, and a muted one. -/
theorem test_abandon :
    (∃ t, exec (.manualEnd hd 0) (changing { claiming with origin := .end_, phase := .mute }) = .next t ∧
      ((t.tr 0).context.map (·.phase)) = some .mute ∧ t.out.port = []) ∧
    (∃ t, exec (.manualEnd hd 0) (changing (drives [closing .waitingSlot] .sent)) = .next t ∧
      .cancelDrive 0 ∈ t.out.handed ∧ (t.tr 0).state = .ready) ∧
    (∃ t, exec (.manualEnd hd 0) (changing (drives [closing .moving] .sent)) = .next t ∧
      ((t.tr 0).context.map (·.phase)) = some .windUp ∧ t.out.port = []) ∧
    (∃ t, exec (.manualEnd hd 0) (at0 fun r => { r with
        state := .changing, rf := some true, muteConfirmed := false, context := some claiming }) = .next t ∧
      t.out.port = [(0, .mute)] ∧ ((t.tr 0).context.bind (·.deadline)) = some ⟨0, 200⟩) ∧
    ∃ t, exec (.manualEnd hd 0) (changing claiming) = .next t ∧ (t.tr 0).state = .ready ∧
      (t.out.log.records.map (·.detail)) = [.abandoned] :=
  ⟨⟨_, rfl, by decide +kernel⟩, ⟨_, rfl, by decide +kernel⟩, ⟨_, rfl, by decide +kernel⟩, ⟨_, rfl, by decide +kernel⟩, _,
    rfl, by decide +kernel⟩

/-- FailuresWindUp: a route that is not known before any order. -/
theorem test_route_unknown :
    ∃ t, exec (.settleExpiry 0) { changing { claiming with
          phase := .settle, deadline := some ⟨20, 20⟩, claim := some { column := 5, status := .granted } } with
        matrix := hall.onPoint 0 9 fun p => { p with state := .unknown } } = .next t ∧
      (t.tr 0).state = .ready ∧ t.out.port = [] ∧ (t.out.log.records.map (·.detail)) = [.routeUnknown] :=
  ⟨_, rfl, by decide +kernel⟩

/-- FailuresWindUp: each of the other five failures. -/
theorem test_failure_cases :
    failsBy (.driveFailed 0 0 5 .suspended) (drives [closing .moving] .sent) .suspended ∧
    failsBy (.tunefail 0) (drives [] .sent) .tuneFailed ∧ failsBy (.tuneLimitExpiry 0) (drives [] .sent) .tuneTimeout ∧
    failsBy (.matrixFault 0) (drives [] .sent) .matrixFault ∧
    failsBy (.holdTimeExpiry 0) { drives [] .tuned with phase := .hold } .routeLost :=
  ⟨⟨_, rfl, by decide +kernel⟩, ⟨_, rfl, by decide +kernel⟩, ⟨_, rfl, by decide +kernel⟩, ⟨_, rfl, by decide +kernel⟩,
    _, rfl, by decide +kernel⟩

/-- The machine in a ramp. -/
def ramping : State :=
  let r : TxRecord := { airStation.tr with
    state := .changing, reported := .ramp
    context := some { drives [closing .done] .tuned with phase := .ramp, started := true } }
  let u : Station := { airStation with tr := r, fwd := { airStation.fwd with state := .ramp, side := some .low } }
  { air with stations := upd air.stations 0 u }

/-- RampBeginsAndEnds: the threshold held by a hold, the ramp's success and its limit. -/
theorem test_ramp_cases :
    (∃ t, exec (.holdTimeExpiry 0) { at0 (fun r => { r with
          state := .changing, holds := Sources.none.add .mains
          context := some { drives [] .tuned with phase := .hold } }) with matrix := routed } = .next t ∧
      t.out.port = [] ∧ ((t.tr 0).context.bind (·.deadline)) = none) ∧
    (∃ t, exec (.forwardRisingCrossing 0) ramping = .next t ∧ (t.tr 0).state = .onAir ∧
      t.out.handed = [.rowConditionReport 0 .onAir, .release 0 5]) ∧
    ∃ t, exec (.rampLimitExpiry 0) ramping = .next t ∧ (t.tr 0).state = .locked .carrierLost :=
  ⟨⟨_, rfl, by decide +kernel⟩, ⟨_, rfl, by decide +kernel⟩, _, rfl, by decide +kernel⟩

/-- RampEnds and CrossingsFollowed: a monitor on the line coupler over a route that has opened. -/
theorem test_line_open :
    let config : MonitorConfig := { MonitorConfig.forwardDefault with source := .line }
    let u := ramping.stations.get 0
    let s : State := { ramping with matrix := hall
                                    stations := upd ramping.stations 0 { u with fwd := { u.fwd with config := config } } }
    s.matrix.xstate 0 5 ≠ .closed ∧ (s.tr 0).route = some 5 ∧
    ∃ t, exec (.forwardRisingCrossing 0) s = .next t ∧ (t.tr 0).state = .changing ∧ t.out.notices = [] :=
  ⟨by decide +kernel, by decide +kernel, _, rfl, by decide +kernel⟩

/-- LossOnAirEndsTheTransmission: an open tune that was kept into a RESUME context fails. -/
theorem test_resume_tune :
    let k : Context := { onFive.context .resume .ramp with deadline := some ⟨1, 500⟩ }
    ∃ t, exec (.tunefail 0) (air0 fun r => { r with
        state := .changing, reported := .ramp, context := some k
        openTune := some { kHz := 6000, deadline := ⟨1, 4500⟩ } }) = .next t ∧ (t.tr 0).state = .changing ∧
      ((t.tr 0).context.map (·.origin)) = some .end_ ∧ t.out.port = [(0, .mute)] := ⟨_, rfl, by decide +kernel⟩

/-- CarrierLossesEnd: a mute limit in a changeover and in an END context, the trip mute watch, and a loss on air. -/
theorem test_loss_cases :
    (∃ t, exec (.muteLimitExpiry 0) (changing { claiming with phase := .mute, deadline := some ⟨200, 200⟩ }) =
      .next t ∧ (t.tr 0).state = .locked .muteFailed) ∧
    (∃ t, exec (.muteLimitExpiry 0) (air0 fun r => { r with
        state := .changing, unmuted := false
        context := some { onFive.context .end_ .mute with deadline := some ⟨200, 200⟩, closing := .manual } }) =
      .next t ∧ (t.tr 0).state = .locked .muteFailed ∧ (t.out.log.records.map (·.detail)) = [.muteFailed]) ∧
    (∃ t, exec (.tripMuteWatchExpiry 0) (air0 fun r => { r with
        state := .tripped, unmuted := false, tripWatch := some ⟨200, 200⟩ }) = .next t ∧
      (t.tr 0).state = .locked .muteFailed) ∧
    (∃ t, exec (.statOff 0) air = .next t ∧ (t.tr 0).state = .dark .off) ∧
    (∃ t, exec (.fault 0 9999) air = .next t ∧ (t.tr 0).state = .locked .txFault) ∧
    (∃ t, exec (.tuned 0 6005) (air0 fun r => { r with openTune := some { kHz := 6000, deadline := ⟨1, 4500⟩ } }) =
      .next t ∧ (t.tr 0).state = .changing) ∧
    ({ airStation with fwd := { airStation.fwd with loss := some ⟨999, 1000⟩ } } : Station).fwd.loss.isSome :=
  ⟨⟨_, rfl, by decide +kernel⟩, ⟨_, rfl, by decide +kernel⟩, ⟨_, rfl, by decide +kernel⟩, ⟨_, rfl, by decide +kernel⟩,
    ⟨_, rfl, by decide +kernel⟩, ⟨_, rfl, by decide +kernel⟩, by decide⟩

/-- HoldsAndResumes: a hold on air and when READY, the column out of service, a withdrawal, a fault of the matrix, the
last minute of the window and the minute of its end, and a removal that leaves a source. -/
theorem test_hold_cases :
    (∃ t, exec (.holdAdd 0 .mains) air = .next t ∧ (t.tr 0).state = .held ∧ t.out.port = [(0, .mute)]) ∧
    (∃ t, exec (.serviceChanged 0 5 false) air = .next t ∧ (t.tr 0).state = .held) ∧
    ((up.tr 0).state = .ready ∧ (up.tr 0).reported = .quiet) ∧
    (∃ t, exec (.withdrawEndOrder 0) air = .next t ∧ (t.tr 0).state = .changing) ∧
    (∃ t, exec (.matrixFault 0) air = .next t ∧ (t.tr 0).state = .changing) ∧
    (∃ t, exec (.holdRemove 0 ⟨0, false, true⟩) (heldAt 1999) = .next t ∧ (t.tr 0).state = .changing ∧
      t.out.port = [(0, .pwr 10), (0, .unmute)]) ∧
    (∃ t, exec (.holdRemove 0 ⟨0, false, true⟩) (heldAt 2000) = .next t ∧ (t.tr 0).state = .ready ∧
      (t.out.log.records.map (·.detail)) = [.hold]) ∧
    ∃ t, exec (.holdRemove 0 ⟨0, true, false⟩) (heldAt 1999) = .next t ∧ (t.tr 0).state = .held :=
  ⟨⟨_, rfl, by decide +kernel⟩, ⟨_, rfl, by decide +kernel⟩, by decide +kernel, ⟨_, rfl, by decide +kernel⟩,
    ⟨_, rfl, by decide +kernel⟩, ⟨_, rfl, by decide +kernel⟩, ⟨_, rfl, by decide +kernel⟩, _, rfl, by decide +kernel⟩

/-- HoldsAndFaultsTakeTheCarrierDown: a withdrawal and a fault of the matrix with RF ABSENT, and a fault in RAMP. -/
theorem test_ends_at_once :
    leads (exec (.withdrawEndOrder 0) (heldAt 1999)) (fun t => (t.tr 0).state == .ready &&
      t.out.log.records.map (·.detail) == [.withdrawn] && t.out.notices == [success 0 .end_ 5 6000]) = true ∧
    leads (exec (.matrixFault 0) (heldAt 1999)) (fun t => (t.tr 0).state == .ready &&
      t.out.log.records.map (·.detail) == [.matrixFault] && t.out.notices == [failure 0 .matrixFault true]) = true ∧
    leads (exec (.matrixFault 0) ramping) (fun t => (t.tr 0).state == .changing && t.out.port == [(0, .mute)] &&
      (t.tr 0).context.any (fun k => k.closing == .matrixFault) && t.out.handed.contains (.release 0 5)) = true := by
  decide +kernel

/-- WithdrawalAbandons: an END context, a step that waits, one in motion, a carrier that may be up, and a muted one. -/
theorem test_withdrawal_abandons :
    leads (exec (.withdrawEndOrder 0) (changing { claiming with origin := .end_, phase := .mute }))
      (fun t => (t.tr 0).context.any (fun k => k.phase == .mute) && t.out.port == []) = true ∧
    leads (exec (.withdrawEndOrder 0) (changing (drives [closing .waitingSlot] .sent)))
      (fun t => t.out.handed.contains (.cancelDrive 0) && (t.tr 0).state == .ready) = true ∧
    leads (exec (.withdrawEndOrder 0) (changing (drives [closing .moving] .sent)))
      (fun t => (t.tr 0).context.any (fun k => k.phase == .windUp && k.outcome == some .withdrawn) && t.out.port == []) =
      true ∧
    leads (exec (.withdrawEndOrder 0) (at0 fun r => { r with
        state := .changing, rf := some true, muteConfirmed := false, context := some claiming }))
      (fun t => t.out.port == [(0, .mute)] && (t.tr 0).context.bind (·.deadline) == some ⟨0, 200⟩) = true ∧
    leads (exec (.withdrawEndOrder 0) (changing claiming))
      (fun t => (t.tr 0).state == .ready && t.out.log.records.map (·.detail) == [.withdrawn]) = true := by decide +kernel

/-- LossOnAirEndsTheTransmission: the losses of a held and of a tripped transmission, and the silent port. -/
theorem test_losses_elsewhere :
    let tripped := air0 fun r => { r with state := .tripped, stage := .delay ⟨1, 300⟩, silence := 3 }
    leads (exec (.statOff 0) (heldAt 1999)) (fun t => (t.tr 0).state == .dark .off &&
      t.out.log.records.map (·.detail) == [.txOff]) = true ∧
    leads (exec (.statFault 0) tripped) (fun t => (t.tr 0).state == .locked .txFault &&
      t.out.notices == [failure 0 .txFault true, locking 0 .txFault (b2 0xFFFF)]) = true ∧
    leads (exec (.fault 0 17) tripped) (fun t => (t.tr 0).state == .locked .txFault && t.out.port == [(0, .mute)]) =
      true ∧
    leads (exec (.statPollInstant 0) tripped) (fun t => (t.tr 0).state == .dark .portSilent &&
      t.out.port == [(0, .stat), (0, .mute)] && t.out.notices == [failure 0 .portSilent true]) = true := by
  decide +kernel

/-- Transmitter 0 in CLAIM over the transmission it has closed, its reflected monitor still ARMED. -/
def overClosed (f : TxRecord → TxRecord) : State :=
  let r : TxRecord := f { airStation.tr with
    state := .changing, current := none, context := some claiming, reported := .onAir
    radiated := some { column := 5, kHz := 6000, kW := 10 } }
  { air with stations := upd air.stations 0 { airStation with tr := r, fwd := airStation.fwd.disarm } }

/-- HoldsTakenElsewhere: in a restrike's delay and in its ramp, in RAMP, and in a changeover before RAMP with the carrier
up and without it. -/
theorem test_holds_elsewhere :
    (∃ t, exec (.holdAdd 0 .mains) (air0 fun r => { r with
        state := .tripped, stage := .delay ⟨1, 300⟩, unmuted := false, tripWatch := some ⟨1, 200⟩ }) = .next t ∧
      (t.tr 0).state = .held ∧ t.out.port = [] ∧ (t.tr 0).tripWatch = none) ∧
    (∃ t, exec (.holdAdd 0 .mains) (air0 fun r => { r with state := .tripped, stage := .ramp ⟨1, 500⟩ }) = .next t ∧
      (t.tr 0).state = .held ∧ t.out.port = [(0, .mute)] ∧ (t.stations.get 0).refl.state = .off) ∧
    (∃ t, exec (.holdAdd 0 .mains) ramping = .next t ∧ (t.tr 0).state = .held ∧ (t.tr 0).context = none ∧
      t.out.port = [(0, .mute)] ∧ Instr.release 0 5 ∈ t.out.handed) ∧
    (∃ t, exec (.holdAdd 0 .mains) (overClosed id) = .next t ∧ (t.tr 0).context = some claiming ∧
      t.out.port = [(0, .mute)] ∧ (t.stations.get 0).refl.state = .armed) ∧
    ∃ t, exec (.holdAdd 0 .mains) (changing claiming) = .next t ∧ (t.tr 0).context = some claiming ∧ t.out.port = [] :=
  ⟨⟨_, rfl, by decide +kernel⟩, ⟨_, rfl, by decide +kernel⟩, ⟨_, rfl, by decide +kernel⟩, ⟨_, rfl, by decide +kernel⟩,
    _, rfl, by decide +kernel⟩

/-- PortsAndRfFollowed: mutes confirmed and lost, the third and the fourth silence, and each STAT reply. -/
theorem test_port_cases :
    (∃ t, exec (.rfAbsent 0) (at0 fun r => { r with rf := some true, muteConfirmed := false }) = .next t ∧
      t.out.handed = [.muteConfirmedReport 0 true]) ∧
    (∃ t, exec (.rfPresent 0) up = .next t ∧ (t.tr 0).state = .locked .muteFailed) ∧
    ((air.tr 0).unmuted = true ∧ (air.tr 0).reported = (air.tr 0).condition) ∧
    (∃ t, exec (.statPollInstant 0) (at0 fun r => { r with silence := 2 }) = .next t ∧ (t.tr 0).state = .ready ∧
      (t.tr 0).silence = 3) ∧
    (∃ t, exec (.statPollInstant 0) (at0 fun r => { r with silence := 3 }) = .next t ∧
      (t.tr 0).state = .dark .portSilent) ∧
    (∃ t, exec (.statReady 0) (at0 fun r => { r with state := .dark .off }) = .next t ∧ (t.tr 0).state = .ready) ∧
    (∃ t, exec (.statOff 0) up = .next t ∧ (t.tr 0).state = .dark .off) ∧
    (∃ t, exec (.statFault 0) up = .next t ∧ (t.tr 0).state = .locked .txFault) ∧
    (TxState.dark .off).off = true :=
  ⟨⟨_, rfl, by decide +kernel⟩, ⟨_, rfl, by decide +kernel⟩, by decide +kernel, ⟨_, rfl, by decide +kernel⟩,
    ⟨_, rfl, by decide +kernel⟩, ⟨_, rfl, by decide +kernel⟩, ⟨_, rfl, by decide +kernel⟩, ⟨_, rfl, by decide +kernel⟩, rfl⟩

/-! ### Monitors, resets and start-up: O57 to O60 -/

/-- TripsAndRestrikes: the last trip that restrikes and the one that exhausts, with an unused reserve; the restrike
delay's end with the mute confirmed and without it; the restrike ramp. -/
theorem test_trip_cases :
    (∃ t, exec (.reflectedRisingCrossing 0) (air0 fun r => { r with restrikes := 2 }) = .next t ∧
      (t.tr 0).state = .tripped ∧ (t.tr 0).restrikes = 3 ∧ t.out.handed = [.rowConditionReport 0 .tripped]) ∧
    (∃ t, exec (.reflectedRisingCrossing 0) (air0 fun r => { r with
        restrikes := 3, current := some { onFive with reserve := some 9 } }) = .next t ∧
      (t.tr 0).state = .changing ∧ t.out.handed = [.rowConditionReport 0 .tripped, .suspectMark 5, .claim 0 9]) ∧
    (∃ t, exec (.restrikeDelayExpiry 0) (air0 fun r => { r with
        state := .tripped, stage := .delay ⟨300, 300⟩, unmuted := false, muteConfirmed := true }) = .next t ∧
      t.out.port = [(0, .pwr 10), (0, .unmute)]) ∧
    (∃ t, exec (.restrikeDelayExpiry 0) (air0 fun r => { r with
        state := .tripped, stage := .delay ⟨300, 300⟩, unmuted := false }) = .next t ∧
      (t.tr 0).stage = .waitMute ∧ t.out.port = []) ∧
    (∃ t, exec (.restrikeRampLimitExpiry 0) (air0 fun r => { r with state := .tripped, stage := .ramp ⟨500, 500⟩ }) =
      .next t ∧ (t.tr 0).state = .locked .carrierLost) ∧
    (∃ t, exec (.restrikeWindowExpiry 0) (air0 fun r => { r with restrikes := 2, window := some ⟨6000, 6000⟩ }) =
      .next t ∧ (t.tr 0).restrikes = 0) ∧ ramping.matrix.xstate 0 5 = .closed :=
  ⟨⟨_, rfl, by decide +kernel⟩, ⟨_, rfl, by decide +kernel⟩, ⟨_, rfl, by decide +kernel⟩, ⟨_, rfl, by decide +kernel⟩,
    ⟨_, rfl, by decide +kernel⟩, ⟨_, rfl, by decide +kernel⟩, by decide +kernel⟩

/-- ReflectedTrip and RestrikeFollows: a trip in RAMP and in a restrike's ramp, an exhaustion without a reserve with RF
PRESENT and ABSENT; the mute that a restrike waits for; and a lost route at both of its tests. -/
theorem test_trips_elsewhere :
    let wait (f : TxRecord → TxRecord) : State :=
      air0 fun r => f { r with state := .tripped, stage := .waitMute, unmuted := false, reported := .tripped }
    leads (exec (.reflectedRisingCrossing 0) ramping) (fun t => (t.tr 0).state == .tripped && (t.tr 0).context.isNone &&
      t.out.handed.contains (.release 0 5) && t.out.log.records.map (·.detail) == [.restrike]) = true ∧
    leads (exec (.reflectedRisingCrossing 0) (air0 fun r => { r with state := .tripped, stage := .ramp ⟨1, 500⟩ }))
      (fun t => (t.tr 0).stage == .delay ⟨0, 300⟩ && t.out.port == [(0, .mute)]) = true ∧
    leads (exec (.reflectedRisingCrossing 0) (air0 fun r => { r with restrikes := 3 })) (fun t =>
      (t.tr 0).context.any (fun k => k.closing == .reflection) && (t.tr 0).tripWatch.isNone) = true ∧
    leads (exec (.reflectedRisingCrossing 0) (air0 fun r => { r with restrikes := 3, rf := some false })) (fun t =>
      (t.tr 0).state == .ready && t.out.log.records.map (·.detail) == [.exhausted, .reflection]) = true ∧
    leads (exec (.rfAbsent 0) (wait id)) (fun t => (t.tr 0).stage == .ramp ⟨0, 500⟩ &&
      t.out.port == [(0, .pwr 10), (0, .unmute)]) = true ∧
    leads (exec (.rfAbsent 0) { wait id with matrix := hall }) (fun t => (t.tr 0).state == .ready &&
      t.out.log.records.map (·.detail) == [.routeLost]) = true ∧
    leads (exec (.restrikeDelayExpiry 0) { wait (fun r => { r with
        stage := .delay ⟨300, 300⟩, muteConfirmed := true, rf := some false }) with matrix := hall }) (fun t =>
      (t.tr 0).state == .ready && t.out.notices == [failure 0 .routeLost true]) = true := by decide +kernel

/-- PreMuteTrip: with the carrier up, and after a hold's MUTE that is confirmed. -/
theorem test_pre_mute_trip :
    (∃ t, exec (.reflectedRisingCrossing 0) (overClosed id) = .next t ∧ t.out.port = [(0, .mute)] ∧
      (t.out.log.records.map (·.detail)) = [.preMute] ∧ (t.tr 0).context = some claiming ∧
      t.out.notices.map (·.kind) = [.trip, .reflectedHigh]) ∧
    ∃ t, exec (.reflectedRisingCrossing 0) (overClosed fun r =>
        { r with unmuted := false, muteConfirmed := true, rf := some false }) = .next t ∧ t.out.port = [(0, .mute)] ∧
      (t.out.log.records.map (·.detail)) = [.preMute] :=
  ⟨⟨_, rfl, by decide +kernel⟩, _, rfl, by decide +kernel⟩

/-- RestrikeFollows: the forward crossing of a restrike. -/
theorem test_restrike_succeeds :
    let r : TxRecord := { airStation.tr with
      state := .tripped, stage := .ramp ⟨1, 500⟩, restrikes := 2, reported := .tripped }
    let u : Station := { airStation with tr := r, fwd := { airStation.fwd with state := .ramp, side := some .low } }
    ∃ t, exec (.forwardRisingCrossing 0) { air with stations := upd air.stations 0 u } = .next t ∧
      (t.tr 0).state = .onAir ∧ (t.tr 0).restrikes = 2 := ⟨_, rfl, by decide +kernel⟩

/-- SamplesMeasured: 2% of 10 kW, and the level of 10% of 5 kW, each at its last watt. -/
theorem test_detectors :
    ({ forward := 200, reflected := 0, line := 0 } : Detectors).carrier 10 = true ∧
    ({ forward := 199, reflected := 0, line := 0 } : Detectors).carrier 10 = false ∧
    ({ forward := 5000, reflected := 500, line := 0 } : Detectors).reflectedHigh 10 10 = true ∧
    ({ forward := 5000, reflected := 499, line := 0 } : Detectors).reflectedHigh 10 10 = false ∧
    ({ forward := 199, reflected := 199, line := 0 } : Detectors).reflectedHigh 10 10 = false := by decide

/-- A carrier of 10 kW that the antenna returns. -/
def returned : Detectors := { forward := 10000, reflected := 10000, line := 10000 }

/-- SamplesCompared: a monitor that is not armed, the sample that agrees, the first that does not, and the crossing of the
second; and the first sample of an absent comparator. -/
theorem test_filter :
    (air.tr 0).reported = (air.tr 0).condition ∧ (up.stations.get 0).refl.state ≠ .armed ∧
    ((air.csq 0 (Bench.sampleReflected returned)).stations.get 0).refl.pending = true ∧
    ((air.csq 0 (Bench.sampleReflected returned)).csq 0 (Bench.sampleReflected returned)).out.port = [(0, .mute)] ∧
    ((air.csq 0 (Bench.sampleForward returned)).stations.get 0).fwd.pending = false ∧
    ((air.csq 0 (Bench.sampleAbsent returned)).stations.get 0).absent.side = some .high ∧
    (up.csq 0 (Bench.sampleAbsent returned)).out.port = [(0, .mute)] := by decide +kernel

/-- SamplesTakenByDivisor: a reflected monitor of divisor 4 at an instant of its own and at the one before. -/
theorem test_divisor :
    let u : Station := { airStation with
      refl := { airStation.refl with config := { airStation.refl.config with divisor := 4 } } }
    let s : State := { air with stations := upd air.stations 0 u }
    ((s.sampleStation 4 returned 0).stations.get 0).refl.pending = true ∧
    ((s.sampleStation 3 returned 0).stations.get 0).refl.pending = false := by decide +kernel

/-- MuteKeepsTheMonitor: a hold's mute is confirmed in CLAIM, without a trip before it and with one. -/
theorem test_mute_keeps :
    let r : TxRecord := { airStation.tr with
      state := .changing, current := none, context := some claiming, unmuted := false, reported := .onAir }
    let on (tripped : Bool) : State :=
      let u : Station := { airStation with tr := r, refl := { airStation.refl with tripped := tripped } }
      { air with stations := upd air.stations 0 u }
    (∃ t, exec (.rfAbsent 0) (on false) = .next t ∧ (t.stations.get 0).refl.state = .armed ∧
      (t.tr 0).radiated = (airStation.tr).radiated) ∧
    ∃ t, exec (.rfAbsent 0) (on true) = .next t ∧ (t.stations.get 0).refl.state = .off :=
  ⟨⟨_, rfl, by decide +kernel⟩, _, rfl, by decide +kernel⟩

/-- MonitorsFollowed: the monitors ARMED and OFF, the mains at its level and one below. -/
theorem test_monitor_cases :
    ((air.stations.get 0).refl.state = .armed ∧ (air.stations.get 0).fwd.state = .armed ∧
      (up.stations.get 0).refl.state = .off ∧ (up.stations.get 0).fwd.state = .off) ∧
    (∃ t, exec (.forwardFallingCrossing 0) air = .next t ∧ (t.stations.get 0).fwd.loss = some ⟨0, 1000⟩) ∧
    exec (.mainsSample 88) up = .next up ∧
    (∃ t, exec (.mainsSample 87) up = .next t ∧ t.mains.state = .low ∧ t.out.handed.length = 13) ∧
    ∃ t, exec .mainsRecoveryExpiry { up with mains := { state := .recovering, recovery := some ⟨200, 200⟩ } } =
      .next t ∧ t.mains.state = .normal :=
  ⟨by decide +kernel, ⟨_, rfl, by decide +kernel⟩, rfl, ⟨_, rfl, by decide +kernel⟩, _, rfl, by decide +kernel⟩

/-- ResetsTaken: POWER_ON from reset, the release of an asserted line, and a RESTART's reply frame. -/
theorem test_reset_cases :
    (∃ t, exec .powerOn State.reset = .next t ∧ t.boot.phase = .table ∧ t.out.link.length = 6 ∧
      t.out.sources.getLsbD 5 = true) ∧
    (∃ a t, exec .resetLineAssert (referenced .reference) = .next a ∧ exec .resetLineRelease a = .next t ∧
      t.boot.cause = .resetLine ∧ t.boot.phase = .table ∧ t.clock.source = .reference ∧ t.clock.seen = 100) ∧
    (∃ a t u, exec .resetLineAssert (referenced .reference) = .next a ∧ exec .referenceInputFailure a = .next t ∧
      exec .resetLineRelease t = .next u ∧ { kind := .referenceLost, subject := .none, detail := [] } ∈ u.out.notices) ∧
    (∃ t, exec .outgoingFrameEnd (sending (.reply restartReply)) = .next t ∧ t.boot.cause = .restart) ∧
    exec (.ok 0) { up with boot := { up.boot with asserted := true } } =
      .next { up with boot := { up.boot with asserted := true } } :=
  ⟨⟨_, rfl, by decide +kernel⟩, ⟨_, _, rfl, rfl, by decide +kernel⟩, ⟨_, _, _, rfl, rfl, rfl, by decide +kernel⟩,
    ⟨_, rfl, by decide +kernel⟩, rfl⟩

/-- StartupTestsTheBanks: a page that fails, a CHECKING bank, a VALID one under another serial number. -/
theorem test_startup_banks :
    (∃ t, exec .powerOn { banked .checking with pending := [] } = .next t ∧ (t.store.bank 1).state = .damaged) ∧
    (∃ t, exec .powerOn (scheduled .checking) = .next t ∧ (t.store.bank 0).state = .closed) ∧
    (∃ t, exec .powerOn (scheduled .valid) = .next t ∧ (t.store.bank 0).state = .closed) ∧
    (∃ t, exec .powerOn (scheduled .active) = .next t ∧ (t.store.bank 0).state = .active) ∧
    (up.store.op = none ∧ up.store.cellWrites = []) ∧ ∀ b, (up.store.bank b).cell.latest.good = true :=
  ⟨⟨_, rfl, by decide +kernel⟩, ⟨_, rfl, by decide +kernel⟩, ⟨_, rfl, by decide +kernel⟩, ⟨_, rfl, by decide +kernel⟩,
    ⟨rfl, rfl⟩, by decide +kernel⟩

/-- OneActiveBankKept: no activation number one above the other, and bank 0's one above bank 1's. -/
theorem test_active_kept :
    let both (n : BitVec 32) : State :=
      let s := twoSeasons .active .active
      let cell : Cell := { (nextSeason .active).read with activation := n }
      let b : SeasonBank := { nextSeason .active with cell := (nextSeason .active).cell.write cell }
      { s with store := { s.store with settings := some someSettings, banks := upd s.store.banks 1 b } }
    (∃ t, exec .powerOn (both 7) = .next t ∧ (t.store.bank 1).state = .active ∧ (t.store.bank 0).state = .retired ∧
      t.out.notices = [] ∧ t.out.sources = 0) ∧
    (∃ t, exec .powerOn (both 6) = .next t ∧ (t.store.bank 0).state = .active ∧ (t.store.bank 1).state = .retired) ∧
    ∀ b, (((both 6).store.bank b).cell.latest.good = true ∧ ((both 6).store.bank b).headerPage = .programmed ∧
      ((both 6).store.bank b).read.erasePending = false ∧ ∀ p, ((both 6).store.bank b).pages.get p ≠ .failing) :=
  ⟨⟨_, rfl, by decide +kernel⟩, ⟨_, rfl, by decide +kernel⟩, by decide +kernel⟩

/-- A season switch from bank 0 to bank 1 that has just written both state cells. -/
def switching : Store :=
  ((scheduled .active).store.writeCell 1 fun q => q.goto .active).writeCell 0 fun q => q.goto .retired

/-- CellWritesCut: an event's one write, the two of a switch with the second cut and with the second not begun, both of
which R48 settles, and none. -/
theorem test_cell_writes :
    (((scheduled .active).store.writeCell 1 fun q => q.goto .active).cellWrites =
      [(1, ((scheduled .active).store.bank 1).cell)] ∧ StateCell.erased.latest.good = true) ∧
    (switching.cellWrites.map (·.1) = [1, otherBank 1] ∧ (switching.bank 1).cell =
      ((scheduled .active).store.bank 1).cell.write { ((scheduled .active).store.bank 1).read with state := .active }) ∧
    (let k := Store.cutCells true 1 switching.cellWrites switching;
      (k.bank 0).cell.latest.good = false ∧ (k.bank 0).cell.recover.latest.contents.state = .active ∧
        (k.bank 1).cell.recover.latest.contents.state = .active) ∧
    (let k := Store.cutCells false 0 switching.cellWrites switching;
      (k.bank 0).state = .active ∧ (k.bank 1).state = .erased) ∧ up.store.cellWrites = [] := by decide +kernel

/-- StartupStepsFollow: each step from the one before it. -/
theorem test_startup_steps :
    (∃ t, exec (.startupHallEvaluation 87) { booting .evaluate (fun r =>
        { r with state := .dark .portSilent, poll := none }) with
        ilu := { up.ilu with input := some true } } = .next t ∧ t.boot.phase = .query ∧ t.mains.state = .low ∧
      t.ilu.emergency = true ∧ (t.tr 0).startup = .asked) ∧
    (∃ t, exec .startupAdoption (booting .query fun r =>
        { r with state := .dark .portSilent, startup := .candidate, rf := some true, muteConfirmed := false }) = .next t ∧
      t.boot.phase = .adopt ∧ (t.tr 0).unmuted = false ∧ t.out.port = [(0, .mute)]) ∧
    (∃ t, exec .startupEnd (booting .adopt id) = .next t ∧ t.boot.phase = .done) ∧
    ∃ t, exec .startupPollTimeout (booting .table id) = .next t ∧ t.boot.phase = .evaluate :=
  ⟨⟨_, rfl, by decide +kernel⟩, ⟨_, rfl, by decide +kernel⟩, ⟨_, rfl, by decide +kernel⟩, _, rfl, by decide +kernel⟩

/-- StartupStepsFollow: an active member's effect is in force at the end of the evaluation, and a boundary raised before
the end of start-up is not taken after it. -/
theorem test_startup_in_force :
    (∃ t, exec (.startupHallEvaluation 88)
        { guarded .matrix with
          lines := upd up.lines 4 { kind := .interlock, latch := false, pin := some true, last := some true }
          ilu := { (guarded .matrix).ilu with input := some false }, boot := { up.boot with phase := .evaluate } } =
        .next t ∧ t.ilu.latchedSet = [23] ∧ t.out.handed = [] ∧ t.matrix.suspended = true ∧
      (t.tr 0).holds.empty = false) ∧
    ∃ t, exec .startupEnd { booting .adopt id with out := { up.out with handed := [.minuteBoundary (advance 0), .ok 0] } } =
      .next t ∧ t.out.handed = [.ok 0] := ⟨⟨_, rfl, by decide +kernel⟩, _, rfl, by decide +kernel⟩

/-- The machine in start-up's adoption with transmitter 0 a candidate that radiates on column 5, as bank 0 has it. -/
def adopting : State :=
  let s := scheduled .active
  let r : TxRecord := { readyStation.tr with
    state := .dark .portSilent, startup := .candidate, rf := some true, muteConfirmed := false, unmuted := true }
  { s with
    matrix := routed, stations := upd s.stations 0 { readyStation with tr := r }
    store := { s.store with warmAdopt := true }, boot := { s.boot with phase := .query, kind := .warm } }

/-- AdoptionTested and CandidateAdopted: the first minute of the window and the minute of its end. -/
theorem test_adoption :
    adopting.adoption 0 = some (0, 5, entry, 1) ∧
    ({ adopting with clock := { adopting.clock with reading := ⟨⟨2000, 1, 2⟩, 540, 0, 0⟩ } } : State).adoption 0 = none ∧
    adopting.queryEnded = true ∧ (∀ v, v ≠ 0 → (adopting.tr v).startup ≠ .candidate) ∧
    ∃ t, exec .startupAdoption adopting = .next t ∧ (t.tr 0).state = .onAir ∧ t.engine.firedOn 3 = some 1 ∧
      (t.out.log.records.map (·.detail)) = [.adopted] :=
  ⟨by decide +kernel, by decide +kernel, by decide +kernel, by decide +kernel, _, rfl, by decide +kernel⟩

/-- Start-up with transmitter 0 silent in its query, its record changed. -/
def asking (f : TxRecord → TxRecord) : State :=
  booting .query fun r => f { r with state := .dark .portSilent, startup := .asked, silence := 1 }

/-- QueryAnswered: each reply, a fault line, the third silence in a row and the fourth, and the end of the step. -/
theorem test_query_answers :
    (live (asking id) ∧ ((asking id).tr 0).reported = .quiet ∧ (asking id).queryEnded = false) ∧
    (∃ t, exec (.statReady 0) (asking id) = .next t ∧ (t.tr 0).startup = .candidate ∧ (t.tr 0).poll = none ∧
      (t.tr 0).silence = 0 ∧ t.out.port = [] ∧ t.queryEnded = true ∧ t.adoptionEnded = false) ∧
    (∃ t, exec (.statOff 0) (asking id) = .next t ∧ (t.tr 0).state = .dark .off ∧ (t.tr 0).startup = .done ∧
      t.out.port = []) ∧
    (∃ t, exec (.statFault 0) (asking id) = .next t ∧ (t.tr 0).state = .locked .txFault ∧ t.out.port = [(0, .mute)] ∧
      t.out.notices.map (·.kind) = [.txLocked]) ∧
    exec (.fault 0 9999) (asking id) = .next (asking id) ∧
    (∃ t, exec (.statPollInstant 0) (asking fun r => { r with silence := 2 }) = .next t ∧
      (t.tr 0).silence = 3 ∧ (t.tr 0).startup = .asked) ∧
    ∃ t, exec (.statPollInstant 0) (asking fun r => { r with silence := 3 }) = .next t ∧
      (t.tr 0).startup = .done ∧ (t.tr 0).state = .dark .portSilent ∧ t.out.port = [(0, .stat)] :=
  ⟨⟨⟨rfl, rfl⟩, by decide +kernel, by decide +kernel⟩, ⟨_, rfl, by decide +kernel⟩, ⟨_, rfl, by decide +kernel⟩,
    ⟨_, rfl, by decide +kernel⟩, by rfl, ⟨_, rfl, by decide +kernel⟩, _, rfl, by decide +kernel⟩

/-- Start-up with transmitter 0 a candidate whose carrier is up, its record changed. -/
def electing (p : BootPhase) (f : TxRecord → TxRecord) : State :=
  booting p fun r => f { r with
    state := .dark .portSilent, startup := .candidate, poll := none, rf := some true, muteConfirmed := false }

/-- CandidateMuted and StartupStepsFollow: a candidate is not polled; with RF ABSENT its MUTE makes it READY at once, with
RF PRESENT it waits, and another transmitter not sent MUTE yet gets it; the wait ends READY or LOCKED. -/
theorem test_candidate_muted :
    let muted : State := electing .adopt fun r => { r with startup := .muting ⟨1, 100⟩, unmuted := false }
    exec (.statPollInstant 0) (electing .query id) = .next (electing .query id) ∧
    (∃ t, exec .startupAdoption (electing .query fun r => { r with rf := some false }) = .next t ∧
      (t.tr 0).state = .ready ∧ (t.tr 0).startup = .done ∧ (t.tr 0).poll = some 0 ∧ t.out.port = [(0, .mute)]) ∧
    (∃ t, exec .startupAdoption (electing .query id) = .next t ∧ (t.tr 0).state = .dark .portSilent ∧
      (t.tr 0).startup = .muting ⟨0, up.limits.mute⟩) ∧
    (∃ t, exec .startupAdoption (booting .query fun r => { r with mutedOnce := false }) = .next t ∧
      t.out.port = [(0, .mute)]) ∧
    ((muted.tr 0).unmuted = false ∧ (muted.tr 0).slot = none ∧ muted.adoptionEnded = false) ∧
    (∃ t, exec (.rfAbsent 0) muted = .next t ∧ (t.tr 0).state = .ready ∧ (t.tr 0).muteConfirmed = true ∧
      (t.tr 0).poll = some 0 ∧ t.out.port = []) ∧
    ∃ t, exec (.muteLimitExpiry 0) muted = .next t ∧ (t.tr 0).state = .locked .muteFailed ∧ (t.tr 0).poll = some 0 ∧
      t.out.notices.map (·.kind) = [.txLocked] :=
  ⟨by rfl, ⟨_, rfl, by decide +kernel⟩, ⟨_, rfl, by decide +kernel⟩, ⟨_, rfl, by decide +kernel⟩, by decide +kernel,
    ⟨_, rfl, by decide +kernel⟩, _, rfl, by decide +kernel⟩

/-- RfReportsFollowed, PortLinesFollowed and RestrikeFollows for a transmitter that start-up has queried: a mute
confirmed, the fourth silence, a silent port that answers, a FAULT line, and the mute that a restrike waits for. -/
theorem test_queried_at_start :
    (∃ t, exec (.rfAbsent 0) (at0 fun r => { r with startup := .done, rf := some true, muteConfirmed := false }) =
      .next t ∧ (t.tr 0).muteConfirmed = true ∧ (t.tr 0).state = .ready) ∧
    (∃ t, exec (.statPollInstant 0) (at0 fun r => { r with startup := .done, silence := 3 }) = .next t ∧
      (t.tr 0).state = .dark .portSilent) ∧
    (∃ t, exec (.statReady 0) (at0 fun r => { r with startup := .done, state := .dark .portSilent }) = .next t ∧
      (t.tr 0).state = .ready ∧ t.out.port = [(0, .mute)]) ∧
    (∃ t, exec (.fault 0 17) (at0 fun r => { r with startup := .done }) = .next t ∧
      (t.tr 0).state = .locked .txFault) ∧
    ∃ t, exec (.rfAbsent 0) (air0 fun r => { r with
        startup := .done, state := .tripped, stage := .waitMute, unmuted := false, reported := .tripped }) = .next t ∧
      (t.tr 0).stage = .ramp ⟨0, up.limits.ramp⟩ ∧ t.out.port = [(0, .pwr 10), (0, .unmute)] :=
  ⟨⟨_, rfl, by decide +kernel⟩, ⟨_, rfl, by decide +kernel⟩, ⟨_, rfl, by decide +kernel⟩, ⟨_, rfl, by decide +kernel⟩, _,
    rfl, by decide +kernel⟩

/-- FramesOfOneBlock: commands of either list go on. -/
theorem test_frame_of_block :
    (∃ n, exec (.cancelDrive 0) up = .next n) ∧ ∃ n, exec (.ok 0) up = .next n := ⟨⟨_, rfl⟩, _, rfl⟩

end Sys2Proof.Tests
end

/-! What a host request taken at once does (R189, R190), and SET_TIME (R25). -/

namespace Sys2Proof.Machine

/-! ### A request taken at once (R189) -/

/-- The machine with its request taken: none is on its way from the queue. -/
def State.taken (s : State) : State := s.onLink fun k => { k with taking := false }

@[simp] theorem State.taken_clock (s : State) : s.taken.clock = s.clock := rfl

/-- A machine that serves a request gives it to its block. -/
theorem State.host_of_serves {s : State} (hs : Claims.serves s) (i : Instr) (f : State → State) :
    s.host i f = .next (f s.taken) := by
  obtain ⟨⟨hline, hwrites⟩, hserves⟩ := hs
  rw [State.host_serves s i f hline hserves, State.settled_of_none s hwrites]
  rfl

/-- The refusal of a request taken at once is the reply that the statements name. -/
theorem State.taken_refuse (s : State) (kind : Byte) (h : Head) (r : Reason) :
    s.taken.refuse kind h.tag r = Claims.refuse s kind h r := rfl

/-! ### SET_TIME (R25) -/

/-- A step held within four bytes lies between the bounds of R25. -/
theorem heldStep_eq_max_min (n : Int) : heldStep n = max (-2147483648) (min 2147483647 n) := by
  unfold heldStep
  split
  · omega
  · split <;> omega

/-- SET_TIME's range test fails exactly when one of its values is out of range. -/
theorem setTime_outOfRange_iff (year month day minute second tenth : Nat) :
    (decide (year < 2000) || decide (2099 < year) || decide (month < 1) || decide (12 < month) || decide (day < 1) ||
        decide (31 < day) || decide (1439 < minute) || decide (59 < second) || decide (9 < tenth)) = true ↔
      ¬ (2000 ≤ year ∧ year ≤ 2099 ∧ 1 ≤ month ∧ month ≤ 12 ∧ 1 ≤ day ∧ day ≤ 31 ∧ minute ≤ 1439 ∧ second ≤ 59 ∧
        tenth ≤ 9) := by
  simp only [Bool.or_eq_true, decide_eq_true_eq]
  omega

/-- A date of the years and days in range is none of the calendar exactly when its day is past the end of its month. -/
theorem Date.not_valid_iff (d : Date) (hyear : 2000 ≤ d.year ∧ d.year ≤ 2099) (hday : 1 ≤ d.day) :
    (!d.valid) = true ↔ monthLength d.year d.month < d.day := by
  simp [Date.valid, hyear, hday]

/-- SET_TIME served: its tests, then the clock set from the reading it replaces. -/
theorem exec_setTime_of_serves {s : State} (hs : Claims.serves s) (h : Head) (year month day minute second tenth : Nat) :
    exec (.setTime h year month day minute second tenth) s = .next
      (s.taken.request 0x20 h
        [(decide (year < 2000) || decide (2099 < year) || decide (month < 1) || decide (12 < month) ||
            decide (day < 1) || decide (31 < day) || decide (1439 < minute) || decide (59 < second) ||
            decide (9 < tenth), .outOfRange),
          (!(Date.mk year month day).valid, .badField)]
        (fun t => t.setClock s.clock.reading ⟨⟨year, month, day⟩, minute, second, tenth⟩ true)
        (fun _ => .step (clockStep s.clock.reading ⟨⟨year, month, day⟩, minute, second, tenth⟩))) := by
  change execSetTime h year month day minute second tenth s = _
  rw [execSetTime, State.host_of_serves hs]
  rfl

/-- Settles O18: the tests in their order, and the clock set as R25 states. -/
theorem setTimeDecided : Obligations.SetTimeDecided := by
  unfold Obligations.SetTimeDecided
  intro h year month day minute second tenth s hs new difference step boundary
  have hstep : clockStep s.clock.reading new = step := heldStep_eq_max_min _
  rw [exec_setTime_of_serves hs]
  congr 1
  cases hsized : h.sized with
  | false => rw [State.request_short _ _ _ _ _ _ hsized]; rfl
  | true =>
    rw [State.request_test _ _ _ _ _ _ _ _ hsized, State.request_test _ _ _ _ _ _ _ _ hsized,
      State.request_accepted _ _ _ _ _ hsized]
    simp only [setTime_outOfRange_iff, State.taken_refuse, Bool.true_eq_false, if_false]
    split
    next => rfl
    next hrange =>
      obtain ⟨hlow, hhigh, -, -, hday, -⟩ := not_not.mp hrange
      simp only [Date.not_valid_iff ⟨year, month, day⟩ ⟨hlow, hhigh⟩ hday]
      split
      next => rfl
      next =>
        rw [← hstep]
        rfl

end Sys2Proof.Machine

/-! What the operations and the commands leave of the Hall Clock (02): the shared operations of the other blocks all of
it, the clock's own advance and the resets its source and its reference's presence, and so every command but POWER_ON,
the judgements of the reference input and SET_CLOCK_SOURCE. -/

namespace Sys2Proof.Machine

/-- Operations made in turn leave the clock alone when each does. -/
theorem State.foldl_clock {α : Type} {f : State → α → State} (hf : ∀ s x, (f s x).clock = s.clock) (xs : List α)
    (s : State) : (xs.foldl f s).clock = s.clock := by
  induction xs generalizing s with
  | nil => rfl
  | cons x xs ih => rw [List.foldl_cons, ih, hf]

@[simp] theorem State.onEach_clock (s : State) (f : Env → Bench → Bench) : (s.onEach f).clock = s.clock :=
  State.foldl_clock (fun s t => State.onStation_clock s t f) allTx s

/-! ### Requests and the host link (10) -/

@[simp] theorem State.refuse_clock (s : State) (k t : Byte) (r : Reason) : (s.refuse k t r).clock = s.clock := rfl

@[simp] theorem State.frameFault_clock (s : State) (d : Nat) : (s.frameFault d).clock = s.clock := rfl

@[simp] theorem State.enqueue_clock (s : State) (r : Request) : (s.enqueue r).clock = s.clock := by
  unfold State.enqueue
  split
  · rfl
  · split <;> rfl

@[simp] theorem State.enterFrame_clock (bytes : List Byte) (s : State) : (s.enterFrame bytes).clock = s.clock := by
  unfold State.enterFrame
  split
  · rfl
  · split <;> simp

@[simp] theorem State.receive_clock (bytes : List Byte) (s : State) : (s.receive bytes).clock = s.clock := by
  unfold State.receive
  split
  · rfl
  · split
    · rfl
    · split <;> rfl

@[simp] theorem State.beginFrame_clock (s : State) : s.beginFrame.clock = s.clock := by
  unfold State.beginFrame
  repeat' split
  all_goals rfl

/-! ### Mains, lines and interlocks (08, 09) -/

@[simp] theorem State.mainsDip_clock (s : State) : s.mainsDip.clock = s.clock := rfl

@[simp] theorem State.mainsSample_clock (n : Nat) (s : State) : (s.mainsSample n).clock = s.clock := by
  unfold State.mainsSample
  dsimp only
  repeat' split
  all_goals rfl

@[simp] theorem State.acceptLevel_clock (s : State) (l : Line) (high : Bool) :
    (s.acceptLevel l high).clock = s.clock := by
  unfold State.acceptLevel
  dsimp only
  repeat' split
  all_goals rfl

@[simp] theorem State.joinLatched_clock (s : State) (m : Member) (g : MemberConfig) :
    (s.joinLatched m g).clock = s.clock := by
  unfold State.joinLatched
  split <;> rfl

@[simp] theorem State.unconfigure_clock (s : State) (m : Member) : (s.unconfigure m).clock = s.clock := rfl

@[simp] theorem State.configure_clock (s : State) (m : Member) (g : MemberConfig) :
    (s.configure m g).clock = s.clock := by
  simp [State.configure, apply_ite State.clock]

@[simp] theorem State.latchEmergency_clock (s : State) : s.latchEmergency.clock = s.clock := rfl

@[simp] theorem State.emergencyLevel_clock (s : State) (active : Bool) :
    (s.emergencyLevel active).clock = s.clock := by
  simp [State.emergencyLevel, apply_ite State.clock]

/-! ### The check, the store and the hall description (01, 03, 04) -/

@[simp] theorem State.endCheck_clock (s : State) (k : CheckContext) (x : BankState) (o : CheckOutcome) :
    (s.endCheck k x o).clock = s.clock := rfl

@[simp] theorem State.cutCheck_clock (s : State) (o : CheckOutcome) : (s.cutCheck o).clock = s.clock := by
  unfold State.cutCheck
  split <;> simp

@[simp] theorem State.closeValid_clock (s : State) (b : Bank) : (s.closeValid b).clock = s.clock := by
  unfold State.closeValid
  split <;> rfl

@[simp] theorem State.descriptionChange_clock (s : State) : s.descriptionChange.clock = s.clock := by
  simp [State.descriptionChange]

/-! ### The Schedule Engine (05) -/

@[simp] theorem State.refill_clock (s : State) (now : Nat) : (s.refill now).clock = s.clock := by
  unfold State.refill
  split
  · rfl
  · simp [apply_ite State.clock]

@[simp] theorem State.rebuild_clock (s : State) (now : Nat) : (s.rebuild now).clock = s.clock := by
  simp [State.rebuild]

@[simp] theorem State.drainTest_clock (s : State) : s.drainTest.clock = s.clock := by
  unfold State.drainTest
  split <;> rfl

@[simp] theorem State.missStart_clock (s : State) (b : Bank) (e : Entry) (day : Nat) (why : Detail) :
    (s.missStart b e day why).clock = s.clock := rfl

@[simp] theorem State.closeReplaced_clock (s : State) (t : Tx) (why : Detail) :
    (s.closeReplaced t why).clock = s.clock := by
  unfold State.closeReplaced
  split
  · rfl
  · split <;> rfl

@[simp] theorem State.handStart_clock (s : State) (t : Tx) (q : StartRequest) (followed : Bool) :
    (s.handStart t q followed).clock = s.clock := by
  simp only [State.handStart, State.csq_clock, apply_ite State.clock]
  split
  · simp
  · split <;> simp [apply_ite State.clock]

@[simp] theorem State.takeStart_clock (s : State) (b : Bank) (e : Entry) (day : Nat) (late followed : Bool) :
    (s.takeStart b e day late followed).clock = s.clock := by
  unfold State.takeStart
  split
  · rfl
  · dsimp only
    split
    · rfl
    · split <;> simp

@[simp] theorem State.fireStart_clock (s : State) (f : Firing) (followed : Bool) :
    (s.fireStart f followed).clock = s.clock := by
  unfold State.fireStart
  split <;> simp

@[simp] theorem State.fireEnd_clock (s : State) (f : Firing) : (s.fireEnd f).clock = s.clock := by
  simp [State.fireEnd, apply_ite State.clock]

@[simp] theorem State.firePair_clock (s : State) (f g : Firing) : (s.firePair f g).clock = s.clock := by
  simp [State.firePair, apply_ite State.clock]

@[simp] theorem State.listed_clock (s : State) (fs : List Firing) : (s.listed fs).clock = s.clock := rfl

@[simp] theorem State.takeDue_clock (now n : Nat) (s : State) : (State.takeDue now n s).clock = s.clock := by
  induction n generalizing s with
  | zero => rfl
  | succ n ih =>
    unfold State.takeDue
    repeat' split
    all_goals simp [ih]

@[simp] theorem State.takeAllDue_clock (s : State) (now : Nat) : (s.takeAllDue now).clock = s.clock :=
  State.takeDue_clock _ _ _

@[simp] theorem State.scanWindow_clock (b : Bank) (e : Entry) (now day : Nat) (s : State) :
    (s.scanWindow b e now day).clock = s.clock := by
  unfold State.scanWindow
  repeat' split
  all_goals simp

@[simp] theorem State.lateScan_clock (s : State) (now : Nat) : (s.lateScan now).clock = s.clock := by
  unfold State.lateScan
  split
  · rfl
  · refine State.foldl_clock (fun s e => ?_) _ _
    dsimp only
    split <;> simp

@[simp] theorem State.endPassed_clock (now : Nat) (s : State) (t : Tx) :
    (State.endPassed now s t).clock = s.clock := by
  unfold State.endPassed
  repeat' split
  all_goals rfl

@[simp] theorem State.startEngine_clock (s : State) (now : Nat) : (s.startEngine now).clock = s.clock := by
  simp [State.startEngine, State.foldl_clock (State.endPassed_clock now)]

@[simp] theorem State.missPassed_clock (b : Bank) (s : State) (q : Entry × Nat) :
    (State.missPassed b s q).clock = s.clock := by
  unfold State.missPassed
  split <;> rfl

@[simp] theorem State.clockStepRules_clock (s : State) (previous now : Nat) :
    (s.clockStepRules previous now).clock = s.clock := by
  simp only [State.clockStepRules, State.rebuild_clock, apply_ite State.clock, State.onEach_clock,
    State.foldl_clock (State.endPassed_clock now)]
  split
  · split
    · exact State.foldl_clock (State.missPassed_clock _) _ _
    · rfl
  · rfl

@[simp] theorem State.carry_clock (retired : Bank) (s : State) (t : Tx) :
    (State.carry retired s t).clock = s.clock := by
  unfold State.carry
  repeat' split
  all_goals rfl

@[simp] theorem State.makeSwitch_clock (s : State) (now : Nat) (b : Bank) :
    (s.makeSwitch now b).clock = s.clock := by
  simp only [State.makeSwitch, apply_ite State.clock, State.onEach_clock, State.foldl_clock (State.carry_clock _),
    State.onEngine_clock, State.onOut_clock, State.onStore_clock, ite_self]

@[simp] theorem State.missSeason_clock (previous now : Nat) (s : State) (b : Bank) :
    (State.missSeason previous now s b).clock = s.clock := by
  unfold State.missSeason
  dsimp only
  split <;> rfl

@[simp] theorem State.seasonStep_clock (s : State) (previous now : Nat) :
    (s.seasonStep previous now).clock = s.clock := by
  unfold State.seasonStep
  rw [State.foldl_clock (State.missSeason_clock previous now)]
  split <;> simp

@[simp] theorem State.serveBoundary_clock (s : State) (b : Boundary) (switched : Bool) :
    (s.serveBoundary b switched).clock = s.clock := by
  simp only [State.serveBoundary, apply_ite State.clock, State.lateScan_clock, State.refill_clock,
    State.takeAllDue_clock, ite_self]
  split
  · simp
  · simp [apply_ite State.clock]

@[simp] theorem State.boundary_clock (s : State) (b : Boundary) : (s.boundary b).clock = s.clock := by
  simp [State.boundary, apply_ite State.clock]

@[simp] theorem State.missHalted_clock (s : State) : s.missHalted.clock = s.clock := State.onEach_clock _ _

/-! ### Start-up (11) -/

@[simp] theorem State.testBank_clock (s : State) (b : Bank) : (s.testBank b).clock = s.clock := by
  unfold State.testBank
  dsimp only
  repeat' split
  all_goals rfl

@[simp] theorem State.compareSerial_clock (s : State) (b : Bank) : (s.compareSerial b).clock = s.clock := by
  unfold State.compareSerial
  split <;> simp

@[simp] theorem State.checkBanks_clock (s : State) : s.checkBanks.clock = s.clock := by simp [State.checkBanks]

@[simp] theorem State.evaluateMember_clock (s : State) (m : Member) : (s.evaluateMember m).clock = s.clock := by
  unfold State.evaluateMember
  split
  · rfl
  · dsimp only
    split <;> simp

@[simp] theorem State.findHall_clock (percent : Nat) (s : State) : (s.findHall percent).clock = s.clock := by
  unfold State.findHall
  rw [State.foldl_clock State.evaluateMember_clock]
  repeat' split
  all_goals simp

@[simp] theorem State.putInForce_clock (s : State) (i : Instr) : (s.putInForce i).clock = s.clock := by
  unfold State.putInForce
  split <;> rfl

@[simp] theorem State.evaluateHall_clock (percent : Nat) (s : State) : (s.evaluateHall percent).clock = s.clock := by
  simp [State.evaluateHall, State.foldl_clock State.putInForce_clock]

@[simp] theorem State.adoptOrMute_clock (s : State) (t : Tx) : (s.adoptOrMute t).clock = s.clock := by
  unfold State.adoptOrMute
  repeat' split
  all_goals rfl

@[simp] theorem State.muteOther_clock (s : State) (t : Tx) : (s.muteOther t).clock = s.clock := by
  unfold State.muteOther
  dsimp only
  split <;> rfl


/-! ### What sets the clock but keeps its source and its reference -/

/-- The clock's source and the presence of its reference (R20-R22). -/
def Clock.timebase (k : Clock) : ClockSource × Bool := (k.source, k.present)

@[simp] theorem Clock.pulseKind_timebase (k : Clock) (given : Bool) : (k.pulseKind given).timebase = k.timebase := rfl

@[simp] theorem State.setClock_timebase (s : State) (old new : Reading) (flag : Bool) :
    (s.setClock old new flag).clock.timebase = s.clock.timebase := rfl

@[simp] theorem State.carrySecond_timebase (s : State) (old : Reading) :
    (s.carrySecond old).clock.timebase = s.clock.timebase := by
  unfold State.carrySecond
  dsimp only
  repeat' split
  all_goals rfl

@[simp] theorem State.advanceTenth_timebase (s : State) : s.advanceTenth.clock.timebase = s.clock.timebase := by
  unfold State.advanceTenth
  dsimp only
  split
  · rfl
  · exact State.carrySecond_timebase _ _

@[simp] theorem State.align_timebase (s : State) : s.align.clock.timebase = s.clock.timebase := by
  unfold State.align
  dsimp only
  split
  · exact State.carrySecond_timebase _ _
  · rfl

@[simp] theorem State.secondPulse_timebase (s : State) (l : Line) :
    (s.secondPulse l).clock.timebase = s.clock.timebase := State.align_timebase s

@[simp] theorem State.relabel_timebase (s : State) (l : Line) (k : LineKind) :
    (s.relabel l k).clock.timebase = s.clock.timebase := by
  unfold State.relabel
  dsimp only
  repeat' split
  all_goals rfl

/-- A reset other than POWER_ON leaves the source and the presence alone (R28). -/
theorem State.resetFor_timebase (s : State) {cause : ResetCause} (h : cause ≠ .powerOn) :
    (s.resetFor cause).clock.timebase = s.clock.timebase := by
  simp [State.resetFor, h, Clock.timebase]

@[simp] theorem State.loadSettings_timebase (s : State) : s.loadSettings.clock.timebase = s.clock.timebase := by
  unfold State.loadSettings
  dsimp only
  repeat' split
  all_goals rfl

@[simp] theorem State.beginStartup_timebase (s : State) : s.beginStartup.clock.timebase = s.clock.timebase := by
  simp [State.beginStartup]

@[simp] theorem State.endFrame_timebase (s : State) : s.endFrame.clock.timebase = s.clock.timebase := by
  unfold State.endFrame
  split
  · rfl
  · dsimp only
    split
    · split
      · rw [State.beginStartup_timebase, State.resetFor_timebase (cause := .restart) _ nofun]
        rfl
      · rfl
    · rfl
  · rfl

/-! ### Commands that keep the timebase (R22, R28) -/

/-- An outcome goes on only with the source and the presence of a state. -/
def keepsTimebase (s : State) (o : Host.Outcome State Fault Refusal) : Prop :=
  ∀ t, o = .next t → t.clock.timebase = s.clock.timebase

theorem keepsTimebase_next {s t : State} (h : t.clock.timebase = s.clock.timebase) : keepsTimebase s (.next t) := by
  rintro u ⟨⟩
  exact h

/-- A command that is taken keeps the timebase when its effect does. -/
theorem keepsTimebase_take {s : State} {f : State → State}
    (hf : ∀ s, (f s).clock.timebase = s.clock.timebase) : keepsTimebase s (s.take f) := by
  refine keepsTimebase_next ?_
  split
  · rfl
  · exact hf _

/-- So does a host request, which may wait in the queue instead. -/
theorem keepsTimebase_host {s : State} {i : Instr} {f : State → State}
    (hf : ∀ s, (f s).clock.timebase = s.clock.timebase) : keepsTimebase s (s.host i f) := by
  refine keepsTimebase_take fun s => ?_
  split
  · exact hf _
  · rw [State.enqueue_clock]

/-- A request keeps the timebase when its effect does. -/
theorem State.request_timebase {s : State} {k : Byte} {h : Head} {ts : List (Bool × Reason)} {e : State → State}
    {a : State → Answer} (he : (e s).clock.timebase = s.clock.timebase) :
    (s.request k h ts e a).clock.timebase = s.clock.timebase := by
  rcases s.request_cases k h ts e a with ⟨r, hr⟩ | ha
  · rw [hr, State.refuse_clock]
  · rw [ha, State.answer_clock, he]

/-- A host request keeps the timebase when the effect of its acceptance does. -/
theorem keepsTimebase_request {s : State} {i : Instr} {k : Byte} {h : Head} {ts : State → List (Bool × Reason)}
    {e : State → State → State} {a : State → State → Answer}
    (he : ∀ s, (e s s).clock.timebase = s.clock.timebase) :
    keepsTimebase s (s.host i fun s => s.request k h (ts s) (e s) (a s)) :=
  keepsTimebase_host fun s => State.request_timebase (he s)

/-- Of the host requests SET_CLOCK_SOURCE alone may change the timebase. -/
theorem exec_request_keepsTimebase (i : Instr) (s : State) (hi : (requestOf i).isSome)
    (hsource : ∀ h x, i ≠ .setClockSource h x) : keepsTimebase s (exec i s) := by
  unfold exec
  cases i with
  | setClockSource h x => exact absurd rfl (hsource h x)
  | setTransmitter =>
    refine keepsTimebase_request fun s => ?_
    simp [apply_ite State.clock]
  | setAntenna =>
    refine keepsTimebase_request fun s => ?_
    simp [apply_ite State.clock]
  | setMonitor =>
    refine keepsTimebase_request fun s => ?_
    split <;> rfl
  | setLine =>
    refine keepsTimebase_request fun s => ?_
    split
    · split <;> simp
    · rfl
  | setMember =>
    refine keepsTimebase_request fun s => ?_
    split <;> simp
  | writeLines =>
    refine keepsTimebase_request fun s => ?_
    rw [State.foldl_clock]
    exact fun _ _ => rfl
  | writeEntries =>
    refine keepsTimebase_host fun s => ?_
    dsimp only
    rw [State.request_timebase rfl]
    split <;> rfl
  | cancelCheck => exact keepsTimebase_request fun s => congrArg _ (s.cutCheck_clock _)
  | run => exact keepsTimebase_request fun s => congrArg _ (s.startEngine_clock _)
  | haltDrain => exact keepsTimebase_request fun s => by simp
  | haltStop => exact keepsTimebase_request fun s => by simp
  | interlockClearGroup =>
    refine keepsTimebase_host fun s => ?_
    dsimp only
    split
    · rfl
    · exact State.request_timebase rfl
  | interlockClearEmergency =>
    refine keepsTimebase_host fun s => ?_
    split
    · rfl
    · exact State.request_timebase rfl
  | unknownKind => exact keepsTimebase_host fun _ => rfl
  | setAvailability | setLimits | setProtection | setMemberRemove | setTime | eraseBank | openBank | closeBank
  | checkBank | readBank | readEntries | readUpcoming | manualTune | manualEnd | resumeSchedule | releaseTransmitter
  | readTransmitter | withdrawAntenna | restoreAntenna | pollMatrix | readRoutes | readAntenna | readLines
  | readInterlock | readStatus | readLog | setNoticeEnables | clearSources | saveSettings | setStartKind | restart =>
    exact keepsTimebase_request fun _ => rfl
  | _ => exact absurd hi Bool.false_ne_true

/-- What is no host request has no meaning as a request of the queue. -/
theorem serveRequest_of_not_request (i : Instr) (s : State) (hi : requestOf i = none) :
    serveRequest i s = .next s := by
  unfold serveRequest
  split
  case h_47 => rfl
  all_goals exact nomatch hi

theorem serveRequest_keepsTimebase (i : Instr) (s : State) (hsource : ∀ h x, i ≠ .setClockSource h x) :
    keepsTimebase s (serveRequest i s) := by
  cases hi : requestOf i with
  | none =>
    rw [serveRequest_of_not_request i s hi]
    exact keepsTimebase_next rfl
  | some q =>
    have hsome : (requestOf i).isSome := by rw [hi]; rfl
    rw [serveRequest_eq_exec i s hsome]
    exact exec_request_keepsTimebase i s hsome hsource

/-- Taking the head of the queue keeps the timebase, unless the head is a SET_CLOCK_SOURCE. -/
theorem State.serveHead_keepsTimebase (s : State)
    (hsource : ∀ h x, s.link.queue.head?.map Request.command ≠ some (.setClockSource h x)) :
    keepsTimebase s s.serveHead := by
  unfold State.serveHead
  split
  next r rest hq => exact serveRequest_keepsTimebase _ _ fun h x hr => hsource h x (by simp [hq, hr])
  next => exact keepsTimebase_next rfl

/-- A command after which the head of the queue is taken keeps the timebase when its own effect does and the head is no
SET_CLOCK_SOURCE. -/
theorem State.takeAndServe_keepsTimebase (s : State) (f : State → State)
    (hf : (f s.settled).clock.timebase = s.clock.timebase)
    (hsource : ∀ h x, (f s.settled).link.queue.head?.map Request.command ≠ some (.setClockSource h x)) :
    keepsTimebase s (s.takeAndServe f) := by
  unfold State.takeAndServe
  split
  · exact keepsTimebase_next rfl
  · intro t ht
    rw [State.serveHead_keepsTimebase _ hsource t ht, hf]

/-! ### The queue that the end of a frame, a frame received and the end of start-up leave (R188, R189) -/

@[simp] theorem State.loadSettings_link (s : State) : s.loadSettings.link = s.link := by
  unfold State.loadSettings
  dsimp only
  repeat' split
  all_goals rfl

@[simp] theorem State.testBank_link (s : State) (b : Bank) : (s.testBank b).link = s.link := by
  unfold State.testBank
  dsimp only
  repeat' split
  all_goals rfl

@[simp] theorem State.compareSerial_link (s : State) (b : Bank) : (s.compareSerial b).link = s.link := by
  simp only [State.compareSerial, State.closeValid]
  repeat' split
  all_goals rfl

@[simp] theorem State.beginStartup_link (s : State) : s.beginStartup.link = s.link := by
  simp [State.beginStartup, State.checkBanks]

/-- The end of an outgoing frame leaves the request queue, or a RESTART's reset empties it (R206). -/
theorem State.endFrame_queue (s : State) : s.endFrame.link.queue = s.link.queue ∨ s.endFrame.link.queue = [] := by
  unfold State.endFrame
  split
  · exact Or.inl rfl
  · dsimp only
    split
    · split
      · exact Or.inr (congrArg HostLink.queue (State.beginStartup_link _))
      · exact Or.inl rfl
    · exact Or.inl rfl
  · exact Or.inl rfl

/-- A frame that enters the request queue stands behind those that wait there (R188). -/
theorem State.enterFrame_queue (bytes : List Byte) (s : State) :
    (s.enterFrame bytes).link.queue = s.link.queue ∨
      (s.enterFrame bytes).link.queue = s.link.queue ++ [.frame (frameOf bytes)] := by
  simp only [State.enterFrame, State.enqueue]
  repeat' split
  · exact Or.inl rfl
  · exact Or.inr rfl
  · exact Or.inl rfl
  · exact Or.inl rfl
  · exact Or.inl rfl

theorem execOutgoingFrameEnd_keepsTimebase (s : State)
    (hnext : ∀ h x, Claims.nextRequest .outgoingFrameEnd s ≠ some (.setClockSource h x)) :
    keepsTimebase s (execOutgoingFrameEnd s) := by
  refine State.takeAndServe_keepsTimebase s _ s.settled.endFrame_timebase fun h x => ?_
  rcases s.settled.endFrame_queue with hq | hq
  · rw [hq]
    exact hnext h x
  · simp [hq]

theorem execFrameReceived_keepsTimebase (bytes : List Byte) (s : State)
    (hnext : ∀ h x, Claims.nextRequest (.frameReceived bytes) s ≠ some (.setClockSource h x)) :
    keepsTimebase s (execFrameReceived bytes s) := by
  refine State.takeAndServe_keepsTimebase s _ (by rw [State.enterFrame_clock, State.settled_clock]) fun h x hx => ?_
  refine hnext h x ?_
  rcases State.enterFrame_queue bytes s.settled with hq | hq
  · rw [hq, State.settled_link] at hx
    cases hs : s.link.queue with
    | nil => simp [hs] at hx
    | cons r rest => simpa [Claims.nextRequest, hs] using hx
  · rwa [hq] at hx

theorem execStartupEnd_keepsTimebase (s : State)
    (hnext : ∀ h x, Claims.nextRequest .startupEnd s ≠ some (.setClockSource h x)) :
    keepsTimebase s (execStartupEnd s) := by
  refine State.takeAndServe_keepsTimebase s _ ?_ fun h x => ?_
  · dsimp only
    split <;> rfl
  · dsimp only
    split <;> exact hnext h x

/-! ### Every command -/

/-- The commands that may change the clock's source or its reference's presence are POWER_ON, the judgements of the
reference input and SET_CLOCK_SOURCE, given or taken from the request queue (R20-R22, R28). -/
theorem exec_keepsTimebase (c : Instr) (s : State) (hpower : c ≠ .powerOn) (hfail : c ≠ .referenceInputFailure)
    (hjudged : c ≠ .referenceJudgedPresent) (hsource : ∀ h x, c ≠ .setClockSource h x)
    (hnext : ∀ h x, Claims.nextRequest c s ≠ some (.setClockSource h x)) : keepsTimebase s (exec c s) := by
  by_cases hc : (requestOf c).isSome
  · exact exec_request_keepsTimebase c s hc hsource
  unfold exec
  cases c with
  | powerOn => exact absurd rfl hpower
  | referenceInputFailure => exact absurd rfl hfail
  | referenceJudgedPresent => exact absurd rfl hjudged
  | frameReceived bytes => exact execFrameReceived_keepsTimebase bytes s hnext
  | outgoingFrameEnd => exact execOutgoingFrameEnd_keepsTimebase s hnext
  | startupEnd => exact execStartupEnd_keepsTimebase s hnext
  | clockTenthAdvance => exact keepsTimebase_next s.settled.advanceTenth_timebase
  | secondPulse =>
    refine keepsTimebase_take fun s => ?_
    split
    · exact s.secondPulse_timebase _
    · rfl
  | pulseWatchExpiry =>
    refine keepsTimebase_take fun s => ?_
    split <;> rfl
  | fieldLineLevelChange =>
    refine keepsTimebase_take fun s => ?_
    simp only [apply_ite State.clock, apply_ite Clock.timebase]
    simp
  | resetLineAssert => exact keepsTimebase_next (s.resetFor_timebase (cause := .resetLine) nofun)
  | resetLineRelease =>
    refine keepsTimebase_next ?_
    split
    · exact State.beginStartup_timebase _
    · rfl
  | linkGapExpiry =>
    refine keepsTimebase_take fun s => ?_
    split <;> rfl
  | receivedByte =>
    refine keepsTimebase_take fun s => ?_
    split
    · split <;> simp
    · simp
  | outgoingFrameBegin => exact keepsTimebase_take fun s => congrArg _ s.beginFrame_clock
  | minuteBoundary =>
    refine keepsTimebase_take fun s => ?_
    split <;> simp
  | scheduleWorkEnded => exact keepsTimebase_take fun s => congrArg _ (State.drainTest_clock _)
  | headerWriteComplete | entryPageWriteComplete | settingsWriteComplete | eraseComplete =>
    refine keepsTimebase_take fun s => ?_
    split <;> rfl
  | checkComplete =>
    refine keepsTimebase_take fun s => ?_
    split
    · rfl
    · dsimp only
      split <;> rfl
  | position =>
    refine keepsTimebase_take fun s => ?_
    dsimp only
    split <;> rfl
  | mainsSample => exact keepsTimebase_take fun s => congrArg _ (s.mainsSample_clock _)
  | mainsRecoveryExpiry =>
    refine keepsTimebase_take fun s => ?_
    split <;> rfl
  | memberLevelChange =>
    refine keepsTimebase_take fun s => ?_
    split
    · rfl
    · dsimp only
      split <;> simp
  | emergencyInputChange => exact keepsTimebase_take fun s => congrArg _ (s.emergencyLevel_clock _)
  | startupPollTimeout =>
    refine keepsTimebase_take fun s => ?_
    split <;> rfl
  | startupHallEvaluation =>
    refine keepsTimebase_take fun s => ?_
    split <;> simp
  | startupAdoption =>
    refine keepsTimebase_take fun s => ?_
    split
    · rw [State.foldl_clock State.muteOther_clock, State.foldl_clock State.adoptOrMute_clock]
    · rfl
  | travelLimitExpiry | claim | release | withdrawClaim | driveRequest | cancelDrive | rowConditionReport
  | muteConfirmedReport | suspectMark | suspensionSourceAdd | suspensionSourceRemove | gateMemberAdd
  | gateMemberRemove =>
    exact keepsTimebase_take fun s => congrArg _ (s.onMatrix_clock _)
  | claimGranted | claimListed | claimRefused | driveStarted | driveDone | driveFailed | matrixFault | serviceChanged
  | withdrawEndOrder | holdAdd | holdRemove | rfAbsent | rfPresent | statPollInstant | statReady | statOff | statFault
  | fault | tuned | tunefail | claimWaitExpiry | muteLimitExpiry | settleExpiry | tuneLimitExpiry | openTuneExpiry
  | holdTimeExpiry | rampLimitExpiry | restrikeRampLimitExpiry | reflectedRisingCrossing | reflectedFallingCrossing
  | forwardRisingCrossing | forwardFallingCrossing | armingDelayExpiry | restrikeDelayExpiry | tripMuteWatchExpiry
  | restrikeWindowExpiry | carrierLossExpiry =>
    exact keepsTimebase_take fun s => congrArg _ (s.csq_clock _ _)
  | ok | unknownPortLine => exact keepsTimebase_take fun _ => rfl
  | _ => exact (hc rfl).elim

end Sys2Proof.Machine

/-! SET_CLOCK_SOURCE and the loss of the reference (R21, R22). -/

namespace Sys2Proof.Machine

/-! ### The loss of the reference (R20, R21) -/

/-- A failure of the reference input leaves the clock on the internal oscillator, whatever it ran on. -/
theorem State.referenceFails_source (s : State) : s.referenceFails.clock.source = .internal := by
  unfold State.referenceFails
  split
  next => rfl
  next hsource =>
    change s.clock.source = .internal
    cases h : s.clock.source with
    | reference => exact absurd h hsource
    | internal => rfl

theorem State.referenceFails_present (s : State) : s.referenceFails.clock.present = false := by
  unfold State.referenceFails
  split <;> rfl

/-- A clock that loses its reference raises REFERENCE_LOST and nothing else. -/
theorem State.referenceFails_raises (s : State) (h : s.clock.source = .reference) :
    Claims.raises s s.referenceFails [{ kind := .referenceLost, subject := .none, detail := [] }] := by
  rw [State.referenceFails, if_pos h]
  exact ⟨rfl, rfl, rfl⟩

/-- A failure of the reference input leaves HLI as ready to take a request as it found it. -/
theorem State.referenceFails_serves {s : State} (hs : Claims.serves s) : Claims.serves s.referenceFails := by
  unfold State.referenceFails
  split <;> exact hs

theorem exec_referenceInputFailure {s : State} (h : Claims.live s) :
    exec .referenceInputFailure s = .next s.referenceFails := by
  obtain ⟨-, hwrites⟩ := h
  change Host.Outcome.next s.settled.referenceFails = _
  rw [State.settled_of_none s hwrites]

/-- A judgement of presence selects nothing (R21). -/
theorem exec_referenceJudgedPresent_source {s t : State} (h : exec .referenceJudgedPresent s = .next t) :
    t.clock.source = s.clock.source := by
  cases h
  simp only [State.onClock_clock, Clock.referenceGood]
  split <;> rfl

/-! ### SET_CLOCK_SOURCE (R22) -/

/-- SET_CLOCK_SOURCE served: the tests of R22 in their order, and the selection. -/
theorem exec_setClockSource_of_serves (h : Head) (source : Option ClockSource) {s : State} (hs : Claims.serves s) :
    exec (.setClockSource h source) s = .next
      (if h.sized = false then Claims.refuse s 0x21 h .badLength
      else match source with
        | none => Claims.refuse s 0x21 h .badField
        | some .internal =>
          Claims.accept { s with clock := { s.clock with source := .internal } } 0x21 h .empty
        | some .reference =>
          if s.clock.present then
            Claims.accept { s with clock := { s.clock with source := .reference } } 0x21 h .empty
          else Claims.refuse s 0x21 h .wrongState) := by
  change execSetClockSource h source s = _
  rw [execSetClockSource, State.host_of_serves hs]
  congr 1
  cases hsized : h.sized with
  | false =>
    rw [State.request_short _ _ _ _ _ _ hsized]
    rfl
  | true =>
    rw [State.request_test _ _ _ _ _ _ _ _ hsized, State.request_test _ _ _ _ _ _ _ _ hsized,
      State.request_accepted _ _ _ _ _ hsized]
    cases source with
    | none => rfl
    | some x =>
      cases x with
      | internal => rfl
      | reference =>
        rw [State.taken_clock]
        cases s.clock.present <;> rfl

/-- With the reference ABSENT a request for it is refused WRONG_STATE. -/
theorem exec_setClockSource_absent {h : Head} {s : State} (hs : Claims.serves s) (hsized : h.sized = true)
    (habsent : s.clock.present = false) :
    exec (.setClockSource h (some .reference)) s = .next (Claims.refuse s 0x21 h .wrongState) := by
  simp [exec_setClockSource_of_serves h _ hs, hsized, habsent]

/-- With the reference PRESENT a request for it selects it. -/
theorem exec_setClockSource_present {h : Head} {s : State} (hs : Claims.serves s) (hsized : h.sized = true)
    (hpresent : s.clock.present = true) :
    exec (.setClockSource h (some .reference)) s =
      .next (Claims.accept { s with clock := { s.clock with source := .reference } } 0x21 h .empty) := by
  simp [exec_setClockSource_of_serves h _ hs, hsized, hpresent]

/-- The selection lasts until the next SET_CLOCK_SOURCE, given or taken from the request queue, a loss of the reference,
or power-on (R22). -/
theorem exec_source_changed {c : Instr} {s t : State} (ht : exec c s = .next t)
    (hchanged : t.clock.source ≠ s.clock.source) :
    c = .powerOn ∨ c = .referenceInputFailure ∨ ∃ h x, c = .setClockSource h x ∨
      Claims.nextRequest c s = some (.setClockSource h x) := by
  by_contra hnone
  simp only [not_or, not_exists] at hnone
  obtain ⟨hpower, hfail, hrequest⟩ := hnone
  by_cases hjudged : c = .referenceJudgedPresent
  · subst hjudged
    exact hchanged (exec_referenceJudgedPresent_source ht)
  · have hkept := exec_keepsTimebase c s hpower hfail hjudged (fun h x => (hrequest h x).1)
      (fun h x => (hrequest h x).2) t ht
    exact hchanged (congrArg Prod.fst hkept)

/-- A loss, then a request for the reference: the request is refused and the clock stays on INTERNAL (R22). -/
theorem loss_then_request (h : Head) (s : State) (hs : Claims.serves s) (hsized : h.sized = true) :
    ∃ t, exec .referenceInputFailure s = .next t ∧
      exec (.setClockSource h (some .reference)) t = .next (Claims.refuse t 0x21 h .wrongState) ∧
      (Claims.refuse t 0x21 h .wrongState).clock.source = .internal :=
  ⟨s.referenceFails, exec_referenceInputFailure hs.1,
    exec_setClockSource_absent (State.referenceFails_serves hs) hsized s.referenceFails_present,
    s.referenceFails_source⟩

/-- A request for the reference, then a loss: the source goes back to INTERNAL with REFERENCE_LOST (R22). -/
theorem request_then_loss (h : Head) (s : State) (hs : Claims.serves s) (hsized : h.sized = true)
    (hpresent : s.clock.present = true) :
    ∃ t u, exec (.setClockSource h (some .reference)) s = .next t ∧ t.clock.source = .reference ∧
      exec .referenceInputFailure t = .next u ∧ u.clock.source = .internal ∧ u.clock.present = false ∧
      Claims.raises t u [{ kind := .referenceLost, subject := .none, detail := [] }] :=
  ⟨_, _, exec_setClockSource_present hs hsized hpresent, rfl, exec_referenceInputFailure hs.1,
    State.referenceFails_source _, State.referenceFails_present _, State.referenceFails_raises _ rfl⟩

/-- Settles O17: the decision of R22, what ends a selection, the two orders of a loss and a request, and a settings
block that holds nothing of the clock. -/
theorem setClockSourceDecided : Obligations.SetClockSourceDecided :=
  ⟨fun h source _ hs => exec_setClockSource_of_serves h source hs, fun _ _ _ => exec_source_changed, loss_then_request,
    request_then_loss, fun _ _ _ _ => rfl⟩

end Sys2Proof.Machine

/-! Claims on a column: what passing it on does (R101), and RELEASE and WITHDRAW_CLAIM (R102). -/

namespace Sys2Proof.Machine

/-- A machine that takes commands takes one as it stands. -/
theorem State.take_of_live {s : State} (hs : Claims.live s) (f : State → State) : s.take f = .next (f s) := by
  obtain ⟨hline, hwrites⟩ := hs
  rw [State.take_live s f hline, State.settled_of_none s hwrites]

/-! ### Passing a column on (R101) -/

/-- The column may pass to a claim listed for it: it is IN_SERVICE, and FREE or IDLE (R101). -/
def Matrix.passes (m : Matrix) (c : Col) : Prop :=
  (m.column c).inService = true ∧ (m.use c = .free ∨ m.use c = .idle)

/-- The test that `Board.pass` makes is the condition of R101. -/
theorem Matrix.passes_iff (m : Matrix) (c : Col) :
    ((m.column c).inService && (m.use c == .free || m.use c == .idle)) = true ↔ m.passes c := by
  simp only [Matrix.passes, Bool.and_eq_true, Bool.or_eq_true, beq_iff_eq]

/-- A column that may not pass on, or that no claim is listed for, stays as it is. -/
theorem Board.pass_of_stays {b : Board} {c : Col}
    (h : ¬ b.m.passes c ∨ b.m.claims.find? (fun q => q.column == c) = none) : b.pass c = b := by
  simp only [Board.pass]
  split
  next hpasses => rw [h.resolve_left (not_not.mpr ((b.m.passes_iff c).mp hpasses))]
  next => rfl

/-- A column that may pass on goes to the oldest claim listed for it, which leaves the list. -/
theorem Board.pass_of_listed {b : Board} {c : Col} {q : Claim} (hpasses : b.m.passes c)
    (hq : b.m.claims.find? (fun q => q.column == c) = some q) :
    b.pass c =
      { m := { b.m with claims := b.m.claims.erase q }.setClaimant c (some q.t)
        o := b.o.hand (.claimGranted q.t c) } := by
  simp only [Board.pass, if_pos ((b.m.passes_iff c).mpr hpasses), hq]

/-! ### The claimant of a column -/

theorem Matrix.setClaimant_column_same (m : Matrix) (c : Col) (t : Option Tx) :
    (m.setClaimant c t).column c = { m.column c with claimant := t } := by
  rw [Matrix.setClaimant, Matrix.onColumn_column, if_pos rfl]

theorem Matrix.setClaimant_setClaimant (m : Matrix) (c : Col) (t u : Option Tx) :
    (m.setClaimant c t).setClaimant c u = m.setClaimant c u := by
  simp [Matrix.setClaimant, Matrix.onColumn, Matrix.column]

/-- The claimant is none of the out reasons, so a column is as much in service without it (R99). -/
theorem Matrix.setClaimant_passes (m : Matrix) (c : Col) (t : Option Tx) :
    (m.setClaimant c t).passes c ↔ (m.column c).inService = true ∧
      ((m.setClaimant c t).use c = .free ∨ (m.setClaimant c t).use c = .idle) := by
  rw [Matrix.passes, Matrix.setClaimant_column_same]
  rfl

/-! ### RELEASE and WITHDRAW_CLAIM (R102) -/

/-- The claimant's claim dropped with nothing to pass the column to: the column has no claimant. -/
theorem Board.dropClaim_of_stays {t : Tx} {c : Col} {b : Board} (hclaimant : (b.m.column c).claimant = some t)
    (h : ¬ (b.m.setClaimant c none).passes c ∨ b.m.claims.find? (fun q => q.column == c) = none) :
    b.dropClaim t c = { b with m := b.m.setClaimant c none } := by
  rw [Board.dropClaim, if_pos hclaimant, Board.pass_of_stays (b := { b with m := b.m.setClaimant c none }) h]

/-- The claimant's claim dropped with a claim listed for the column: that claim is granted. -/
theorem Board.dropClaim_of_listed {t : Tx} {c : Col} {b : Board} {q : Claim}
    (hclaimant : (b.m.column c).claimant = some t) (hpasses : (b.m.setClaimant c none).passes c)
    (hq : b.m.claims.find? (fun q => q.column == c) = some q) :
    b.dropClaim t c =
      { m := { b.m with claims := b.m.claims.erase q }.setClaimant c (some q.t)
        o := b.o.hand (.claimGranted q.t c) } := by
  rw [Board.dropClaim, if_pos hclaimant,
    Board.pass_of_listed (b := { b with m := b.m.setClaimant c none }) hpasses hq,
    ← Matrix.setClaimant_setClaimant { b.m with claims := b.m.claims.erase q } c none]
  rfl

/-- The claim of a transmitter that is not the claimant leaves the list. -/
theorem Board.dropClaim_of_not_claimant {t : Tx} {c : Col} {b : Board}
    (hclaimant : (b.m.column c).claimant ≠ some t) :
    b.dropClaim t c =
      { b with m := { b.m with claims := b.m.claims.filter fun q => !(q.t == t && q.column == c) } } := by
  rw [Board.dropClaim, if_neg hclaimant]

/-- Removing a claim that is not listed leaves the list as it is. -/
theorem filter_claims_of_not_mem {t : Tx} {c : Col} {claims : List Claim}
    (h : { t := t, column := c } ∉ claims) :
    (claims.filter fun q => !(q.t == t && q.column == c)) = claims := by
  refine List.filter_eq_self.mpr fun q hq => ?_
  have hne : ¬ (q.t = t ∧ q.column = c) := by
    rintro ⟨rfl, rfl⟩
    exact h hq
  simp [← not_and_or, hne]

/-- RELEASE and WITHDRAW_CLAIM are one operation of the matrix. -/
theorem exec_release_or_withdrawClaim {s : State} (hs : Claims.live s) {i : Instr} {t : Tx} {c : Col}
    (hi : i = .release t c ∨ i = .withdrawClaim t c) :
    exec i s = .next (s.onMatrix (Board.dropClaim t c)) := by
  obtain rfl | rfl := hi
  · change execRelease t c s = _
    rw [execRelease, State.take_of_live hs]
  · change execWithdrawClaim t c s = _
    rw [execWithdrawClaim, State.take_of_live hs]

/-- Settles O45: of the claimant, the column freed and passed on where R101 lets it; of another transmitter, its listed
claim removed, if there is one. -/
theorem releasesDecided : Obligations.ReleasesDecided := by
  unfold Obligations.ReleasesDecided
  intro t c s i hs hi k freed passes first
  have hfreed : s.matrix.setClaimant c none = freed := rfl
  have hpasses : (s.matrix.setClaimant c none).passes c ↔ passes := by
    rw [Matrix.setClaimant_passes, hfreed]
  rw [exec_release_or_withdrawClaim hs hi]
  refine ⟨fun hclaimant hstays => ?_, fun q hclaimant hpass hq => ?_, fun hother => ?_, fun hother hunlisted => ?_⟩
  · rw [← hpasses] at hstays
    rw [State.onMatrix, Board.dropClaim_of_stays (b := ⟨s.matrix, s.out⟩) hclaimant hstays]
    rfl
  · rw [State.onMatrix, Board.dropClaim_of_listed (b := ⟨s.matrix, s.out⟩) hclaimant (hpasses.mpr hpass) hq]
    rfl
  · rw [State.onMatrix, Board.dropClaim_of_not_claimant (b := ⟨s.matrix, s.out⟩) hother]
  · rw [State.onMatrix, Board.dropClaim_of_not_claimant (b := ⟨s.matrix, s.out⟩) hother,
      filter_claims_of_not_mem hunlisted]

end Sys2Proof.Machine

/-! SET_NOTICE_ENABLES and CLEAR_SOURCES (R194, R195), and what an event raised before or after them does (R192). -/

namespace Sys2Proof.Machine

/-! ### An event taken by HLI (R192) -/

/-- There are eight classes of events, so each has its bit in the source flags and in the enables. -/
theorem EventKind.class_lt_eight (k : EventKind) : k.class < 8 := by
  cases k <;> decide

/-- An event sets the source flag of its class, whatever the enables hold. -/
theorem Outbox.raise_flag (o : Outbox) (e : Event) : (o.raise e).sources.getLsbD e.kind.class = true := by
  rw [Outbox.raise_sources, setBit_getLsbD _ _ _ e.kind.class_lt_eight, decide_eq_true rfl, Bool.or_true]

/-- An event of a disabled class makes no notice. -/
theorem Outbox.raise_notices_of_disabled {o : Outbox} {e : Event} (hclass : o.enables.getLsbD e.kind.class = false) :
    (o.raise e).notices = o.notices :=
  if_neg fun ⟨henabled, _⟩ => Bool.false_ne_true (hclass.symm.trans henabled)

/-- An event of an enabled class becomes the last notice of a queue that has room. -/
theorem Outbox.raise_notices_of_enabled {o : Outbox} {e : Event} (hclass : o.enables.getLsbD e.kind.class = true)
    (hroom : o.notices.length < 16) : (o.raise e).notices = o.notices ++ [e] :=
  if_pos ⟨hclass, hroom⟩

/-! ### Requests that act on the outbox and have no test but their length (R190) -/

/-- Such a request, served: refused for its length, or accepted with its effect. -/
theorem State.taken_request_onOut (s : State) (kind : Byte) (h : Head) (f : Outbox → Outbox) (a : Answer) :
    s.taken.request kind h [] (fun t => t.onOut f) (fun _ => a) =
      if h.sized = false then Claims.refuse s kind h .badLength
      else Claims.accept { s with out := f s.out } kind h a := by
  cases hsized : h.sized with
  | false => rw [State.request_short _ _ _ _ _ _ hsized, State.taken_refuse, if_pos rfl]
  | true =>
    rw [State.request_accepted _ _ _ _ _ hsized, if_neg (ne_false_of_eq_true rfl)]
    rfl

/-! ### SET_NOTICE_ENABLES (R194) -/

/-- SET_NOTICE_ENABLES served: the eight enables replaced, and a reply without a body. -/
theorem exec_setNoticeEnables_of_serves (h : Head) (enables : Byte) {s : State} (hs : Claims.serves s) :
    exec (.setNoticeEnables h enables) s = .next
      (if h.sized = false then Claims.refuse s 0x70 h .badLength
      else Claims.accept { s with out := { s.out with enables := enables } } 0x70 h .empty) := by
  change execSetNoticeEnables h enables s = _
  rw [execSetNoticeEnables, State.host_of_serves hs, State.taken_request_onOut]

/-- Settles O33: the enables replaced and captured for the settings block, and each event decided by the enable of its
class as it stands when the event is raised. -/
theorem setNoticeEnablesReplaces : Obligations.SetNoticeEnablesReplaces := by
  unfold Obligations.SetNoticeEnablesReplaces
  refine ⟨fun h enables s hs => exec_setNoticeEnables_of_serves h enables hs, fun _ _ _ => rfl, fun o e enables => ?_⟩
  have hsources : ({ o with enables := enables }.raise e).sources = (o.raise e).sources := rfl
  exact ⟨hsources, o.raise_flag e,
    fun hdisabled => Outbox.raise_notices_of_disabled (o := { o with enables := enables }) hdisabled,
    fun henabled hroom => Outbox.raise_notices_of_enabled (o := { o with enables := enables }) henabled hroom,
    fun hdisabled => Outbox.raise_notices_of_disabled hdisabled,
    fun henabled hroom => Outbox.raise_notices_of_enabled henabled hroom⟩

/-! ### CLEAR_SOURCES (R195) -/

/-- CLEAR_SOURCES served: the named flags cleared, and a reply with the flags as they stood. -/
theorem exec_clearSources_of_serves (h : Head) (classes : Byte) {s : State} (hs : Claims.serves s) :
    exec (.clearSources h classes) s = .next
      (if h.sized = false then Claims.refuse s 0x71 h .badLength
      else Claims.accept { s with out := { s.out with sources := without s.out.sources classes } } 0x71 h
        (.sources s.out.sources)) := by
  change execClearSources h classes s = _
  rw [execClearSources, State.host_of_serves hs]
  exact congrArg _ (State.taken_request_onOut s 0x71 h (fun o => { o with sources := without o.sources classes }) _)

theorem exec_clearSources_short {h : Head} (classes : Byte) {s : State} (hs : Claims.serves s)
    (hsized : h.sized = false) : exec (.clearSources h classes) s = .next (Claims.refuse s 0x71 h .badLength) := by
  rw [exec_clearSources_of_serves h classes hs, if_pos hsized]

theorem exec_clearSources_sized {h : Head} (classes : Byte) {s : State} (hs : Claims.serves s)
    (hsized : h.sized = true) :
    exec (.clearSources h classes) s = .next
      (Claims.accept { s with out := { s.out with sources := without s.out.sources classes } } 0x71 h
        (.sources s.out.sources)) := by
  rw [exec_clearSources_of_serves h classes hs, if_neg (ne_false_of_eq_true hsized)]

/-- An event leaves HLI as ready to take a request as it found it. -/
theorem State.raise_serves {s : State} (hs : Claims.serves s) (e : Event) :
    Claims.serves { s with out := s.out.raise e } := hs

/-- An event, then a clear that names its class: the reply shows the flag, and the flag is cleared (R195). -/
theorem event_then_clearSources {h : Head} {classes : Byte} {e : Event} {s t : State} (hs : Claims.serves s)
    (hsized : h.sized = true) (hnamed : classes.getLsbD e.kind.class = true)
    (ht : exec (.clearSources h classes) { s with out := s.out.raise e } = .next t) :
    t.out.sources.getLsbD e.kind.class = false ∧
      ∃ flags : Byte, t.link.reply = some { kind := 0x71, tag := h.tag, verdict := .accepted (.sources flags) } ∧
        flags.getLsbD e.kind.class = true := by
  rw [exec_clearSources_sized classes (State.raise_serves hs e) hsized] at ht
  cases ht
  refine ⟨?_, (s.out.raise e).sources, rfl, s.out.raise_flag e⟩
  change (without (s.out.raise e).sources classes).getLsbD e.kind.class = false
  rw [without_getLsbD, hnamed, Bool.not_true, Bool.and_false]

/-- Settles O34: the flags named cleared and the others kept, the reply with the flags as they stood, and the two orders
of a clear and an event of a class it names. -/
theorem clearSourcesClears : Obligations.ClearSourcesClears := by
  unfold Obligations.ClearSourcesClears
  refine ⟨fun h classes s hs => ⟨fun hshort => ?_, fun hsized => ?_⟩, fun h classes e s t hs hsized hnamed => ⟨?_, ?_⟩⟩
  · exact exec_clearSources_short classes hs hshort
  · exact ⟨without s.out.sources classes, exec_clearSources_sized classes hs hsized,
      fun n _ => without_getLsbD s.out.sources classes n⟩
  · exact event_then_clearSources hs hsized hnamed
  · exact fun _ => t.out.raise_flag e

end Sys2Proof.Machine

/-! What the transmitters' operations put out (07, 08): the notice queue and the Transmission Log stay within their
capacities, and UNMUTE is sent to no transmitter outside a given set. -/

namespace Sys2Proof.Machine

/-! ### The outbox -/

/-- The records and the read position of the log are within its capacity (R200). -/
def Log.bounded (l : Log) : Prop := l.records.length ≤ 256 ∧ l.unread ≤ l.records.length

/-- What an operation may put out: the notice queue and the log stay within their capacities, and orders join those
sent on the ports, UNMUTE for transmitters of `L` alone. -/
structure Outbox.Puts (L : Set Tx) (o p : Outbox) : Prop where
  notices : o.notices.length ≤ 16 → p.notices.length ≤ 16
  log : o.log.bounded → p.log.bounded
  port : ∃ orders, p.port = o.port ++ orders ∧ ∀ u, u ∉ L → (u, PortOrder.unmute) ∉ orders

theorem Log.write_bounded {l : Log} (h : l.bounded) (r : LogRecord) : (l.write r).bounded := by
  obtain ⟨hrecords, hunread⟩ := h
  unfold Log.write Log.bounded Config.logSize
  split
  · simp only [List.length_append, List.length_singleton]
    omega
  · simp only [List.length_append, List.length_drop, List.length_singleton]
    omega

theorem Outbox.raise_notices_length (o : Outbox) (e : Event) (h : o.notices.length ≤ 16) :
    (o.raise e).notices.length ≤ 16 := by
  unfold Outbox.raise Config.noticeQueueSize
  dsimp only
  split
  · simp only [List.length_append, List.length_singleton]
    omega
  · exact h

namespace Outbox.Puts

variable {L : Set Tx} {o p q : Outbox}

/-- An operation that leaves the notices, the log and the ports. -/
theorem of_eq (hnotices : p.notices = o.notices) (hlog : p.log = o.log) (hport : p.port = o.port) :
    Outbox.Puts L o p :=
  ⟨by rw [hnotices]; exact id, by rw [hlog]; exact id, [], by simp [hport], fun _ _ => List.not_mem_nil⟩

theorem refl (o : Outbox) : Outbox.Puts L o o := of_eq rfl rfl rfl

theorem trans (h : Outbox.Puts L o p) (g : Outbox.Puts L p q) : Outbox.Puts L o q := by
  obtain ⟨xs, hxs, hx⟩ := h.port
  obtain ⟨ys, hys, hy⟩ := g.port
  refine ⟨g.notices ∘ h.notices, g.log ∘ h.log, xs ++ ys, by rw [hys, hxs, List.append_assoc], fun u hu => ?_⟩
  simp [hx u hu, hy u hu]

theorem mono {M : Set Tx} (hLM : L ⊆ M) (h : Outbox.Puts L o p) : Outbox.Puts M o p := by
  obtain ⟨xs, hxs, hx⟩ := h.port
  exact ⟨h.notices, h.log, xs, hxs, fun u hu => hx u fun hL => hu (hLM hL)⟩

theorem hand (i : Instr) : Outbox.Puts L o (o.hand i) := of_eq rfl rfl rfl
theorem handAll (is : List Instr) : Outbox.Puts L o (o.handAll is) := of_eq rfl rfl rfl
theorem send (m : MatrixOrder) : Outbox.Puts L o (o.send m) := of_eq rfl rfl rfl
theorem raise (e : Event) : Outbox.Puts L o (o.raise e) :=
  ⟨o.raise_notices_length e, id, [], by simp [Outbox.raise], fun _ _ => List.not_mem_nil⟩
theorem event (k : EventKind) (x : Subject) (d : List Byte) : Outbox.Puts L o (o.event k x d) := raise _
theorem recordAs (now : Reading) (kind : LogKind) (t : Tx) (manual : Bool) (work : Option SchedRef)
    (c : Option Col) (kHz kW : Option Nat) (d : Detail) :
    Outbox.Puts L o (o.recordAs now kind t manual work c kHz kW d) :=
  ⟨id, fun h => Log.write_bounded h _, [], by simp [Outbox.recordAs], fun _ _ => List.not_mem_nil⟩
theorem record (now : Reading) (kind : LogKind) (t : Tx) (work : Option SchedRef) (c : Option Col)
    (kHz kW : Option Nat) (d : Detail) : Outbox.Puts L o (o.record now kind t work c kHz kW d) := recordAs ..
theorem missed (now : Reading) (t : Tx) (work : Option SchedRef) (c : Col) (kHz : Nat) (why : Detail) :
    Outbox.Puts L o (o.missed now t work c kHz why) := (record ..).trans (event ..)
theorem order (t : Tx) (p : PortOrder) (h : p = .unmute → t ∈ L) : Outbox.Puts L o (o.order t p) :=
  ⟨id, id, [(t, p)], rfl, fun u hu hmem => by
    obtain ⟨rfl, rfl⟩ := Prod.mk.inj (List.mem_singleton.1 hmem)
    exact hu (h rfl)⟩

end Outbox.Puts

/-! ### What decides an event: the flags, the enables and the notices (R192) -/

/-- The part of the outbox that events change and read. -/
def Outbox.voice (o : Outbox) : Outbox :=
  { Outbox.empty with sources := o.sources, enables := o.enables, notices := o.notices, noticeLost := o.noticeLost }

namespace Outbox

variable (o : Outbox)

@[simp] theorem voice_voice : o.voice.voice = o.voice := rfl
@[simp] theorem voice_raise (e : Event) : (o.raise e).voice = o.voice.raise e := rfl
@[simp] theorem voice_event (k : EventKind) (x : Subject) (d : List Byte) : (o.event k x d).voice = o.voice.event k x d := rfl
@[simp] theorem voice_hand (i : Instr) : (o.hand i).voice = o.voice := rfl
@[simp] theorem voice_handAll (is : List Instr) : (o.handAll is).voice = o.voice := rfl
@[simp] theorem voice_order (t : Tx) (p : PortOrder) : (o.order t p).voice = o.voice := rfl
@[simp] theorem voice_send (m : MatrixOrder) : (o.send m).voice = o.voice := rfl

theorem voice_foldl_raise (es : List Event) : (es.foldl Outbox.raise o).voice = es.foldl Outbox.raise o.voice := by
  induction es generalizing o with
  | nil => rfl
  | cons e es ih => exact ih (o.raise e)

theorem voice_eq_iff {o p : Outbox} : o.voice = p.voice ↔
    o.sources = p.sources ∧ o.enables = p.enables ∧ o.notices = p.notices ∧ o.noticeLost = p.noticeLost := by
  simp [Outbox.voice]

end Outbox

/-- What an operation of transmitter `t` may put out: its orders go to its own port, the matrix link and the enables
stay, and it raises some events and writes some records. -/
structure Outbox.Serves (t : Tx) (L : Set Tx) (o p : Outbox) : Prop extends Outbox.Puts L o p where
  link : p.link = o.link
  enables : p.enables = o.enables
  own : ∃ orders, p.port = o.port ++ orders ∧ ∀ x ∈ orders, x.1 = t
  events : ∃ es : List Event, p.voice = es.foldl Outbox.raise o.voice
  records : ∃ rs : List LogRecord, p.log = rs.foldl Log.write o.log
  kept : ∀ i ∈ o.handed, i ∈ p.handed

namespace Outbox.Serves

variable {t : Tx} {L : Set Tx} {o p q : Outbox}

/-- An operation that sends nothing. -/
theorem of_quiet (h : Outbox.Puts L o p) (es : List Event) (rs : List LogRecord)
    (hevents : p.voice = es.foldl Outbox.raise o.voice := by rfl) (hrecords : p.log = rs.foldl Log.write o.log := by rfl)
    (hlink : p.link = o.link := by rfl) (henables : p.enables = o.enables := by rfl)
    (hport : p.port = o.port := by rfl) (hkept : ∀ i ∈ o.handed, i ∈ p.handed := by exact fun _ h => h) :
    Outbox.Serves t L o p :=
  ⟨h, hlink, henables, ⟨[], by simp [hport], nofun⟩, ⟨es, hevents⟩, ⟨rs, hrecords⟩, hkept⟩

theorem refl (o : Outbox) : Outbox.Serves t L o o := of_quiet (.refl o) [] []

theorem trans (h : Outbox.Serves t L o p) (g : Outbox.Serves t L p q) : Outbox.Serves t L o q := by
  obtain ⟨xs, hxs, hx⟩ := h.own
  obtain ⟨ys, hys, hy⟩ := g.own
  obtain ⟨es, hes⟩ := h.events
  obtain ⟨fs, hfs⟩ := g.events
  obtain ⟨rs, hrs⟩ := h.records
  obtain ⟨us, hus⟩ := g.records
  refine ⟨h.toPuts.trans g.toPuts, g.link.trans h.link, g.enables.trans h.enables, ⟨xs ++ ys,
    by rw [hys, hxs, List.append_assoc], fun x hmem => (List.mem_append.1 hmem).elim (hx x) (hy x)⟩,
    ⟨es ++ fs, by rw [hfs, hes, List.foldl_append]⟩, ⟨rs ++ us, by rw [hus, hrs, List.foldl_append]⟩,
    fun i hi => g.kept i (h.kept i hi)⟩

theorem mono {M : Set Tx} (hLM : L ⊆ M) (h : Outbox.Serves t L o p) : Outbox.Serves t M o p :=
  ⟨h.toPuts.mono hLM, h.link, h.enables, h.own, h.events, h.records, h.kept⟩

theorem hand (i : Instr) : Outbox.Serves t L o (o.hand i) :=
  of_quiet (.hand i) [] [] (hkept := fun _ => List.mem_append_left _)
theorem event (k : EventKind) (x : Subject) (d : List Byte) : Outbox.Serves t L o (o.event k x d) :=
  of_quiet (.event k x d) [_] []
theorem recordAs (now : Reading) (kind : LogKind) (u : Tx) (manual : Bool) (work : Option SchedRef)
    (c : Option Col) (kHz kW : Option Nat) (d : Detail) :
    Outbox.Serves t L o (o.recordAs now kind u manual work c kHz kW d) := of_quiet (.recordAs ..) [] [_]
theorem record (now : Reading) (kind : LogKind) (u : Tx) (work : Option SchedRef) (c : Option Col)
    (kHz kW : Option Nat) (d : Detail) : Outbox.Serves t L o (o.record now kind u work c kHz kW d) := recordAs ..
theorem missed (now : Reading) (u : Tx) (work : Option SchedRef) (c : Col) (kHz : Nat) (why : Detail) :
    Outbox.Serves t L o (o.missed now u work c kHz why) := (record ..).trans (event ..)
theorem order (p : PortOrder) (h : p = .unmute → t ∈ L) : Outbox.Serves t L o (o.order t p) :=
  ⟨.order t p h, rfl, rfl, ⟨[(t, p)], rfl, fun _ hx => List.mem_singleton.1 hx ▸ rfl⟩, ⟨[], rfl⟩, ⟨[], rfl⟩, fun _ h => h⟩

end Outbox.Serves

/-- What the matrix controller's operations may put out: the transmitter ports, the log and the enables stay. -/
structure Outbox.Moves (o p : Outbox) : Prop extends Outbox.Puts ∅ o p where
  ports : p.port = o.port
  records : p.log = o.log
  enables : p.enables = o.enables

namespace Outbox.Moves

variable {o p q : Outbox}

theorem refl (o : Outbox) : Outbox.Moves o o := ⟨.refl o, rfl, rfl, rfl⟩
theorem trans (h : Outbox.Moves o p) (g : Outbox.Moves p q) : Outbox.Moves o q :=
  ⟨h.toPuts.trans g.toPuts, g.ports.trans h.ports, g.records.trans h.records, g.enables.trans h.enables⟩
theorem hand (i : Instr) : Outbox.Moves o (o.hand i) := ⟨.hand i, rfl, rfl, rfl⟩
theorem handAll (is : List Instr) : Outbox.Moves o (o.handAll is) := ⟨.handAll is, rfl, rfl, rfl⟩
theorem send (m : MatrixOrder) : Outbox.Moves o (o.send m) := ⟨.send m, rfl, rfl, rfl⟩
theorem event (k : EventKind) (x : Subject) (d : List Byte) : Outbox.Moves o (o.event k x d) :=
  ⟨.event k x d, rfl, rfl, rfl⟩

end Outbox.Moves

/-! ### Orders, reports and records of one transmitter -/

/-- What a transmitter's operation may put out. -/
def Bench.Puts (e : Env) (L : Set Tx) (b c : Bench) : Prop := Outbox.Serves e.t L b.o c.o

namespace Bench.Puts

variable {L : Set Tx} {e : Env} {b c d : Bench}

theorem refl (b : Bench) : Bench.Puts e L b b := Outbox.Serves.refl _
theorem trans (h : Bench.Puts e L b c) (g : Bench.Puts e L c d) : Bench.Puts e L b d := Outbox.Serves.trans h g
theorem tr (h : Bench.Puts e L b c) {f : TxRecord → TxRecord} : Bench.Puts e L b (c.tr f) := h
theorem station (h : Bench.Puts e L b c) {f : Station → Station} : Bench.Puts e L b (c.station f) := h
theorem ctx (h : Bench.Puts e L b c) {f : Context → Context} : Bench.Puts e L b (c.ctx f) := h
theorem install (h : Bench.Puts e L b c) {k : Context} : Bench.Puts e L b (c.install k) := h
theorem out (h : Bench.Puts e L b c) {f : Outbox → Outbox} (hf : Outbox.Serves e.t L c.o (f c.o)) :
    Bench.Puts e L b (c.out f) := Outbox.Serves.trans h hf
theorem ite {p : Prop} [Decidable p] (h : Bench.Puts e L b c) (g : Bench.Puts e L b d) :
    Bench.Puts e L b (if p then c else d) := by
  split
  · exact h
  · exact g
/-- An operation made under a condition alone. -/
theorem when {p : Prop} [Decidable p] (h : Bench.Puts e L b c) (g : Bench.Puts e L c d) :
    Bench.Puts e L b (if p then d else c) := ite (h.trans g) h
/-- An operation made unless a condition holds. -/
theorem skipIf {p : Prop} [Decidable p] (h : Bench.Puts e L b c) (g : Bench.Puts e L c d) :
    Bench.Puts e L b (if p then c else d) := ite h (h.trans g)

theorem order (h : Bench.Puts e L b c) {p : PortOrder} (hp : p = .unmute → e.t ∈ L := by nofun) :
    Bench.Puts e L b (c.order e p) := h.out (.order _ hp)

theorem setConfirmed (h : Bench.Puts e L b c) {v : Bool} : Bench.Puts e L b (c.setConfirmed e v) :=
  h.skipIf (out (tr (refl _)) (.hand _))

theorem quieten (h : Bench.Puts e L b c) : Bench.Puts e L b c.quieten := h

theorem sendMute (h : Bench.Puts e L b c) : Bench.Puts e L b (c.sendMute e) :=
  when (setConfirmed (tr (order h))) (quieten (refl _))

theorem reportRow (h : Bench.Puts e L b c) : Bench.Puts e L b (c.reportRow e) := h.skipIf (out (tr (refl _)) (.hand _))

theorem workEnded (h : Bench.Puts e L b c) {w : Option SchedRef} : Bench.Puts e L b (c.workEnded e w) := by
  unfold Bench.workEnded
  split
  · exact h.out (.hand _)
  · exact h

theorem missSlot (h : Bench.Puts e L b c) {why : Detail} : Bench.Puts e L b (c.missSlot e why) := by
  unfold Bench.missSlot
  split
  · exact h.tr.out (.missed ..)
  · exact h

theorem lock (h : Bench.Puts e L b c) {why : LockReason} {code : Option Nat} : Bench.Puts e L b (c.lock e why code) :=
  missSlot (h.tr.out (.event ..))

theorem darken (h : Bench.Puts e L b c) {why : DarkReason} : Bench.Puts e L b (c.darken e why) := missSlot h.tr

/-! ### Ends and starts of a transmission -/

theorem endRecord (h : Bench.Puts e L b c) {why : Detail} : Bench.Puts e L b (c.endRecord e why) := by
  unfold Bench.endRecord
  split
  · exact h.out (.record ..)
  · exact h

theorem drop (h : Bench.Puts e L b c) : Bench.Puts e L b c.drop := h

theorem changeoverFailed (h : Bench.Puts e L b c) {why : Detail} {onAir : Bool} :
    Bench.Puts e L b (c.changeoverFailed e why onAir) := h.out (.event ..)

theorem changeoverDone (h : Bench.Puts e L b c) {x : Origin} {k : Col} {kHz : Nat} :
    Bench.Puts e L b (c.changeoverDone e x k kHz) := h.out (.event ..)

theorem endFailed (h : Bench.Puts e L b c) {why : Detail} : Bench.Puts e L b (c.endFailed e why) :=
  workEnded (drop (changeoverFailed (endRecord h)))

theorem muteAndEnd (h : Bench.Puts e L b c) {why : Detail} : Bench.Puts e L b (c.muteAndEnd e why) :=
  endFailed (sendMute h)

theorem continue_ (h : Bench.Puts e L b c) {q : StartRequest} {x : Transmission} :
    Bench.Puts e L b (c.continue_ e q x) :=
  changeoverDone (out (tr (skipIf (tr (skipIf h (order (refl _)))) (tr (order (refl _))))) (.record ..))

theorem createStart (h : Bench.Puts e L b c) {q : StartRequest} : Bench.Puts e L b (c.createStart e q) := by
  unfold Bench.createStart
  split
  · exact h.station.tr.install.out (.hand _)
  · exact h.install.out (.hand _)

theorem begin_ (h : Bench.Puts e L b c) {q : StartRequest} : Bench.Puts e L b (c.begin_ e q) := by
  unfold Bench.begin_
  split
  · exact ite h.continue_ h.createStart
  · exact h.createStart

theorem takeUp (h : Bench.Puts e L b c) : Bench.Puts e L b (c.takeUp e) := by
  unfold Bench.takeUp
  split
  · exact h
  · refine begin_ (when ?_ (out (refl _) (.event ..)))
    split
    · exact workEnded (endRecord h.tr)
    · exact h.tr

/-! ### Wind-up and END contexts -/

theorem releaseClaim (h : Bench.Puts e L b c) : Bench.Puts e L b (c.releaseClaim e) := by
  unfold Bench.releaseClaim
  split
  · split
    · exact h.ctx.out (.hand _)
    · exact h
  · exact h

theorem outcomeState (h : Bench.Puts e L b c) {why : Detail} {code : Option Nat} :
    Bench.Puts e L b (c.outcomeState e why code) := by
  unfold Bench.outcomeState
  split
  · exact h.lock
  · exact h.lock
  · exact h.darken
  · exact h.darken
  · exact h.tr

theorem applyOutcome (h : Bench.Puts e L b c) : Bench.Puts e L b (c.applyOutcome e) := by
  unfold Bench.applyOutcome
  split
  · exact h
  · exact when (reportRow (outcomeState (workEnded (tr (drop (changeoverFailed
      (ite (endRecord h) (out h (.record ..))))))))) (takeUp (refl _))

theorem proceed (h : Bench.Puts e L b c) : Bench.Puts e L b (c.proceed e) := by
  unfold Bench.proceed
  split
  · exact h
  · refine skipIf h ?_
    have hmuted : ∀ p [Decidable p], Bench.Puts e L c (if p then (c.releaseClaim e).sendMute e else c.releaseClaim e) :=
      fun p _ => when (releaseClaim (refl _)) (sendMute (refl _))
    exact ite (ite (hmuted _) (ctx (hmuted _))) (applyOutcome (hmuted _))

theorem cancelWaiting (h : Bench.Puts e L b c) : Bench.Puts e L b (c.cancelWaiting e) := by
  unfold Bench.cancelWaiting
  split
  · exact when h (out (ctx (refl _)) (.hand _))
  · exact h

theorem failAs (h : Bench.Puts e L b c) {why closing : Detail} {code : Option Nat} :
    Bench.Puts e L b (c.failAs e why closing code) := by
  unfold Bench.failAs
  split
  · exact h
  · exact ite (when h (proceed (refl _))) (proceed (cancelWaiting (ctx (when h (station (refl _))))))

theorem fail (h : Bench.Puts e L b c) {why : Detail} : Bench.Puts e L b (c.fail e why) := failAs h

theorem finishEnd (h : Bench.Puts e L b c) : Bench.Puts e L b (c.finishEnd e) := by
  unfold Bench.finishEnd
  split
  · exact h
  · exact takeUp (workEnded (ite (changeoverFailed (reportRow (tr (drop (endRecord h)))))
      (changeoverDone (reportRow (tr (drop (endRecord h)))))))

theorem endUnmuted (h : Bench.Puts e L b c) : Bench.Puts e L b (c.endUnmuted e) := by
  unfold Bench.endUnmuted
  split
  · exact h
  · exact lock (workEnded (tr (drop (endRecord h))))

theorem createEnd (h : Bench.Puts e L b c) {cause : Detail} : Bench.Puts e L b (c.createEnd e cause) := by
  unfold Bench.createEnd
  split
  · exact h
  · exact when (sendMute (install (tr (station h)))) (finishEnd (refl _))

/-! ### The phases of a changeover -/

theorem raiseCarrier (h : Bench.Puts e L b c) {kW : Nat} (he : e.t ∈ L) : Bench.Puts e L b (c.raiseCarrier e kW) :=
  setConfirmed (tr (order (order h) fun _ => he))

theorem enterRamp (h : Bench.Puts e L b c) {k : Context} (he : e.t ∈ L) : Bench.Puts e L b (c.enterRamp e k) :=
  reportRow (ctx (tr (station (skipIf (raiseCarrier h he) (out (tr (refl _)) (.record ..))))))

theorem tryCross (h : Bench.Puts e L b c) (he : e.t ∈ L) : Bench.Puts e L b (c.tryCross e) := by
  unfold Bench.tryCross
  split
  · exact when h (enterRamp (refl _) he)
  · exact h

theorem goOnAir (h : Bench.Puts e L b c) : Bench.Puts e L b (c.goOnAir e) := reportRow h.tr

theorem rampSucceeded (h : Bench.Puts e L b c) {k : Context} : Bench.Puts e L b (c.rampSucceeded e k) :=
  takeUp (tr (changeoverDone (releaseClaim (tr (goOnAir h)))))

theorem discardRamp (h : Bench.Puts e L b c) : Bench.Puts e L b (c.discardRamp e) := (releaseClaim h).tr

theorem enterHold (h : Bench.Puts e L b c) : Bench.Puts e L b (c.enterHold e) := h

theorem nextStep (h : Bench.Puts e L b c) : Bench.Puts e L b (c.nextStep e) := by
  unfold Bench.nextStep
  split
  · exact h
  · refine skipIf h ?_
    split
    · exact refl _
    · exact out (ctx (refl _)) (.hand _)

theorem checkDrive (h : Bench.Puts e L b c) : Bench.Puts e L b (c.checkDrive e) := by
  unfold Bench.checkDrive
  split
  · exact when h (refl _)
  · exact h

theorem enterDrive (h : Bench.Puts e L b c) : Bench.Puts e L b (c.enterDrive e) := by
  unfold Bench.enterDrive
  split
  · exact h
  · exact ite (fail (ctx h)) (nextStep (order (ctx (ctx h))))

theorem enterSettle (h : Bench.Puts e L b c) : Bench.Puts e L b (c.enterSettle e) :=
  when (reportRow (ctx h)) (enterDrive (refl _))

theorem enterMute (h : Bench.Puts e L b c) : Bench.Puts e L b (c.enterMute e) :=
  ite (when (ctx h) (enterSettle (refl _))) (when (sendMute (tr (station (ctx h)))) (enterSettle (refl _)))

theorem retarget (h : Bench.Puts e L b c) {why : Detail} : Bench.Puts e L b (c.retarget e why) := by
  unfold Bench.retarget
  split
  · exact h
  · split
    · exact ite (fail h) (out (ctx h) (.hand _))
    · exact fail h

/-! ### Holding, resuming, trips and restrikes -/

theorem goHeld (h : Bench.Puts e L b c) : Bench.Puts e L b (c.goHeld e) :=
  reportRow (tr (when (ite (sendMute h).station h.station) (discardRamp (refl _))))

theorem endHeld (h : Bench.Puts e L b c) : Bench.Puts e L b (c.endHeld e) := workEnded (reportRow (tr (drop (endRecord h))))

theorem afterRelease (h : Bench.Puts e L b c) (he : e.t ∈ L) : Bench.Puts e L b (c.afterRelease e) := by
  unfold Bench.afterRelease
  refine ite (ite h (ite (takeUp h) ?_)) (tryCross h he)
  split
  · exact h
  · exact ite h (ite (tryCross (install h) he) (endHeld h))

theorem createReserve (h : Bench.Puts e L b c) {x : Transmission} {k : Col} : Bench.Puts e L b (c.createReserve e x k) :=
  h.tr.install.out (.hand _)

theorem suspect (h : Bench.Puts e L b c) {k : Col} : Bench.Puts e L b (c.suspect e k) :=
  h.out (.trans (.hand _) (.event ..))

theorem giveUp (h : Bench.Puts e L b c) {x : Transmission} : Bench.Puts e L b (c.giveUp e x) := by
  unfold Bench.giveUp
  split
  · exact ite (createEnd h) (createReserve h)
  · exact createEnd h

theorem reflectedHigh (h : Bench.Puts e L b c) : Bench.Puts e L b (c.reflectedHigh e) := h.when (out (refl _) (.event ..))
theorem reflectedNormal (h : Bench.Puts e L b c) : Bench.Puts e L b (c.reflectedNormal e) :=
  h.when (out (refl _) (.event ..))
theorem carrierNormal (h : Bench.Puts e L b c) : Bench.Puts e L b (c.carrierNormal e) := h.when (out (refl _) (.event ..))
theorem carrierLow (h : Bench.Puts e L b c) : Bench.Puts e L b (c.carrierLow e) := h.when (out (refl _) (.event ..))

theorem trip (h : Bench.Puts e L b c) {x : Transmission} : Bench.Puts e L b (c.trip e x) := by
  unfold Bench.trip
  refine trans ?_ (ite (takeUp (refl _)) (ite (giveUp (refl _)) (refl _)))
  refine when (out (reflectedHigh (out (reportRow (tr (when (tr (station ?_)) (discardRamp (refl _))))) (.event ..)))
    (.record ..)) (suspect (refl _))
  exact skipIf (sendMute h.station) (refl _)

theorem preMuteTrip (h : Bench.Puts e L b c) {k : Context} {x : Radiated} : Bench.Puts e L b (c.preMuteTrip e k x) :=
  out (reflectedHigh (out (sendMute h.station).station (.event ..))) (.recordAs ..)

theorem restrikeRamp (h : Bench.Puts e L b c) {x : Transmission} (he : e.t ∈ L) :
    Bench.Puts e L b (c.restrikeRamp e x) := tr (station (raiseCarrier h he))

theorem restrikeTest (h : Bench.Puts e L b c) (he : e.t ∈ L) : Bench.Puts e L b (c.restrikeTest e) := by
  unfold Bench.restrikeTest
  split
  · exact h
  · exact ite h.tr (ite (createEnd h) (ite (restrikeRamp h he) h.tr))

theorem candidateReady (h : Bench.Puts e L b c) : Bench.Puts e L b c.candidateReady := h

theorem confirmed (h : Bench.Puts e L b c) (he : e.t ∈ L) : Bench.Puts e L b (c.confirmed e) := by
  unfold Bench.confirmed
  dsimp only
  split
  · exact h
  · split
    · exact ite (proceed h) (ite (ite (finishEnd h) (enterSettle h)) h)
    · exact when h (restrikeTest (refl _) he)

/-! ### The Changeover Sequencer's commands (07) -/

theorem claimGranted (h : Bench.Puts e L b c) {k : Col} : Bench.Puts e L b (c.claimGranted k e) := by
  unfold Bench.claimGranted
  split
  · exact when h (enterMute (ctx (refl _)))
  · exact h

theorem claimListed (h : Bench.Puts e L b c) {k : Col} : Bench.Puts e L b (c.claimListed k e) := by
  unfold Bench.claimListed
  split
  · exact when h (ctx (refl _))
  · exact h

theorem claimRefused (h : Bench.Puts e L b c) {k : Col} : Bench.Puts e L b (c.claimRefused k e) := by
  unfold Bench.claimRefused
  split
  · exact when h (retarget (ctx (refl _)))
  · exact h

theorem claimWaitExpired (h : Bench.Puts e L b c) : Bench.Puts e L b (c.claimWaitExpired e) := by
  unfold Bench.claimWaitExpired
  split
  · split
    · exact when h (retarget (out (ctx (refl _)) (.hand _)))
    · exact h
  · exact h

theorem driveStarted (h : Bench.Puts e L b c) {row : Tx} {k : Col} : Bench.Puts e L b (c.driveStarted row k e) := h

theorem driveDone (h : Bench.Puts e L b c) {row : Tx} {k : Col} : Bench.Puts e L b (c.driveDone row k e) := by
  unfold Bench.driveDone
  split
  · exact when h (ite (proceed (ctx (refl _))) (checkDrive (nextStep (ctx (refl _)))))
  · exact h

theorem driveFailed (h : Bench.Puts e L b c) {row : Tx} {k : Col} {why : DriveFailure} :
    Bench.Puts e L b (c.driveFailed row k why e) := by
  unfold Bench.driveFailed
  split
  · exact when h (ite (proceed (ctx (refl _))) (fail (ctx (refl _))))
  · exact h

theorem matrixFault (h : Bench.Puts e L b c) : Bench.Puts e L b (c.matrixFault e) := by
  unfold Bench.matrixFault
  refine ite (createEnd h) ?_
  split
  · exact ite (createEnd (discardRamp h)) (fail h)
  · exact h

theorem serviceChanged (h : Bench.Puts e L b c) {k : Col} {v : Bool} (he : e.t ∈ L) :
    Bench.Puts e L b (c.serviceChanged k v e) :=
  ite (ite (ite (afterRelease h he) h) (tryCross h he)) (ite (goHeld h) h)

theorem abandon (h : Bench.Puts e L b c) {why closing : Detail} : Bench.Puts e L b (c.abandon e why closing) := by
  unfold Bench.abandon
  split
  · exact skipIf h (failAs (refl _))
  · exact h

theorem endWork (h : Bench.Puts e L b c) {cause why : Detail} : Bench.Puts e L b (c.endWork e cause why) :=
  ite (createEnd h) (abandon h)

theorem holdAdd (h : Bench.Puts e L b c) {a : Source} : Bench.Puts e L b (c.holdAdd a e) := by
  unfold Bench.holdAdd
  dsimp only
  split
  · exact goHeld h.tr
  · exact goHeld h.tr
  · split
    · exact ite (goHeld h.tr) (ite h.tr (sendMute h.tr))
    · exact h.tr
  · exact h.tr

theorem holdRemove (h : Bench.Puts e L b c) {g : Sources} (he : e.t ∈ L) : Bench.Puts e L b (c.holdRemove g e) :=
  when h.tr (afterRelease (refl _) he)

theorem rfAbsent (h : Bench.Puts e L b c) (he : e.t ∈ L) : Bench.Puts e L b (c.rfAbsent e) :=
  skipIf h.tr.station (confirmed (reportRow (quieten (setConfirmed (refl _)))) he)

theorem endMuteFailed (h : Bench.Puts e L b c) : Bench.Puts e L b (c.endMuteFailed e) := lock (endFailed h)

theorem rfPresent (h : Bench.Puts e L b c) : Bench.Puts e L b (c.rfPresent e) := by
  refine skipIf h.tr.station ?_
  split
  · exact lock (sendMute (refl _))
  · exact fail (sendMute (refl _))
  · exact endMuteFailed (sendMute (refl _))
  · exact endMuteFailed (sendMute (refl _))
  · exact sendMute (refl _)

theorem lose (h : Bench.Puts e L b c) {why : Detail} {code : Option Nat} {after : Bench → Bench}
    (hafter : ∀ x, Bench.Puts e L x (after x)) : Bench.Puts e L b (c.lose e why code after) := by
  unfold Bench.lose
  split
  · exact failAs h
  · exact trans (muteAndEnd h) (hafter _)
  · exact trans (muteAndEnd h) (hafter _)
  · exact trans (muteAndEnd h) (hafter _)
  · exact trans h (hafter _)

theorem pollInstant (h : Bench.Puts e L b c) : Bench.Puts e L b (c.pollInstant e) :=
  ite (tr (tr (order h))) (ite (tr (tr (order h))) (lose (tr (tr (order h))) fun _ => darken (refl _)))

theorem replied (h : Bench.Puts e L b c) : Bench.Puts e L b c.replied := h

theorem leaveStartup (h : Bench.Puts e L b c) : Bench.Puts e L b c.leaveStartup := h

theorem takenOn (h : Bench.Puts e L b c) : Bench.Puts e L b (c.takenOn e) := by
  unfold Bench.takenOn
  split
  · exact lock h
  · exact tr (sendMute h)

theorem statReady (h : Bench.Puts e L b c) : Bench.Puts e L b (c.statReady e) := by
  refine ite h (ite h ?_)
  have hleft : ∀ p [Decidable p], Bench.Puts e L b (if p then c.replied.leaveStartup else c.replied) :=
    fun p _ => when h (leaveStartup (refl _))
  dsimp only
  split
  · exact takenOn (hleft _)
  · exact takenOn (hleft _)
  · exact hleft _

theorem statOff (h : Bench.Puts e L b c) : Bench.Puts e L b (c.statOff e) := by
  unfold Bench.statOff
  split
  · exact h
  · exact h
  · exact h
  · exact lose (leaveStartup (replied h)) fun _ => darken (refl _)

theorem statFault (h : Bench.Puts e L b c) : Bench.Puts e L b (c.statFault e) := by
  unfold Bench.statFault
  split
  · exact h
  · exact h
  · exact h
  · exact lose (leaveStartup (replied (when h (sendMute (refl _))))) fun _ => lock (refl _)

theorem faultLine (h : Bench.Puts e L b c) {code : Nat} : Bench.Puts e L b (c.faultLine code e) :=
  skipIf h (lose (refl _) fun _ => lock (refl _))

theorem openTuneFault (h : Bench.Puts e L b c) {cause : Detail} : Bench.Puts e L b (c.openTuneFault e cause) := by
  unfold Bench.openTuneFault
  refine ite (createEnd h) ?_
  split
  · exact when h (createEnd (discardRamp (refl _)))
  · exact h

theorem tuneFailed (h : Bench.Puts e L b c) {why : Detail} : Bench.Puts e L b (c.tuneFailed e why) := fail (ctx h)

theorem tunedLine (h : Bench.Puts e L b c) {kHz : Nat} : Bench.Puts e L b (c.tunedLine kHz e) := by
  unfold Bench.tunedLine
  refine ite (ite (checkDrive (ctx h)) (tuneFailed h)) ?_
  split
  · exact ite h.tr (openTuneFault h)
  · exact h

theorem tunefailLine (h : Bench.Puts e L b c) : Bench.Puts e L b (c.tunefailLine e) :=
  ite (tuneFailed h) (when h (openTuneFault (refl _)))

theorem windUpUnmuted (h : Bench.Puts e L b c) : Bench.Puts e L b (c.windUpUnmuted e) := applyOutcome (ctx h)

theorem muteLimitExpired (h : Bench.Puts e L b c) : Bench.Puts e L b (c.muteLimitExpired e) := by
  unfold Bench.muteLimitExpired
  split
  · exact lock h.tr
  · split
    · refine skipIf h ?_
      split
      · exact ite (endUnmuted (refl _)) (fail (refl _))
      · exact windUpUnmuted (refl _)
      · exact refl _
    · exact h

theorem settled (h : Bench.Puts e L b c) : Bench.Puts e L b (c.settled e) := by
  unfold Bench.settled
  split
  · exact when h (enterDrive (refl _))
  · exact h

theorem tuneLimitExpired (h : Bench.Puts e L b c) : Bench.Puts e L b (c.tuneLimitExpired e) := by
  unfold Bench.tuneLimitExpired
  split
  · exact when h (tuneFailed (refl _))
  · exact h

theorem holdEnded (h : Bench.Puts e L b c) (he : e.t ∈ L) : Bench.Puts e L b (c.holdEnded e) := by
  unfold Bench.holdEnded
  split
  · exact when h (ite (tryCross (ctx (refl _)) he) (fail (refl _)))
  · exact h

theorem rampExpired (h : Bench.Puts e L b c) : Bench.Puts e L b (c.rampExpired e) := by
  unfold Bench.rampExpired
  split
  · exact when h (lock (endFailed (discardRamp (sendMute (refl _)))))
  · exact h

/-! ### The monitors (08) and their samples -/

theorem reflectedRise (h : Bench.Puts e L b c) : Bench.Puts e L b (c.reflectedRise e) := by
  unfold Bench.reflectedRise
  refine skipIf h ?_
  dsimp only
  split
  · refine ite (trip (station (refl _))) ?_
    split
    · split
      · exact ite (preMuteTrip (station (refl _))) (reflectedHigh (station (refl _)))
      · exact reflectedHigh (station (refl _))
    · exact reflectedHigh (station (refl _))
  · split
    · exact ite (preMuteTrip (station (refl _))) (reflectedHigh (station (refl _)))
    · exact reflectedHigh (station (refl _))
  · exact reflectedHigh (station (refl _))

theorem reflectedFall (h : Bench.Puts e L b c) : Bench.Puts e L b (c.reflectedFall e) :=
  skipIf h (reflectedNormal (station (refl _)))

theorem forwardRise (h : Bench.Puts e L b c) : Bench.Puts e L b (c.forwardRise e) := by
  unfold Bench.forwardRise
  refine skipIf h ?_
  split
  · exact refl _
  · exact carrierNormal (station (refl _))
  · dsimp only
    split
    · exact when (station (refl _)) (rampSucceeded (refl _))
    · exact when (station (refl _)) (goOnAir (tr (refl _)))

theorem forwardFall (h : Bench.Puts e L b c) : Bench.Puts e L b (c.forwardFall e) :=
  skipIf h (carrierLow (station (refl _)))

theorem restrikeRampExpired (h : Bench.Puts e L b c) : Bench.Puts e L b (c.restrikeRampExpired e) :=
  when h (lock (muteAndEnd (refl _)))

theorem tripWatchExpired (h : Bench.Puts e L b c) : Bench.Puts e L b (c.tripWatchExpired e) :=
  skipIf h (ite (endMuteFailed (tr (refl _))) (when (tr (refl _)) (fail (refl _))))

theorem sampleReflected (h : Bench.Puts e L b c) {d : Detectors} : Bench.Puts e L b (c.sampleReflected d e) := by
  unfold Bench.sampleReflected
  refine skipIf h ?_
  split
  · exact station (refl _)
  · exact station (refl _)
  · exact ite (reflectedRise (refl _)) (reflectedFall (refl _))

theorem sampleForward (h : Bench.Puts e L b c) {d : Detectors} : Bench.Puts e L b (c.sampleForward d e) := by
  unfold Bench.sampleForward
  dsimp only
  split
  · exact h
  · exact h
  · split
    · exact h.station
    · exact h.station
    · exact ite (forwardRise h) (forwardFall h)

theorem sampleAbsent (h : Bench.Puts e L b c) {d : Detectors} (he : e.t ∈ L) : Bench.Puts e L b (c.sampleAbsent d e) := by
  unfold Bench.sampleAbsent
  dsimp only
  split
  · exact h.station
  · exact h.station
  · exact ite (rfPresent h) (rfAbsent h he)

/-! ### Requests, the Schedule Engine and start-up -/

theorem beginPolling (h : Bench.Puts e L b c) : Bench.Puts e L b (c.beginPolling e) := by
  unfold Bench.beginPolling
  dsimp only
  split
  · exact pollInstant (lock h.tr)
  · exact order (sendMute h.tr.tr)

theorem stopPolling (h : Bench.Puts e L b c) {why : DarkReason} : Bench.Puts e L b (c.stopPolling e why) := darken h.tr

theorem describe (h : Bench.Puts e L b c) {d : TxDesc} : Bench.Puts e L b (c.describe d e) :=
  ite h.tr (ite (ite (beginPolling h.tr) (darken h.tr)) (stopPolling h.tr))

theorem makeAvailable (h : Bench.Puts e L b c) {v : Bool} : Bench.Puts e L b (c.makeAvailable v e) :=
  ite h.tr (ite (beginPolling h.tr) (stopPolling h.tr))

theorem manualStart (h : Bench.Puts e L b c) {q : StartRequest} : Bench.Puts e L b (c.manualStart q e) := by
  refine begin_ ?_
  split
  · exact workEnded (endRecord h.tr)
  · exact h.tr

theorem missIf (h : Bench.Puts e L b c) {p : SchedRef → Bool} {why : Detail} : Bench.Puts e L b (c.missIf p why e) :=
  when h (missSlot (refl _))

theorem place (h : Bench.Puts e L b c) {q : StartRequest} : Bench.Puts e L b (c.place q e) :=
  when (tr (missSlot h)) (takeUp (refl _))

theorem release (h : Bench.Puts e L b c) {only : Option Bank} : Bench.Puts e L b (c.release only e) := h

theorem ask (h : Bench.Puts e L b c) : Bench.Puts e L b (c.ask e) := when h (pollInstant (tr (refl _)))

theorem adopt (h : Bench.Puts e L b c) {k : Bank} {a : Col} {x : Entry} {day : Nat} :
    Bench.Puts e L b (c.adopt k a x day e) := out (goOnAir (station (setConfirmed h.tr))) (.record ..)

theorem muteCandidate (h : Bench.Puts e L b c) : Bench.Puts e L b (c.muteCandidate e) :=
  ite (candidateReady (sendMute h)) (tr (sendMute h))

end Bench.Puts
end Sys2Proof.Machine

/-! What the Matrix Controller's operations keep (06): the motor slots, one claim of each transmitter, and the row
records, while a crosspoint is set in motion on a muted row alone. -/

namespace Sys2Proof.Machine

/-! ### Counting the drives (R92) -/

/-- The crosspoints with a drive. -/
def Matrix.busy (m : Matrix) : Finset (Tx × Col) := Finset.univ.filter fun p => (m.point p.1 p.2).drive.isSome

theorem Matrix.drives_keys (m : Matrix) :
    m.drives.map (fun d => (d.1, d.2.1)) =
      (allTx.flatMap fun t => allCols.map (Prod.mk t)).filter fun p => (m.point p.1 p.2).drive.isSome := by
  have hrow : ∀ t (cs : List Col),
      (cs.filterMap fun c => (m.point t c).drive.map fun d => (t, c, d.t)).map (fun d => (d.1, d.2.1)) =
        (cs.map (Prod.mk t)).filter fun p => (m.point p.1 p.2).drive.isSome := by
    intro t cs
    induction cs with
    | nil => rfl
    | cons c cs ih =>
      rw [List.map_cons, List.filterMap_cons, List.filter_cons]
      cases (m.point t c).drive <;> simp [ih]
  rw [Matrix.drives, List.map_flatMap, List.filter_flatMap]
  exact congrArg (List.flatMap · allTx) (funext fun t => hrow t allCols)

theorem nodup_allPoints : (allTx.flatMap fun t => allCols.map (Prod.mk t)).Nodup := by
  have hTx : allTx.Nodup := by decide
  have hCols : allCols.Nodup := by decide
  exact List.Nodup.product hTx hCols

/-- No crosspoint is named twice among the drives. -/
theorem Matrix.drives_nodup (m : Matrix) : (m.drives.map fun d => (d.1, d.2.1)).Nodup := by
  rw [m.drives_keys]
  exact nodup_allPoints.filter _

theorem Matrix.mem_drives {m : Matrix} {d : Tx × Col × Tx} (h : d ∈ m.drives) :
    (m.point d.1 d.2.1).drive.isSome = true := by
  have hkey := List.mem_map_of_mem (f := fun d : Tx × Col × Tx => (d.1, d.2.1)) h
  rw [m.drives_keys] at hkey
  exact (List.mem_filter.1 hkey).2

theorem Matrix.driving_eq_card (m : Matrix) : Claims.driving m = m.busy.card := by
  have hset : (m.drives.map fun d => (d.1, d.2.1)).toFinset = m.busy := by
    ext ⟨t, c⟩
    simp [m.drives_keys, Matrix.busy, mem_allTx, mem_allCols]
  rw [← hset, List.toFinset_card_of_nodup m.drives_nodup, List.length_map]
  rfl

/-- A changed crosspoint changes the number of drives by its own. -/
theorem Matrix.driving_of_point {m n : Matrix} {t : Tx} {c : Col} {p : Crosspoint}
    (h : ∀ u d, n.point u d = if u = t ∧ d = c then p else m.point u d) :
    Claims.driving n + (m.point t c).drive.isSome.toNat = Claims.driving m + p.drive.isSome.toNat := by
  have hmem : (t, c) ∈ m.busy ↔ (m.point t c).drive.isSome = true := by simp [Matrix.busy]
  have hcount : m.busy.card = (m.busy.erase (t, c)).card + (m.point t c).drive.isSome.toNat := by
    cases hold : (m.point t c).drive.isSome with
    | true => exact (Finset.card_erase_add_one (hmem.2 hold)).symm
    | false =>
      rw [Finset.erase_eq_of_notMem fun hin => by simp [hmem.1 hin] at hold]
      rfl
  rw [m.driving_eq_card, n.driving_eq_card, hcount]
  cases hnew : p.drive.isSome with
  | true =>
    have hset : n.busy = insert (t, c) (m.busy.erase (t, c)) := by
      ext ⟨u, d⟩
      by_cases hud : u = t ∧ d = c
      · simp [Matrix.busy, h, hud, hnew]
      · simp [Matrix.busy, h, hud]
    rw [hset, Finset.card_insert_of_notMem (Finset.notMem_erase _ _)]
    simp only [Bool.toNat_true]
    omega
  | false =>
    have hset : n.busy = m.busy.erase (t, c) := by
      ext ⟨u, d⟩
      by_cases hud : u = t ∧ d = c
      · simp [Matrix.busy, h, hud, hnew]
      · simp [Matrix.busy, h, hud]
    rw [hset]
    simp only [Bool.toNat_false]
    omega

/-- The motor slots stay balanced through a change of one crosspoint that has a drive exactly while it moves, and takes
a slot exactly when it gets a drive. -/
theorem slotsBalanced_of_point {m n : Matrix} {t : Tx} {c : Col} {p : Crosspoint} (h : Claims.slotsBalanced m)
    (hpoint : ∀ u d, n.point u d = if u = t ∧ d = c then p else m.point u d)
    (hmoving : p.drive.isSome = p.state.moving)
    (hfree : n.free + p.drive.isSome.toNat = m.free + (m.point t c).drive.isSome.toNat) : Claims.slotsBalanced n := by
  obtain ⟨hdrives, hslots⟩ := h
  refine ⟨fun u d => ?_, ?_⟩
  · rw [hpoint]
    split
    · exact hmoving
    · exact hdrives u d
  · have hcount := Matrix.driving_of_point hpoint
    omega

theorem slotsBalanced_of_eq {m n : Matrix} (h : Claims.slotsBalanced m) (hpoints : n.points = m.points)
    (hfree : n.free = m.free) : Claims.slotsBalanced n := by
  have hpoint : n.point = m.point := by
    funext t c
    rw [Matrix.point, Matrix.point, hpoints]
  have hdrives : n.drives = m.drives := by rw [Matrix.drives, Matrix.drives, hpoint]
  unfold Claims.slotsBalanced Claims.driving at h ⊢
  rwa [hpoint, hdrives, hfree]

/-! ### What a matrix operation keeps -/

/-- What an operation on the matrix keeps: three motor slots (R103), one claim of each transmitter (R100), the row
records (R97); and a crosspoint that it sets in motion stands on a row that may move (R105). -/
structure Matrix.Works (m n : Matrix) : Prop where
  slots : Claims.slotsBalanced m → Claims.slotsBalanced n
  claims : Claims.oneClaimEach m → Claims.oneClaimEach n
  rows : n.rows = m.rows
  starts : ∀ u k, (m.xstate u k).moving = false → (n.xstate u k).moving = true → (n.row u).mayMove = true

/-- What an operation on the matrix and the outbox keeps; it sends nothing on the transmitters' ports. -/
structure Board.Works (b c : Board) : Prop where
  matrix : Matrix.Works b.m c.m
  out : Outbox.Moves b.o c.o

namespace Matrix.Works

variable {m n p : Matrix}

/-- An operation that leaves the crosspoints, the slots and the rows, and lists no claim anew. -/
theorem of_eq (hpoints : n.points = m.points) (hfree : n.free = m.free) (hrows : n.rows = m.rows)
    (hclaims : n.claims.Sublist m.claims) : Matrix.Works m n where
  slots h := slotsBalanced_of_eq h hpoints hfree
  claims h := h.sublist (hclaims.map _)
  rows := hrows
  starts u k hm hn := by
    rw [Matrix.xstate, Matrix.point, hpoints] at hn
    exact absurd hm (by rw [Matrix.xstate, Matrix.point, hn]; decide)

theorem refl (m : Matrix) : Matrix.Works m m := of_eq rfl rfl rfl (List.Sublist.refl _)

theorem trans (h : Matrix.Works m n) (g : Matrix.Works n p) : Matrix.Works m p where
  slots := g.slots ∘ h.slots
  claims := g.claims ∘ h.claims
  rows := g.rows.trans h.rows
  starts u k hm hp := by
    cases hn : (n.xstate u k).moving with
    | false => exact g.starts u k hn hp
    | true =>
      have hrow : p.row u = n.row u := by rw [Matrix.row, Matrix.row, g.rows]
      rw [hrow]
      exact h.starts u k hm hn

end Matrix.Works

namespace Board.Works

variable {b c d : Board}

theorem refl (b : Board) : Board.Works b b := ⟨.refl _, .refl _⟩
theorem trans (h : Board.Works b c) (g : Board.Works c d) : Board.Works b d :=
  ⟨h.matrix.trans g.matrix, h.out.trans g.out⟩
theorem ite {p : Prop} [Decidable p] (h : Board.Works b c) (g : Board.Works b d) :
    Board.Works b (if p then c else d) := by
  split
  · exact h
  · exact g
/-- Operations made in turn. -/
theorem foldl {α : Type} {f : Board → α → Board} (hf : ∀ x a, Board.Works x (f x a)) (xs : List α) (b : Board) :
    Board.Works b (xs.foldl f b) := by
  induction xs generalizing b with
  | nil => exact refl b
  | cons a xs ih => exact (hf b a).trans (ih _)
theorem hand (h : Board.Works b c) (i : Instr) : Board.Works b { c with o := c.o.hand i } := ⟨h.matrix, h.out.trans (.hand i)⟩

end Board.Works

/-! ### Claims and service (R99-R102) -/

theorem Board.pass_puts (b : Board) (c : Col) : Outbox.Moves b.o (b.pass c).o := by
  unfold Board.pass
  dsimp only
  split
  · split
    · exact .hand _
    · exact .refl _
  · exact .refl _

theorem Outbox.Moves.pass {o : Outbox} {b : Board} (h : Outbox.Moves o b.o) {c : Col} :
    Outbox.Moves o (b.pass c).o := h.trans (Board.pass_puts b c)

theorem Board.pass_claims (b : Board) (c : Col) : (b.pass c).m.claims.Sublist b.m.claims := by
  unfold Board.pass
  dsimp only
  split
  · split
    · exact List.erase_sublist
    · exact List.Sublist.refl _
  · exact List.Sublist.refl _

theorem Board.pass_works (b : Board) (c : Col) : Board.Works b (b.pass c) :=
  ⟨.of_eq (b.pass_points c) (b.pass_free c) (b.pass_rows c) (b.pass_claims c), b.pass_puts c⟩

theorem Board.Works.pass {b c : Board} (h : Board.Works b c) {k : Col} : Board.Works b (c.pass k) :=
  h.trans (Board.pass_works c k)

theorem Board.service_claims (b : Board) (c : Col) (f : Column → Column) :
    (b.service c f).m.claims.Sublist b.m.claims := by
  unfold Board.service
  dsimp only
  split
  · exact List.Sublist.refl _
  · split
    · exact Board.pass_claims _ c
    · exact List.filter_sublist

theorem Board.service_puts (b : Board) (c : Col) (f : Column → Column) : Outbox.Moves b.o (b.service c f).o := by
  unfold Board.service
  dsimp only
  split
  · exact .refl _
  · split
    · exact Outbox.Moves.pass (.handAll _)
    · exact (Outbox.Moves.handAll _).trans (.handAll _)

theorem Board.service_works (b : Board) (c : Col) (f : Column → Column) : Board.Works b (b.service c f) :=
  ⟨.of_eq (b.service_points c f) (b.service_free c f) (b.service_rows c f) (b.service_claims c f), b.service_puts c f⟩

theorem Board.settle_works (b : Board) (c : Col) (x : XState) : Board.Works b (b.settle c x) := by
  exact .pass (.ite (b.service_works c _) (.ite (b.service_works c _) (.refl b)))

@[simp] theorem Board.settle_points (b : Board) (c : Col) (x : XState) : (b.settle c x).m.points = b.m.points := by
  simp [Board.settle]

theorem Board.settle_point (b : Board) (c : Col) (x : XState) : (b.settle c x).m.point = b.m.point := by
  funext u d
  rw [Matrix.point, Matrix.point, b.settle_points]

theorem Board.dropClaim_works (t : Tx) (c : Col) (b : Board) : Board.Works b (b.dropClaim t c) := by
  refine .ite (.pass ?_) ⟨.of_eq rfl rfl rfl List.filter_sublist, .refl _⟩
  exact ⟨.of_eq rfl rfl rfl (List.Sublist.refl _), .refl _⟩

theorem Board.dropClaim_claims (t : Tx) (c : Col) (b : Board) : (b.dropClaim t c).m.claims.Sublist b.m.claims := by
  unfold Board.dropClaim
  split
  · exact Board.pass_claims _ c
  · exact List.filter_sublist

theorem Board.releaseOthers_works (t : Tx) (c : Col) (b : Board) : Board.Works b (b.releaseOthers t c) :=
  Board.Works.foldl (fun x d => .ite (Board.dropClaim_works t d x) (.refl x)) allCols b

theorem Board.releaseOthers_claims (t : Tx) (c : Col) (b : Board) :
    (b.releaseOthers t c).m.claims.Sublist b.m.claims := by
  unfold Board.releaseOthers
  induction allCols generalizing b with
  | nil => exact List.Sublist.refl _
  | cons d ds ih =>
    rw [List.foldl_cons]
    refine (ih _).trans ?_
    split
    · exact Board.dropClaim_claims t d b
    · exact List.Sublist.refl _

/-- A claim is listed after every other claim of its transmitter has gone (R100 step 1). -/
theorem Board.claim_works (t : Tx) (c : Col) (b : Board) : Board.Works b (b.claim t c) := by
  have hown : Board.Works b { b with m := { b.m with claims := b.m.claims.filter fun q => q.t != t } } :=
    ⟨.of_eq rfl rfl rfl List.filter_sublist, .refl _⟩
  have hothers := hown.trans (Board.releaseOthers_works t c _)
  have hgone : ∀ q ∈ (Board.releaseOthers t c
      { b with m := { b.m with claims := b.m.claims.filter fun q => q.t != t } }).m.claims, q.t ≠ t := by
    intro q hq
    have hfilter := (Board.releaseOthers_claims t c _).subset hq
    simpa using (List.mem_filter.1 hfilter).2
  unfold Board.claim
  dsimp only
  refine .ite (hothers.hand _) (.ite (hothers.hand _) (.ite ?_ ?_))
  · exact hothers.trans ⟨.of_eq rfl rfl rfl (List.Sublist.refl _), .hand _⟩
  · refine hothers.trans ⟨⟨fun h => slotsBalanced_of_eq h rfl rfl, fun h => ?_, rfl, fun u k hm hn => ?_⟩, .hand _⟩
    · unfold Claims.oneClaimEach at h ⊢
      rw [List.map_append, List.nodup_append]
      refine ⟨h, List.nodup_singleton _, fun a ha x hx => ?_⟩
      obtain ⟨q, hq, rfl⟩ := List.mem_map.1 ha
      rw [List.mem_singleton.1 hx]
      exact hgone q hq
    · exact absurd (hm.symm.trans hn) (by decide)

/-! ### Crosspoints and drives (R94-R96, R103-R108) -/

/-- A crosspoint that is not in motion after a change, and gives its motor slot back if it had a drive. -/
theorem Matrix.Works.stopped {m n : Matrix} {t : Tx} {c : Col} {p : Crosspoint}
    (hpoint : ∀ u d, n.point u d = if u = t ∧ d = c then p else m.point u d) (hdrive : p.drive = none)
    (hmoving : p.state.moving = false)
    (hfree : Claims.slotsBalanced m → n.free = m.free + (m.point t c).drive.isSome.toNat) (hrows : n.rows = m.rows)
    (hclaims : n.claims.Sublist m.claims) : Matrix.Works m n where
  slots h := slotsBalanced_of_point h hpoint (by simp [hdrive, hmoving]) (by simp [hdrive, hfree h])
  claims h := h.sublist (hclaims.map _)
  rows := hrows
  starts u k hm hn := by
    rw [Matrix.xstate] at hm hn
    rw [hpoint] at hn
    split at hn
    · simp [hmoving] at hn
    · simp [hm] at hn

theorem Board.setPoint_claims (b : Board) (t : Tx) (c : Col) (x : XState) (w : Option Drive) :
    (b.setPoint t c x w).m.claims.Sublist b.m.claims := by
  refine (Board.pass_claims _ c).trans ?_
  unfold Board.positionReason
  split
  · exact Board.service_claims _ c _
  · split
    · exact Board.service_claims _ c _
    · exact List.Sublist.refl _

theorem Board.setPoint_puts (b : Board) (t : Tx) (c : Col) (x : XState) (w : Option Drive) :
    Outbox.Moves b.o (b.setPoint t c x w).o :=
  (Board.settle_works { b with m := (b.m.onPoint t c fun p => { p with state := x, drive := w }).reholder c } c x).out

theorem Outbox.Moves.setPoint {o : Outbox} {b : Board} (h : Outbox.Moves o b.o) {t : Tx} {c : Col} {x : XState}
    {w : Option Drive} : Outbox.Moves o (b.setPoint t c x w).o := h.trans (Board.setPoint_puts b t c x w)

theorem Matrix.startTest_starts {m : Matrix} {r : SlotRequest} (h : m.startTest r = .starts) :
    (m.xstate r.row r.column).moving = false ∧ (m.row r.row).mayMove = true := by
  unfold Matrix.startTest at h
  dsimp only at h
  split at h
  · cases h
  next hx =>
    split at h
    · cases h
    · split at h
      · cases h
      · split at h
        · cases h
        · split at h
          · cases h
          next hrow =>
            exact ⟨by simpa using fun hm => hx (Or.inr hm), by simpa using hrow⟩

/-- A request that is given a free motor slot starts its drive on a muted row, or gives the slot back (R105). -/
theorem Board.startDrive_works (travel : Nat) (r : SlotRequest) (b : Board) (hfree : 0 < b.m.free) :
    Board.Works b (b.startDrive travel r) := by
  unfold Board.startDrive
  split
  · exact (Board.Works.refl b).hand _
  · exact (Board.Works.refl b).hand _
  next hstarts =>
    obtain ⟨hstill, hrow⟩ := Matrix.startTest_starts hstarts
    have hpoint := fun u d => Board.setPoint_point b r.row u r.column d r.direction.moving
      (some { t := r.t, travel := Timer.start travel })
    refine ⟨⟨fun h => ?_, fun h => ?_, ?_, fun u k hm hn => ?_⟩, ?_⟩
    · refine slotsBalanced_of_point h hpoint ?_ ?_
      · cases r.direction <;> rfl
      · have hnone := h.1 r.row r.column
        rw [show (b.m.point r.row r.column).state.moving = false from hstill] at hnone
        rw [hnone]
        simp only [Board.setPoint_free, Option.isSome_some, Bool.toNat_true, Bool.toNat_false]
        omega
    · exact h.sublist ((Board.setPoint_claims b ..).map _)
    · exact Board.setPoint_rows b ..
    · have hsame : (u = r.row ∧ k = r.column) := by
        by_contra hne
        have hsame := (hpoint u k).trans (if_neg hne)
        exact absurd (hm.symm.trans ((congrArg (·.state.moving) hsame).symm.trans hn)) (by decide)
      rw [hsame.1]
      exact (congrArg RowRecord.mayMove (congrArg (·.get r.row) (Board.setPoint_rows b ..))).trans hrow
    · exact ((Board.setPoint_puts b ..).trans (.send _)).trans (.hand _)

theorem Board.grantUpTo_works (travel n : Nat) (b : Board) : Board.Works b (b.grantUpTo travel n) := by
  induction n generalizing b with
  | zero => exact .refl b
  | succ n ih =>
    unfold Board.grantUpTo
    split
    next hmay =>
      have hfree : 0 < b.m.free := by
        simp only [Matrix.mayGrant, Bool.and_eq_true, decide_eq_true_eq] at hmay
        exact hmay.1.1
      split
      next r rest _ =>
        have hqueue : Board.Works b { b with m := { b.m with queue := rest } } :=
          ⟨.of_eq rfl rfl rfl (List.Sublist.refl _), .refl _⟩
        exact (hqueue.trans (Board.startDrive_works travel r _ hfree)).trans (ih _)
      · exact .refl b
    · exact .refl b

theorem Board.Works.grant {b c : Board} (h : Board.Works b c) {travel : Nat} : Board.Works b (c.grant travel) :=
  h.trans (Board.grantUpTo_works travel _ c)

theorem Board.completePoint_point (b : Board) (t u : Tx) (c d : Col) (x : Direction) :
    (b.completePoint t c x).m.point u d =
      if u = t ∧ d = c then { b.m.point t c with state := x.reached, drive := none } else b.m.point u d := by
  cases x with
  | opening => exact Board.setPoint_point ..
  | closing =>
    simp only [Board.completePoint]
    rw [Board.settle_point]
    exact (congrArg (fun v => (v.get u).get d) (Matrix.onColumn_points ..)).trans (Matrix.onPoint_point b.m t u c d _)

theorem Board.completePoint_rows (b : Board) (t : Tx) (c : Col) (x : Direction) :
    (b.completePoint t c x).m.rows = b.m.rows := by
  cases x <;> simp [Board.completePoint, Board.settle, Matrix.hold]

theorem Board.completePoint_free (b : Board) (t : Tx) (c : Col) (x : Direction) :
    (b.completePoint t c x).m.free = b.m.free := by
  cases x <;> simp [Board.completePoint, Board.settle, Matrix.hold]

theorem Board.positionReason_claims (b : Board) (c : Col) (x : XState) :
    (b.positionReason c x).m.claims.Sublist b.m.claims := by
  unfold Board.positionReason
  split
  · exact Board.service_claims b c _
  · split
    · exact Board.service_claims b c _
    · exact List.Sublist.refl _

theorem Board.completePoint_claims (b : Board) (t : Tx) (c : Col) (x : Direction) :
    (b.completePoint t c x).m.claims.Sublist b.m.claims := by
  cases x with
  | opening => exact Board.setPoint_claims b ..
  | closing => exact (Board.pass_claims _ c).trans (Board.positionReason_claims _ c _)

theorem Board.completePoint_puts (b : Board) (t : Tx) (c : Col) (x : Direction) :
    Outbox.Moves b.o (b.completePoint t c x).o := by
  cases x with
  | opening => exact Board.setPoint_puts b ..
  | closing =>
    exact (Board.settle_works
      { b with m := (b.m.onPoint t c fun p => { p with state := .closed, drive := none }).hold t c } c .closed).out

/-- A drive that its contacts complete gives its motor slot back (R106). -/
theorem Board.completePoint_works (t : Tx) (c : Col) (x : Direction) (b : Board) (i : Instr)
    (hd : (b.m.point t c).drive.isSome = true) :
    Board.Works b { m := (b.completePoint t c x).m.returnSlot, o := (b.completePoint t c x).o.hand i } := by
  refine ⟨.stopped (b.completePoint_point t · c · x) rfl ?_ (fun _ => ?_) (b.completePoint_rows t c x)
    (b.completePoint_claims t c x), (b.completePoint_puts t c x).trans (.hand i)⟩
  · cases x <;> rfl
  · simp [Matrix.returnSlot, Board.completePoint_free, hd]

theorem Board.confirmDrive_works (travel : Nat) (t : Tx) (c : Col) (b : Board) :
    Board.Works b (b.confirmDrive travel t c) := by
  unfold Board.confirmDrive
  dsimp only
  split
  next d hd => exact (Board.completePoint_works t c _ b _ (by simp [hd])).grant
  · exact .refl b

theorem Board.faults_works (t : Tx) (former : Option Tx) (b : Board) : Board.Works b (b.faults t former) :=
  ⟨.refl _, .handAll _⟩

theorem Contacts.state_not_moving (k : Contacts) : k.state.moving = false := by cases k <;> rfl

/-- A crosspoint outside a drive that becomes what its contacts say: no motor slot is taken or given back (R95). -/
theorem Board.strayOrResolved_works (t : Tx) (c : Col) (k : Contacts) (b : Board)
    (hstill : (b.m.xstate t c).moving = false) : Board.Works b (b.strayOrResolved t c k.state) := by
  unfold Board.strayOrResolved
  dsimp only
  have hset : ∀ o, Outbox.Moves b.o o → Board.Works b (Board.setPoint t c k.state none { b with o := o }) := by
    intro o ho
    refine ⟨.stopped (Board.setPoint_point { b with o := o } t · c · _ _) rfl k.state_not_moving (fun h => ?_)
      (Board.setPoint_rows ..) (Board.setPoint_claims ..), ho.setPoint⟩
    have hnone := h.1 t c
    rw [show (b.m.point t c).state.moving = false from hstill] at hnone
    simp [hnone]
  refine .ite (hset _ ?_) ((hset _ ?_).trans (Board.faults_works t _ _))
  all_goals
    split
    · exact .refl _
    · exact .event ..

/-- The contacts of a crosspoint are recorded: its state and its drive stay. -/
theorem Matrix.Works.contacts (m : Matrix) (t : Tx) (c : Col) (k : Option Contacts) :
    Matrix.Works m (m.onPoint t c fun p => { p with contacts := k }) where
  slots h := slotsBalanced_of_point h (m.onPoint_point t · c · _) (h.1 t c) rfl
  claims := id
  rows := rfl
  starts u d hm hn := by
    rw [Matrix.xstate, Matrix.onPoint_point] at hn
    rw [Matrix.xstate] at hm
    split at hn
    next hud => simp [← hud.1, ← hud.2, hm] at hn
    · simp [hm] at hn

theorem Board.position_works (travel : Nat) (t : Tx) (c : Col) (k : Contacts) (b : Board) :
    Board.Works b (b.position travel t c k) := by
  have hcontacts : Board.Works b { b with m := b.m.onPoint t c fun p => { p with contacts := some k } } :=
    ⟨.contacts .., .refl _⟩
  have hstate : (b.m.onPoint t c fun p => { p with contacts := some k }).xstate t c = b.m.xstate t c := by
    rw [Matrix.xstate, Matrix.onPoint_point]
    simp [Matrix.xstate]
  unfold Board.position
  dsimp only
  split
  · exact .ite (hcontacts.trans (Board.confirmDrive_works travel t c _)) hcontacts
  next hstill =>
    refine .ite hcontacts (hcontacts.trans (Board.strayOrResolved_works t c k _ ?_))
    rw [hstate]
    simpa using hstill

theorem Board.stopDrive_point (b : Board) (t u : Tx) (c d : Col) :
    (b.stopDrive t c).m.point u d =
      if u = t ∧ d = c then { b.m.point t c with state := .unknown, drive := none } else b.m.point u d :=
  Board.setPoint_point ..

/-- A drive that is stopped gives its motor slot back (R107, R108). -/
theorem Board.stopDrive_works (t : Tx) (c : Col) (b : Board) (o : Outbox)
    (ho : Outbox.Moves (b.stopDrive t c).o o) (hd : (b.m.point t c).drive.isSome = true) :
    Board.Works b { m := (b.stopDrive t c).m.returnSlot, o := o } := by
  refine ⟨.stopped (b.stopDrive_point t · c ·) rfl rfl (fun _ => ?_) (Board.setPoint_rows ..) (Board.setPoint_claims ..),
    Outbox.Moves.trans (.setPoint (.send _)) ho⟩
  simp [Matrix.returnSlot, Board.stopDrive, hd]

theorem Board.travelExpired_works (travel : Nat) (t : Tx) (c : Col) (b : Board) :
    Board.Works b (b.travelExpired travel t c) := by
  unfold Board.travelExpired
  dsimp only
  split
  next d hd =>
    refine .ite (.grant (Board.stopDrive_works t c b _ ?_ (by simp [hd]))) (.refl b)
    exact (Outbox.Moves.event ..).trans (.hand _)
  · exact .refl b

theorem Board.driveRequest_works (travel : Nat) (r : SlotRequest) (b : Board) :
    Board.Works b (b.driveRequest travel r) := by
  have hqueue : ∀ q, Board.Works b { b with m := { b.m with queue := q } } :=
    fun q => ⟨.of_eq rfl rfl rfl (List.Sublist.refl _), .refl _⟩
  unfold Board.driveRequest
  dsimp only
  split
  next hmay =>
    have hfree : 0 < b.m.free := by
      simp only [Matrix.mayGrant, Bool.and_eq_true, decide_eq_true_eq] at hmay
      exact hmay.1.1
    exact .grant ((hqueue (b.m.queue.filter fun q => q.t != r.t)).trans (Board.startDrive_works travel r _ hfree))
  · exact hqueue _

/-! ### Suspension (R108) -/

theorem Matrix.mem_drivesByTransmitter {m : Matrix} {d : Tx × Col × Tx} (h : d ∈ m.drivesByTransmitter) :
    d ∈ m.drives := by
  obtain ⟨_, _, hd⟩ := List.mem_flatMap.1 h
  exact (List.mem_filter.1 hd).1

theorem Matrix.drivesByTransmitter_nodup (m : Matrix) :
    (m.drivesByTransmitter.map fun d => (d.1, d.2.1)).Nodup := by
  have hdistinct : m.drivesByTransmitter.Nodup := by
    refine List.nodup_flatMap.2 ⟨fun t _ => (List.Nodup.of_map _ m.drives_nodup).filter _, ?_⟩
    refine List.Pairwise.imp (fun hne => ?_) (show allTx.Nodup by decide)
    refine List.disjoint_left.2 fun d hd hd' => hne ?_
    exact (eq_of_beq (List.mem_filter.1 hd).2).symm.trans (eq_of_beq (List.mem_filter.1 hd').2)
  exact List.Nodup.map_on (fun x hx y hy hxy => List.inj_on_of_nodup_map m.drives_nodup
    (Matrix.mem_drivesByTransmitter hx) (Matrix.mem_drivesByTransmitter hy) hxy) hdistinct

/-- The drives of a list without repetition stop one after the other. -/
theorem Board.foldl_suspendDrive_works (ds : List (Tx × Col × Tx)) (b : Board)
    (hdrive : ∀ d ∈ ds, (b.m.point d.1 d.2.1).drive.isSome = true) (hnodup : (ds.map fun d => (d.1, d.2.1)).Nodup) :
    Board.Works b (ds.foldl (fun b d => b.suspendDrive d) b) := by
  induction ds generalizing b with
  | nil => exact .refl b
  | cons d ds ih =>
    rw [List.map_cons, List.nodup_cons] at hnodup
    obtain ⟨hnew, hrest⟩ := hnodup
    refine (Board.stopDrive_works d.1 d.2.1 b _ (.hand _) (hdrive d (List.mem_cons_self ..))).trans
      (ih _ (fun x hx => ?_) hrest)
    have hne : ¬ (x.1 = d.1 ∧ x.2.1 = d.2.1) := fun heq =>
      hnew (List.mem_map.2 ⟨x, hx, Prod.ext heq.1 heq.2⟩)
    have hpoint : (b.suspendDrive d).m.point x.1 x.2.1 = b.m.point x.1 x.2.1 :=
      (Board.stopDrive_point b d.1 x.1 d.2.1 x.2.1).trans (if_neg hne)
    exact (congrArg (·.drive.isSome) hpoint).trans (hdrive x (List.mem_cons_of_mem _ hx))

theorem Board.suspend_works (a : Source) (b : Board) : Board.Works b (b.suspend a) := by
  have hset : Board.Works b { b with m := { b.m with suspension := b.m.suspension.add a } } :=
    ⟨.of_eq rfl rfl rfl (List.Sublist.refl _), .refl _⟩
  have hstopped := hset.trans (Board.foldl_suspendDrive_works
    (Matrix.drivesByTransmitter { b.m with suspension := b.m.suspension.add a }) _
    (fun d hd => Matrix.mem_drives (Matrix.mem_drivesByTransmitter hd)) (Matrix.drivesByTransmitter_nodup _))
  exact .ite hset (hstopped.trans ⟨.refl _, .event ..⟩)

theorem Board.resume_works (travel : Nat) (r : Sources) (b : Board) : Board.Works b (b.resume travel r) := by
  have hset : ∀ o, Outbox.Moves b.o o → Board.Works b { m := { b.m with suspension := b.m.suspension.remove r }, o := o } :=
    fun o ho => ⟨.of_eq rfl rfl rfl (List.Sublist.refl _), ho⟩
  exact .ite ((hset _ (.event ..)).grant) (hset _ (.refl _))

theorem Board.withdraw_works (c : Col) (force : Bool) (b : Board) : Board.Works b (b.withdraw c force) := by
  unfold Board.withdraw
  dsimp only
  split
  · exact (b.service_works c _).hand _
  · exact b.service_works c _

/-! ### A tick of the drives (R92) -/

/-- The drives count their travel: each stays where it is. -/
theorem Matrix.tick_works (m : Matrix) : Matrix.Works m m.tick := by
  have hstep : ∀ (n : Matrix) (t : Tx) (c : Col), Matrix.Works n (n.onPoint t c fun p =>
      { p with drive := p.drive.map fun q => { q with travel := q.travel.tick } }) := by
    intro n t c
    refine ⟨fun h => slotsBalanced_of_point h (n.onPoint_point t · c · _) (by simpa using h.1 t c) (by simp), id, rfl,
      fun u d hm hn => ?_⟩
    rw [Matrix.xstate, Matrix.onPoint_point] at hn
    rw [Matrix.xstate] at hm
    split at hn
    next hud => simp [← hud.1, ← hud.2, hm] at hn
    · simp [hm] at hn
  unfold Matrix.tick
  generalize m.drives = ds
  induction ds generalizing m with
  | nil => exact .refl m
  | cons d ds ih => exact (hstep m d.1 d.2.1).trans (ih _)

end Sys2Proof.Machine

/-! What an operation of the machine keeps: the invariants of every step (R17, R61, R70, R92, R100, L9, R67), block by
block, with the operations of the clock, the interlocks, the check and the store. -/

namespace Sys2Proof.Machine

/-! ### The relation -/

/-- The part of the boot block that the invariants read: the reset line stays, start-up's first step is neither begun nor
ended, and start-up is not ended. -/
structure Boot.Works (b c : Boot) : Prop where
  asserted : c.asserted = b.asserted
  load : c.phase = .load ↔ b.phase = .load
  done : c.phase = .done → b.phase = .done

/-- What an operation keeps: the command queue, the request queue and the reply slot as they are, and each invariant of
every step; UNMUTE goes to transmitters of `L` alone. -/
structure State.Works (L : Set Tx) (s t : State) : Prop where
  pending : t.pending = s.pending
  queue : t.link.queue = s.link.queue
  reply : t.link.reply = s.link.reply
  boot : Boot.Works s.boot t.boot
  clock : s.clock.legal = true → t.clock.legal = true
  out : Outbox.Puts L s.out t.out
  matrix : Matrix.Works s.matrix t.matrix
  upcoming : s.engine.upcoming.length ≤ 128 → t.engine.upcoming.length ≤ 128
  engine : Claims.haltedEmpty s.engine → Claims.haltedEmpty t.engine
  check : (∀ k, s.check = some k → k.faults.length ≤ 16 ∧ k.total ≤ 65535) →
    ∀ k, t.check = some k → k.faults.length ≤ 16 ∧ k.total ≤ 65535
  season : Claims.oneActive s.store → Claims.oneActive t.store
  store : Claims.storeQuiet s → Claims.storeQuiet t

/-- The blocks that the invariants read, but for the outbox. -/
def State.core (s : State) :
    List Instr × List Request × Option Reply × Boot × Clock × Matrix × Engine × Option CheckContext × Store :=
  (s.pending, s.link.queue, s.link.reply, s.boot, s.clock, s.matrix, s.engine, s.check, s.store)

theorem Boot.Works.refl (b : Boot) : Boot.Works b b := ⟨rfl, Iff.rfl, id⟩

theorem storeQuiet_of_eq {s t : State} (h : Claims.storeQuiet s) (hboot : Boot.Works s.boot t.boot)
    (hop : t.store.op = s.store.op) (hcheck : t.check = s.check)
    (hbank : ∀ b, (t.store.bank b).state = (s.store.bank b).state) : Claims.storeQuiet t := by
  have hwriting : ∀ b, t.store.writing b = s.store.writing b := by
    intro b
    rw [Store.writing, Store.writing, hop]
  have herasing : ∀ b, t.store.erasing b = s.store.erasing b := by
    intro b
    rw [Store.erasing, Store.erasing, hop]
  unfold Claims.storeQuiet
  simp only [hwriting, herasing, hop, hcheck, hbank, hboot.asserted, hboot.load]
  exact h

namespace State.Works

variable {L : Set Tx} {s t u : State}

theorem trans (h : State.Works L s t) (g : State.Works L t u) : State.Works L s u where
  pending := g.pending.trans h.pending
  queue := g.queue.trans h.queue
  reply := g.reply.trans h.reply
  boot := ⟨g.boot.asserted.trans h.boot.asserted, g.boot.load.trans h.boot.load, h.boot.done ∘ g.boot.done⟩
  clock := g.clock ∘ h.clock
  out := h.out.trans g.out
  matrix := h.matrix.trans g.matrix
  upcoming := g.upcoming ∘ h.upcoming
  engine := g.engine ∘ h.engine
  check := g.check ∘ h.check
  season := g.season ∘ h.season
  store := g.store ∘ h.store

theorem mono {M : Set Tx} (h : State.Works L s t) (hLM : L ⊆ M) : State.Works M s t :=
  { h with out := h.out.mono hLM }

/-- An operation that leaves every block that the invariants read but the outbox. -/
theorem of_core (hout : Outbox.Puts L s.out t.out) (hcore : t.core = s.core := by rfl) : State.Works L s t := by
  simp only [State.core, Prod.mk.injEq] at hcore
  obtain ⟨hpending, hqueue, hreply, hboot, hclock, hmatrix, hengine, hcheck, hstore⟩ := hcore
  have hb : Boot.Works s.boot t.boot := hboot ▸ Boot.Works.refl _
  exact ⟨hpending, hqueue, hreply, hb, hclock ▸ id, hout, hmatrix ▸ .refl _, hengine ▸ id, hengine ▸ id, hcheck ▸ id,
    hstore ▸ id, fun h => storeQuiet_of_eq h hb (hstore ▸ rfl) hcheck fun b => hstore ▸ rfl⟩

theorem refl (s : State) : State.Works L s s := of_core (.refl _)

/-- The same as `of_core`, after other operations. -/
theorem core (h : State.Works L s t) (hout : Outbox.Puts L t.out u.out) (hcore : u.core = t.core := by rfl) :
    State.Works L s u := h.trans (of_core hout hcore)

theorem ite {p : Prop} [Decidable p] (h : State.Works L s t) (g : State.Works L s u) :
    State.Works L s (if p then t else u) := by
  split
  · exact h
  · exact g
/-- An operation made under a condition alone. -/
theorem when {p : Prop} [Decidable p] (h : State.Works L s t) (g : p → State.Works L t u) :
    State.Works L s (if p then u else t) := by
  split
  next hp => exact h.trans (g hp)
  · exact h

/-- Operations made in turn. -/
theorem foldl {α : Type} {f : State → α → State} (h : State.Works L s t) (hf : ∀ x a, State.Works L x (f x a))
    {xs : List α} : State.Works L s (xs.foldl f t) := by
  induction xs generalizing t with
  | nil => exact h
  | cons a xs ih => exact ih (h.trans (hf t a))

theorem onOut (h : State.Works L s t) {f : Outbox → Outbox} (hf : Outbox.Puts L t.out (f t.out)) :
    State.Works L s (t.onOut f) := h.core hf

theorem hands (h : State.Works L s t) {i : Instr} : State.Works L s (t.onOut fun o => o.hand i) := onOut h (.hand i)

theorem raises (h : State.Works L s t) {k : EventKind} {x : Subject} {d : List Byte} :
    State.Works L s (t.onOut fun o => o.event k x d) := onOut h (.event k x d)

theorem onStation (h : State.Works L s t) {v : Tx} {f : Env → Bench → Bench}
    (hf : ∀ b, Bench.Puts (t.env v) L b (f (t.env v) b)) : State.Works L s (t.onStation v f) :=
    h.core (hf ⟨t.stations.get v, t.out⟩).toPuts

theorem csq (h : State.Works L s t) {v : Tx} {f : Env → Bench → Bench} (hf : ∀ b, Bench.Puts (t.env v) L b (f (t.env v) b)) :
    State.Works L s (t.csq v f) :=
  h.core (Bench.Puts.reportRow (hf ⟨t.stations.get v, t.out⟩)).toPuts

theorem onEach (h : State.Works L s t) {f : Env → Bench → Bench} (hf : ∀ e b, Bench.Puts e L b (f e b)) :
    State.Works L s (t.onEach f) := h.foldl fun _ _ => onStation (refl _) (hf _)

theorem onClock (h : State.Works L s t) {f : Clock → Clock} (hf : t.clock.legal = true → (f t.clock).legal = true) :
    State.Works L s (t.onClock f) :=
  h.trans ⟨rfl, rfl, rfl, .refl _, hf, .refl _, .refl _, id, id, id, id, id⟩

theorem onMatrix (h : State.Works L s t) {f : Board → Board} (hf : Board.Works ⟨t.matrix, t.out⟩ (f ⟨t.matrix, t.out⟩)) :
    State.Works L s (t.onMatrix f) :=
  h.trans ⟨rfl, rfl, rfl, .refl _, id, hf.out.mono (Set.empty_subset _), hf.matrix, id, id, id, id, id⟩

theorem onEngine (h : State.Works L s t) {f : Engine → Engine}
    (hlist : t.engine.upcoming.length ≤ 128 → (f t.engine).upcoming.length ≤ 128)
    (hhalted : Claims.haltedEmpty t.engine → Claims.haltedEmpty (f t.engine)) : State.Works L s (t.onEngine f) :=
  h.trans ⟨rfl, rfl, rfl, .refl _, id, .refl _, .refl _, hlist, hhalted, id, id, id⟩

end State.Works

/-- The cell writes of the event before are complete: no invariant reads them. -/
theorem State.settled_works {L : Set Tx} (s : State) : State.Works L s s.settled :=
  ⟨rfl, rfl, rfl, .refl _, id, .refl _, .refl _, id, id, id, id, id⟩

/-! ### The clock (02) -/

theorem Clock.legal_iff (k : Clock) : k.legal = true ↔
    k.reading.date.valid = true ∧ k.reading.minute < 1440 ∧ k.reading.second < 60 ∧ k.reading.tenth < 10 ∧
      k.divider < 10 := by
  simp [Clock.legal, and_assoc]

/-- Whether a clock is legal depends on its reading and its divider. -/
theorem Clock.legal_of_eq {k j : Clock} (h : k.legal = true) (hreading : j.reading = k.reading := by rfl)
    (hdivider : j.divider = k.divider := by rfl) : j.legal = true := by
  rw [Clock.legal_iff] at h ⊢
  rw [hreading, hdivider]
  exact h

theorem Date.valid_iff (d : Date) : d.valid = true ↔
    2000 ≤ d.year ∧ d.year ≤ 2099 ∧ 1 ≤ d.day ∧ d.day ≤ monthLength d.year d.month := by
  simp [Date.valid, and_assoc]

theorem monthLength_pos_iff (year month : Nat) : 1 ≤ monthLength year month ↔ 1 ≤ month ∧ month ≤ 12 := by
  by_cases h : month ≤ 12
  · interval_cases month <;> simp [monthLength]
    split <;> omega
  · obtain ⟨k, rfl⟩ : ∃ k, month = k + 13 := ⟨month - 13, by omega⟩
    simp [monthLength]

/-- The date after a date of the calendar is one, but for the last (R18). -/
theorem Date.succ_valid {d : Date} (h : d.valid = true) (hlast : ¬ (d.year = 2099 ∧ d.month = 12 ∧ d.day = 31)) :
    d.succ.valid = true := by
  rw [Date.valid_iff] at h ⊢
  obtain ⟨hfirst, hyear, hday, hlength⟩ := h
  have hmonth := (monthLength_pos_iff d.year d.month).1 (hday.trans hlength)
  unfold Date.succ
  split
  · exact ⟨hfirst, hyear, by simp, by dsimp only; omega⟩
  next hend =>
    split
    next hnovember =>
      exact ⟨hfirst, hyear, le_refl 1, (monthLength_pos_iff ..).2 ⟨Nat.le_add_left .., hnovember⟩⟩
    next hdecember =>
      have htwelve : d.month = 12 := by omega
      have hlength31 : monthLength d.year d.month = 31 := by rw [htwelve]; rfl
      refine ⟨by dsimp only; omega, ?_, le_refl 1, by simp [monthLength]⟩
      dsimp only
      by_contra hpast
      exact hlast ⟨by omega, htwelve, by omega⟩

theorem wrapReading_legal {k : Clock} (hreading : k.reading = wrapReading) (hdivider : k.divider < 10) :
    k.legal = true := by
  rw [Clock.legal_iff, hreading]
  exact ⟨by decide, by decide, by decide, by decide, hdivider⟩

namespace State.Works

variable {L : Set Tx} {s t u : State}

theorem setClock (h : State.Works L s t) {old new : Reading} {flag : Bool}
    (hnew : t.clock.legal = true → ({ t.clock with reading := new, divider := 0, isSet := flag } : Clock).legal = true) :
    State.Works L s (t.setClock old new flag) := by
  unfold State.setClock State.stepBoundary
  exact hands (raises (onClock (f := fun k => { k with reading := new, divider := 0, isSet := flag }) h hnew))

theorem carrySecond (h : State.Works L s t) {old : Reading} : State.Works L s (t.carrySecond old) := by
  have hreading : ∀ r : Reading, (t.clock.legal = true → r.date.valid = true ∧ r.minute < 1440 ∧ r.second < 60 ∧
      r.tenth < 10) → t.clock.legal = true → ({ t.clock with reading := r } : Clock).legal = true := by
    intro r hr hlegal
    obtain ⟨hdate, hminute, hsecond, htenth⟩ := hr hlegal
    exact (Clock.legal_iff _).2 ⟨hdate, hminute, hsecond, htenth, ((Clock.legal_iff _).1 hlegal).2.2.2.2⟩
  unfold State.carrySecond
  dsimp only
  split
  next hsecond =>
    refine onClock h (hreading _ fun hlegal => ?_)
    obtain ⟨hdate, hminute, _, htenth, _⟩ := (Clock.legal_iff _).1 hlegal
    exact ⟨hdate, hminute, by dsimp only; omega, htenth⟩
  · split
    next hminute =>
      refine onOut (onClock h (hreading _ fun hlegal => ?_)) (.hand _)
      obtain ⟨hdate, _, _, htenth, _⟩ := (Clock.legal_iff _).1 hlegal
      exact ⟨hdate, Nat.succ_lt_succ hminute, Nat.zero_lt_succ _, htenth⟩
    · split
      · exact setClock h fun _ => wrapReading_legal rfl (Nat.zero_lt_succ _)
      next hlast =>
        refine onOut (onClock h (hreading _ fun hlegal => ?_)) (.hand _)
        obtain ⟨hdate, _, _, htenth, _⟩ := (Clock.legal_iff _).1 hlegal
        exact ⟨Date.succ_valid hdate hlast, Nat.zero_lt_succ _, Nat.zero_lt_succ _, htenth⟩

/-- A clock whose tenth and divider are set to legal values. -/
theorem legal_of_tenth {k : Clock} {n : Nat} (hn : n < 10) (h : k.legal = true) {j : Clock}
    (hreading : j.reading = { k.reading with tenth := n }) (hdivider : j.divider = 0) : j.legal = true := by
  rw [Clock.legal_iff] at h ⊢
  obtain ⟨hdate, hminute, hsecond, _, _⟩ := h
  rw [hreading, hdivider]
  exact ⟨hdate, hminute, hsecond, hn, by decide⟩

theorem advanceTenth (h : State.Works L s t) : State.Works L s t.advanceTenth := by
  unfold State.advanceTenth
  dsimp only
  split
  next htenth => exact onClock h fun hlegal => legal_of_tenth (by omega) hlegal rfl rfl
  · exact carrySecond (onClock h fun hlegal => legal_of_tenth (n := 0) (Nat.zero_lt_succ _) hlegal rfl rfl)

theorem align (h : State.Works L s t) : State.Works L s t.align := by
  have haligned : State.Works L s (t.onClock fun k => { k with
      divider := 0, reading := { t.clock.reading with tenth := 0 }, pulse := .locked
      watch := some (Timer.start Config.pulseWatchTicks) }) :=
    onClock h fun hlegal => legal_of_tenth (n := 0) (Nat.zero_lt_succ _) hlegal rfl rfl
  exact when haligned fun _ => carrySecond (refl _)

theorem secondPulse (h : State.Works L s t) {l : Line} : State.Works L s (t.secondPulse l) := core (align h) (.refl _)

theorem referenceFails (h : State.Works L s t) : State.Works L s t.referenceFails := by
  unfold State.referenceFails
  exact ite (onOut (onClock h fun hk => Clock.legal_of_eq hk) (.event ..)) (onClock h fun hk => Clock.legal_of_eq hk)

theorem referenceGood (h : State.Works L s t) : State.Works L s (t.onClock Clock.referenceGood) := by
  refine onClock h fun hlegal => ?_
  unfold Clock.referenceGood
  split
  · exact Clock.legal_of_eq hlegal
  · exact hlegal

/-! ### Mains, lines and interlocks (08, 09) -/

theorem mainsDip (h : State.Works L s t) : State.Works L s t.mainsDip :=
  core h (.trans (.handAll _) (.trans (.hand _) (.event ..)))

theorem mainsSample (h : State.Works L s t) {n : Nat} : State.Works L s (t.mainsSample n) := by
  unfold State.mainsSample
  dsimp only
  split
  · exact h
  · exact h
  · exact h
  · split
    · exact ite h (mainsDip h)
    · exact ite (core h (.refl _)) h
    · exact ite h (core h (.refl _))

theorem onLine (h : State.Works L s t) {l : Line} {f : FieldLine → FieldLine} : State.Works L s (t.onLine l f) :=
  core h (.refl _)

theorem acceptLevel (h : State.Works L s t) {l : Line} {high : Bool} : State.Works L s (t.acceptLevel l high) := by
  unfold State.acceptLevel
  dsimp only
  split
  · split
    · split
      · exact onOut (onLine h) (.hand _)
      · exact core h (.refl _)
    · exact core h (.refl _)
  · exact core h (.refl _)

theorem onIlu (h : State.Works L s t) {f : Interlocks → Interlocks} : State.Works L s (t.onIlu f) := core h (.refl _)

theorem joinLatched (h : State.Works L s t) {m : Member} {g : MemberConfig} : State.Works L s (t.joinLatched m g) :=
  ite h (onOut (onIlu h) (.trans (.handAll _) (.event ..)))

theorem unconfigure (h : State.Works L s t) {m : Member} : State.Works L s (t.unconfigure m) :=
  core h (.of_eq rfl rfl rfl)

theorem configure (h : State.Works L s t) {m : Member} {g : MemberConfig} : State.Works L s (t.configure m g) :=
  when (onOut (onIlu h) (.of_eq rfl rfl rfl)) fun _ => joinLatched (refl _)

theorem unconfigureAny (h : State.Works L s t) {o : Option Member} :
    State.Works L s (match o with | some m => t.unconfigure m | none => t) := by
  cases o with
  | some m => exact unconfigure h
  | none => exact h

theorem pulseKind (h : State.Works L s t) {on : Bool} : State.Works L s (t.onClock (Clock.pulseKind · on)) :=
  onClock h fun hk => Clock.legal_of_eq hk

theorem relabel (h : State.Works L s t) {l : Line} {k : LineKind} : State.Works L s (t.relabel l k) :=
  when (ite (pulseKind (onLine h)) (when (onLine h) fun _ => pulseKind (refl _))) fun _ => unconfigureAny (refl _)

theorem clearGroup (h : State.Works L s t) : State.Works L s t.clearGroup := by
  have hout : Outbox.Puts L t.out ((t.out.handAll t.ilu.clearMessages).event .interlockCleared .group
      (b1 t.ilu.latchedSet.length)) := .trans (.handAll _) (.event ..)
  exact core h hout (by simp only [State.core, State.clearGroup])

theorem clearEmergency (h : State.Works L s t) : State.Works L s t.clearEmergency :=
  core h (.trans (.handAll _) (.trans (.hand _) (.event ..)))

theorem latchEmergency (h : State.Works L s t) : State.Works L s t.latchEmergency :=
  core h (.trans (.handAll _) (.trans (.hand _) (.event ..)))

theorem emergencyLevel (h : State.Works L s t) {active : Bool} : State.Works L s (t.emergencyLevel active) :=
  when (onIlu h) fun _ => latchEmergency (refl _)

end State.Works

/-! ### The banks (03) -/

theorem Store.bank_onBank (k : Store) (b c : Bank) (f : SeasonBank → SeasonBank) :
    (k.onBank b f).bank c = if c = b then f (k.bank b) else k.bank c := upd_get _ _ _ _

theorem Store.bank_writeCell (k : Store) (b c : Bank) (f : SeasonBank → SeasonBank) :
    (k.writeCell b f).bank c = if c = b then f (k.bank b) else k.bank c := upd_get _ _ _ _

@[simp] theorem SeasonBank.change_state (b : SeasonBank) (f : Cell → Cell) : (b.change f).state = (f b.read).state := rfl

@[simp] theorem SeasonBank.goto_state (b : SeasonBank) (x : BankState) : (b.goto x).state = x := rfl

theorem Store.writing_op {k : Store} {b : Bank} (h : k.writing b = true) :
    k.op = some (.header b) ∨ ∃ p v, k.op = some (.page b p v) := by
  unfold Store.writing at h
  split at h
  next c hop => exact Or.inl (by rw [hop, eq_of_beq h])
  next c p v hop => exact Or.inr ⟨p, v, by rw [hop, eq_of_beq h]⟩
  · cases h

theorem Store.erasing_op {k : Store} {b : Bank} (h : k.erasing b = true) : k.op = some (.erase b) := by
  unfold Store.erasing at h
  split at h
  next c hop => rw [hop, eq_of_beq h]
  · cases h

/-- No operation is in flight on the bank, and no check reads it. -/
def State.atRest (s : State) (b : Bank) : Prop :=
  s.store.writing b = false ∧ s.store.erasing b = false ∧ ∀ k, s.check = some k → k.bank ≠ b

theorem State.atRest_of_valid {s : State} (h : Claims.storeQuiet s) {b : Bank} (hb : (s.store.bank b).state = .valid) :
    s.atRest b := by
  obtain ⟨-, hwriting, herasing, hcheck⟩ := h
  refine ⟨Bool.eq_false_iff.2 fun hw => ?_, Bool.eq_false_iff.2 fun he => (herasing b he).2.2 hb, fun k hk hkb => ?_⟩
  · simp [hwriting b hw] at hb
  · have hchecking := hcheck k hk
    rw [hkb, hb] at hchecking
    cases hchecking

/-- A bank at rest may change its state. -/
theorem storeQuiet_of_atRest {s t : State} {b : Bank} (h : Claims.storeQuiet s) (hrest : s.atRest b)
    (hboot : Boot.Works s.boot t.boot) (hop : t.store.op = s.store.op) (hcheck : t.check = s.check)
    (hbank : ∀ c, c ≠ b → (t.store.bank c).state = (s.store.bank c).state) : Claims.storeQuiet t := by
  obtain ⟨hreset, hwriting, herasing, hchecking⟩ := h
  obtain ⟨hw, he, hk⟩ := hrest
  have hwrite : ∀ c, t.store.writing c = s.store.writing c := fun c => by rw [Store.writing, Store.writing, hop]
  have herase : ∀ c, t.store.erasing c = s.store.erasing c := fun c => by rw [Store.erasing, Store.erasing, hop]
  refine ⟨fun hload => ?_, fun c hc => ?_, fun c hc => ?_, fun k hkt => ?_⟩
  · rw [hop, hcheck]
    rw [hboot.asserted, hboot.load] at hload
    exact hreset hload
  · rw [hwrite] at hc
    have hne : c ≠ b := fun hcb => by rw [hcb, hw] at hc; cases hc
    rw [hbank c hne]
    exact hwriting c hc
  · rw [herase] at hc
    have hne : c ≠ b := fun hcb => by rw [hcb, he] at hc; cases hc
    rw [hbank c hne]
    exact herasing c hc
  · rw [hcheck] at hkt
    rw [hbank _ (hk k hkt)]
    exact hchecking k hkt

/-- No bank becomes ACTIVE: both are not ACTIVE when both were not. -/
theorem oneActive_of_le {k j : Store} (h : ∀ b, (j.bank b).state = .active → (k.bank b).state = .active)
    (hone : Claims.oneActive k) : Claims.oneActive j := fun ⟨h0, h1⟩ => hone ⟨h 0 h0, h 1 h1⟩

namespace State.Works

variable {L : Set Tx} {s t u : State}

/-- A step that changes the store, the check and the outbox alone. -/
theorem storage (h : State.Works L s t) (hout : Outbox.Puts L t.out u.out)
    (hcheck : (∀ k, t.check = some k → k.faults.length ≤ 16 ∧ k.total ≤ 65535) →
      ∀ k, u.check = some k → k.faults.length ≤ 16 ∧ k.total ≤ 65535)
    (hactive : ∀ b, (u.store.bank b).state = .active → (t.store.bank b).state = .active)
    (hstore : Claims.storeQuiet t → Claims.storeQuiet u)
    (hrest : (u.pending, u.link, u.boot, u.clock, u.matrix, u.engine) =
      (t.pending, t.link, t.boot, t.clock, t.matrix, t.engine) := by rfl) : State.Works L s u := by
  simp only [Prod.mk.injEq] at hrest
  obtain ⟨hpending, hlink, hboot, hclock, hmatrix, hengine⟩ := hrest
  exact h.trans ⟨hpending, hlink ▸ rfl, hlink ▸ rfl, hboot ▸ .refl _, hclock ▸ id, hout, hmatrix ▸ .refl _,
    hengine ▸ id, hengine ▸ id, hcheck, oneActive_of_le hactive, hstore⟩

/-- The description serial number and the options of the store change. -/
theorem onStoreOptions (h : State.Works L s t) {f : Store → Store}
    (hf : (f t.store).op = t.store.op ∧ (f t.store).banks = t.store.banks := by exact ⟨rfl, rfl⟩) :
    State.Works L s (t.onStore f) := by
  have hbank : ∀ b, ((t.onStore f).store.bank b).state = (t.store.bank b).state := fun b => by
    rw [Store.bank, State.onStore_store, hf.2]
    rfl
  exact h.storage (.refl _) id (fun b hb => (hbank b) ▸ hb)
    (fun hq => storeQuiet_of_eq hq (.refl _) hf.1 rfl hbank)

theorem closeValid (h : State.Works L s t) {b : Bank} : State.Works L s (t.closeValid b) := by
  unfold State.closeValid
  split
  next hvalid =>
    have hbank := (t.store.bank_writeCell b · (SeasonBank.goto · .closed))
    refine h.storage (.event ..) id (fun c hc => ?_) fun hq =>
      storeQuiet_of_atRest hq (State.atRest_of_valid hq hvalid) (.refl _) rfl rfl fun c hne => ?_
    · rw [hbank] at hc
      split at hc
      · cases hc
      · exact hc
    · rw [hbank, if_neg hne]
  · exact h

/-! ### The check (04) -/

theorem endCheck (h : State.Works L s t) {k j : CheckContext} {x : BankState} {o : CheckOutcome}
    (hk : t.check = some k) (hbank : j.bank = k.bank) (hx : x ≠ .active) : State.Works L s (t.endCheck j x o) := by
  have hread := (t.store.bank_writeCell j.bank · fun b => b.change fun c =>
    { c with state := x, report := some (j.report o) })
  refine h.storage (.event ..) (fun _ _ hnone => nomatch hnone) (fun c hc => ?_) fun hq => ?_
  · replace hc := (congrArg SeasonBank.state (hread c)).symm.trans hc
    split at hc
    · exact absurd hc hx
    · exact hc
  · obtain ⟨hreset, hwriting, herasing, hchecking⟩ := hq
    have hstate := hchecking k hk
    refine ⟨fun hload => ⟨(hreset hload).1, rfl⟩, fun c hc => ?_, fun c hc => ?_, fun _ hnone => nomatch hnone⟩
    · have hopened := hwriting c hc
      have hne : c ≠ j.bank := fun hcb => by rw [hcb, hbank, hstate] at hopened; cases hopened
      exact (congrArg SeasonBank.state ((hread c).trans (if_neg hne))).trans hopened
    · have hkept := herasing c hc
      have hne : c ≠ j.bank := fun hcb => hkept.2.1 (by rw [hcb, hbank, hstate])
      rw [show ((t.endCheck j x o).store.bank c) = _ from (hread c).trans (if_neg hne)]
      exact hkept

theorem cutCheck (h : State.Works L s t) {o : CheckOutcome} : State.Works L s (t.cutCheck o) := by
  unfold State.cutCheck
  split
  next k hk => exact endCheck h hk rfl (by decide)
  · exact h

theorem descriptionChange (h : State.Works L s t) : State.Works L s t.descriptionChange :=
  cutCheck (closeValid (closeValid (onStoreOptions h)))

end State.Works

theorem CheckContext.fault_bounded {k : CheckContext} (f : FaultRecord)
    (h : k.faults.length ≤ 16 ∧ k.total ≤ 65535) : (k.fault f).faults.length ≤ 16 ∧ (k.fault f).total ≤ 65535 := by
  unfold CheckContext.fault Config.faultListSize Config.faultTotalMax
  dsimp only
  refine ⟨?_, min_le_right _ _⟩
  split
  · simp only [List.length_append, List.length_singleton]
    omega
  · exact h.1

theorem CheckContext.fault_bank (k : CheckContext) (f : FaultRecord) : (k.fault f).bank = k.bank := rfl

theorem CheckContext.foldl_fault (fs : List FaultRecord) (k : CheckContext)
    (h : k.faults.length ≤ 16 ∧ k.total ≤ 65535) :
    (fs.foldl CheckContext.fault k).faults.length ≤ 16 ∧ (fs.foldl CheckContext.fault k).total ≤ 65535 := by
  induction fs generalizing k with
  | nil => exact h
  | cons f fs ih => exact ih _ (k.fault_bounded f h)

theorem CheckContext.foldl_fault_bank (fs : List FaultRecord) (k : CheckContext) :
    (fs.foldl CheckContext.fault k).bank = k.bank := by
  induction fs generalizing k with
  | nil => rfl
  | cons f fs ih => exact (ih _).trans rfl

/-- A visit reports faults, then moves on: the bank, the fault list and the count are those of the reports (R66, R67). -/
theorem CheckContext.visit_reports (g : Hall) (used : List (Nat × Entry)) (k : CheckContext) :
    ∃ fs : List FaultRecord, (k.visit g used).bank = (fs.foldl CheckContext.fault k).bank ∧
      (k.visit g used).faults = (fs.foldl CheckContext.fault k).faults ∧
      (k.visit g used).total = (fs.foldl CheckContext.fault k).total := by
  have hmoved : ∀ (j : CheckContext) (p : Pass),
      (if j.place < 511 then { j with place := j.place + 1 } else { j with pass := p, place := 0 }).bank = j.bank ∧
      (if j.place < 511 then { j with place := j.place + 1 } else { j with pass := p, place := 0 }).faults = j.faults ∧
      (if j.place < 511 then { j with place := j.place + 1 } else { j with pass := p, place := 0 }).total = j.total := by
    intro j p
    split
    · exact ⟨rfl, rfl, rfl⟩
    · exact ⟨rfl, rfl, rfl⟩
  unfold CheckContext.visit
  cases k.pass with
  | entry => exact ⟨_, hmoved _ .pair⟩
  | pair => exact ⟨_, hmoved _ .horizon⟩
  | horizon =>
    dsimp only
    split
    · exact ⟨horizonFaults used, rfl, rfl, rfl⟩
    · exact ⟨[], rfl, rfl, rfl⟩

theorem CheckContext.visit_bounded (g : Hall) (used : List (Nat × Entry)) (k : CheckContext)
    (h : k.faults.length ≤ 16 ∧ k.total ≤ 65535) :
    (k.visit g used).faults.length ≤ 16 ∧ (k.visit g used).total ≤ 65535 := by
  obtain ⟨fs, -, hfaults, htotal⟩ := k.visit_reports g used
  rw [hfaults, htotal]
  exact CheckContext.foldl_fault fs k h

theorem CheckContext.visit_bank (g : Hall) (used : List (Nat × Entry)) (k : CheckContext) :
    (k.visit g used).bank = k.bank := by
  obtain ⟨fs, hbank, -⟩ := k.visit_reports g used
  exact hbank.trans (CheckContext.foldl_fault_bank fs k)

theorem CheckContext.visits_bounded (g : Hall) (used : List (Nat × Entry)) (n : Nat) (k : CheckContext)
    (h : k.faults.length ≤ 16 ∧ k.total ≤ 65535) :
    (k.visits g used n).faults.length ≤ 16 ∧ (k.visits g used n).total ≤ 65535 := by
  induction n generalizing k with
  | zero => exact h
  | succ n ih => exact ih _ (k.visit_bounded g used h)

theorem CheckContext.visits_bank (g : Hall) (used : List (Nat × Entry)) (n : Nat) (k : CheckContext) :
    (k.visits g used n).bank = k.bank := by
  induction n generalizing k with
  | zero => rfl
  | succ n ih => exact (ih _).trans (k.visit_bank g used)

namespace State.Works

variable {L : Set Tx} {s t u : State}

/-- The running check goes on, on its bank. -/
theorem goesOn (h : State.Works L s t) {k j : CheckContext} (hk : t.check = some k) (hbank : j.bank = k.bank)
    (hbounded : k.faults.length ≤ 16 ∧ k.total ≤ 65535 → j.faults.length ≤ 16 ∧ j.total ≤ 65535) :
    State.Works L s { t with check := some j } := by
  refine h.storage (.refl _) (fun hb i hi => ?_) (fun _ => id) fun hq => ?_
  · obtain rfl := Option.some.inj hi
    exact hbounded (hb k hk)
  · obtain ⟨hreset, hwriting, herasing, hchecking⟩ := hq
    refine ⟨fun hload => ?_, hwriting, herasing, fun i hi => ?_⟩
    · have hnone := (hreset hload).2
      rw [hk] at hnone
      cases hnone
    · obtain rfl := Option.some.inj hi
      rw [hbank]
      exact hchecking k hk

theorem checkVisits (h : State.Works L s t) {n : Nat} : State.Works L s (t.checkVisits n) := by
  unfold State.checkVisits
  split
  · exact h
  next k hk => exact goesOn h hk (k.visits_bank ..) (CheckContext.visits_bounded _ _ _ k)

theorem checkCompletes (h : State.Works L s t) {k : CheckContext} (hk : t.check = some k) {g : Hall}
    {used : List (Nat × Entry)} {n : Nat} :
    State.Works L s (if (k.visits g used n).total = 0 then t.endCheck (k.visits g used n) .valid .valid
      else t.endCheck (k.visits g used n) .rejected .rejected) :=
  ite (endCheck h hk (k.visits_bank ..) (by decide)) (endCheck h hk (k.visits_bank ..) (by decide))

theorem tickCheck (h : State.Works L s t) : State.Works L s t.tickCheck := by
  unfold State.tickCheck
  split
  · exact h
  next k hk =>
    have hgoes : State.Works L s { t with check := some { k with ticks := min (k.ticks + 1) Config.checkTicks } } :=
      goesOn h hk rfl id
    exact when (checkVisits (core (u := { t with
      freeCount := t.freeCount + 1, check := some { k with ticks := min (k.ticks + 1) Config.checkTicks } })
      hgoes (.refl _))) fun _ => onOut (refl _) (.hand _)

end State.Works

/-! ### The store controller (03) -/

namespace State.Works

variable {L : Set Tx} {s t u : State}

/-- A bank's pages and the controller's operation change, no state cell; the new operation suits the bank's state. -/
theorem onStoreOp (h : State.Works L s t) {f : Store → Store}
    (hbank : ∀ b, ((f t.store).bank b).state = (t.store.bank b).state)
    (hop : Claims.storeQuiet t → ((t.boot.asserted = true ∨ t.boot.phase = .load) → (f t.store).op = none) ∧
      (∀ b, (f t.store).writing b = true → (t.store.bank b).state = .opened) ∧
      ∀ b, (f t.store).erasing b = true → (t.store.bank b).state ≠ .active ∧ (t.store.bank b).state ≠ .checking ∧
        (t.store.bank b).state ≠ .valid) : State.Works L s (t.onStore f) := by
  refine h.storage (.refl _) id (fun b hb => (hbank b) ▸ hb) fun hq => ?_
  obtain ⟨hreset, hwriting, herasing⟩ := hop hq
  refine ⟨fun hload => ⟨hreset hload, (hq.1 hload).2⟩, fun b hb => ?_, fun b hb => ?_, fun k hk => ?_⟩
  · rw [State.onStore_store, hbank]
    exact hwriting b hb
  · rw [State.onStore_store, hbank]
    exact herasing b hb
  · rw [State.onStore_store, hbank]
    exact hq.2.2.2 k hk

/-- The controller returns to IDLE with a bank's pages changed (R36). -/
theorem idles (h : State.Works L s t) {f : Store → Store} (hop : (f t.store).op = none)
    (hbank : ∀ b, ((f t.store).bank b).state = (t.store.bank b).state) : State.Works L s (t.onStore f) := by
  refine onStoreOp h hbank fun _ => ⟨fun _ => hop, fun b hb => ?_, fun b hb => ?_⟩
  · rcases Store.writing_op hb with hw | ⟨_, _, hw⟩ <;> simp [hop] at hw
  · have he := Store.erasing_op hb
    simp [hop] at he

/-- A bank's cell is written while the controller has an operation of its own in flight, or none. -/
theorem writesCell (h : State.Works L s t) {f : Store → Store} {b : Bank}
    (hother : ∀ c, c ≠ b → ((f t.store).bank c).state = (t.store.bank c).state)
    (hactive : ((f t.store).bank b).state = .active → (t.store.bank b).state = .active)
    (hreset : (t.boot.asserted = true ∨ t.boot.phase = .load) → (f t.store).op = none)
    (hwriting : Claims.storeQuiet t → ∀ c, (f t.store).writing c = true → ((f t.store).bank c).state = .opened)
    (herasing : Claims.storeQuiet t → ∀ c, (f t.store).erasing c = true → ((f t.store).bank c).state ≠ .active ∧
      ((f t.store).bank c).state ≠ .checking ∧ ((f t.store).bank c).state ≠ .valid)
    (hcheck : Claims.storeQuiet t → ∀ k, t.check = some k → k.bank ≠ b) : State.Works L s (t.onStore f) := by
  refine h.storage (.refl _) id (fun c hc => ?_) fun hq => ⟨fun hload => ⟨hreset hload, (hq.1 hload).2⟩,
    hwriting hq, herasing hq, fun k hk => ?_⟩
  · by_cases hcb : c = b
    · subst hcb
      exact hactive hc
    · rw [← hother c hcb]
      exact hc
  · rw [State.onStore_store, hother _ (hcheck hq k hk)]
    exact hq.2.2.2 k hk

end State.Works

end Sys2Proof.Machine

/-! What the Schedule Engine's operations keep (05): the Upcoming List within its capacity (R70), a halted engine empty
(R67), and one bank ACTIVE at most (R88). -/

namespace Sys2Proof.Machine

/-! ### Operations that leave the engine's state -/

/-- What an operation keeps that leaves the engine's state as it is. -/
structure State.Schedules (L : Set Tx) (s t : State) : Prop where
  works : State.Works L s t
  state : t.engine.state = s.engine.state

/-- Fewer firings, and nothing carried or filled anew. -/
def Engine.shrinks (g k : Engine) : Prop :=
  k.upcoming.length ≤ g.upcoming.length ∧ k.carried.length ≤ g.carried.length ∧ k.fill = g.fill

theorem haltedEmpty_of_shrinks {g k : Engine} (h : Claims.haltedEmpty g) (hstate : k.state = g.state)
    (hless : g.shrinks k) : Claims.haltedEmpty k := by
  obtain ⟨hupcoming, hcarried, hfill⟩ := hless
  intro hhalted
  obtain ⟨hnone, hnothing, hpoint⟩ := h (hstate ▸ hhalted)
  rw [hnone] at hupcoming
  rw [hnothing] at hcarried
  exact ⟨List.eq_nil_of_length_eq_zero (Nat.le_zero.1 hupcoming),
    List.eq_nil_of_length_eq_zero (Nat.le_zero.1 hcarried), hfill.trans hpoint⟩

theorem Engine.fire_shrinks (g : Engine) (entry day : Nat) : g.shrinks (g.fire entry day) := ⟨le_refl _, le_refl _, rfl⟩

theorem Engine.uncarry_shrinks (g : Engine) (t : Tx) (b : Bank) (entry day : Nat) :
    g.shrinks (g.uncarry t b entry day) := ⟨le_refl _, List.length_filter_le .., rfl⟩

theorem Engine.halt_empty (g : Engine) : Claims.haltedEmpty g.halt := fun _ => ⟨rfl, rfl, rfl⟩

theorem haltedEmpty_of_runs {g : Engine} (h : g.state ≠ .halted) : Claims.haltedEmpty g := fun hhalted => absurd hhalted h

@[simp] theorem Engine.halt_state (g : Engine) : g.halt.state = .halted := rfl

/-- A fill stops at the list's capacity (R70). -/
theorem State.fillMinutes_bounded (s : State) (n : Nat) (k : Filling) (h : k.list.length ≤ 128) :
    (s.fillMinutes n k).list.length ≤ 128 := by
  induction n generalizing k with
  | zero => exact h
  | succ n ih =>
    unfold State.fillMinutes Config.upcomingSize
    dsimp only
    split
    next hroom =>
      refine ih _ ?_
      rw [List.length_append]
      omega
    next hfull =>
      simp only [List.length_append, List.length_take]
      omega

namespace State.Schedules

variable {L : Set Tx} {s t u : State}

theorem refl (s : State) : State.Schedules L s s := ⟨.refl _, rfl⟩

theorem trans (h : State.Schedules L s t) (g : State.Schedules L t u) : State.Schedules L s u :=
  ⟨h.works.trans g.works, g.state.trans h.state⟩

theorem ite {p : Prop} [Decidable p] (h : State.Schedules L s t) (g : State.Schedules L s u) :
    State.Schedules L s (if p then t else u) := by
  split
  · exact h
  · exact g

theorem foldl {α : Type} {f : State → α → State} (h : State.Schedules L s t)
    (hf : ∀ x a, State.Schedules L x (f x a)) {xs : List α} : State.Schedules L s (xs.foldl f t) := by
  induction xs generalizing t with
  | nil => exact h
  | cons a xs ih => exact ih (h.trans (hf t a))

theorem onOut (h : State.Schedules L s t) {f : Outbox → Outbox} (hf : Outbox.Puts L t.out (f t.out)) :
    State.Schedules L s (t.onOut f) := ⟨h.works.onOut hf, h.state⟩

theorem csq (h : State.Schedules L s t) {v : Tx} {f : Env → Bench → Bench} (hf : ∀ b, Bench.Puts (t.env v) L b (f (t.env v) b)) :
    State.Schedules L s (t.csq v f) := ⟨h.works.csq hf, h.state⟩

theorem onEach (h : State.Schedules L s t) {f : Env → Bench → Bench} (hf : ∀ e b, Bench.Puts e L b (f e b)) :
    State.Schedules L s (t.onEach f) := h.foldl fun x _ => ⟨.onStation (.refl x) (hf _), rfl⟩

theorem onEngine (h : State.Schedules L s t) {f : Engine → Engine} (hstate : (f t.engine).state = t.engine.state)
    (hless : t.engine.shrinks (f t.engine)) : State.Schedules L s (t.onEngine f) :=
  ⟨h.works.onEngine hless.1.trans (haltedEmpty_of_shrinks · hstate hless), hstate.trans h.state⟩

theorem fire (h : State.Schedules L s t) {entry day : Nat} :
    State.Schedules L s (t.onEngine fun g => g.fire entry day) := h.onEngine rfl (Engine.fire_shrinks ..)

theorem uncarry (h : State.Schedules L s t) {v : Tx} {b : Bank} {entry day : Nat} :
    State.Schedules L s (t.onEngine fun g => g.uncarry v b entry day) := h.onEngine rfl (Engine.uncarry_shrinks ..)

theorem listed (h : State.Schedules L s t) {fs : List Firing} (hless : fs.length ≤ t.engine.upcoming.length) :
    State.Schedules L s (t.listed fs) := h.onEngine rfl ⟨hless, le_refl _, rfl⟩

/-! ### The Upcoming List (R69, R70) -/

theorem refill (h : State.Schedules L s t) {now : Nat} : State.Schedules L s (t.refill now) := by
  unfold State.refill
  split
  · exact h
  next f hf =>
    have hfilled : State.Schedules L s (t.onEngine fun g => { g with
        upcoming := (t.fillMinutes (now + 60 - f.next)
          { list := t.engine.upcoming, next := f.next, placed := f.placed, left := none }).list
        fill := some { next := (t.fillMinutes (now + 60 - f.next)
            { list := t.engine.upcoming, next := f.next, placed := f.placed, left := none }).next
                       placed := (t.fillMinutes (now + 60 - f.next)
            { list := t.engine.upcoming, next := f.next, placed := f.placed, left := none }).placed }
        leftOut := (t.fillMinutes (now + 60 - f.next)
          { list := t.engine.upcoming, next := f.next, placed := f.placed, left := none }).left.isSome }) := by
      refine ⟨h.works.onEngine (fun hlist => t.fillMinutes_bounded _ _ hlist) fun hempty => ?_, h.state⟩
      refine haltedEmpty_of_runs fun hhalted => ?_
      rw [(hempty hhalted).2.2] at hf
      cases hf
    exact ite (onOut hfilled (.event ..)) hfilled

/-- A running or draining engine builds its list anew (R70). -/
theorem rebuild (h : State.Schedules L s t) (hruns : s.engine.state ≠ .halted) {now : Nat} :
    State.Schedules L s (t.rebuild now) := by
  have hempty : State.Schedules L s
      (t.onEngine fun g => { g with upcoming := [], fill := some { next := now, placed := 0 } }) :=
    ⟨h.works.onEngine (fun _ => Nat.zero_le _) fun _ => haltedEmpty_of_runs (h.state.trans_ne hruns), h.state⟩
  exact refill hempty

/-! ### Taking firings (R78-R85) -/

theorem missStart (h : State.Schedules L s t) {b : Bank} {e : Entry} {day : Nat} {why : Detail} :
    State.Schedules L s (t.missStart b e day why) := h.onOut (.missed ..)

theorem closeReplaced (h : State.Schedules L s t) {v : Tx} {why : Detail} :
    State.Schedules L s (t.closeReplaced v why) := by
  unfold State.closeReplaced
  split
  · exact h
  · dsimp only
    split
    · exact uncarry (csq h fun b => .workEnded (.endRecord (.refl b)))
    · exact csq h fun b => .workEnded (.endRecord (.refl b))

theorem handStart (h : State.Schedules L s t) {v : Tx} {q : StartRequest} {followed : Bool} :
    State.Schedules L s (t.handStart v q followed) := by
  have hlate : State.Schedules L s (if q.late then t.onOut fun o => o.event .lateStart (.transmitter v) [] else t) :=
    ite (onOut h (.event ..)) h
  unfold State.handStart
  refine csq (ite hlate ?_) fun b => .begin_ (.refl b)
  split
  · exact closeReplaced hlate
  · exact hlate

theorem takeStart (h : State.Schedules L s t) {b : Bank} {e : Entry} {day : Nat} {late followed : Bool} :
    State.Schedules L s (t.takeStart b e day late followed) := by
  unfold State.takeStart
  refine ite h (ite (missStart (fire h)) ?_)
  split
  · exact missStart (fire h)
  · exact csq (fire h) fun b => .place (.refl b)
  · exact handStart (fire h)

theorem fireStart (h : State.Schedules L s t) {f : Firing} {followed : Bool} :
    State.Schedules L s (t.fireStart f followed) := by
  unfold State.fireStart
  split
  · exact takeStart h
  · exact h

theorem fireEnd (h : State.Schedules L s t) {f : Firing} : State.Schedules L s (t.fireEnd f) :=
  uncarry (csq (ite (csq h fun b => .endWork (.refl b)) h) fun b => .missIf (.refl b))

theorem firePair (h : State.Schedules L s t) {f g : Firing} : State.Schedules L s (t.firePair f g) :=
  ite (fireStart (closeReplaced h)) (fireStart (fireEnd h))

theorem takeDue (h : State.Schedules L s t) {now n : Nat} : State.Schedules L s (State.takeDue now n t) := by
  induction n generalizing t with
  | zero => exact h
  | succ n ih =>
    unfold State.takeDue
    split
    · exact h
    next f rest hlist =>
      have hrest : rest.length ≤ t.engine.upcoming.length := by simp [hlist]
      have herase : ∀ g, (rest.erase g).length ≤ t.engine.upcoming.length := fun g =>
        List.length_erase_le.trans hrest
      have hnext : ∀ g, (f :: rest.erase g).length ≤ t.engine.upcoming.length := fun g => by
        rw [hlist, List.length_cons, List.length_cons]
        exact Nat.succ_le_succ List.length_erase_le
      refine ite h ?_
      split
      · exact ih (fireStart (listed h hrest))
      · split
        · exact ite (ih (fireEnd (listed h (hnext _)))) (ih (fireEnd (listed h hrest)))
        · exact ih (firePair (listed h (herase _)))
        · exact ih (fireEnd (listed h hrest))

theorem scanWindow (h : State.Schedules L s t) {b : Bank} {e : Entry} {now day : Nat} :
    State.Schedules L s (State.scanWindow b e now day t) := ite (ite (takeStart h) (missStart (fire h))) h

theorem lateScan (h : State.Schedules L s t) {now : Nat} : State.Schedules L s (t.lateScan now) := by
  unfold State.lateScan
  split
  · exact h
  · exact foldl h fun x e => ite (scanWindow (refl x)) (scanWindow (scanWindow (refl x)))

/-! ### Running and the clock-step rules (R73, R86) -/

theorem endPassed (h : State.Schedules L s t) {now : Nat} {v : Tx} :
    State.Schedules L s (State.endPassed now t v) := by
  unfold State.endPassed
  split
  · exact ite (uncarry (csq h fun b => .endWork (.refl b))) h
  · exact h

theorem missPassed (h : State.Schedules L s t) {b : Bank} {q : Entry × Nat} :
    State.Schedules L s (State.missPassed b t q) := ite h (missStart (fire h))

theorem clockStepRules (h : State.Schedules L s t) (hruns : s.engine.state ≠ .halted) {previous now : Nat} :
    State.Schedules L s (t.clockStepRules previous now) := by
  unfold State.clockStepRules
  refine rebuild (ite (onEach (foldl ?_ fun x v => endPassed (refl x)) fun e b => .reportRow (.missIf (.refl b))) h) hruns
  split
  · exact foldl h fun x q => missPassed (refl x)
  · exact h

theorem serveBoundary (h : State.Schedules L s t) (hruns : s.engine.state ≠ .halted) {b : Boundary} {switched : Bool} :
    State.Schedules L s (t.serveBoundary b switched) := by
  have hkind : State.Schedules L s (match b.kind with
      | .step => t.clockStepRules (b.previous.getD b.now) b.now
      | .advance => if switched then t.rebuild b.now else t) := by
    cases b.kind with
    | step => exact clockStepRules h hruns
    | advance => exact ite (rebuild h hruns) h
  unfold State.serveBoundary
  exact ite (lateScan (refill (takeDue hkind))) (refill (takeDue hkind))

end State.Schedules

/-! ### Starting, halting and draining (R73-R76) -/

namespace State.Works

variable {L : Set Tx} {s t u : State}

theorem startEngine (h : State.Works L s t) {now : Nat} : State.Works L s (t.startEngine now) := by
  have hruns : State.Works L s (t.onEngine fun g => { g with state := .running, armed := false }) :=
    onEngine h id fun _ => haltedEmpty_of_runs nofun
  refine hruns.trans (State.Schedules.works ?_)
  exact .lateScan (.takeDue (.rebuild (.foldl (.refl _) fun x v => .endPassed (.refl x)) (show EngineState.running ≠ .halted by decide)))

theorem drainTest (h : State.Works L s t) : State.Works L s t.drainTest :=
  when h fun _ => onEngine (refl _) (fun _ => Nat.zero_le _) fun _ => Engine.halt_empty t.engine

theorem missHalted (h : State.Works L s t) : State.Works L s t.missHalted :=
  onEach h fun _ b => .reportRow (.missIf (.refl b))

/-- HALT with mode DRAIN leaves the ENDs alone in the list (R74). -/
theorem drains (h : State.Works L s t) : State.Works L s (t.onEngine fun g =>
    { g with state := .draining, armed := false, upcoming := g.upcoming.filter fun f => f.kind == .end_ }) :=
  onEngine h (List.length_filter_le ..).trans fun _ => haltedEmpty_of_runs nofun

/-- HALT with mode STOP empties the engine (R76). -/
theorem halts (h : State.Works L s t) : State.Works L s (t.onEngine fun g => { g.halt with armed := false }) :=
  onEngine h (fun _ => Nat.zero_le _) fun _ _ => ⟨rfl, rfl, rfl⟩

/-- The record of a work that has ended is carried no longer (R89). -/
theorem uncarry (h : State.Works L s t) {v : Tx} {b : Bank} {entry day : Nat} :
    State.Works L s (t.onEngine fun g => g.uncarry v b entry day) :=
  h.trans (State.Schedules.works (.uncarry (.refl _)))

end State.Works

/-! ### The season switch (R88-R90) -/

theorem otherBank_ne (b : Bank) : otherBank b ≠ b := by
  revert b
  decide

theorem eq_otherBank {b c : Bank} (h : c ≠ b) : c = otherBank b := by
  revert b c
  decide

/-- The bank that a boundary makes ACTIVE is VALID. -/
theorem State.switchTo_valid {s : State} {now : Nat} {b : Bank} (h : s.switchTo now = some b) :
    (s.store.bank b).state = .valid := by
  have heligible : s.eligible now b = true := by
    unfold State.switchTo at h
    split at h
    next hboth =>
      split at h
      · exact Option.some.inj h ▸ hboth.1
      · exact Option.some.inj h ▸ hboth.2
    · split at h
      next h0 => exact Option.some.inj h ▸ h0
      · split at h
        next h1 => exact Option.some.inj h ▸ h1
        · cases h
  simp only [State.eligible, Bool.and_eq_true, beq_iff_eq] at heligible
  exact heligible.1

theorem State.atRest_of_active {s : State} (h : Claims.storeQuiet s) {b : Bank}
    (hb : (s.store.bank b).state = .active) : s.atRest b := by
  obtain ⟨-, hwriting, herasing, hcheck⟩ := h
  refine ⟨Bool.eq_false_iff.2 fun hw => ?_, Bool.eq_false_iff.2 fun he => (herasing b he).1 hb, fun k hk hkb => ?_⟩
  · simp [hwriting b hw] at hb
  · have hchecking := hcheck k hk
    rw [hkb, hb] at hchecking
    cases hchecking

theorem Store.activate_op (k : Store) (b : Bank) (retire : Bool) : (k.activate b retire).op = k.op := by
  cases retire <;> rfl

theorem Store.activate_bank (k : Store) (b : Bank) (retire : Bool) : ((k.activate b retire).bank b).state = .active := by
  unfold Store.activate
  dsimp only
  split
  · rw [Store.bank_writeCell, if_neg (otherBank_ne b).symm, Store.bank_writeCell, if_pos rfl]
    rfl
  · rw [Store.bank_writeCell, if_pos rfl]
    rfl

theorem Store.activate_other (k : Store) (b : Bank) (retire : Bool) :
    ((k.activate b retire).bank (otherBank b)).state =
      if retire then .retired else (k.bank (otherBank b)).state := by
  unfold Store.activate
  dsimp only
  split
  · rw [Store.bank_writeCell, if_pos rfl]
    rfl
  · rw [Store.bank_writeCell, if_neg (otherBank_ne b)]

namespace State.Works

variable {L : Set Tx} {s t u : State}

/-- A VALID bank becomes ACTIVE, and the other RETIRED if it was ACTIVE or VALID (R88). -/
theorem activate (h : State.Works L s t) {b : Bank} {retire : Bool} (hb : (t.store.bank b).state = .valid)
    (hactive : (t.store.bank (otherBank b)).state = .active → retire = true)
    (hretire : retire = true → (t.store.bank (otherBank b)).state = .active ∨
      (t.store.bank (otherBank b)).state = .valid) :
    State.Works L s (t.onStore fun k => k.activate b retire) := by
  refine h.trans ⟨rfl, rfl, rfl, .refl _, id, .refl _, .refl _, id, id, id, fun _ hboth => ?_, fun hq => ?_⟩
  · have hother : ((t.store.activate b retire).bank (otherBank b)).state = .active := by
      obtain ⟨h0, h1⟩ := hboth
      fin_cases b
      · exact h1
      · exact h0
    rw [Store.activate_other] at hother
    split at hother
    · cases hother
    next hkept => exact hkept (hactive hother)
  · have hrest : ∀ c, c = b ∨ retire = true → t.atRest c := by
      intro c hc
      by_cases hcb : c = b
      · exact hcb ▸ State.atRest_of_valid hq hb
      · rw [eq_otherBank hcb]
        rcases hretire (hc.resolve_left hcb) with ho | ho
        · exact State.atRest_of_active hq ho
        · exact State.atRest_of_valid hq ho
    obtain ⟨hreset, hwriting, herasing, hcheck⟩ := hq
    have hw : ∀ c, (t.store.activate b retire).writing c = t.store.writing c := fun c => by
      rw [Store.writing, Store.writing, Store.activate_op]
    have he : ∀ c, (t.store.activate b retire).erasing c = t.store.erasing c := fun c => by
      rw [Store.erasing, Store.erasing, Store.activate_op]
    have hkept : ∀ c, ¬ t.atRest c → ((t.store.activate b retire).bank c).state = (t.store.bank c).state := by
      intro c hbusy
      have hcb : c ≠ b := fun hcb => hbusy (hrest c (Or.inl hcb))
      have hretires : retire ≠ true := fun hr => hbusy (hrest c (Or.inr hr))
      rw [eq_otherBank hcb, Store.activate_other, if_neg hretires]
    refine ⟨fun hload => ?_, fun c hc => ?_, fun c hc => ?_, fun k hk => ?_⟩
    · exact ⟨(Store.activate_op ..).trans (hreset hload).1, (hreset hload).2⟩
    · rw [State.onStore_store, hw] at hc
      rw [State.onStore_store, hkept c fun hr => by simp [hr.1] at hc]
      exact hwriting c hc
    · rw [State.onStore_store, he] at hc
      rw [State.onStore_store, hkept c fun hr => by simp [hr.2.1] at hc]
      exact herasing c hc
    · rw [State.onStore_store, hkept k.bank fun hr => hr.2.2 k hk rfl]
      exact hcheck k hk

/-- The Fired Table is emptied (R88). -/
theorem forgetFired (h : State.Works L s t) :
    State.Works L s (t.onEngine fun g => { g with fired := Vector.replicate 512 none }) := onEngine h id id

theorem carry (h : State.Schedules L s t) (hruns : s.engine.state ≠ .halted) {retired : Bank} {v : Tx} :
    State.Schedules L s (State.carry retired t v) := by
  unfold State.carry
  split
  next w _ =>
    have hcarry : (t.engine.carry v w).state = t.engine.state ∧ (t.engine.carry v w).upcoming = t.engine.upcoming := by
      unfold Engine.carry
      dsimp only
      split
      · exact ⟨rfl, rfl⟩
      · exact ⟨rfl, rfl⟩
    obtain ⟨hstate, hupcoming⟩ := hcarry
    refine .ite ⟨h.works.onEngine (by rw [hupcoming]; exact id) fun _ => ?_, hstate.trans h.state⟩ h
    exact haltedEmpty_of_runs ((hstate.trans h.state).trans_ne hruns)
  · exact h

/-- What a season switch does with the schedule's work (R76, R89). -/
theorem switched (h : State.Works L s t) {other : Bank} : State.Works L s
    (if t.engine.state = .halted then t.onEach (Bench.release (some other))
      else (allTx.foldl (State.carry other) t).onEach fun e x =>
        (Bench.missIf (fun w => w.bank == other) .season e x).reportRow e) := by
  split
  · exact onEach h fun _ x => .release (.refl x)
  next hruns =>
    have hcarried : ∀ (vs : List Tx) (x y : State), State.Schedules L x y → x.engine.state ≠ .halted →
        State.Schedules L x (vs.foldl (State.carry other) y) := by
      intro vs
      induction vs with
      | nil => exact fun _ _ hxy _ => hxy
      | cons v vs ih => exact fun x y hxy hx => ih x _ (carry hxy hx) hx
    exact onEach (h.trans (hcarried allTx _ _ (.refl _) hruns).works) fun _ x => .reportRow (.missIf (.refl x))

theorem makeSwitch (h : State.Works L s t) {now : Nat} {b : Bank} (hb : (t.store.bank b).state = .valid) :
    State.Works L s (t.makeSwitch now b) := by
  refine switched (forgetFired (onOut (activate h hb (fun hactive => ?_) fun hretire => ?_) (.event ..)))
  · simp [hactive]
  · rw [Bool.or_eq_true] at hretire
    rcases hretire with ho | ho
    · exact Or.inl (eq_of_beq ho)
    · simp only [State.eligible, Bool.and_eq_true, beq_iff_eq] at ho
      exact Or.inr ho.1

theorem missSeason (h : State.Works L s t) {previous now : Nat} {b : Bank} :
    State.Works L s (State.missSeason previous now t b) := ite (onOut h (.event ..)) h

theorem seasonStep (h : State.Works L s t) {previous now : Nat} : State.Works L s (t.seasonStep previous now) := by
  unfold State.seasonStep
  refine foldl ?_ fun x b => missSeason (refl x)
  split
  next b hb => exact makeSwitch h (State.switchTo_valid hb)
  · exact h

/-- What a boundary does after the season (R71, R77). -/
theorem boundaryServed (h : State.Works L s t) {b : Boundary} {switched : Bool} : State.Works L s
    (if t.engine.state = .halted then
      (if t.engine.armed ∧ b.clockSet ∧ t.store.active.isSome then t.startEngine b.now else t)
      else t.serveBoundary b switched) := by
  split
  · exact ite (startEngine h) h
  next hruns => exact h.trans (State.Schedules.works (.serveBoundary (.refl _) hruns))

theorem boundary (h : State.Works L s t) {b : Boundary} : State.Works L s (t.boundary b) :=
  boundaryServed (ite (seasonStep h) h)

end State.Works

end Sys2Proof.Machine

/-! What the phase tick, its samples and the steps of start-up keep (02, 08, 11), and what a reset leaves. -/

namespace Sys2Proof.Machine

/-! ### Start-up's steps 3 to 6 (R207-R209) -/

/-- The hall is found, and its holds, gates and suspension sources are in force (R207 step 4). -/
def State.hallInForce (percent : Nat) (s : State) : State :=
  ((s.onOut fun o => { o with handed := [] }).findHall percent).out.handed.foldl State.putInForce
    (((s.onOut fun o => { o with handed := [] }).findHall percent).onOut fun o =>
      { o with handed := s.out.handed.filter fun i => !levelChange i })

theorem State.evaluateHall_eq (percent : Nat) (s : State) : s.evaluateHall percent =
    ({ s.hallInForce percent with boot := { (s.hallInForce percent).boot with phase := .query } } : State).onEach
      fun e b => (b.ask e).reportRow e := by
  simp only [State.evaluateHall, State.hallInForce]

namespace State.Works

variable {L : Set Tx} {s t u : State}

/-- Start-up passes to another of its steps: neither its first nor its end. -/
theorem setPhase (h : State.Works L s t) {b : Boot} (hload : t.boot.phase ≠ .load) (hasserted : b.asserted = t.boot.asserted)
    (hb : b.phase ≠ .load) (hdone : b.phase = .done → t.boot.phase = .done) :
    State.Works L s { t with boot := b } := by
  have hboot : Boot.Works t.boot b := ⟨hasserted, iff_of_false hb hload, hdone⟩
  exact h.trans ⟨rfl, rfl, rfl, hboot, id, .refl _, .refl _, id, id, id, id,
    fun hq => storeQuiet_of_eq hq hboot rfl rfl fun _ => rfl⟩

theorem endTable (h : State.Works L s t) (hphase : t.boot.phase = .table) : State.Works L s t.endTable :=
  setPhase h (by rw [hphase]; decide) rfl (show BootPhase.evaluate ≠ .load by decide) nofun

theorem evaluateMember (h : State.Works L s t) {m : Member} : State.Works L s (t.evaluateMember m) := by
  unfold State.evaluateMember
  split
  · exact h
  · exact when (onIlu h) fun _ => joinLatched (refl _)

theorem putInForce (h : State.Works L s t) {i : Instr} : State.Works L s (t.putInForce i) := by
  unfold State.putInForce
  split
  · exact csq h fun b => .holdAdd (.refl b)
  · exact onMatrix h (Board.service_works _ _ _)
  · exact onMatrix h (Board.suspend_works _ _)
  · exact h

theorem findHall (h : State.Works L s t) {percent : Nat} : State.Works L s (t.findHall percent) :=
  foldl (when (when h fun _ => mainsDip (refl _)) fun _ => latchEmergency (refl _)) fun x _ => evaluateMember (refl x)

/-- The messages on their way are put aside, or put back. -/
theorem setHanded (h : State.Works L s t) {is : List Instr} :
    State.Works L s (t.onOut fun o => { o with handed := is }) := onOut h (.of_eq rfl rfl rfl)

/-- The queries begin when the hall has been evaluated (R207). -/
theorem queries (h : State.Works L s t) (hphase : s.boot.phase = .evaluate) :
    State.Works L s { t with boot := { t.boot with phase := .query } } := by
  have hload : t.boot.phase ≠ .load := fun hl => by
    rw [h.boot.load, hphase] at hl
    cases hl
  exact setPhase h hload rfl (show BootPhase.query ≠ .load by decide) nofun

theorem hallInForce (h : State.Works L s t) {percent : Nat} : State.Works L s (t.hallInForce percent) :=
  foldl (setHanded (findHall (setHanded h))) fun x _ => putInForce (refl x)

theorem evaluateHall (h : State.Works L s t) (hphase : t.boot.phase = .evaluate) {percent : Nat} :
    State.Works L s (t.evaluateHall percent) := by
  rw [t.evaluateHall_eq percent]
  exact h.trans (onEach (queries (hallInForce (refl t)) hphase) fun _ b => .reportRow (.ask (.refl b)))

theorem adoptOrMute (h : State.Works L s t) {v : Tx} : State.Works L s (t.adoptOrMute v) := by
  unfold State.adoptOrMute
  refine ite h ?_
  split
  · exact (csq h fun b => .adopt (.refl b)).trans (State.Schedules.works (.fire (.refl _)))
  · exact csq h fun b => .muteCandidate (.refl b)

theorem muteOther (h : State.Works L s t) {v : Tx} : State.Works L s (t.muteOther v) :=
  ite h (csq h fun b => .sendMute (.refl b))

theorem adopts (h : State.Works L s t) (hphase : t.boot.phase = .query) : State.Works L s
    (allTx.foldl State.muteOther (allTx.foldl State.adoptOrMute { t with boot := { t.boot with phase := .adopt } })) := by
  have hadopt : State.Works L s { t with boot := { t.boot with phase := .adopt } } :=
    setPhase h (by rw [hphase]; decide) rfl (show BootPhase.adopt ≠ .load by decide) nofun
  exact foldl (foldl hadopt fun x v => adoptOrMute (refl x)) fun x v => muteOther (refl x)

/-! ### One sample instant (R20, R145, R166, R171) -/

theorem sampleReference (h : State.Works L s t) {good : Bool} : State.Works L s (t.sampleReference good) :=
  ite (referenceGood h) (referenceFails h)

theorem sampleLine (h : State.Works L s t) {high : Bool} {l : Line} : State.Works L s (t.sampleLine high l) :=
  ite h (ite (ite (secondPulse h) (onLine h)) (ite (acceptLevel h) (onLine h)))

theorem sampleEmergency (h : State.Works L s t) {high : Bool} : State.Works L s (t.sampleEmergency high) :=
  ite (emergencyLevel h) (onIlu h)

theorem sampleMains (h : State.Works L s t) {percent : Nat} : State.Works L s (t.sampleMains percent) := by
  unfold State.sampleMains
  split
  next hphase => exact ite (evaluateHall h hphase) h
  · exact mainsSample h

theorem sampleStation (h : State.Works L s t) {instant : Nat} {d : Detectors} {v : Tx} (hv : v ∈ L) :
    State.Works L s (t.sampleStation instant d v) :=
  csq (when (when h fun _ => csq (refl _) fun b => .sampleReflected (.refl b))
    fun _ => csq (refl _) fun b => .sampleForward (.refl b)) fun b => .sampleAbsent (.refl b) hv

theorem sample (h : State.Works Set.univ s t) {instant : Nat} {i : Inputs} :
    State.Works Set.univ s (State.sample instant i t) := by
  have hreference := sampleReference h (good := i.reference)
  have hlines := foldl hreference (f := fun s l => s.sampleLine (i.pins.getLsbD l.val) l) (fun x l => sampleLine (refl x))
    (xs := allLines)
  exact ite hreference (foldl (sampleMains (sampleEmergency hlines)) fun x v => sampleStation (refl x) (Set.mem_univ v))

theorem passInstant (h : State.Works Set.univ s t) : State.Works Set.univ s t.passInstant := by
  unfold State.passInstant
  dsimp only
  split
  · exact core h (.refl _)
  next i rest _ =>
    have hread : State.Works Set.univ s
        { t with sampling := { instant := (t.sampling.instant + 1) % 8, feed := rest } } := core h (.refl _)
    exact sample hread

/-! ### The phase tick (R19) -/

theorem tickClock (h : State.Works L s t) : State.Works L s t.tickClock := by
  unfold State.tickClock
  split
  · exact advanceTenth h
  next hdivider =>
    refine onClock h fun hlegal => ?_
    rw [Clock.legal_iff] at hlegal ⊢
    obtain ⟨hdate, hminute, hsecond, htenth, _⟩ := hlegal
    exact ⟨hdate, hminute, hsecond, htenth, Nat.succ_lt_succ (Nat.not_le.1 hdivider)⟩

end State.Works

theorem Store.tick_op (k : Store) : k.tick.op = k.op := by
  unfold Store.tick
  split
  · rfl
  · rfl

theorem Store.tick_banks (k : Store) : k.tick.banks = k.banks := by
  unfold Store.tick
  split
  · rfl
  · rfl

theorem Store.tick_bank (k : Store) (b : Bank) : k.tick.bank b = k.bank b := congrArg (·.get b) k.tick_banks

namespace State.Works

variable {L : Set Tx} {s t u : State}

theorem tickCounts (h : State.Works L s t) : State.Works L s t.tickCounts := by
  have hboot : Boot.Works t.boot t.tickCounts.boot := ⟨rfl, Iff.rfl, id⟩
  have hstate : ∀ b, (t.store.tick.bank b).state = (t.store.bank b).state := fun b => by rw [Store.tick_bank]
  exact h.trans ⟨rfl, rfl, rfl, hboot, fun hk => Clock.legal_of_eq hk, .refl _, t.matrix.tick_works, id, id, id,
    oneActive_of_le fun b hb => (hstate b) ▸ hb, fun hq => storeQuiet_of_eq hq hboot (Store.tick_op _) rfl hstate⟩

theorem countReference (h : State.Works L s t) : State.Works L s (t.onClock Clock.countReference) :=
  onClock h fun hk => Clock.legal_of_eq hk

theorem tickAll (h : State.Works L s t) : State.Works L s t.tickAll :=
  ite (tickClock (countReference h)) (tickClock (tickCheck (tickCounts (onOut (countReference h) (.handAll _)))))

theorem tick (h : State.Works Set.univ s t) : State.Works Set.univ s t.tick := passInstant (passInstant (tickAll h))

end State.Works

/-! ### Start-up's steps 1 and 2 (R46-R48, R204) -/

/-- What the tests of the banks leave: every block but the store and what is put out, and the controller as it stands. -/
structure State.Tests (s t : State) : Prop where
  pending : t.pending = s.pending
  link : t.link = s.link
  clock : t.clock = s.clock
  check : t.check = s.check
  engine : t.engine = s.engine
  matrix : t.matrix = s.matrix
  boot : t.boot = s.boot
  op : t.store.op = s.store.op
  out : Outbox.Puts ∅ s.out t.out

namespace State.Tests

variable {s t u : State}

theorem refl (s : State) : State.Tests s s := ⟨rfl, rfl, rfl, rfl, rfl, rfl, rfl, rfl, .refl _⟩
theorem trans (h : State.Tests s t) (g : State.Tests t u) : State.Tests s u :=
  ⟨g.pending.trans h.pending, g.link.trans h.link, g.clock.trans h.clock, g.check.trans h.check,
    g.engine.trans h.engine, g.matrix.trans h.matrix, g.boot.trans h.boot, g.op.trans h.op, h.out.trans g.out⟩

theorem testBank (h : State.Tests s t) {b : Bank} : State.Tests s (t.testBank b) := by
  unfold State.testBank
  dsimp only
  split
  · exact h.trans ⟨rfl, rfl, rfl, rfl, rfl, rfl, rfl, rfl, .event ..⟩
  · split
    · exact h.trans ⟨rfl, rfl, rfl, rfl, rfl, rfl, rfl, rfl, .refl _⟩
    · exact h.trans ⟨rfl, rfl, rfl, rfl, rfl, rfl, rfl, rfl, .refl _⟩

theorem settleActive (h : State.Tests s t) : State.Tests s (t.onStore Store.settleActive) := by
  refine h.trans ⟨rfl, rfl, rfl, rfl, rfl, rfl, rfl, ?_, .refl _⟩
  rw [State.onStore_store]
  unfold Store.settleActive
  split
  · rfl
  · rfl

theorem compareSerial (h : State.Tests s t) {b : Bank} : State.Tests s (t.compareSerial b) := by
  unfold State.compareSerial State.closeValid
  split
  · exact h
  · split
    · exact h.trans ⟨rfl, rfl, rfl, rfl, rfl, rfl, rfl, rfl, .event ..⟩
    · exact h

theorem checkBanks (h : State.Tests s t) : State.Tests s t.checkBanks :=
  compareSerial (compareSerial (settleActive (testBank (testBank h))))

end State.Tests

/-- Of two ACTIVE banks the test keeps one (R48). -/
theorem Store.settleActive_oneActive (k : Store) : Claims.oneActive k.settleActive := by
  unfold Store.settleActive
  split
  · rintro ⟨h0, h1⟩
    rw [Store.bank_writeCell] at h0 h1
    have hother : otherBank k.keptActive = 0 ∨ otherBank k.keptActive = 1 := by
      generalize otherBank k.keptActive = b
      revert b
      decide
    rcases hother with ho | ho
    · rw [ho, if_pos rfl] at h0
      cases h0
    · rw [ho, if_pos rfl] at h1
      cases h1
  next hone => exact hone

theorem State.compareSerial_works (s : State) (b : Bank) : State.Works ∅ s (s.compareSerial b) :=
  .ite (.refl s) (.closeValid (.refl s))

theorem State.checkBanks_oneActive (s : State) : Claims.oneActive s.checkBanks.store := by
  unfold State.checkBanks
  dsimp only
  generalize (s.testBank 0).testBank 1 = t
  have hone : Claims.oneActive (t.onStore Store.settleActive).store := Store.settleActive_oneActive t.store
  generalize t.onStore Store.settleActive = u at hone
  exact ((State.compareSerial_works u 0).trans (State.compareSerial_works _ 1)).season hone

/-- What the loading of the settings leaves (R204). -/
theorem State.loadSettings_rest (s : State) : s.loadSettings.pending = s.pending ∧ s.loadSettings.link = s.link ∧
    s.loadSettings.check = s.check ∧ s.loadSettings.engine = s.engine ∧ s.loadSettings.boot = s.boot ∧
    s.loadSettings.store.op = s.store.op ∧
    (∃ g, s.loadSettings.matrix = Matrix.reset g) ∧ (s.clock.legal = true → s.loadSettings.clock.legal = true) ∧
    Outbox.Puts ∅ s.out s.loadSettings.out := by
  have henables : Outbox.Puts ∅ s.out { s.out with enables := (s.store.settings.getD Settings.default).enables } :=
    .of_eq rfl rfl rfl
  have hdefaulted := henables.trans (.event .settingsDefaulted .settings [])
  unfold State.loadSettings
  dsimp only
  split
  · split
    · exact ⟨rfl, rfl, rfl, rfl, rfl, rfl, ⟨_, rfl⟩, fun hk => Clock.legal_of_eq hk, hdefaulted⟩
    · exact ⟨rfl, rfl, rfl, rfl, rfl, rfl, ⟨_, rfl⟩, fun hk => Clock.legal_of_eq hk, .of_eq rfl rfl rfl⟩
  · split
    · exact ⟨rfl, rfl, rfl, rfl, rfl, rfl, ⟨_, rfl⟩, id, hdefaulted⟩
    · exact ⟨rfl, rfl, rfl, rfl, rfl, rfl, ⟨_, rfl⟩, id, .of_eq rfl rfl rfl⟩

/-- The POLLs with which start-up's third step begins (R207). -/
def State.pollsTable (s : State) : State :=
  { s with
    out := { s.out with link := s.out.link ++ pollAll }
    boot := { s.boot with phase := .table, poll := some (Timer.start Config.startupPollTicks) } }

theorem State.beginStartup_eq (s : State) : s.beginStartup = s.loadSettings.checkBanks.pollsTable := rfl

/-- What start-up's first two steps leave (R207). -/
theorem State.beginStartup_rest (s : State) : s.beginStartup.pending = s.pending ∧ s.beginStartup.check = s.check ∧
    s.beginStartup.engine = s.engine ∧ s.beginStartup.store.op = s.store.op ∧
    s.beginStartup.boot.phase = .table ∧ s.beginStartup.boot.asserted = s.boot.asserted ∧
    (∃ g, s.beginStartup.matrix = Matrix.reset g) ∧ (s.clock.legal = true → s.beginStartup.clock.legal = true) ∧
    Claims.oneActive s.beginStartup.store ∧ Outbox.Puts ∅ s.out s.beginStartup.out := by
  obtain ⟨hpending, -, hcheck, hengine, hboot, hop, ⟨g, hmatrix⟩, hclock, hout⟩ := s.loadSettings_rest
  have htests := State.Tests.checkBanks (State.Tests.refl s.loadSettings)
  have hone := s.loadSettings.checkBanks_oneActive
  rw [s.beginStartup_eq]
  generalize s.loadSettings.checkBanks = t at htests hone
  exact ⟨htests.pending.trans hpending, htests.check.trans hcheck, htests.engine.trans hengine, htests.op.trans hop,
    rfl, (congrArg Boot.asserted (htests.boot.trans hboot) :), ⟨g, htests.matrix.trans hmatrix⟩,
    fun hk => htests.clock ▸ hclock hk, hone, (hout.trans htests.out).trans (.of_eq rfl rfl rfl)⟩

end Sys2Proof.Machine

/-! What the host requests keep (R189, R190), request by request. -/

namespace Sys2Proof.Machine

/-! ### Requests that are answered -/

theorem firstFailing_eq_none_iff (ts : List (Bool × Reason)) : firstFailing ts = none ↔ ∀ q ∈ ts, q.1 = false := by
  induction ts with
  | nil => simp [firstFailing]
  | cons q ts ih =>
    obtain ⟨fails, r⟩ := q
    cases fails with
    | true => simp [firstFailing]
    | false => simp [firstFailing, ih]

/-- A request taken: what its effect is, with the reply in the reply slot. -/
def State.Answers (s t : State) : Prop :=
  ∃ u kind tag v, State.Works ∅ s u ∧ t = u.answer kind tag v

namespace State.Answers

variable {s t : State} {kind tag : Byte} {h : Head} {ts : List (Bool × Reason)} {e : State → State} {a : State → Answer}

theorem answer (hst : State.Works ∅ s t) {v : Verdict} : State.Answers s (t.answer kind tag v) := ⟨t, _, _, _, hst, rfl⟩

/-- The effect is made when every test is passed. -/
theorem request (hst : State.Works ∅ s t) (he : (∀ q ∈ ts, q.1 = false) → State.Works ∅ t (e t)) :
    State.Answers s (t.request kind h ts e a) := by
  unfold State.request
  split
  · exact answer hst
  next hnone =>
    rw [firstFailing_eq_none_iff] at hnone
    exact answer (hst.trans (he fun q hq => hnone q (List.mem_cons_of_mem _ hq)))

/-- A request without effect. -/
theorem reads : State.Answers s (s.request kind h ts id a) := request (.refl s) fun _ => .refl s

/-- A request whose effect keeps the invariants from every state. -/
theorem requests (he : State.Works ∅ s (e s)) : State.Answers s (s.request kind h ts e a) := request (.refl s) fun _ => he

end State.Answers

/-! ### One bank of the store -/

theorem Store.bank_writeCell_self (k : Store) (b : Bank) (f : SeasonBank → SeasonBank) :
    (k.writeCell b f).bank b = f (k.bank b) := (k.bank_writeCell b b f).trans (if_pos rfl)

theorem Store.bank_writeCell_ne (k : Store) {b c : Bank} (f : SeasonBank → SeasonBank) (h : c ≠ b) :
    (k.writeCell b f).bank c = k.bank c := (k.bank_writeCell b c f).trans (if_neg h)

/-- Start-up has ended and the reset line is not asserted. -/
def State.running (s : State) : Prop := s.boot.asserted = false ∧ s.boot.phase = .done

theorem State.running.not_loading {s : State} (h : s.running) : ¬ (s.boot.asserted = true ∨ s.boot.phase = .load) := by
  simp [h.1, h.2]

namespace State.Works

variable {L : Set Tx} {s t u : State}

/-! ### The clock, limits, monitors, lines and interlocks -/

theorem timeSet (h : State.Works L s t) {new old : Reading}
    (hnew : new.date.valid = true ∧ new.minute < 1440 ∧ new.second < 60 ∧ new.tenth < 10) :
    State.Works L s (t.setClock old new true) := by
  obtain ⟨hdate, hminute, hsecond, htenth⟩ := hnew
  exact setClock h fun _ => (Clock.legal_iff _).2 ⟨hdate, hminute, hsecond, htenth, Nat.zero_lt_succ _⟩

theorem setSource (h : State.Works L s t) {x : ClockSource} :
    State.Works L s (t.onClock fun k => { k with source := x }) := onClock h fun hk => Clock.legal_of_eq hk

theorem setStartKind (h : State.Works L s t) {x : StartKind} :
    State.Works L s { t with boot := { t.boot with kind := x } } := by
  have hboot : Boot.Works t.boot { t.boot with kind := x } := ⟨rfl, Iff.rfl, id⟩
  exact h.trans ⟨rfl, rfl, rfl, hboot, id, .refl _, .refl _, id, id, id, id,
    fun hq => storeQuiet_of_eq hq hboot rfl rfl fun _ => rfl⟩

theorem describeAntenna (h : State.Works L s t) {c : Col} {d : ColDesc} :
    State.Works L s { t with matrix := t.matrix.onColumn c fun k => { k with desc := d } } := by
  have hmatrix : Matrix.Works t.matrix (t.matrix.onColumn c fun k => { k with desc := d }) :=
    .of_eq rfl rfl rfl (List.Sublist.refl _)
  exact h.trans ⟨rfl, rfl, rfl, .refl _, id, .refl _, hmatrix, id, id, id, id, id⟩

theorem cancelDrive (h : State.Works L s t) {q : List SlotRequest} :
    State.Works L s (t.onMatrix fun b => { b with m := { b.m with queue := q } }) :=
  onMatrix h ⟨.of_eq rfl rfl rfl (List.Sublist.refl _), .refl _⟩

/-! ### The store (R37-R42, R50, R203) -/

/-- ERASE_BANK accepted (R37). -/
theorem eraseBank (h : State.Works L s t) {b : Bank} (hlive : t.running)
    (hactive : (t.store.bank b).state ≠ .active) (hchecking : (t.store.bank b).state ≠ .checking) :
    State.Works L s (t.onStore fun k => (k.writeCell b SeasonBank.beginErase).start (.erase b)) := by
  have hstate : ((t.store.writeCell b SeasonBank.beginErase).bank b).state =
      if (t.store.bank b).state = .valid then .closed else (t.store.bank b).state := by
    rw [Store.bank_writeCell_self]
    rfl
  refine writesCell h (b := b) (fun c hne => congrArg SeasonBank.state (Store.bank_writeCell_ne _ _ hne)) (fun hb => ?_)
    (fun hload => ?_) (fun _ c hc => ?_) (fun _ c hc => ?_) fun hq k hk hkb => ?_
  · refine absurd (hstate.symm.trans hb) ?_
    split
    · decide
    · exact hactive
  · exact absurd hload hlive.not_loading
  · rcases Store.writing_op hc with hw | ⟨_, _, hw⟩ <;> cases hw
  · obtain rfl := StoreOp.erase.inj (Option.some.inj (Store.erasing_op hc))
    refine hstate.symm ▸ ?_
    split
    · decide
    next hvalid => exact ⟨hactive, hchecking, hvalid⟩
  · exact hchecking (hkb ▸ hq.2.2.2 k hk)

/-- ERASE_COMPLETE (R38). -/
theorem eraseComplete (h : State.Works L s t) {b : Bank} (hop : t.store.op = some (.erase b)) :
    State.Works L s (t.onStore fun k => (k.writeCell b SeasonBank.erased).idle) := by
  have hnone : ∀ c, (t.store.writeCell b SeasonBank.erased).idle.writing c = false ∧
      (t.store.writeCell b SeasonBank.erased).idle.erasing c = false := fun c => ⟨rfl, rfl⟩
  refine writesCell h (b := b) (fun c hne => congrArg SeasonBank.state (Store.bank_writeCell_ne _ _ hne)) (fun hb => ?_)
    (fun _ => rfl) (fun _ c hc => absurd ((hnone c).1.symm.trans hc) (by decide))
    (fun _ c hc => absurd ((hnone c).2.symm.trans hc) (by decide)) fun hq k hk hkb => ?_
  · have herased : ((t.store.writeCell b SeasonBank.erased).bank b).state = .erased := by
      rw [Store.bank_writeCell_self]
      rfl
    cases herased.symm.trans hb
  · have herasing : t.store.erasing b = true := by simp [Store.erasing, hop]
    exact (hq.2.2.1 b herasing).2.1 (hkb ▸ hq.2.2.2 k hk)

/-- OPEN_BANK accepted (R39). -/
theorem openBank (h : State.Works L s t) {b : Bank} {x : Header}
    (hlive : t.running) (herased : (t.store.bank b).state = .erased) :
    State.Works L s (t.onStore fun k =>
      (k.writeCell b fun q => { q.goto .opened with header := some x, headerWritten := true }).start (.header b)) := by
  have hstate : ((t.store.writeCell b fun q =>
      { q.goto .opened with header := some x, headerWritten := true }).bank b).state = .opened := by
    rw [Store.bank_writeCell_self]
    rfl
  have hother : ∀ c, c ≠ b → (t.store.writeCell b fun q =>
      { q.goto .opened with header := some x, headerWritten := true }).bank c = t.store.bank c :=
    fun c hne => Store.bank_writeCell_ne _ _ hne
  refine writesCell h (b := b) (fun c hne => congrArg SeasonBank.state (hother c hne)) (fun hb => ?_)
    (fun hload => ?_) (fun _ c hc => ?_) (fun _ c hc => ?_) fun hq k hk hkb => ?_
  · cases hstate.symm.trans hb
  · exact absurd hload hlive.not_loading
  · rcases Store.writing_op hc with hw | ⟨_, _, hw⟩
    · obtain rfl := StoreOp.header.inj (Option.some.inj hw)
      exact hstate
    · cases hw
  · cases Store.erasing_op hc
  · have hchecking := hq.2.2.2 k hk
    rw [hkb, herased] at hchecking
    cases hchecking

/-- WRITE_ENTRIES accepted (R41). -/
theorem writeEntries (h : State.Works L s t) {b : Bank} {w : BitVec 64} {p : Page} {slots : Vector Slot 8}
    (hlive : t.running) (hopened : (t.store.bank b).state = .opened) :
    State.Works L s (t.onStore fun k => (k.onBank b fun q => { q with written := w }).start (.page b p slots)) := by
  have hbank := (t.store.bank_onBank b · fun q => { q with written := w })
  refine onStoreOp h (fun c => ?_) fun hq => ⟨fun hload => ?_, fun c hc => ?_, fun c hc => ?_⟩
  · refine (congrArg SeasonBank.state (hbank c)).trans ?_
    split
    next hcb =>
      rw [hcb]
      rfl
    · rfl
  · exact absurd hload hlive.not_loading
  · rcases Store.writing_op hc with hw | ⟨_, _, hw⟩
    · cases hw
    · obtain ⟨rfl, -, -⟩ := StoreOp.page.inj (Option.some.inj hw)
      exact hopened
  · cases Store.erasing_op hc

/-- CLOSE_BANK accepted (R42). -/
theorem closeBank (h : State.Works L s t) {b : Bank} (hlive : t.running)
    (hopened : (t.store.bank b).state = .opened) (hwriting : t.store.writing b = false) :
    State.Works L s (t.onStore fun k => k.writeCell b fun q => q.goto .closed) := by
  have hstate : ((t.store.writeCell b (SeasonBank.goto · .closed)).bank b).state = .closed := by
    rw [Store.bank_writeCell_self]
    rfl
  refine writesCell h (b := b) (fun c hne => congrArg SeasonBank.state (Store.bank_writeCell_ne _ _ hne)) (fun hb => ?_)
    (fun hload => ?_) (fun hq c hc => ?_) (fun hq c hc => ?_) fun hq k hk hkb => ?_
  · cases hstate.symm.trans hb
  · exact absurd hload hlive.not_loading
  · have hne : c ≠ b := fun hcb => absurd (hwriting.symm.trans (hcb ▸ hc)) (by decide)
    exact (congrArg SeasonBank.state (Store.bank_writeCell_ne _ _ hne)).trans (hq.2.1 c hc)
  · by_cases hcb : c = b
    · rw [hcb, hstate]
      decide
    · rw [Store.bank_writeCell_ne _ _ hcb]
      exact hq.2.2.1 c hc
  · have hchecking := hq.2.2.2 k hk
    rw [hkb, hopened] at hchecking
    cases hchecking

/-- CHECK_BANK accepted (R51). -/
theorem checkBank (h : State.Works L s t) {b : Bank} {k : CheckContext}
    (hlive : t.running)
    (hstate : (t.store.bank b).state = .closed ∨ (t.store.bank b).state = .rejected ∨ (t.store.bank b).state = .valid)
    (herasing : t.store.erasing b = false) (hk : k.bank = b ∧ k.faults = [] ∧ k.total = 0) :
    State.Works L s { t with
      check := some k
      store := t.store.writeCell b fun q => q.change fun c => { c with state := .checking, report := none } } := by
  have hchecks : ((t.store.writeCell b fun q =>
      q.change fun c => { c with state := .checking, report := none }).bank b).state = .checking := by
    rw [Store.bank_writeCell_self]
    rfl
  refine h.storage (.refl _) (fun _ j hj => ?_) (fun c hc => ?_) fun hq => ⟨fun hload => ?_, fun c hc => ?_, fun c hc => ?_,
    fun j hj => ?_⟩
  · obtain rfl := Option.some.inj hj
    rw [hk.2.1, hk.2.2]
    decide
  · by_cases hcb : c = b
    · cases hchecks.symm.trans (hcb ▸ hc)
    · exact (congrArg SeasonBank.state (Store.bank_writeCell_ne _ _ hcb)).symm.trans hc
  · exact absurd hload hlive.not_loading
  · have hopened := hq.2.1 c hc
    have hne : c ≠ b := fun hcb => by
      rw [hcb] at hopened
      rcases hstate with hx | hx | hx <;> cases hopened.symm.trans hx
    exact (congrArg SeasonBank.state (Store.bank_writeCell_ne _ _ hne)).trans hopened
  · have hne : c ≠ b := fun hcb => absurd (herasing.symm.trans (hcb ▸ hc)) (by decide)
    rw [Store.bank_writeCell_ne _ _ hne]
    exact hq.2.2.1 c hc
  · obtain rfl := Option.some.inj hj
    rw [hk.1]
    exact hchecks

/-- SAVE_SETTINGS accepted (R203). -/
theorem saveSettings (h : State.Works L s t) {g : Settings} {a w : Bool}
    (hlive : t.running) :
    State.Works L s (t.onStore fun k => { k.start (.settings g) with autorun := a, warmAdopt := w }) := by
  refine onStoreOp h (fun _ => rfl) fun hq => ⟨fun hload => ?_, fun c hc => ?_, fun c hc => ?_⟩
  · exact absurd hload hlive.not_loading
  · rcases Store.writing_op hc with hw | ⟨_, _, hw⟩ <;> cases hw
  · cases Store.erasing_op hc

end State.Works

end Sys2Proof.Machine

/-! What every host request keeps, and what a request that waits does (R188-R190). -/

namespace Sys2Proof.Machine

theorem Log.bounded_read {l : Log} (h : l.bounded) : Log.bounded { l with unread := l.unread - 8, overrun := false } :=
  ⟨h.1, (Nat.sub_le ..).trans h.2⟩

/-- A host request whose block answers it and keeps every invariant. -/
def State.Hosts (i : Instr) (s : State) (o : Host.Outcome State Fault Refusal) : Prop :=
  ∃ f, o = s.host i f ∧ ∀ x : State, x.running → State.Answers x (f x)

namespace State.Hosts

variable {i : Instr} {s : State}

theorem host {f : State → State} (hf : ∀ x : State, x.running → State.Answers x (f x)) :
    State.Hosts i s (s.host i f) := ⟨f, rfl, hf⟩

/-- A request whose effect may use that its tests are passed. -/
theorem tested {kind : Byte} {h : Head} {ts : State → List (Bool × Reason)} {e : State → State → State}
    {a : State → State → Answer}
    (he : ∀ x : State, x.running → (∀ q ∈ ts x, q.1 = false) → State.Works ∅ x (e x x)) :
    State.Hosts i s (s.host i fun x => x.request kind h (ts x) (e x) (a x)) :=
  host fun x hx => .request (.refl x) (he x hx)

/-- A request whose effect keeps every invariant from every state. -/
theorem plain {kind : Byte} {h : Head} {ts : State → List (Bool × Reason)} {e : State → State → State}
    {a : State → State → Answer} (he : ∀ x, State.Works ∅ x (e x x)) :
    State.Hosts i s (s.host i fun x => x.request kind h (ts x) (e x) (a x)) := tested fun x _ _ => he x

end State.Hosts

/-- Every host request is given to its block by `State.host`, and what its block does keeps every invariant. -/
theorem exec_hosts (i : Instr) (s : State) (hi : (requestOf i).isSome = true) : State.Hosts i s (exec i s) := by
  unfold exec
  cases i with
  | setTransmitter =>
    exact .plain fun x => .ite (.csq (.refl x) fun b => .describe (.refl b))
      (.descriptionChange (.csq (.refl x) fun b => .describe (.refl b)))
  | setAntenna =>
    exact .plain fun x => .ite (.describeAntenna (.refl x))
      (.descriptionChange (.describeAntenna (.refl x)))
  | setAvailability =>
    exact .plain fun x => .csq (.refl x) fun b => .makeAvailable (.refl b)
  | setLimits => exact .plain fun x => .core (.refl x) (.refl _)
  | setMonitor =>
    refine .plain fun x => ?_
    split
    · exact .onStation (.refl x) fun b => .station (.refl b)
    · exact .refl x
  | setProtection => exact .plain fun x => .core (.refl x) (.refl _)
  | setLine =>
    refine .plain fun x => ?_
    split
    · exact .ite (.refl x) (.relabel (.refl x))
    · exact .refl x
  | setMember =>
    refine .plain fun x => ?_
    split
    · exact .configure (.refl x)
    · exact .refl x
  | setMemberRemove => exact .plain fun x => .unconfigure (.refl x)
  | writeLines => exact .plain fun x => .foldl (.refl x) fun y _ => .onLine (.refl y)
  | setTime h year month day minute second tenth =>
    refine .tested fun x _ htests => .timeSet (.refl x) ?_
    simp only [List.forall_mem_cons, Bool.or_eq_false_iff, decide_eq_false_iff_not, Bool.not_eq_false'] at htests
    obtain ⟨⟨⟨⟨-, hminute⟩, hsecond⟩, htenth⟩, hvalid, -⟩ := htests
    exact ⟨hvalid, Nat.lt_succ_of_le (Nat.not_lt.1 hminute), Nat.lt_succ_of_le (Nat.not_lt.1 hsecond),
      Nat.lt_succ_of_le (Nat.not_lt.1 htenth)⟩
  | setClockSource => exact .plain fun x => .setSource (.refl x)
  | eraseBank h b =>
    refine .tested fun x hx htests => ?_
    simp only [List.forall_mem_cons, Bool.or_eq_false_iff, beq_eq_false_iff_ne] at htests
    obtain ⟨-, ⟨hactive, hchecking⟩, -⟩ := htests
    exact .eraseBank (.refl x) hx hactive hchecking
  | openBank h b code year month day minute =>
    refine .tested fun x hx htests => ?_
    simp only [List.forall_mem_cons, Bool.or_eq_false_iff, bne_eq_false_iff_eq] at htests
    obtain ⟨-, -, ⟨herased, -⟩, -⟩ := htests
    exact .openBank (.refl x) hx herased
  | writeEntries h b p entries =>
    have heffect : ∀ x y : State, x.running → y.running → State.Works ∅ x y → y.store = x.store →
        State.Answers x (y.request 0x32 h
          [(entries.isEmpty || decide (8 < entries.length), .badLength), (decide (1 < b) || decide (63 < p), .outOfRange),
            ((x.store.bank (bank b)).state != .opened, .wrongBank),
            ((x.store.bank (bank b)).written.getLsbD p, .pageWritten), (x.store.op.isSome, .busy)]
          (fun s => s.onStore fun k => (k.onBank (bank b) fun q => { q with written := setBit q.written p }).start
            (.page (bank b) (page p) (pageOf entries))) fun _ => .empty) := by
      intro x y _ hy hworks hstore
      refine .request hworks fun htests => ?_
      simp only [List.forall_mem_cons, bne_eq_false_iff_eq] at htests
      obtain ⟨-, -, hopened, -⟩ := htests
      exact .writeEntries (.refl y) hy (hstore ▸ hopened)
    refine .host fun x hx => ?_
    dsimp only
    split
    · exact heffect x _ hx hx (.onOut (.refl x) (.event ..)) rfl
    · exact heffect x x hx hx (.refl x) rfl
  | closeBank h b =>
    refine .tested fun x hx htests => ?_
    simp only [List.forall_mem_cons, bne_eq_false_iff_eq] at htests
    obtain ⟨-, hopened, hwriting, -⟩ := htests
    exact .closeBank (.refl x) hx hopened hwriting
  | checkBank h b =>
    refine .tested fun x hx htests => ?_
    simp only [List.forall_mem_cons, Bool.and_eq_false_iff, bne_eq_false_iff_eq] at htests
    obtain ⟨-, -, hstate, herasing, -⟩ := htests
    exact .checkBank (.refl x) hx (or_assoc.1 hstate) herasing ⟨rfl, rfl, rfl⟩
  | cancelCheck => exact .plain fun x => .cutCheck (.refl x)
  | run => exact .plain fun x => .startEngine (.refl x)
  | haltDrain => exact .plain fun x => .drainTest (.missHalted (.drains (.refl x)))
  | haltStop =>
    exact .plain fun x => .onEach (.missHalted (.halts (.refl x))) fun _ b => .release (.refl b)
  | manualTune => exact .plain fun x => .csq (.refl x) fun b => .manualStart (.refl b)
  | manualEnd => exact .plain fun x => .csq (.refl x) fun b => .endWork (.refl b)
  | resumeSchedule => exact .plain fun x => .csq (.refl x) fun b => .tr (.refl b)
  | releaseTransmitter =>
    exact .plain fun x => .csq (.refl x) fun b => .sendMute (.tr (.refl b))
  | withdrawAntenna => exact .plain fun x => .onMatrix (.refl x) (Board.withdraw_works _ _ _)
  | restoreAntenna => exact .plain fun x => .onMatrix (.refl x) (Board.service_works _ _ _)
  | pollMatrix => exact .plain fun x => .onOut (.refl x) (.of_eq rfl rfl rfl)
  | interlockClearGroup =>
    refine .host fun x _ => ?_
    dsimp only
    split
    · exact .answer (.refl x)
    · exact .requests (.clearGroup (.refl x))
  | interlockClearEmergency =>
    refine .host fun x _ => ?_
    split
    · exact .answer (.refl x)
    · exact .requests (.clearEmergency (.refl x))
  | readLog =>
    exact .plain fun x => .onOut (.refl x)
      ⟨id, Log.bounded_read, [], (List.append_nil _).symm, fun _ _ => List.not_mem_nil⟩
  | setNoticeEnables => exact .plain fun x => .onOut (.refl x) (.of_eq rfl rfl rfl)
  | clearSources => exact .plain fun x => .onOut (.refl x) (.of_eq rfl rfl rfl)
  | saveSettings => exact .tested fun x hx _ => .saveSettings (.refl x) hx
  | setStartKind => exact .plain fun x => .setStartKind (.refl x)
  | unknownKind => exact .host fun x _ => .answer (.refl x)
  | readBank | readEntries | readUpcoming | readTransmitter | readRoutes | readAntenna | readLines | readInterlock
  | readStatus | restart => exact .plain fun x => .refl x
  | _ => cases hi

end Sys2Proof.Machine

/-! What every command and every step keeps (R17, R61, R70, R92, R100, L9, R67). -/

namespace Sys2Proof.Machine

/-! ### What a command keeps -/

/-- The transmitters to which a command may send UNMUTE. -/
def unmutesOf : Instr → Set Tx
  | .holdRemove t _ => {t}
  | .serviceChanged t _ _ => {t}
  | .rfAbsent t => {t}
  | .holdTimeExpiry t => {t}
  | .restrikeDelayExpiry t => {t}
  | _ => ∅

/-- What a command or a step keeps, whatever it does with the request queue and with the row records. -/
structure State.Keeps (L : Set Tx) (s t : State) : Prop where
  pending : t.pending = s.pending
  out : Outbox.Puts L s.out t.out
  clock : s.clock.legal = true → t.clock.legal = true
  slots : Claims.slotsBalanced s.matrix → Claims.slotsBalanced t.matrix
  claims : Claims.oneClaimEach s.matrix → Claims.oneClaimEach t.matrix
  starts : ∀ u k, (s.matrix.xstate u k).moving = false → (t.matrix.xstate u k).moving = true →
    (t.matrix.row u).mayMove = true
  upcoming : s.engine.upcoming.length ≤ 128 → t.engine.upcoming.length ≤ 128
  engine : Claims.haltedEmpty s.engine → Claims.haltedEmpty t.engine
  check : (∀ k, s.check = some k → k.faults.length ≤ 16 ∧ k.total ≤ 65535) →
    ∀ k, t.check = some k → k.faults.length ≤ 16 ∧ k.total ≤ 65535
  season : Claims.oneSeason s → Claims.oneSeason t
  store : Claims.storeQuiet s → Claims.storeQuiet t
  room : s.link.queue.length ≤ 4 → t.link.queue.length ≤ 4

/-- A command completes: it leaves a next state, which keeps every invariant. -/
def State.Completes (L : Set Tx) (s : State) (o : Host.Outcome State Fault Refusal) : Prop :=
  ∃ t, o = .next t ∧ State.Keeps L s t ∧ (Claims.queueServed s → Claims.queueServed t)

namespace State.Keeps

variable {L : Set Tx} {s t u : State}

theorem of_works (h : State.Works L s t) : State.Keeps L s t where
  pending := h.pending
  out := h.out
  clock := h.clock
  slots := h.matrix.slots
  claims := h.matrix.claims
  starts := h.matrix.starts
  upcoming := h.upcoming
  engine := h.engine
  check := h.check
  season hone hload := h.season (hone fun hs => hload (h.boot.load.2 hs))
  store := h.store
  room := by rw [h.queue]; exact id

theorem refl (s : State) : State.Keeps L s s := of_works (.refl s)

/-- The row records stay as they are in the second of two operations. -/
theorem trans (h : State.Keeps L s t) (g : State.Keeps L t u) (hrows : u.matrix.rows = t.matrix.rows) :
    State.Keeps L s u where
  pending := g.pending.trans h.pending
  out := h.out.trans g.out
  clock := g.clock ∘ h.clock
  slots := g.slots ∘ h.slots
  claims := g.claims ∘ h.claims
  starts v k hs hu := by
    cases ht : (t.matrix.xstate v k).moving with
    | false => exact g.starts v k ht hu
    | true =>
      have hrow : u.matrix.row v = t.matrix.row v := congrArg (·.get v) hrows
      rw [hrow]
      exact h.starts v k hs ht
  upcoming := g.upcoming ∘ h.upcoming
  engine := g.engine ∘ h.engine
  check := g.check ∘ h.check
  season := g.season ∘ h.season
  store := g.store ∘ h.store
  room := g.room ∘ h.room

/-- A change of the host link alone. -/
theorem link (h : State.Keeps L s t) (hcore : (u.pending, u.out, u.boot, u.clock, u.matrix, u.engine, u.check, u.store) =
      (t.pending, t.out, t.boot, t.clock, t.matrix, t.engine, t.check, t.store))
    (hroom : t.link.queue.length ≤ 4 → u.link.queue.length ≤ 4) : State.Keeps L s u := by
  simp only [Prod.mk.injEq] at hcore
  obtain ⟨hpending, hout, hboot, hclock, hmatrix, hengine, hcheck, hstore⟩ := hcore
  have hb : Boot.Works t.boot u.boot := hboot ▸ .refl _
  refine h.trans ⟨hpending, hout ▸ .refl _, hclock ▸ id, hmatrix ▸ id, hmatrix ▸ id, fun v k ht hu => ?_, hengine ▸ id,
    hengine ▸ id, hcheck ▸ id, fun hone hload => ?_, fun hq => ?_, hroom⟩ (hmatrix ▸ rfl)
  · rw [hmatrix] at hu
    cases ht.symm.trans hu
  · rw [hstore]
    exact hone fun hl => hload (hb.load.2 hl)
  · exact storeQuiet_of_eq hq hb (hstore ▸ rfl) hcheck fun b => hstore ▸ rfl

end State.Keeps

/-! ### The request queue (R188, R189) -/

theorem queueServed_of_works {L : Set Tx} {s t : State} (h : State.Works L s t) (hs : Claims.queueServed s) :
    Claims.queueServed t := by
  obtain ⟨hrequests, hserved⟩ := hs
  refine ⟨h.queue ▸ hrequests, fun hdone hreply => ?_⟩
  rw [h.queue]
  exact hserved (h.boot.done hdone) (h.reply ▸ hreply)

namespace State.Completes

variable {L : Set Tx} {s t : State}

theorem next (h : State.Works L s t) : State.Completes L s (.next t) := ⟨t, rfl, .of_works h, queueServed_of_works h⟩

/-- A command that is taken unless the reset line is asserted. -/
theorem take {f : State → State} (hf : ∀ x : State, State.Works L x (f x)) : State.Completes L s (s.take f) := by
  unfold State.take
  split
  · exact next (.refl s)
  · exact next (s.settled_works.trans (hf _))

end State.Completes

theorem State.enqueue_keeps (s : State) (r : Request) : State.Keeps ∅ s (s.enqueue r) := by
  unfold State.enqueue
  split
  next hroom =>
    refine (State.Keeps.refl s).link rfl fun _ => ?_
    simp only [State.onLink, List.length_append, List.length_singleton]
    exact hroom
  · split
    · exact (State.Keeps.refl s).link rfl id
    · exact .of_works (.core (.refl s) (.event ..))

theorem State.enqueue_queue (s : State) (r : Request) :
    (s.enqueue r).link.queue = s.link.queue ∨ (s.enqueue r).link.queue = s.link.queue ++ [r] := by
  unfold State.enqueue
  split
  · exact Or.inr rfl
  · split
    · exact Or.inl rfl
    · exact Or.inl rfl

theorem State.enqueue_reply (s : State) (r : Request) : (s.enqueue r).link.reply = s.link.reply := by
  unfold State.enqueue
  split
  · rfl
  · split <;> rfl

theorem State.enqueue_boot (s : State) (r : Request) : (s.enqueue r).boot = s.boot := by
  unfold State.enqueue
  split
  · rfl
  · split <;> rfl

/-- Every request of the queue is a host request (R189). -/
def State.queueRequests (s : State) : Prop := ∀ r ∈ s.link.queue, (requestOf r.command).isSome = true

theorem State.enqueue_queueRequests {s : State} {r : Request} (h : s.queueRequests)
    (hr : (requestOf r.command).isSome = true) : (s.enqueue r).queueRequests := by
  intro q hq
  rcases s.enqueue_queue r with hqueue | hqueue
  · rw [hqueue] at hq
    exact h q hq
  · rw [hqueue, List.mem_append, List.mem_singleton] at hq
    rcases hq with hq | rfl
    · exact h q hq
    · exact hr

/-- A request answered: every invariant is kept, and the reply slot holds a reply. -/
theorem State.Answers.keeps {s t : State} (h : State.Answers s t) : State.Keeps ∅ s t ∧ t.matrix.rows = s.matrix.rows ∧
    t.link.queue = s.link.queue ∧ t.link.reply.isSome = true := by
  obtain ⟨u, kind, tag, v, hworks, rfl⟩ := h
  exact ⟨(State.Keeps.of_works hworks).link rfl id, hworks.matrix.rows, hworks.queue, rfl⟩

theorem State.serves_iff (s : State) : s.serves = true ↔
    s.boot.phase = .done ∧ s.link.reply = none ∧ (s.link.taking = true ∨ s.link.queue = []) := by
  simp [State.serves, State.mayTake, and_assoc]

/-- A request taken at once is answered, and the queue stays. -/
theorem State.Hosts.serves {i : Instr} {s : State} {o : Host.Outcome State Fault Refusal} (h : State.Hosts i s o)
    (hline : s.boot.asserted = false) (hserves : s.serves = true) : ∃ t, o = .next t ∧ State.Keeps ∅ s t ∧
      t.matrix.rows = s.matrix.rows ∧ t.link.queue = s.link.queue ∧ t.link.reply.isSome = true := by
  obtain ⟨f, rfl, hf⟩ := h
  have hrunning : State.running (s.settled.onLink fun k => { k with taking := false }) :=
    ⟨hline, ((State.serves_iff s).1 hserves).1⟩
  obtain ⟨hkeeps, hrows, hqueue, hreply⟩ := (hf _ hrunning).keeps
  have htaken : State.Keeps ∅ s (s.settled.onLink fun k => { k with taking := false }) :=
    (State.Keeps.of_works s.settled_works).link rfl id
  exact ⟨_, State.host_serves s i f hline hserves, htaken.trans hkeeps hrows, hrows, hqueue, hreply⟩

/-- Every host request completes: refused or accepted, or waiting in the queue. -/
theorem State.Hosts.completes {i : Instr} {s : State} {o : Host.Outcome State Fault Refusal} (h : State.Hosts i s o)
    (hi : (requestOf i).isSome = true) : State.Completes ∅ s o := by
  cases hline : s.boot.asserted with
  | true =>
    obtain ⟨f, rfl, -⟩ := h
    rw [State.host, State.take_held _ _ hline]
    exact .next (.refl s)
  | false =>
    cases hserves : s.serves with
    | true =>
      obtain ⟨t, rfl, hkeeps, -, hqueue, hreply⟩ := h.serves hline hserves
      refine ⟨t, rfl, hkeeps, fun hq => ⟨hqueue ▸ hq.1, fun _ hnone => ?_⟩⟩
      rw [hnone] at hreply
      cases hreply
    | false =>
      obtain ⟨f, rfl, -⟩ := h
      rw [State.host_waits s i f hline hserves]
      refine ⟨_, rfl, (State.Keeps.of_works s.settled_works).trans (s.settled.enqueue_keeps _) ?_, fun hq => ?_⟩
      · exact congrArg (·.matrix.rows) (State.enqueue_frame s.settled (.spelled i))
      · refine ⟨State.enqueue_queueRequests (s := s.settled) hq.1 hi, fun hdone hreply => ?_⟩
        rw [State.enqueue_boot] at hdone
        rw [State.enqueue_reply] at hreply
        have hempty := hq.2 hdone hreply
        have hwaits := (State.serves_iff s).2 ⟨hdone, hreply, Or.inr hempty⟩
        rw [hserves] at hwaits
        cases hwaits

/-- The head of the queue is taken as soon as it may be: every request is answered, so that one more waits at most while
the reply slot is occupied (R189). -/
theorem State.serveHead_completes (s : State) (hline : s.boot.asserted = false) : ∃ t, s.serveHead = .next t ∧
    State.Keeps ∅ s t ∧ t.matrix.rows = s.matrix.rows ∧ (s.queueRequests → Claims.queueServed t) := by
  unfold State.serveHead
  split
  next r rest hmay hqueue =>
    have hless : s.link.queue.length ≤ 4 → rest.length ≤ 4 := fun h =>
      (Nat.le_succ _).trans (by rwa [hqueue, List.length_cons] at h)
    have htaken : State.Keeps ∅ s { s with link := { s.link with queue := rest, taking := true } } :=
      (State.Keeps.refl s).link rfl hless
    have hrest : s.queueRequests → ∀ q ∈ rest, (requestOf q.command).isSome = true := fun h q hq =>
      h q (hqueue ▸ List.mem_cons_of_mem r hq)
    cases hr : (requestOf r.command).isSome with
    | false =>
      rw [serveRequest_of_not_request _ _ (by simpa using hr)]
      refine ⟨_, rfl, htaken, rfl, fun h => ?_⟩
      have hhead := h r (hqueue ▸ List.mem_cons_self ..)
      rw [hr] at hhead
      cases hhead
    | true =>
      rw [serveRequest_eq_exec _ _ hr]
      simp only [State.mayTake, Bool.and_eq_true, beq_iff_eq, Option.isNone_iff_eq_none] at hmay
      obtain ⟨hdone, hreply⟩ := hmay
      obtain ⟨t, ht, hkeeps, hrows, hsame, hanswer⟩ := (exec_hosts r.command
        { s with link := { s.link with queue := rest, taking := true } } hr).serves hline
          ((State.serves_iff _).2 ⟨hdone, hreply, Or.inl rfl⟩)
      refine ⟨t, ht, htaken.trans hkeeps hrows, hrows, fun h => ⟨hsame ▸ hrest h, fun _ hnone => ?_⟩⟩
      rw [hnone] at hanswer
      cases hanswer
  next hnot =>
    refine ⟨s, rfl, .refl s, rfl, fun h => ⟨h, fun hdone hreply => ?_⟩⟩
    cases hqueue : s.link.queue with
    | nil => rfl
    | cons r rest =>
      have hmay : s.mayTake = true := by simp [State.mayTake, hdone, hreply]
      exact absurd hqueue (hnot r rest hmay)

/-- The cell writes of the event before are read by no invariant. -/
theorem State.Keeps.of_settled {L : Set Tx} {s t : State} (h : State.Keeps L s.settled t) : State.Keeps L s t :=
  { h with store := h.store ∘ (s.settled_works (L := L)).store }

/-- A command after which the head of the queue is taken. -/
theorem State.Completes.takeAndServe {s : State} {f : State → State}
    (hf : ∀ x : State, x.boot.asserted = false → State.Keeps ∅ x (f x) ∧ (f x).boot.asserted = false ∧
      (x.queueRequests → (f x).queueRequests)) : State.Completes ∅ s (s.takeAndServe f) := by
  unfold State.takeAndServe
  split
  · exact .next (.refl s)
  next hline =>
    obtain ⟨hkeeps, hlive, hrequests⟩ := hf s.settled (Bool.eq_false_iff.2 hline)
    obtain ⟨t, ht, hserved, hrows, hqueue⟩ := (f s.settled).serveHead_completes hlive
    exact ⟨t, ht, (hkeeps.trans hserved hrows).of_settled, fun hs => hqueue (hrequests hs.1)⟩

/-! ### Resets (R205) -/

/-- An IDLE store controller and an IDLE Check Unit are quiet. -/
theorem storeQuiet_of_idle {s : State} (hop : s.store.op = none) (hcheck : s.check = none) : Claims.storeQuiet s := by
  refine ⟨fun _ => ⟨hop, hcheck⟩, fun b hb => ?_, fun b hb => ?_, fun k hk => ?_⟩
  · simp [Store.writing, hop] at hb
  · simp [Store.erasing, hop] at hb
  · simp [hcheck] at hk

theorem Matrix.reset_point (g : Settings) (t : Tx) (c : Col) : (Matrix.reset g).point t c = Crosspoint.reset := by
  simp [Matrix.point, Matrix.reset]

theorem Matrix.reset_xstate (g : Settings) (t : Tx) (c : Col) : (Matrix.reset g).xstate t c = .unknown :=
  congrArg Crosspoint.state (Matrix.reset_point g t c)

theorem Matrix.reset_slotsBalanced (g : Settings) : Claims.slotsBalanced (Matrix.reset g) := by
  refine ⟨fun t c => by rw [Matrix.reset_point]; rfl, ?_⟩
  have hbusy : (Matrix.reset g).busy = ∅ := by
    simp [Matrix.busy, Matrix.reset_point, Crosspoint.reset]
  rw [Matrix.driving_eq_card, hbusy]
  rfl

theorem Outbox.Puts.reset (o : Outbox) : Outbox.Puts ∅ o o.reset :=
  ⟨fun _ => Nat.zero_le _, fun _ => ⟨Nat.zero_le _, le_refl _⟩, [], (List.append_nil _).symm,
    fun _ _ => List.not_mem_nil⟩

theorem State.resetFor_keeps (cause : ResetCause) (s : State) : State.Keeps ∅ s (s.resetFor cause) where
  pending := rfl
  out := .reset s.out
  clock hlegal := by
    cases cause with
    | powerOn => exact (by decide : Clock.powerOn.legal = true)
    | resetLine => exact Clock.legal_of_eq hlegal
    | restart => exact Clock.legal_of_eq hlegal
  slots _ := Matrix.reset_slotsBalanced _
  claims _ := List.nodup_nil
  starts u k _ hmoves := by
    have hstill := Matrix.reset_xstate Settings.default u k
    rw [show (s.resetFor cause).matrix.xstate u k = .unknown from hstill] at hmoves
    cases hmoves
  upcoming _ := Nat.zero_le _
  engine _ _ := ⟨rfl, rfl, rfl⟩
  check _ _ hnone := nomatch hnone
  season _ hload := absurd rfl hload
  store _ := storeQuiet_of_idle rfl rfl
  room _ := Nat.zero_le _

theorem State.resetFor_queueServed (cause : ResetCause) (s : State) : Claims.queueServed (s.resetFor cause) :=
  ⟨fun _ hnone => absurd hnone List.not_mem_nil, fun _ _ => rfl⟩

/-- Start-up's first two steps, on a machine whose store controller and Check Unit are IDLE (R207). -/
theorem State.beginStartup_keeps {s x : State}
    (hx : (x.pending, x.out, x.clock, x.engine, x.check, x.store.op, x.link) =
      (s.pending, s.out, s.clock, s.engine, s.check, s.store.op, s.link))
    (hidle : Claims.storeQuiet s → s.store.op = none ∧ s.check = none) : State.Keeps ∅ s x.beginStartup := by
  obtain ⟨hpending, hcheck, hengine, hop, -, -, ⟨g, hmatrix⟩, hclock, hone, hout⟩ := x.beginStartup_rest
  have hlink := x.beginStartup_link
  simp only [Prod.mk.injEq] at hx
  obtain ⟨hpending', hout', hclock', hengine', hcheck', hop', hlink'⟩ := hx
  rw [hpending'] at hpending
  rw [hout'] at hout
  rw [hclock'] at hclock
  rw [hengine'] at hengine
  rw [hcheck'] at hcheck
  rw [hop'] at hop
  rw [hlink'] at hlink
  generalize x.beginStartup = t at *
  refine ⟨hpending, hout, hclock, fun _ => ?_, fun _ => ?_, fun u k _ hmoves => ?_, hengine ▸ id, hengine ▸ id,
    hcheck ▸ id, fun _ _ => hone, fun hq => ?_, hlink ▸ id⟩
  · exact hmatrix ▸ Matrix.reset_slotsBalanced g
  · exact hmatrix ▸ List.nodup_nil
  · rw [hmatrix, Matrix.reset_xstate] at hmoves
    cases hmoves
  · obtain ⟨hopNone, hcheckNone⟩ := hidle hq
    exact storeQuiet_of_idle (hop.trans hopNone) (hcheck.trans hcheckNone)

/-- Start-up begins on a machine just reset. -/
theorem State.resetFor_beginStartup_keeps (cause : ResetCause) (s : State) :
    State.Keeps ∅ s (s.resetFor cause).beginStartup := by
  refine (s.resetFor_keeps cause).trans (State.beginStartup_keeps rfl fun _ => ⟨rfl, rfl⟩) ?_
  obtain ⟨-, -, -, -, -, -, ⟨g, hmatrix⟩, -⟩ := (s.resetFor cause).beginStartup_rest
  rw [hmatrix]
  rfl

/-- No request is taken before start-up has ended. -/
theorem State.beginStartup_queueServed {s : State} (h : s.queueRequests) : Claims.queueServed s.beginStartup := by
  obtain ⟨-, -, -, -, hphase, -⟩ := s.beginStartup_rest
  refine ⟨by rw [State.beginStartup_link]; exact h, fun hdone => ?_⟩
  cases hphase.symm.trans hdone

end Sys2Proof.Machine

/-! Every command completes, and what every step keeps: the obligations O2, O7 to O13 and O15. -/

namespace Sys2Proof.Machine

/-! ### Commands with a rule of their own -/

/-- A change of a bank in what is no state cell leaves the banks' states. -/
theorem Store.onBank_state (k : Store) (b c : Bank) (f : SeasonBank → SeasonBank) (hf : ∀ q, (f q).state = q.state) :
    ((k.onBank b f).bank c).state = (k.bank c).state := by
  rw [Store.bank_onBank]
  split
  next hcb => rw [hf, hcb]
  · rfl

namespace State.Works

variable {L : Set Tx} {s t u : State}

theorem pulseWatchExpiry (h : State.Works L s t) :
    State.Works L s (if t.clock.watch.isSome then
      (t.onClock fun k => { k with pulse := .lost, watch := none }).onOut fun o =>
        o.event .pulseLost (match t.pulseLine with | some l => .line l | none => .none) []
      else t) := ite (onOut (onClock h fun hk => Clock.legal_of_eq hk) (.event ..)) h

theorem headerComplete (h : State.Works L s t) {b : Bank} : State.Works L s
    (t.onStore fun k => (k.onBank b fun q => { q with headerPage := .programmed }).idle) :=
  idles h rfl fun c => Store.onBank_state t.store b c (fun q => { q with headerPage := .programmed }) fun _ => rfl

theorem pageComplete (h : State.Works L s t) {b : Bank} {p : Page} {slots : Vector Slot 8} : State.Works L s
    (t.onStore fun k => (k.onBank b fun q => { q with pages := upd q.pages p (.programmed slots) }).idle) :=
  idles h rfl fun c =>
    Store.onBank_state t.store b c (fun q => { q with pages := upd q.pages p (.programmed slots) }) fun _ => rfl

theorem beginFrame (h : State.Works L s t) : State.Works L s t.beginFrame := by
  unfold State.beginFrame
  split
  · exact h
  · split
    · exact core h (.refl _)
    · split
      · exact core h (.refl _)
      · split
        next e rest hnotices =>
          have hless : t.out.notices.length ≤ 16 → rest.length ≤ 16 := fun hle =>
            (Nat.le_succ _).trans (by rwa [hnotices, List.length_cons] at hle)
          exact core h ⟨hless, id, [], (List.append_nil _).symm, fun _ _ => List.not_mem_nil⟩
        · exact h

theorem hunt (h : State.Works L s t) : State.Works L s t.hunt := core h (.refl _)

theorem frameFault (h : State.Works L s t) {n : Nat} : State.Works L s (t.frameFault n) := core h (.event ..)

theorem receive (h : State.Works L s t) {bytes : List Byte} : State.Works L s (State.receive bytes t) := by
  unfold State.receive
  dsimp only
  split
  · exact core h (.refl _)
  · exact ite (frameFault (hunt h)) (ite (onOut (hunt h) (.hand _)) (core h (.refl _)))

end State.Works

/-- The machine with a row record changed. -/
def State.onRow (s : State) (t : Tx) (f : RowRecord → RowRecord) : State := { s with matrix := s.matrix.onRow t f }

/-- A row record changes, and no crosspoint (R97). -/
theorem State.Keeps.onRow {L : Set Tx} (s : State) (t : Tx) (f : RowRecord → RowRecord) :
    State.Keeps L s (s.onRow t f) where
  pending := rfl
  out := .refl _
  clock := id
  slots h := slotsBalanced_of_eq h rfl rfl
  claims := id
  starts u k hs ht := absurd (hs.symm.trans ht) (by decide)
  upcoming := id
  engine := id
  check := id
  season := id
  store := id
  room := id

/-- A command that keeps every invariant and leaves the request queue and the reply slot. -/
theorem State.Completes.takeKeeps {L : Set Tx} {s : State} {f : State → State}
    (hf : ∀ x : State, State.Keeps L x (f x) ∧ (f x).link = x.link ∧ (f x).boot = x.boot) :
    State.Completes L s (s.take f) := by
  unfold State.take
  split
  · exact .next (.refl s)
  · obtain ⟨hkeeps, hlink, hboot⟩ := hf s.settled
    refine ⟨_, rfl, hkeeps.of_settled, fun hq => ?_⟩
    unfold Claims.queueServed at hq ⊢
    rwa [hlink, hboot]

/-- The columns that a transmitter holds may pass to listed claims (R101). -/
def Board.passHeld (t : Tx) (b : Board) : Board :=
  allCols.foldl (fun b c => if (b.m.column c).holder = some t then b.pass c else b) b

theorem Board.rowCondition_eq (t : Tx) (r : RowCondition) (b : Board) :
    b.rowCondition t r = Board.passHeld t { b with m := b.m.onRow t fun k => { k with condition := r } } := rfl

theorem Board.passHeld_works (t : Tx) (b : Board) : Board.Works b (b.passHeld t) := by
  refine Board.Works.foldl (fun x c => ?_) allCols b
  split
  · exact Board.pass_works x c
  · exact .refl x

theorem State.onMatrix_rows {s : State} {f : Board → Board} (h : Board.Works ⟨s.matrix, s.out⟩ (f ⟨s.matrix, s.out⟩)) :
    (s.onMatrix f).matrix.rows = s.matrix.rows := h.matrix.rows

theorem State.onMatrix_rowCondition (s : State) (t : Tx) (r : RowCondition) :
    s.onMatrix (Board.rowCondition t r) =
      (s.onRow t fun k => { k with condition := r }).onMatrix (Board.passHeld t) := by
  simp only [State.onMatrix, State.onRow, Board.rowCondition_eq]

theorem State.Completes.rowConditionReport (s : State) (t : Tx) (r : RowCondition) :
    State.Completes ∅ s (execRowConditionReport t r s) := by
  refine .takeKeeps fun x => ?_
  rw [State.onMatrix_rowCondition]
  refine ⟨(State.Keeps.onRow x t _).trans (.of_works (.onMatrix (.refl _) (Board.passHeld_works t _))) ?_,
    State.onMatrix_link _ _, State.onMatrix_boot _ _⟩
  exact State.onMatrix_rows (Board.passHeld_works t _)

theorem State.Completes.muteConfirmedReport (s : State) (t : Tx) (yes : Bool) :
    State.Completes ∅ s (execMuteConfirmedReport t yes s) :=
  .takeKeeps fun x => ⟨State.Keeps.onRow x t fun k => { k with muteConfirmed := yes }, rfl, rfl⟩

/-! ### Frames and start-up's end (R188, R189, R210) -/

theorem State.Completes.frameReceived (s : State) (bytes : List Byte) :
    State.Completes ∅ s (execFrameReceived bytes s) := by
  refine .takeAndServe fun x hline => ?_
  unfold State.enterFrame
  split
  · exact ⟨.refl x, hline, id⟩
  · split
    · refine ⟨x.enqueue_keeps _, by rw [State.enqueue_boot]; exact hline, fun h => ?_⟩
      exact State.enqueue_queueRequests h (Frame.command_isRequest _)
    · exact ⟨.of_works (.frameFault (.refl x)), hline, id⟩

/-- What a machine keeps whose host link alone differs, with no request more in its queue. -/
theorem State.Keeps.of_onLink {L : Set Tx} {s t : State} {f : HostLink → HostLink} (h : State.Keeps L (s.onLink f) t)
    (hf : s.link.queue.length ≤ 4 → (f s.link).queue.length ≤ 4) : State.Keeps L s t where
  pending := h.pending
  out := h.out
  clock := h.clock
  slots := h.slots
  claims := h.claims
  starts := h.starts
  upcoming := h.upcoming
  engine := h.engine
  check := h.check
  season := h.season
  store := h.store
  room := h.room ∘ hf

theorem State.endFrame_keeps (s : State) (hline : s.boot.asserted = false) :
    State.Keeps ∅ s s.endFrame ∧ s.endFrame.boot.asserted = false ∧ (s.queueRequests → s.endFrame.queueRequests) := by
  unfold State.endFrame
  split
  · exact ⟨.refl s, hline, id⟩
  · dsimp only
    have hfree : State.Keeps ∅ s (s.onLink fun k => { k with line := none, reply := none }) :=
      (State.Keeps.refl s).link rfl id
    split
    · split
      · obtain ⟨-, -, -, -, -, hasserted, -⟩ := State.beginStartup_rest (State.resetFor .restart
          (s.onLink fun k => { k with line := none, reply := none }))
        refine ⟨(State.resetFor_beginStartup_keeps .restart _).of_onLink id, hasserted, fun _ => ?_⟩
        exact (State.beginStartup_queueServed fun _ hnone => absurd hnone List.not_mem_nil).1
      · exact ⟨hfree, hline, id⟩
    · exact ⟨hfree, hline, id⟩
  · exact ⟨(State.Keeps.refl s).link rfl id, hline, id⟩

theorem State.Completes.outgoingFrameEnd (s : State) : State.Completes ∅ s (execOutgoingFrameEnd s) :=
  .takeAndServe fun x hline => x.endFrame_keeps hline

/-- Start-up ends: no invariant of the machine before its bank tests applies any longer (R210). -/
theorem State.Keeps.endsStartup {s t : State} (h : State.Works ∅ s t) (hphase : s.boot.phase = .adopt) :
    State.Keeps ∅ s { t with boot := { t.boot with phase := .done } } := by
  have hload : t.boot.phase ≠ .load := fun hl => by
    rw [h.boot.load, hphase] at hl
    cases hl
  have hkeeps := State.Keeps.of_works h
  refine { hkeeps with season := fun hone _ => hkeeps.season hone hload, store := fun hq => ?_ }
  obtain ⟨hreset, hrest⟩ := h.store hq
  refine ⟨fun hcase => ?_, hrest⟩
  rcases hcase with ha | hl
  · exact hreset (Or.inl ha)
  · cases hl

theorem Board.beginGranting_works (travel : Nat) (b : Board) :
    Board.Works b (Board.grant travel { b with m := { b.m with granting := true } }) := by
  have hgranting : Board.Works b { b with m := { b.m with granting := true } } :=
    ⟨.of_eq rfl rfl rfl (List.Sublist.refl _), .refl _⟩
  exact hgranting.grant

theorem State.Completes.startupEnd (s : State) : State.Completes ∅ s (execStartupEnd s) := by
  refine .takeAndServe fun x hline => ?_
  split
  next hphase =>
    have hended := State.Keeps.endsStartup (.onEngine (.onOut (.refl x)
      (f := fun o => { o with handed := o.handed.filter fun i => !isBoundary i }) (.of_eq rfl rfl rfl))
      (f := fun g => { g with armed := x.store.autorun }) id id) hphase.1
    exact ⟨hended.trans (.of_works (.onMatrix (.refl _) (Board.beginGranting_works _ _)))
      (State.onMatrix_rows (Board.beginGranting_works _ _)), hline, id⟩
  · exact ⟨.refl x, hline, id⟩

/-! ### Every command -/

/-- POWER_ON, RESET_LINE_ASSERT and RESET_LINE_RELEASE complete (R205). -/
theorem exec_reset_completes (c : Instr) (s : State)
    (hc : c = .powerOn ∨ c = .resetLineAssert ∨ c = .resetLineRelease) : State.Completes ∅ s (exec c s) := by
  rcases hc with rfl | rfl | rfl
  · exact ⟨_, rfl, s.resetFor_beginStartup_keeps .powerOn, fun _ =>
      State.beginStartup_queueServed fun _ hnone => absurd hnone List.not_mem_nil⟩
  · have hreset := s.resetFor_keeps .resetLine
    refine ⟨_, rfl, { hreset with store := fun _ => storeQuiet_of_idle rfl rfl }, fun _ => ?_⟩
    exact s.resetFor_queueServed .resetLine
  · show State.Completes ∅ s (execResetLineRelease s)
    unfold execResetLineRelease
    split
    next hline =>
      refine ⟨_, rfl, State.beginStartup_keeps rfl fun hq => hq.1 (Or.inl hline), fun hq => ?_⟩
      exact State.beginStartup_queueServed (s := State.settled _) hq.1
    · exact .next s.settled_works

/-- Every command but the resets and those that put a waiting request into service completes (R189). -/
theorem exec_completes (c : Instr) (s : State) : State.Completes (unmutesOf c) s (exec c s) := by
  by_cases hrequest : (requestOf c).isSome = true
  · have hsilent : unmutesOf c = ∅ := by cases c <;> first | rfl | cases hrequest
    rw [hsilent]
    exact (exec_hosts c s hrequest).completes hrequest
  unfold exec
  cases c with
  | frameReceived bytes => exact .frameReceived s bytes
  | linkGapExpiry =>
    refine .take fun x => ?_
    split
    · exact .refl x
    · exact .frameFault (.hunt (.refl x))
  | outgoingFrameBegin => exact .take fun x => .beginFrame (.refl x)
  | outgoingFrameEnd => exact .outgoingFrameEnd s
  | clockTenthAdvance => exact .next (.advanceTenth s.settled_works)
  | referenceJudgedPresent => exact .next (.referenceGood s.settled_works)
  | referenceInputFailure => exact .next (.referenceFails s.settled_works)
  | secondPulse =>
    refine .take fun x => ?_
    split
    · exact .secondPulse (.refl x)
    · exact .refl x
  | pulseWatchExpiry => exact .take fun x => .pulseWatchExpiry (.refl x)
  | minuteBoundary b => exact .take fun x => .ite (.boundary (.refl x)) (.refl x)
  | scheduleWorkEnded t w => exact .take fun x => .drainTest (.uncarry (.refl x))
  | headerWriteComplete =>
    refine .take fun x => ?_
    split
    · exact .onOut (.headerComplete (.refl x)) (.event ..)
    · exact .refl x
  | entryPageWriteComplete =>
    refine .take fun x => ?_
    split
    · exact .onOut (.pageComplete (.refl x)) (.event ..)
    · exact .refl x
  | settingsWriteComplete =>
    refine .take fun x => ?_
    split
    · exact .onOut (.idles (.refl x) rfl fun _ => rfl) (.event ..)
    · exact .refl x
  | eraseComplete =>
    refine .take fun x => ?_
    split
    next b hop => exact .onOut (.eraseComplete (.refl x) hop) (.event ..)
    · exact .refl x
  | checkComplete =>
    refine .take fun x => ?_
    split
    · exact .refl x
    next k hk => exact .checkCompletes (.refl x) hk
  | position t c k =>
    exact .take fun x => .when (.onMatrix (.refl x) (Board.position_works ..)) fun hp => .endTable (.refl _) hp.1
  | travelLimitExpiry t c => exact .take fun x => .onMatrix (.refl x) (Board.travelExpired_works ..)
  | claim t c => exact .take fun x => .onMatrix (.refl x) (Board.claim_works ..)
  | release t c => exact .take fun x => .onMatrix (.refl x) (Board.dropClaim_works ..)
  | withdrawClaim t c => exact .take fun x => .onMatrix (.refl x) (Board.dropClaim_works ..)
  | driveRequest t row c d p => exact .take fun x => .onMatrix (.refl x) (Board.driveRequest_works ..)
  | cancelDrive t => exact .take fun x => .cancelDrive (.refl x)
  | rowConditionReport t r => exact .rowConditionReport s t r
  | muteConfirmedReport t yes => exact .muteConfirmedReport s t yes
  | suspectMark c => exact .take fun x => .onMatrix (.refl x) (Board.service_works ..)
  | suspensionSourceAdd a => exact .take fun x => .onMatrix (.refl x) (Board.suspend_works ..)
  | suspensionSourceRemove r => exact .take fun x => .onMatrix (.refl x) (Board.resume_works ..)
  | gateMemberAdd c m => exact .take fun x => .onMatrix (.refl x) (Board.service_works ..)
  | gateMemberRemove c ms => exact .take fun x => .onMatrix (.refl x) (Board.service_works ..)
  | claimGranted t c => exact .take fun x => .csq (.refl x) fun b => .claimGranted (.refl b)
  | claimListed t c => exact .take fun x => .csq (.refl x) fun b => .claimListed (.refl b)
  | claimRefused t c => exact .take fun x => .csq (.refl x) fun b => .claimRefused (.refl b)
  | driveStarted t row c => exact .take fun x => .csq (.refl x) fun b => .driveStarted (.refl b)
  | driveDone t row c => exact .take fun x => .csq (.refl x) fun b => .driveDone (.refl b)
  | driveFailed t row c why => exact .take fun x => .csq (.refl x) fun b => .driveFailed (.refl b)
  | matrixFault t => exact .take fun x => .csq (.refl x) fun b => .matrixFault (.refl b)
  | serviceChanged t c v =>
    exact .take fun x => .csq (.refl x) fun b => .serviceChanged (.refl b) (Set.mem_singleton t)
  | withdrawEndOrder t => exact .take fun x => .csq (.refl x) fun b => .endWork (.refl b)
  | holdAdd t a => exact .take fun x => .csq (.refl x) fun b => .holdAdd (.refl b)
  | holdRemove t r => exact .take fun x => .csq (.refl x) fun b => .holdRemove (.refl b) (Set.mem_singleton t)
  | rfAbsent t => exact .take fun x => .csq (.refl x) fun b => .rfAbsent (.refl b) (Set.mem_singleton t)
  | rfPresent t => exact .take fun x => .csq (.refl x) fun b => .rfPresent (.refl b)
  | statPollInstant t => exact .take fun x => .csq (.refl x) fun b => .when (.refl b) (.pollInstant (.refl _))
  | statReady t => exact .take fun x => .csq (.refl x) fun b => .statReady (.refl b)
  | statOff t => exact .take fun x => .csq (.refl x) fun b => .statOff (.refl b)
  | statFault t => exact .take fun x => .csq (.refl x) fun b => .statFault (.refl b)
  | fault t code => exact .take fun x => .csq (.refl x) fun b => .faultLine (.refl b)
  | tuned t kHz => exact .take fun x => .csq (.refl x) fun b => .tunedLine (.refl b)
  | tunefail t => exact .take fun x => .csq (.refl x) fun b => .tunefailLine (.refl b)
  | ok t => exact .take .refl
  | unknownPortLine t => exact .take .refl
  | claimWaitExpiry t => exact .take fun x => .csq (.refl x) fun b => .claimWaitExpired (.refl b)
  | muteLimitExpiry t => exact .take fun x => .csq (.refl x) fun b => .muteLimitExpired (.refl b)
  | settleExpiry t => exact .take fun x => .csq (.refl x) fun b => .settled (.refl b)
  | tuneLimitExpiry t => exact .take fun x => .csq (.refl x) fun b => .tuneLimitExpired (.refl b)
  | openTuneExpiry t => exact .take fun x => .csq (.refl x) fun b => .when (.refl b) (.openTuneFault (.refl _))
  | holdTimeExpiry t => exact .take fun x => .csq (.refl x) fun b => .holdEnded (.refl b) (Set.mem_singleton t)
  | rampLimitExpiry t => exact .take fun x => .csq (.refl x) fun b => .rampExpired (.refl b)
  | restrikeRampLimitExpiry t => exact .take fun x => .csq (.refl x) fun b => .restrikeRampExpired (.refl b)
  | reflectedRisingCrossing t => exact .take fun x => .csq (.refl x) fun b => .reflectedRise (.refl b)
  | reflectedFallingCrossing t => exact .take fun x => .csq (.refl x) fun b => .reflectedFall (.refl b)
  | forwardRisingCrossing t => exact .take fun x => .csq (.refl x) fun b => .forwardRise (.refl b)
  | forwardFallingCrossing t => exact .take fun x => .csq (.refl x) fun b => .forwardFall (.refl b)
  | armingDelayExpiry t => exact .take fun x => .csq (.refl x) fun b => .when (.refl b) (.station (.refl _))
  | restrikeDelayExpiry t =>
    exact .take fun x => .csq (.refl x) fun b => .when (.refl b) (.restrikeTest (.refl _) (Set.mem_singleton t))
  | tripMuteWatchExpiry t => exact .take fun x => .csq (.refl x) fun b => .tripWatchExpired (.refl b)
  | restrikeWindowExpiry t => exact .take fun x => .csq (.refl x) fun b => .when (.refl b) (.tr (.refl _))
  | carrierLossExpiry t =>
    exact .take fun x => .csq (.refl x) fun b => .when (.refl b) (.lock (.muteAndEnd (.refl _)))
  | mainsSample percent => exact .take fun x => .mainsSample (.refl x)
  | mainsRecoveryExpiry =>
    exact .take fun x => .ite (.core (.refl x) (.trans (.handAll _) (.trans (.hand _) (.event ..)))) (.refl x)
  | fieldLineLevelChange l high =>
    exact .take fun x => .ite (.refl x) (.ite (.secondPulse (.refl x)) (.acceptLevel (.refl x)))
  | memberLevelChange m level =>
    refine .take fun x => ?_
    split
    · exact .refl x
    · exact .when (.onIlu (.refl x)) fun _ => .joinLatched (.refl _)
  | emergencyInputChange active => exact .take fun x => .emergencyLevel (.refl x)
  | powerOn => exact exec_reset_completes .powerOn s (Or.inl rfl)
  | resetLineAssert => exact exec_reset_completes .resetLineAssert s (Or.inr (Or.inl rfl))
  | resetLineRelease => exact exec_reset_completes .resetLineRelease s (Or.inr (Or.inr rfl))
  | startupPollTimeout => exact .take fun x => .when (.refl x) fun hp => .endTable (.refl _) hp
  | startupHallEvaluation percent => exact .take fun x => .when (.refl x) fun hp => .evaluateHall (.refl _) hp.1
  | startupAdoption => exact .take fun x => .when (.refl x) fun hp => .adopts (.refl _) hp.1
  | startupEnd => exact .startupEnd s
  | receivedByte b =>
    refine .take fun x => ?_
    split
    · exact .ite (.receive (.refl x)) (.refl x)
    · exact .receive (.refl x)
  | _ => exact absurd rfl hrequest

end Sys2Proof.Machine

/-! What every step keeps, and what follows of it (O2, O7 to O13, O15). -/

namespace Sys2Proof.Machine

/-! ### Every step -/

theorem State.Keeps.mono {L M : Set Tx} {s t : State} (h : State.Keeps L s t) (hLM : L ⊆ M) : State.Keeps M s t :=
  { h with out := h.out.mono hLM }

/-- What a machine keeps of which another differs in what is put out. -/
theorem State.Keeps.of_onOut {L : Set Tx} {s t : State} {f : Outbox → Outbox} (h : State.Keeps L (s.onOut f) t)
    (hf : Outbox.Puts L s.out (f s.out)) : State.Keeps L s t where
  pending := h.pending
  out := hf.trans h.out
  clock := h.clock
  slots := h.slots
  claims := h.claims
  starts := h.starts
  upcoming := h.upcoming
  engine := h.engine
  check := h.check
  season := h.season
  store := h.store
  room := h.room

theorem State.Completes.mono {L M : Set Tx} {s : State} {o : Host.Outcome State Fault Refusal}
    (h : State.Completes L s o) (hLM : L ⊆ M) : State.Completes M s o := by
  obtain ⟨t, ht, hkeeps, hqueue⟩ := h
  exact ⟨t, ht, hkeeps.mono hLM, hqueue⟩

/-- The part's own work completes: start-up's steps, the messages on their way, the frames and the tick. -/
theorem State.ownWork_completes (s : State) : State.Completes Set.univ s s.ownWork := by
  have hexec : ∀ c, State.Completes Set.univ s (exec c s) := fun c => (exec_completes c s).mono (Set.subset_univ _)
  unfold State.ownWork
  split
  · exact .next (.tick (.refl s))
  · split
    next hload =>
      have hkeeps : State.Keeps ∅ s s.settled.beginStartup :=
        State.beginStartup_keeps rfl fun hq => hq.1 (Or.inr hload)
      have hqueue : Claims.queueServed s → Claims.queueServed s.settled.beginStartup := fun hq =>
        State.beginStartup_queueServed hq.1
      exact ⟨_, rfl, hkeeps.mono (Set.subset_univ _), hqueue⟩
    · split
      next i rest _ =>
        unfold State.takeHanded
        dsimp only
        split
        · obtain ⟨t, ht, hkeeps, hqueue⟩ := (exec_completes i (s.onOut fun o => { o with handed := rest })).mono
            (Set.subset_univ _)
          exact ⟨t, ht, hkeeps.of_onOut (.of_eq rfl rfl rfl), hqueue⟩
        · exact .next (.setHanded (.refl s))
      · split
        · exact hexec _
        · split
          · exact hexec _
          · split
            next r rest hmay hqueue =>
              obtain ⟨t, ht, hkeeps, -⟩ := (exec_completes r.command
                (s.onLink fun k => { k with queue := rest, taking := true })).mono (Set.subset_univ _)
              simp only [State.mayTake, Bool.and_eq_true, beq_iff_eq, Option.isNone_iff_eq_none] at hmay
              refine ⟨t, ht, hkeeps.of_onLink fun hle => ?_, fun hserved => ?_⟩
              · rw [hqueue, List.length_cons] at hle
                exact (Nat.le_succ _).trans hle
              · have hempty := hserved.2 hmay.1 hmay.2
                rw [hqueue] at hempty
                cases hempty
            · split
              · exact hexec _
              · exact .next (.tick s.settled_works)

/-- Every step completes: it leaves a next state, which keeps every invariant of the state with the command taken from
its queue. -/
theorem step_completes (s : State) : State.Completes Set.univ { s with pending := s.pending.tail } (step s) := by
  unfold step
  split
  next c rest hpending =>
    rw [hpending]
    exact (exec_completes c _).mono (Set.subset_univ _)
  next hpending =>
    have hsame : ({ s with pending := s.pending.tail } : State) = s := by
      rw [hpending, List.tail_nil, ← hpending]
    rw [hsame]
    exact s.ownWork_completes

theorem step_keeps {s t : State} (h : step s = .next t) :
    State.Keeps Set.univ { s with pending := s.pending.tail } t ∧ (Claims.queueServed s → Claims.queueServed t) := by
  obtain ⟨u, hu, hkeeps, hqueue⟩ := step_completes s
  rw [h, Host.Outcome.next.injEq] at hu
  exact hu ▸ ⟨hkeeps, hqueue⟩

end Sys2Proof.Machine

/-! ### The machine's invariants settled (O2, O7 to O13, O15) -/

namespace Sys2Proof.Machine

/-! ### Commands find the cell writes complete (R34) -/

section Settled

variable {s : State} (hline : s.boot.asserted = false)
include hline

theorem State.take_settled (f : State → State) : s.take f = s.settled.take f := by
  rw [State.take_live s f hline, State.take_live s.settled f hline]
  rfl

theorem State.host_settled (i : Instr) (f : State → State) : s.host i f = s.settled.host i f :=
  State.take_settled hline _

theorem State.takeAndServe_settled (f : State → State) : s.takeAndServe f = s.settled.takeAndServe f := by
  unfold State.takeAndServe
  rw [if_neg (by simp [hline]), if_neg (by simp [State.settled, hline])]
  rfl

theorem execResetLineRelease_settled : execResetLineRelease s = execResetLineRelease s.settled := by
  unfold execResetLineRelease
  rw [if_neg (by simp [hline]), if_neg (by simp [State.settled, hline])]
  rfl

/-- A command finds the cell writes of the event before complete. -/
theorem exec_settled (c : Instr) (hpower : c ≠ .powerOn) (hassert : c ≠ .resetLineAssert) :
    exec c s = exec c s.settled := by
  unfold exec
  cases c with
  | powerOn => exact absurd rfl hpower
  | resetLineAssert => exact absurd rfl hassert
  | resetLineRelease => exact execResetLineRelease_settled hline
  | frameReceived | outgoingFrameEnd | startupEnd => exact State.takeAndServe_settled hline _
  | clockTenthAdvance | referenceJudgedPresent | referenceInputFailure => rfl
  | setTransmitter | setAntenna | setAvailability | setLimits | setMonitor | setProtection | setLine | setMember
  | setMemberRemove | writeLines | setTime | setClockSource | eraseBank | openBank | writeEntries | closeBank | checkBank
  | cancelCheck | readBank | readEntries | run | haltDrain | haltStop | readUpcoming | manualTune | manualEnd
  | resumeSchedule | releaseTransmitter | readTransmitter | withdrawAntenna | restoreAntenna | pollMatrix | readRoutes
  | readAntenna | readLines | readInterlock | interlockClearGroup | interlockClearEmergency | readStatus | readLog
  | setNoticeEnables | clearSources | saveSettings | setStartKind | restart | unknownKind =>
    exact State.host_settled hline _ _
  | _ => exact State.take_settled hline _

end Settled

/-- Settles O2: every command completes (`exec_completes`), every step goes on, and a command's event begins with the
cell writes of the event before complete. -/
theorem everyCommandCompletes : Obligations.EveryCommandCompletes := by
  refine ⟨⟨fun c s => ?_, fun s => ?_⟩, fun c s hline hpower hassert => exec_settled hline c hpower hassert⟩
  · obtain ⟨t, ht, hkeeps, -⟩ := exec_completes c s
    exact ⟨t, ht, hkeeps.pending⟩
  · obtain ⟨t, ht, -⟩ := step_completes s
    rw [ht]
    rfl

/-! ### The invariants (R17, R61, R70, R92, R100, R33, L9, R67) -/

/-- Settles O7. -/
theorem clockStaysLegal : Obligations.ClockStaysLegal := fun _ _ hlegal hstep => (step_keeps hstep).1.clock hlegal

theorem State.withinCapacity_iff (s : State) : s.withinCapacity = true ↔
    s.link.queue.length ≤ 4 ∧ s.out.notices.length ≤ 16 ∧ s.out.log.bounded := by
  simp only [State.withinCapacity, Bool.and_eq_true, decide_eq_true_eq, and_assoc]
  exact Iff.rfl

/-- Settles O8: the queues and the log, and the lists of the engine and of the running check. -/
theorem boundedListsKept : Obligations.BoundedListsKept := by
  refine ⟨fun s t hcapacity hstep => ?_, fun s t hlists hstep => ?_⟩
  · rw [State.withinCapacity_iff] at hcapacity ⊢
    obtain ⟨hqueue, hnotices, hlog⟩ := hcapacity
    obtain ⟨hkeeps, -⟩ := step_keeps hstep
    exact ⟨hkeeps.room hqueue, hkeeps.out.notices hnotices, hkeeps.out.log hlog⟩
  · obtain ⟨hkeeps, -⟩ := step_keeps hstep
    exact ⟨hkeeps.upcoming hlists.1, hkeeps.check hlists.2⟩

/-- Settles O9. -/
theorem motorSlotsConserved : Obligations.MotorSlotsConserved := fun _ _ hslots hstep =>
  (step_keeps hstep).1.slots hslots

/-- Settles O10. -/
theorem oneClaimPerTransmitter : Obligations.OneClaimPerTransmitter := fun _ _ hclaims hstep =>
  (step_keeps hstep).1.claims hclaims

/-- Settles O11. -/
theorem atMostOneBankActive : Obligations.AtMostOneBankActive := fun _ _ hone hstep => (step_keeps hstep).1.season hone

/-- Settles O12. -/
theorem noWriteUnderAReader : Obligations.NoWriteUnderAReader := fun _ _ hquiet hstep =>
  (step_keeps hstep).1.store hquiet

/-- Settles O13. -/
theorem haltedEngineIsEmpty : Obligations.HaltedEngineIsEmpty := fun _ _ hempty hstep =>
  (step_keeps hstep).1.engine hempty

/-- Settles O15: a drive is started by `Board.startDrive` alone, on a row that may move. -/
theorem drivesStartMuted : Obligations.DrivesStartMuted := by
  intro s t u k hstep hstill hmoves
  have hmay := (step_keeps hstep).1.starts u k hstill hmoves
  simpa [RowRecord.mayMove, and_assoc] using hmay

end Sys2Proof.Machine

/-! What a phase tick keeps of the transmitters whose restrike waits for mute confirmed, and that it sends UNMUTE to
them alone (R128, R157, R158; O14). -/

namespace Sys2Proof.Machine

/-! ### A restrike that waits for its mute (R157) -/

/-- The restrike waits for mute confirmed with nothing else in its way. -/
def TxRecord.Waits (m : Matrix) (r : TxRecord) : Prop :=
  r.state = .tripped ∧ r.stage = .waitMute ∧ r.holds.empty = true ∧
    ∃ x, r.current = some x ∧ (m.column x.column).inService = true

/-- A restrike that waits for mute confirmed in `q` has waited for it in `r`, with the same transmission and under no
other holds. -/
def TxRecord.Rests (r q : TxRecord) : Prop :=
  q.state = .tripped → q.stage = .waitMute → r.state = .tripped ∧ r.stage = .waitMute ∧ q.current = r.current ∧
    (q.holds.empty = true → r.holds.empty = true)

theorem TxRecord.Rests.trans {p q r : TxRecord} (h : p.Rests q) (g : q.Rests r) : p.Rests r := by
  intro hstate hstage
  obtain ⟨qstate, qstage, qcurrent, qholds⟩ := g hstate hstage
  obtain ⟨pstate, pstage, pcurrent, pholds⟩ := h qstate qstage
  exact ⟨pstate, pstage, qcurrent.trans pcurrent, pholds ∘ qholds⟩

theorem TxRecord.Rests.waits {r q : TxRecord} (h : r.Rests q) {m n : Matrix}
    (hservice : ∀ c, (n.column c).inService = true → (m.column c).inService = true) (hq : q.Waits n) : r.Waits m := by
  obtain ⟨hstate, hstage, hholds, x, hx, hcolumn⟩ := hq
  obtain ⟨rstate, rstage, rcurrent, rholds⟩ := h hstate hstage
  exact ⟨rstate, rstage, rholds hholds, x, rcurrent ▸ hx, hservice _ hcolumn⟩

theorem setBit_eq_zero {n : Nat} {s : BitVec n} {i : Nat} (h : setBit s i = 0) : s = 0 := by
  refine BitVec.eq_of_getLsbD_eq fun j hj => ?_
  have hbit := setBit_getLsbD s i j hj
  rw [h] at hbit
  simp_all

theorem Sources.empty_of_add {s : Sources} {a : Source} (h : (s.add a).empty = true) : s.empty = true := by
  unfold Sources.add Sources.empty at *
  split at h
  next m =>
    simp only [Bool.and_eq_true, beq_iff_eq] at h ⊢
    exact ⟨⟨setBit_eq_zero h.1.1, h.1.2⟩, h.2⟩
  · simp_all
  · simp_all

/-- The same of the transmitters of two benches. -/
def Bench.Rests (b c : Bench) : Prop := b.u.tr.Rests c.u.tr

namespace Bench.Rests

variable {e : Env} {b c d : Bench}

theorem refl (b : Bench) : Bench.Rests b b := fun hstate hstage => ⟨hstate, hstage, rfl, id⟩
theorem trans (h : Bench.Rests b c) (g : Bench.Rests c d) : Bench.Rests b d := TxRecord.Rests.trans h g
theorem of_state (h : c.u.tr.state ≠ .tripped) : Bench.Rests b c := fun hc => absurd hc h
theorem of_stage (h : c.u.tr.stage ≠ .waitMute) : Bench.Rests b c := fun _ hc => absurd hc h
theorem ite {p : Prop} [Decidable p] (h : Bench.Rests b c) (g : Bench.Rests b d) :
    Bench.Rests b (if p then c else d) := by
  split
  · exact h
  · exact g
theorem when {p : Prop} [Decidable p] (h : Bench.Rests b c) (g : Bench.Rests c d) :
    Bench.Rests b (if p then d else c) := ite (h.trans g) h

theorem tr (h : Bench.Rests b c) {f : TxRecord → TxRecord} (hstate : (f c.u.tr).state = c.u.tr.state := by rfl)
    (hstage : (f c.u.tr).stage = c.u.tr.stage := by rfl) (hcurrent : (f c.u.tr).current = c.u.tr.current := by rfl)
    (hholds : (f c.u.tr).holds = c.u.tr.holds := by rfl) : Bench.Rests b (c.tr f) :=
  h.trans fun s g => ⟨hstate ▸ s, hstage ▸ g, hcurrent, hholds ▸ id⟩
theorem station (h : Bench.Rests b c) {f : Station → Station} (hf : (f c.u).tr = c.u.tr := by rfl) :
    Bench.Rests b (c.station f) := h.trans (by unfold Bench.Rests; rw [Bench.station_u, hf]; exact refl c)
theorem out (h : Bench.Rests b c) {f : Outbox → Outbox} : Bench.Rests b (c.out f) := h
theorem ctx (h : Bench.Rests b c) {f : Context → Context} : Bench.Rests b (c.ctx f) := h
theorem install {k : Context} : Bench.Rests b (c.install k) := of_state nofun
theorem order (h : Bench.Rests b c) {p : PortOrder} : Bench.Rests b (c.order e p) := h
theorem setConfirmed (h : Bench.Rests b c) {v : Bool} : Bench.Rests b (c.setConfirmed e v) := ite h (out (tr h))
theorem quieten (h : Bench.Rests b c) : Bench.Rests b c.quieten := by
  refine tr (station h ?_)
  unfold Station.endTrip
  split <;> rfl
theorem sendMute (h : Bench.Rests b c) : Bench.Rests b (c.sendMute e) :=
  when (setConfirmed (tr (order h))) (quieten (refl _))
theorem reportRow (h : Bench.Rests b c) : Bench.Rests b (c.reportRow e) := ite h (out (tr h))
theorem workEnded (h : Bench.Rests b c) {w : Option SchedRef} : Bench.Rests b (c.workEnded e w) := by
  unfold Bench.workEnded
  split
  · exact h.out
  · exact h
theorem missSlot (h : Bench.Rests b c) {why : Detail} : Bench.Rests b (c.missSlot e why) := by
  unfold Bench.missSlot
  split
  · exact out (tr h)
  · exact h
theorem lock {why : LockReason} {code : Option Nat} : Bench.Rests b (c.lock e why code) :=
  missSlot (out (of_state (show TxState.locked why ≠ .tripped from nofun)))
theorem darken {why : DarkReason} : Bench.Rests b (c.darken e why) :=
  missSlot (of_state (show TxState.dark why ≠ .tripped from nofun))

/-! ### Ends and starts of a transmission: nothing waits any more -/

theorem endRecord (h : Bench.Rests b c) {why : Detail} : Bench.Rests b (c.endRecord e why) := by
  unfold Bench.endRecord
  split
  · exact h.out
  · exact h
theorem drop : Bench.Rests b c.drop := of_stage (show Restrike.none ≠ .waitMute from nofun)
theorem endFailed {why : Detail} : Bench.Rests b (c.endFailed e why) := workEnded drop
theorem muteAndEnd {why : Detail} : Bench.Rests b (c.muteAndEnd e why) := endFailed

theorem createStart {q : StartRequest} : Bench.Rests b (c.createStart e q) := out install

theorem continue_ {q : StartRequest} {x : Transmission} (hair : c.u.tr.state = .onAir) :
    Bench.Rests b (c.continue_ e q x) := by
  have hstate : (c.continue_ e q x).u.tr.state = c.u.tr.state := by
    unfold Bench.continue_ Bench.changeoverDone
    dsimp only [Bench.out_u, Bench.tr_tr]
    split <;> split <;> rfl
  exact of_state (by rw [hstate, hair]; decide)

theorem begin_ {q : StartRequest} : Bench.Rests b (c.begin_ e q) := by
  unfold Bench.begin_
  split
  · split
    next hcont =>
      simp only [isContinuation, Bool.and_eq_true, beq_iff_eq] at hcont
      exact continue_ hcont.1
    · exact createStart
  · exact createStart

theorem takeUp (h : Bench.Rests b c) : Bench.Rests b (c.takeUp e) := by
  unfold Bench.takeUp
  split
  · exact h
  · exact begin_

theorem releaseClaim (h : Bench.Rests b c) : Bench.Rests b (c.releaseClaim e) := by
  unfold Bench.releaseClaim
  split
  · split
    · exact out (ctx h)
    · exact h
  · exact h

theorem outcomeState {why : Detail} {code : Option Nat} :
    Bench.Rests b (c.outcomeState e why code) := by
  unfold Bench.outcomeState
  split
  · exact lock
  · exact lock
  · exact darken
  · exact darken
  · exact of_state nofun

theorem applyOutcome (h : Bench.Rests b c) : Bench.Rests b (c.applyOutcome e) := by
  unfold Bench.applyOutcome
  split
  · exact h
  · exact when (reportRow outcomeState) (takeUp (refl _))

theorem proceed (h : Bench.Rests b c) : Bench.Rests b (c.proceed e) := by
  unfold Bench.proceed
  split
  · exact h
  · refine ite h ?_
    have hmuted : ∀ p [Decidable p], Bench.Rests b (if p then (c.releaseClaim e).sendMute e else c.releaseClaim e) :=
      fun _ _ => when (releaseClaim h) (sendMute (refl _))
    exact ite (ite (hmuted _) (ctx (hmuted _))) (applyOutcome (hmuted _))

theorem cancelWaiting (h : Bench.Rests b c) : Bench.Rests b (c.cancelWaiting e) := by
  unfold Bench.cancelWaiting
  split
  · exact when h (out (ctx (refl _)))
  · exact h

theorem failAs (h : Bench.Rests b c) {why closing : Detail} {code : Option Nat} :
    Bench.Rests b (c.failAs e why closing code) := by
  unfold Bench.failAs
  split
  · exact h
  · exact ite (ite (proceed (ctx h)) h) (proceed (cancelWaiting (ctx (when h (station (refl _))))))

theorem fail (h : Bench.Rests b c) {why : Detail} : Bench.Rests b (c.fail e why) := failAs h

theorem finishEnd (h : Bench.Rests b c) : Bench.Rests b (c.finishEnd e) := by
  unfold Bench.finishEnd
  have hready : ∀ d : Bench, Bench.Rests b (d.tr fun r => { r with context := none, state := .ready }) := fun d =>
    of_state (show TxState.ready ≠ .tripped from nofun)
  split
  · exact h
  · exact takeUp (workEnded (ite (out (reportRow (hready _))) (out (reportRow (hready _)))))

theorem createEnd (h : Bench.Rests b c) {cause : Detail} : Bench.Rests b (c.createEnd e cause) := by
  unfold Bench.createEnd
  split
  · exact h
  · exact when (sendMute install) (finishEnd (refl _))

/-! ### The phases of a changeover -/

theorem goOnAir : Bench.Rests b (c.goOnAir e) := reportRow (of_state (show TxState.onAir ≠ .tripped from nofun))

theorem rampSucceeded {k : Context} : Bench.Rests b (c.rampSucceeded e k) :=
  takeUp (tr (out (releaseClaim (tr goOnAir))))

theorem discardRamp (h : Bench.Rests b c) : Bench.Rests b (c.discardRamp e) := tr (releaseClaim h)

theorem nextStep (h : Bench.Rests b c) : Bench.Rests b (c.nextStep e) := by
  unfold Bench.nextStep
  split
  · exact h
  · refine ite h ?_
    split
    · exact h
    · exact out (ctx h)

theorem enterDrive (h : Bench.Rests b c) : Bench.Rests b (c.enterDrive e) := by
  unfold Bench.enterDrive
  split
  · exact h
  · exact ite (fail (ctx h)) (nextStep (order (ctx (ctx h))))

theorem enterSettle (h : Bench.Rests b c) : Bench.Rests b (c.enterSettle e) :=
  when (reportRow (ctx h)) (enterDrive (refl _))

theorem goHeld : Bench.Rests b (c.goHeld e) := reportRow (of_state (show TxState.held ≠ .tripped from nofun))

theorem giveUp (h : Bench.Rests b c) {x : Transmission} : Bench.Rests b (c.giveUp e x) := by
  unfold Bench.giveUp
  split
  · exact ite (createEnd h) (out install)
  · exact createEnd h

theorem trip {x : Transmission} : Bench.Rests b (c.trip e x) := by
  unfold Bench.trip
  refine trans ?_ (ite (takeUp (refl _)) (ite (giveUp (refl _)) (refl _)))
  exact when (out (when (out (reportRow (of_stage (by rw [Bench.tr_tr]; nofun)))) (out (refl _)))) (out (refl _))

theorem reflectedHigh (h : Bench.Rests b c) : Bench.Rests b (c.reflectedHigh e) := when h (out (refl _))

theorem preMuteTrip (h : Bench.Rests b c) {k : Context} {x : Radiated} : Bench.Rests b (c.preMuteTrip e k x) :=
  out (reflectedHigh (out (station (sendMute (station h)))))

/-! ### The monitors (08) and their samples -/

theorem reflectedRise (h : Bench.Rests b c) : Bench.Rests b (c.reflectedRise e) := by
  have hside : Bench.Rests b
      (c.station fun u => { u with refl := { u.refl with side := some .high, pending := false } }) := station h
  unfold Bench.reflectedRise
  refine ite h ?_
  dsimp only
  split
  · refine ite trip ?_
    split
    · split
      · exact ite (preMuteTrip hside) (reflectedHigh hside)
      · exact reflectedHigh hside
    · exact reflectedHigh hside
  · split
    · exact ite (preMuteTrip hside) (reflectedHigh hside)
    · exact reflectedHigh hside
  · exact reflectedHigh hside

theorem reflectedFall (h : Bench.Rests b c) : Bench.Rests b (c.reflectedFall e) := ite h (when (station h) (out (refl _)))

theorem forwardRise (h : Bench.Rests b c) : Bench.Rests b (c.forwardRise e) := by
  unfold Bench.forwardRise
  refine ite h ?_
  split
  · exact h
  · exact when (station h) (out (refl _))
  · dsimp only
    split
    · exact ite rampSucceeded (station h)
    · exact ite goOnAir (station h)

theorem forwardFall (h : Bench.Rests b c) : Bench.Rests b (c.forwardFall e) := ite h (when (station h) (out (refl _)))

theorem sampleReflected (h : Bench.Rests b c) {d : Detectors} : Bench.Rests b (c.sampleReflected d e) := by
  unfold Bench.sampleReflected
  refine ite h ?_
  split
  · exact station h
  · exact station h
  · exact ite (reflectedRise h) (reflectedFall h)

theorem sampleForward (h : Bench.Rests b c) {d : Detectors} : Bench.Rests b (c.sampleForward d e) := by
  unfold Bench.sampleForward
  dsimp only
  split
  · exact h
  · exact h
  · split
    · exact station h
    · exact station h
    · exact ite (forwardRise h) (forwardFall h)

theorem endMuteFailed : Bench.Rests b (c.endMuteFailed e) := lock

theorem rfPresent (h : Bench.Rests b c) : Bench.Rests b (c.rfPresent e) := by
  have hrf : Bench.Rests b ((c.tr fun r => { r with rf := some true }).station fun u =>
    { u with absent := { side := some .high, pending := false } }) := station (tr h)
  refine ite hrf ?_
  split
  · exact lock
  · exact fail (sendMute hrf)
  · exact endMuteFailed
  · exact endMuteFailed
  · exact sendMute hrf

theorem restrikeTest (h : Bench.Rests b c) (hstage : c.u.tr.stage = .waitMute) : Bench.Rests b (c.restrikeTest e) := by
  unfold Bench.restrikeTest
  split
  · exact h
  next x _ =>
    have hramp : Bench.Rests b (c.restrikeRamp e x) :=
      of_stage (show Restrike.ramp (Timer.start e.limits.ramp) ≠ .waitMute from nofun)
    exact ite (tr h rfl hstage.symm) (ite (createEnd h) (ite hramp (tr h rfl hstage.symm)))

theorem confirmed (h : Bench.Rests b c) : Bench.Rests b (c.confirmed e) := by
  unfold Bench.confirmed
  dsimp only
  split
  · exact of_state (show TxState.ready ≠ .tripped from nofun)
  · split
    · exact ite (proceed h) (ite (ite (finishEnd h) (enterSettle h)) h)
    · split
      next hwaits => exact restrikeTest h hwaits.2
      · exact h

theorem rfAbsent (h : Bench.Rests b c) : Bench.Rests b (c.rfAbsent e) :=
  ite (station (tr h)) (confirmed (reportRow (quieten (setConfirmed (station (tr h))))))

theorem sampleAbsent (h : Bench.Rests b c) {d : Detectors} : Bench.Rests b (c.sampleAbsent d e) := by
  unfold Bench.sampleAbsent
  dsimp only
  split
  · exact station h
  · exact station h
  · exact ite (rfPresent h) (rfAbsent h)

/-! ### Holds and poll instants -/

theorem holdAdd (h : Bench.Rests b c) {a : Source} : Bench.Rests b (c.holdAdd a e) := by
  have hadded : Bench.Rests b (c.tr fun r => { r with holds := r.holds.add a }) :=
    h.trans fun hstate hstage => ⟨hstate, hstage, rfl, Sources.empty_of_add⟩
  unfold Bench.holdAdd
  dsimp only
  split
  · exact goHeld
  · exact goHeld
  · split
    · exact ite goHeld (ite hadded (sendMute hadded))
    · exact hadded
  · exact hadded

theorem lose (h : Bench.Rests b c) {why : Detail} {code : Option Nat} {after : Bench → Bench}
    (hafter : ∀ x, Bench.Rests b (after x)) : Bench.Rests b (c.lose e why code after) := by
  unfold Bench.lose
  split
  · exact failAs h
  · exact hafter _
  · exact hafter _
  · exact hafter _
  · exact hafter _

theorem pollInstant (h : Bench.Rests b c) : Bench.Rests b (c.pollInstant e) :=
  ite (tr (tr (order h))) (ite (tr (tr (order h))) (lose (tr (tr (order h))) fun _ => darken))

theorem ask (h : Bench.Rests b c) : Bench.Rests b (c.ask e) := ite (pollInstant (tr h)) h

end Bench.Rests

/-! ### UNMUTE goes out where the restrike waited (R158) -/

namespace Bench

variable {e : Env} {b c : Bench}

/-- The transmitter of a bench whose restrike waits for mute confirmed, if it does. -/
def waiting (e : Env) (b : Bench) : Set Tx := { u | u = e.t ∧ b.u.tr.Waits e.matrix }

theorem waiting_subset (h : Bench.Rests b c) : c.waiting e ⊆ b.waiting e := fun _ hu =>
  ⟨hu.1, h.waits (fun _ => id) hu.2⟩

theorem restrikeTest_puts (b : Bench) (hstate : b.u.tr.state = .tripped) (hstage : b.u.tr.stage = .waitMute) :
    Bench.Puts e (b.waiting e) b (b.restrikeTest e) := by
  unfold Bench.restrikeTest
  split
  · exact .refl b
  next x hx =>
    refine .ite (.tr (.refl b)) (.ite (.createEnd (.refl b)) ?_)
    split
    next hclear => exact .restrikeRamp (.refl b) ⟨rfl, hstate, hstage, hclear.1, x, hx, hclear.2⟩
    · exact .tr (.refl b)

theorem confirmed_puts (b : Bench) : Bench.Puts e (b.waiting e) b (b.confirmed e) := by
  unfold Bench.confirmed
  dsimp only
  split
  · exact .candidateReady (.refl b)
  · split
    · exact .ite (.proceed (.refl b)) (.ite (.ite (.finishEnd (.refl b)) (.enterSettle (.refl b))) (.refl b))
    · split
      next hwaits => exact b.restrikeTest_puts hwaits.1 hwaits.2
      · exact .refl b

theorem rfAbsent_puts (b : Bench) : Bench.Puts e (b.waiting e) b (b.rfAbsent e) := by
  have hquiet : Bench.Puts e (b.waiting e) b ((((b.tr fun r => { r with rf := some false }).station fun u =>
      { u with absent := { side := some .low, pending := false } }).setConfirmed e true).quieten.reportRow e) :=
    .reportRow (.quieten (.setConfirmed (.station (.tr (.refl b)))))
  have hrests : Bench.Rests b ((((b.tr fun r => { r with rf := some false }).station fun u =>
      { u with absent := { side := some .low, pending := false } }).setConfirmed e true).quieten.reportRow e) :=
    .reportRow (.quieten (.setConfirmed (.station (.tr (.refl b)))))
  exact .ite (.station (.tr (.refl b))) (hquiet.trans ((confirmed_puts _).mono (waiting_subset hrests)))

theorem sampleAbsent_puts (d : Detectors) (b : Bench) : Bench.Puts e (b.waiting e) b (b.sampleAbsent d e) := by
  unfold Bench.sampleAbsent
  dsimp only
  split
  · exact .station (.refl b)
  · exact .station (.refl b)
  · exact .ite (.rfPresent (.refl b)) b.rfAbsent_puts

end Bench

/-! ### Columns stay out of service -/

/-- No column comes into service. -/
def Matrix.NoneReturns (m n : Matrix) : Prop := ∀ c, (n.column c).inService = true → (m.column c).inService = true

namespace Matrix.NoneReturns

variable {m n p : Matrix}

theorem refl (m : Matrix) : m.NoneReturns m := fun _ => id
theorem trans (h : m.NoneReturns n) (g : n.NoneReturns p) : m.NoneReturns p := fun c => h c ∘ g c

theorem onColumn (h : m.NoneReturns n) {c : Col} {f : Column → Column}
    (hf : (f (n.column c)).inService = true → (n.column c).inService = true) : m.NoneReturns (n.onColumn c f) := by
  refine h.trans fun d hd => ?_
  rw [Matrix.onColumn_column] at hd
  split at hd
  next heq => exact heq ▸ hf hd
  · exact hd

theorem setClaimant (h : m.NoneReturns n) {c : Col} {t : Option Tx} : m.NoneReturns (n.setClaimant c t) :=
  onColumn (f := fun k => { k with claimant := t }) h fun hk => hk

theorem reholder (h : m.NoneReturns n) {c : Col} : m.NoneReturns (n.reholder c) := onColumn h fun hk => hk

theorem pass {b : Board} (h : m.NoneReturns b.m) {c : Col} : m.NoneReturns (b.pass c).m := by
  unfold Board.pass
  dsimp only
  split
  · split
    next q _ => exact setClaimant (n := { b.m with claims := b.m.claims.erase q }) h
    · exact h
  · exact h

theorem service {b : Board} (h : m.NoneReturns b.m) {c : Col} {f : Column → Column}
    (hf : (f (b.m.column c)).inService = true → (b.m.column c).inService = true) :
    m.NoneReturns (Board.service c f b).m := by
  have hcolumn : m.NoneReturns (b.m.onColumn c f) := onColumn h hf
  unfold Board.service
  dsimp only
  split
  · exact hcolumn
  · split
    · exact pass hcolumn
    · exact hcolumn

theorem setPoint_unknown {b : Board} (h : m.NoneReturns b.m) {t : Tx} {c : Col} {d : Option Drive} :
    m.NoneReturns (b.setPoint t c .unknown d).m := by
  have hholder : m.NoneReturns ((b.m.onPoint t c fun p => { p with state := .unknown, drive := d }).reholder c) :=
    reholder (n := b.m.onPoint t c fun p => { p with state := .unknown, drive := d }) h
  unfold Board.setPoint
  generalize (b.m.onPoint t c fun p => { p with state := .unknown, drive := d }).reholder c = n at hholder
  unfold Board.settle Board.positionReason
  rw [if_pos rfl]
  exact pass (service hholder fun hk => by simp [Column.inService] at hk)

theorem suspendDrive {b : Board} (h : m.NoneReturns b.m) {d : Tx × Col × Tx} : m.NoneReturns (b.suspendDrive d).m :=
  setPoint_unknown (b := { b with o := b.o.send (.stop d.1 d.2.1) }) h

theorem suspend {b : Board} (h : m.NoneReturns b.m) {a : Source} : m.NoneReturns (b.suspend a).m := by
  have hdrives : ∀ (ds : List (Tx × Col × Tx)) (b : Board), m.NoneReturns b.m →
      m.NoneReturns (ds.foldl (fun b d => b.suspendDrive d) b).m := by
    intro ds
    induction ds with
    | nil => exact fun _ hb => hb
    | cons d ds ih => exact fun b hb => ih _ (suspendDrive hb)
  unfold Board.suspend
  dsimp only
  split
  · exact h
  · exact hdrives _ _ h

theorem tick (h : m.NoneReturns n) : m.NoneReturns n.tick := by
  have hcolumns : n.tick.columns = n.columns := by
    unfold Matrix.tick
    generalize n.drives = ds
    clear h
    induction ds generalizing n with
    | nil => rfl
    | cons d ds ih =>
      rw [List.foldl_cons]
      exact ih
  intro c hc
  rw [Matrix.column, hcolumns] at hc
  exact h c hc

end Matrix.NoneReturns

/-! ### The machine -/

/-- The blocks that a restrike reads. -/
def State.plant (s : State) : Vector Station 12 × Matrix := (s.stations, s.matrix)

/-- UNMUTE goes to none but a transmitter whose restrike waits for mute confirmed; none comes to wait for it, and no
column comes into service. -/
structure State.Rests (s t : State) : Prop where
  out : Outbox.Puts { u | (s.tr u).Waits s.matrix } s.out t.out
  stations : ∀ u, (s.tr u).Rests (t.tr u)
  service : s.matrix.NoneReturns t.matrix

namespace State.Rests

variable {s t u : State}

theorem trans (h : State.Rests s t) (g : State.Rests t u) : State.Rests s u where
  out := h.out.trans (g.out.mono fun v hv => (h.stations v).waits h.service hv)
  stations v := (h.stations v).trans (g.stations v)
  service := h.service.trans g.service

theorem of_plant (hout : Outbox.Puts ∅ s.out t.out) (hplant : t.plant = s.plant) : State.Rests s t := by
  obtain ⟨hstations, hmatrix⟩ := Prod.mk.inj hplant
  refine ⟨hout.mono (Set.empty_subset _), fun v => ?_, hmatrix ▸ .refl _⟩
  rw [State.tr, State.tr, hstations]
  exact fun hstate hstage => ⟨hstate, hstage, rfl, id⟩

theorem refl (s : State) : State.Rests s s := of_plant (.refl _) rfl

/-- An operation that leaves the transmitters and the matrix. -/
theorem plant (h : State.Rests s t) (hworks : State.Works ∅ t u) (hplant : u.plant = t.plant) : State.Rests s u :=
  h.trans (of_plant hworks.out hplant)

/-- An operation made under a condition alone. -/
theorem when {p : Prop} [Decidable p] (h : State.Rests s t) (g : State.Rests t u) :
    State.Rests s (if p then u else t) := by
  split
  · exact h.trans g
  · exact h

theorem foldl {α : Type} {f : State → α → State} (h : State.Rests s t) (hf : ∀ x a, State.Rests x (f x a))
    {xs : List α} : State.Rests s (xs.foldl f t) := by
  induction xs generalizing t with
  | nil => exact h
  | cons a xs ih => exact ih (h.trans (hf t a))

theorem csq (h : State.Rests s t) {v : Tx} {f : Env → Bench → Bench}
    (hputs : ∀ b, Bench.Puts (t.env v) (b.waiting (t.env v)) b (f (t.env v) b)) (hrests : ∀ b, Bench.Rests b (f (t.env v) b)) :
    State.Rests s (t.csq v f) := by
  refine h.trans ⟨?_, fun w => ?_, ?_⟩
  · refine Outbox.Puts.mono (fun w hw => ?_) (Bench.Puts.reportRow (hputs ⟨t.stations.get v, t.out⟩)).toPuts
    obtain ⟨rfl, hwaits⟩ := hw
    exact hwaits
  · by_cases hw : w = v
    · subst hw
      rw [State.tr, State.tr, State.csq_station]
      exact Bench.Rests.reportRow (hrests ⟨t.stations.get w, t.out⟩)
    · rw [State.tr, State.tr, State.csq_other _ _ _ _ hw]
      exact fun hstate hstage => ⟨hstate, hstage, rfl, id⟩
  · exact .refl _

/-- An operation of a transmitter that sends no UNMUTE. -/
theorem csqMuted (h : State.Rests s t) {v : Tx} {f : Env → Bench → Bench}
    (hputs : ∀ b, Bench.Puts (t.env v) ∅ b (f (t.env v) b)) (hrests : ∀ b, Bench.Rests b (f (t.env v) b)) :
    State.Rests s (t.csq v f) := csq h (fun b => (hputs b).mono (Set.empty_subset _)) hrests

theorem onMatrix (h : State.Rests s t) {f : Board → Board} (hworks : Board.Works ⟨t.matrix, t.out⟩ (f ⟨t.matrix, t.out⟩))
    (hf : t.matrix.NoneReturns (f ⟨t.matrix, t.out⟩).m) : State.Rests s (t.onMatrix f) :=
  h.trans ⟨hworks.out.mono (Set.empty_subset _), fun _ hstate hstage => ⟨hstate, hstage, rfl, id⟩, hf⟩

end State.Rests

/-! ### Operations that leave the transmitters and the matrix -/

namespace State

@[simp] theorem setClock_plant (s : State) (old new : Reading) (flag : Bool) : (s.setClock old new flag).plant = s.plant :=
  rfl
@[simp] theorem onClock_plant (s : State) (f : Clock → Clock) : (s.onClock f).plant = s.plant := rfl
@[simp] theorem onOut_plant (s : State) (f : Outbox → Outbox) : (s.onOut f).plant = s.plant := rfl
@[simp] theorem onLine_plant (s : State) (l : Line) (f : FieldLine → FieldLine) : (s.onLine l f).plant = s.plant := rfl
@[simp] theorem onIlu_plant (s : State) (f : Interlocks → Interlocks) : (s.onIlu f).plant = s.plant := rfl
@[simp] theorem mainsDip_plant (s : State) : s.mainsDip.plant = s.plant := rfl
@[simp] theorem latchEmergency_plant (s : State) : s.latchEmergency.plant = s.plant := rfl

@[simp] theorem carrySecond_plant (s : State) (old : Reading) : (s.carrySecond old).plant = s.plant := by
  unfold carrySecond
  dsimp only
  split
  · rfl
  · split
    · rfl
    · split
      · rfl
      · rfl

@[simp] theorem advanceTenth_plant (s : State) : s.advanceTenth.plant = s.plant := by
  unfold advanceTenth
  dsimp only
  split
  · rfl
  · simp

@[simp] theorem secondPulse_plant (s : State) (l : Line) : (s.secondPulse l).plant = s.plant := by
  have halign : s.align.plant = s.plant := by
    unfold align
    dsimp only
    split
    · simp
    · rfl
  exact halign

@[simp] theorem referenceFails_plant (s : State) : s.referenceFails.plant = s.plant := by
  unfold referenceFails
  split <;> rfl

@[simp] theorem sampleReference_plant (s : State) (good : Bool) : (s.sampleReference good).plant = s.plant := by
  unfold sampleReference
  split <;> simp

@[simp] theorem acceptLevel_plant (s : State) (l : Line) (high : Bool) : (s.acceptLevel l high).plant = s.plant := by
  unfold acceptLevel
  dsimp only
  split
  · split
    · split <;> simp
    · simp
  · simp

@[simp] theorem sampleLine_plant (s : State) (high : Bool) (l : Line) : (s.sampleLine high l).plant = s.plant := by
  unfold sampleLine
  dsimp only
  split
  · rfl
  · split
    · split <;> simp
    · split <;> simp

@[simp] theorem emergencyLevel_plant (s : State) (active : Bool) : (s.emergencyLevel active).plant = s.plant := by
  unfold emergencyLevel
  dsimp only
  split <;> simp

@[simp] theorem sampleEmergency_plant (s : State) (high : Bool) : (s.sampleEmergency high).plant = s.plant := by
  unfold sampleEmergency
  dsimp only
  split <;> simp

@[simp] theorem mainsSample_plant (s : State) (percent : Nat) : (s.mainsSample percent).plant = s.plant := by
  unfold mainsSample
  dsimp only
  split
  · rfl
  · rfl
  · rfl
  · split
    · split <;> simp
    · split <;> rfl
    · split <;> rfl

@[simp] theorem joinLatched_plant (s : State) (m : Member) (g : MemberConfig) : (s.joinLatched m g).plant = s.plant := by
  unfold joinLatched
  dsimp only
  split <;> simp

@[simp] theorem evaluateMember_plant (s : State) (m : Member) : (s.evaluateMember m).plant = s.plant := by
  unfold evaluateMember
  dsimp only
  split
  · rfl
  · split <;> simp

theorem foldl_plant {α : Type} {f : State → α → State} (hf : ∀ s x, (f s x).plant = s.plant) (xs : List α) (s : State) :
    (xs.foldl f s).plant = s.plant := by
  induction xs generalizing s with
  | nil => rfl
  | cons x xs ih => exact (ih (f s x)).trans (hf s x)

@[simp] theorem findHall_plant (s : State) (percent : Nat) : (s.findHall percent).plant = s.plant := by
  unfold findHall
  dsimp only
  rw [foldl_plant evaluateMember_plant]
  split <;> split <;> simp

@[simp] theorem tickClock_plant (s : State) : s.tickClock.plant = s.plant := by
  unfold tickClock
  split <;> simp

@[simp] theorem checkVisits_plant (s : State) (n : Nat) : (s.checkVisits n).plant = s.plant := by
  unfold checkVisits
  split <;> rfl

@[simp] theorem tickCheck_plant (s : State) : s.tickCheck.plant = s.plant := by
  unfold tickCheck
  dsimp only
  split
  · rfl
  · split
    · simp
      rfl
    · simp
      rfl

end State

/-! ### The phase tick (R19) -/

namespace State.Rests

variable {s t u : State}

theorem putInForce (h : State.Rests s t) {i : Instr} : State.Rests s (t.putInForce i) := by
  unfold State.putInForce
  split
  · exact csqMuted h (fun b => .holdAdd (.refl b)) fun b => .holdAdd (.refl b)
  next c m =>
    refine onMatrix h (Board.service_works _ _ _) (.service (.refl _) fun hk => ?_)
    simp only [Column.inService, Bool.and_eq_true, beq_iff_eq] at hk ⊢
    exact ⟨hk.1, setBit_eq_zero hk.2⟩
  · exact onMatrix h (Board.suspend_works _ _) (.suspend (.refl _))
  · exact h

theorem hallInForce (h : State.Rests s t) {percent : Nat} : State.Rests s (t.hallInForce percent) := by
  have hfound : State.Rests t ((t.onOut fun o => { o with handed := [] }).findHall percent) :=
    (refl t).plant (.findHall (.setHanded (.refl t))) (by simp)
  unfold State.hallInForce
  generalize (t.onOut fun o => { o with handed := [] }).findHall percent = x at hfound
  have hput : State.Rests x (x.onOut fun o => { o with handed := t.out.handed.filter fun i => !levelChange i }) :=
    of_plant (.of_eq rfl rfl rfl) rfl
  exact foldl (h.trans (hfound.trans hput)) fun y _ => putInForce (refl y)

theorem evaluateHall (h : State.Rests s t) {percent : Nat} : State.Rests s (t.evaluateHall percent) := by
  have hqueries : ∀ x : State, State.Rests x { x with boot := { x.boot with phase := .query } } := fun x =>
    of_plant (.refl _) rfl
  rw [t.evaluateHall_eq percent]
  exact foldl ((hallInForce h).trans (hqueries _)) fun x v =>
    csqMuted (refl x) (v := v) (f := fun e b => b.ask e) (fun b => .ask (.refl b)) fun b => .ask (.refl b)

theorem sampleMains (h : State.Rests s t) {percent : Nat} : State.Rests s (t.sampleMains percent) := by
  unfold State.sampleMains
  split
  · split
    · exact evaluateHall h
    · exact h
  · exact h.plant (.mainsSample (.refl t)) (by simp)

theorem sampleStation (h : State.Rests s t) {instant : Nat} {d : Detectors} {v : Tx} :
    State.Rests s (t.sampleStation instant d v) := by
  have hreflected : ∀ x, State.Rests x (x.csq v (Bench.sampleReflected d)) := fun x =>
    csqMuted (refl x) (fun b => .sampleReflected (.refl b)) fun b => .sampleReflected (.refl b)
  have hforward : ∀ x, State.Rests x (x.csq v (Bench.sampleForward d)) := fun x =>
    csqMuted (refl x) (fun b => .sampleForward (.refl b)) fun b => .sampleForward (.refl b)
  have habsent : ∀ x, State.Rests x (x.csq v (Bench.sampleAbsent d)) := fun x =>
    csq (refl x) (fun b => b.sampleAbsent_puts d) fun b => .sampleAbsent (.refl b)
  unfold State.sampleStation
  dsimp only
  exact h.trans (((refl t).when (hreflected t)).when (hforward _) |>.trans (habsent _))

theorem sample (h : State.Rests s t) {instant : Nat} {i : Inputs} : State.Rests s (State.sample instant i t) := by
  have hreference := h.plant (.sampleReference (.refl t) (good := i.reference)) (by simp)
  unfold State.sample
  dsimp only
  generalize t.sampleReference i.reference = x at hreference
  split
  · exact hreference
  · refine foldl (sampleMains ?_) fun y v => sampleStation (refl y)
    have hlines : State.Rests x (allLines.foldl (fun s l => s.sampleLine (i.pins.getLsbD l.val) l) x) :=
      foldl (refl x) fun y l => (refl y).plant (.sampleLine (.refl y)) (by simp)
    exact hreference.trans (hlines.plant (.sampleEmergency (.refl _)) (by simp))

theorem passInstant (h : State.Rests s t) : State.Rests s t.passInstant := by
  unfold State.passInstant
  dsimp only
  split
  · exact h.plant (.core (.refl t) (.refl _)) rfl
  next i rest _ =>
    have hread : State.Rests t { t with sampling := { instant := (t.sampling.instant + 1) % 8, feed := rest } } :=
      of_plant (.refl _) rfl
    exact sample (h.trans hread)

theorem tickCounts (h : State.Rests s t) : State.Rests s t.tickCounts := by
  refine h.trans ⟨.refl _, fun v => ?_, .tick (.refl _)⟩
  have htr : t.tickCounts.tr v = (t.stations.get v).tick.tr := by
    rw [State.tr, State.tickCounts, mapV_get]
  rw [htr]
  intro hstate hstage
  refine ⟨hstate, ?_, rfl, id⟩
  unfold State.tr
  revert hstage
  unfold Station.tick
  dsimp only
  split
  · exact nofun
  · exact nofun
  · exact id

theorem tick (h : State.Rests s t) (hline : t.boot.asserted = false) : State.Rests s t.tick := by
  have hcounted : State.Rests t (t.onClock Clock.countReference) := of_plant (.refl _) rfl
  have hhanded : State.Rests t ((t.onClock Clock.countReference).onOut fun o =>
      o.handAll (t.onClock Clock.countReference).expiries) := hcounted.plant (.onOut (.refl _) (.handAll _)) rfl
  refine h.trans (passInstant (passInstant ?_))
  unfold State.tickAll
  rw [if_neg (by simp [hline])]
  exact ((tickCounts hhanded).plant (.tickCheck (.refl _)) (by simp)).plant (.tickClock (.refl _)) (by simp)

end State.Rests

/-- While the reset line is asserted a tick sends no order (R205). -/
theorem State.tick_asserted_puts {s : State} (hline : s.boot.asserted = true) : Outbox.Puts ∅ s.out s.tick.out := by
  have hpass : ∀ t : State, t.boot.asserted = true → State.Works ∅ t t.passInstant := by
    intro t ht
    unfold State.passInstant
    dsimp only
    split
    · exact .core (.refl t) (.refl _)
    next i rest _ =>
      have hread : State.Works ∅ t { t with sampling := { instant := (t.sampling.instant + 1) % 8, feed := rest } } :=
        .core (.refl t) (.refl _)
      generalize ({ t with sampling := { instant := (t.sampling.instant + 1) % 8, feed := rest } } : State) = x at hread
      have hreference := State.Works.sampleReference (.refl x) (L := ∅) (good := i.reference)
      have hasserted : (x.sampleReference i.reference).boot.asserted = true :=
        hreference.boot.asserted.trans (hread.boot.asserted.trans ht)
      unfold State.sample
      dsimp only
      rw [if_pos (Or.inl hasserted)]
      exact hread.trans hreference
  have hcounts : State.Works ∅ s s.tickAll := .tickAll (.refl s)
  have hfirst := hpass _ (hcounts.boot.asserted.trans hline)
  have hsecond := hpass _ (hfirst.boot.asserted.trans (hcounts.boot.asserted.trans hline))
  exact ((hcounts.trans hfirst).trans hsecond).out

end Sys2Proof.Machine

/-! No carrier rises under a hold or on a column out of service (R128, R158; O14). -/

namespace Sys2Proof.Machine

/-! ### What a carrier rises under (R128, R158) -/

/-- The hold set is empty, and the column of the transmission or of the changeover's target IN_SERVICE. -/
def TxRecord.Clear (m : Matrix) (r : TxRecord) : Prop :=
  r.holds.empty = true ∧ ((∃ x, r.current = some x ∧ (m.column x.column).inService = true) ∨
    ∃ k, r.context = some k ∧ (m.column k.target).inService = true)

namespace Bench

variable {e : Env} {b c : Bench}

/-- The transmitter of a bench, if its carrier may rise. -/
def clear (e : Env) (b : Bench) : Set Tx := { u | u = e.t ∧ b.u.tr.Clear e.matrix }

theorem reportRow_clear (e : Env) (b : Bench) : (b.reportRow e).clear e = b.clear e := by
  simp only [clear, TxRecord.Clear, Bench.reportRow_holds, Bench.reportRow_current, Bench.reportRow_context]

theorem setConfirmed_tr (e : Env) (v : Bool) (b : Bench) :
    (b.setConfirmed e v).u.tr = { b.u.tr with muteConfirmed := v } := by
  unfold Bench.setConfirmed
  split
  next h => rw [← h]
  · rfl

theorem enterRamp_holds (k : Context) (b : Bench) : (b.enterRamp e k).u.tr.holds = b.u.tr.holds := by
  unfold Bench.enterRamp Bench.raiseCarrier
  dsimp only
  split <;> simp [setConfirmed_tr, Bench.order]

theorem enterRamp_context (k : Context) (b : Bench) : (b.enterRamp e k).u.tr.context = b.u.tr.context.map fun c =>
    { c with phase := .ramp, deadline := some (Timer.start e.limits.ramp), started := true } := by
  unfold Bench.enterRamp Bench.raiseCarrier
  dsimp only
  split <;> simp [setConfirmed_tr, Bench.order]

theorem enterRamp_clear {k : Context} (hcontext : b.u.tr.context = some k) (hholds : b.u.tr.holds.empty = true)
    (hservice : (e.matrix.column k.target).inService = true) : e.t ∈ (b.enterRamp e k).clear e := by
  refine ⟨rfl, by rw [enterRamp_holds]; exact hholds, Or.inr ?_⟩
  exact ⟨_, (enterRamp_context k b).trans (congrArg _ hcontext), hservice⟩

theorem tryCross_puts (h : Bench.Puts e ∅ c b) : Bench.Puts e ((b.tryCross e).clear e) c (b.tryCross e) := by
  unfold Bench.tryCross
  split
  next k hk =>
    split
    next hcross => exact .enterRamp (h.mono (Set.empty_subset _)) (enterRamp_clear hk hcross.2.1 hcross.2.2)
    · exact h.mono (Set.empty_subset _)
  · exact h.mono (Set.empty_subset _)

theorem afterRelease_puts (h : Bench.Puts e ∅ c b) : Bench.Puts e ((b.afterRelease e).clear e) c (b.afterRelease e) := by
  have hmuted : ∀ {L : Set Tx}, Bench.Puts e L c b := fun {L} => h.mono (Set.empty_subset L)
  unfold Bench.afterRelease
  dsimp only
  split
  · split
    · exact hmuted
    · split
      · exact hmuted.takeUp
      · split
        · exact hmuted
        · split
          · exact hmuted
          · split
            · exact tryCross_puts h.install
            · exact hmuted.endHeld
  · exact tryCross_puts h

theorem holdRemove_puts (g : Sources) (b : Bench) : Bench.Puts e ((b.holdRemove g e).clear e) b (b.holdRemove g e) := by
  unfold Bench.holdRemove
  dsimp only
  split
  · exact afterRelease_puts (.tr (.refl b))
  · exact .tr (.refl b)

theorem serviceChanged_puts (k : Col) (v : Bool) (b : Bench) :
    Bench.Puts e ((b.serviceChanged k v e).clear e) b (b.serviceChanged k v e) := by
  unfold Bench.serviceChanged
  dsimp only
  split
  · split
    · split
      · exact afterRelease_puts (.refl b)
      · exact .refl b
    · exact tryCross_puts (.refl b)
  · exact .ite (.goHeld (.refl b)) (.refl b)

theorem holdEnded_puts (b : Bench) : Bench.Puts e ((b.holdEnded e).clear e) b (b.holdEnded e) := by
  unfold Bench.holdEnded
  split
  · split
    · split
      · exact tryCross_puts (.ctx (.refl b))
      · exact .fail (.refl b)
    · exact .refl b
  · exact .refl b

theorem restrikeTest_clear_puts (h : Bench.Puts e ∅ c b) :
    Bench.Puts e ((b.restrikeTest e).clear e) c (b.restrikeTest e) := by
  have hmuted : ∀ {L : Set Tx}, Bench.Puts e L c b := fun {L} => h.mono (Set.empty_subset L)
  unfold Bench.restrikeTest
  split
  · exact hmuted
  next x hx =>
    split
    · exact hmuted.tr
    · split
      · exact hmuted.createEnd
      · split
        next hclear =>
          have htr : ((b.restrikeRamp e x).u.tr.holds, (b.restrikeRamp e x).u.tr.current) =
              (b.u.tr.holds, b.u.tr.current) := by
            simp [Bench.restrikeRamp, Bench.raiseCarrier, Bench.order, setConfirmed_tr]
          obtain ⟨hholds, hcurrent⟩ := Prod.mk.inj htr
          refine .restrikeRamp hmuted ⟨rfl, ?_⟩
          rw [TxRecord.Clear, hholds, hcurrent]
          exact ⟨hclear.1, Or.inl ⟨x, hx, hclear.2⟩⟩
        · exact hmuted.tr

theorem confirmed_clear_puts (h : Bench.Puts e ∅ c b) : Bench.Puts e ((b.confirmed e).clear e) c (b.confirmed e) := by
  have hmuted : ∀ {L : Set Tx}, Bench.Puts e L c b := fun {L} => h.mono (Set.empty_subset L)
  unfold Bench.confirmed
  dsimp only
  split
  · exact hmuted.candidateReady
  · split
    · exact .ite hmuted.proceed (.ite (.ite hmuted.finishEnd hmuted.enterSettle) hmuted)
    · split
      · exact restrikeTest_clear_puts h
      · exact hmuted

theorem rfAbsent_clear_puts (b : Bench) : Bench.Puts e ((b.rfAbsent e).clear e) b (b.rfAbsent e) := by
  unfold Bench.rfAbsent
  dsimp only
  split
  · exact .station (.tr (.refl b))
  · exact confirmed_clear_puts (.reportRow (.quieten (.setConfirmed (.station (.tr (.refl b))))))

end Bench

/-! ### Every command (O14) -/

/-- UNMUTE went to transmitters alone whose carrier may rise in the state that is left. -/
def State.Sends (s t : State) : Prop := Outbox.Puts { u | (t.tr u).Clear t.matrix } s.out t.out

namespace State.Sends

variable {s t : State}

theorem of_muted (h : Outbox.Puts ∅ s.out t.out) : State.Sends s t := h.mono (Set.empty_subset _)

theorem csq {v : Tx} {f : Env → Bench → Bench}
    (hf : ∀ b, Bench.Puts (s.env v) ((f (s.env v) b).clear (s.env v)) b (f (s.env v) b)) : State.Sends s (s.csq v f) := by
  have hputs := Bench.Puts.reportRow (e := s.env v) (hf ⟨s.stations.get v, s.out⟩)
  rw [← Bench.reportRow_clear] at hputs
  refine Outbox.Puts.mono (fun w hw => ?_) hputs.toPuts
  obtain ⟨rfl, hclear⟩ := hw
  show TxRecord.Clear _ (State.tr _ _)
  rw [State.tr, State.csq_station]
  exact hclear

/-- A command that is taken unless the reset line is asserted. -/
theorem take {f : State → State} (hf : ∀ x : State, State.Sends x (f x)) (ht : s.take f = .next t) :
    State.Sends s t := by
  unfold State.take at ht
  split at ht
  · obtain rfl := Host.Outcome.next.inj ht
    exact of_muted (.refl _)
  · obtain rfl := Host.Outcome.next.inj ht
    exact hf s.settled

end State.Sends

/-- A command that sends no UNMUTE. -/
theorem exec_sends_of_muted {i : Instr} (hi : unmutesOf i = ∅) {s t : State} (ht : exec i s = .next t) :
    State.Sends s t := by
  obtain ⟨u, hu, hkeeps, -⟩ := exec_completes i s
  obtain rfl := Host.Outcome.next.inj (ht.symm.trans hu)
  exact .of_muted (hi ▸ hkeeps.out)

theorem exec_sends (i : Instr) {s t : State} (ht : exec i s = .next t) : State.Sends s t := by
  cases i with
  | holdRemove v g => exact .take (fun x => .csq fun b => b.holdRemove_puts g) ht
  | serviceChanged v c yes => exact .take (fun x => .csq fun b => b.serviceChanged_puts c yes) ht
  | rfAbsent v => exact .take (fun x => .csq fun b => b.rfAbsent_clear_puts) ht
  | holdTimeExpiry v => exact .take (fun x => .csq fun b => b.holdEnded_puts) ht
  | restrikeDelayExpiry v =>
    refine .take (fun x => .csq fun b => ?_) ht
    split
    · exact Bench.restrikeTest_clear_puts (.refl b)
    · exact .refl b
  | _ => exact exec_sends_of_muted rfl ht

/-- A step sends UNMUTE where a carrier may rise, or is a phase tick, by which a restrike that waited for mute confirmed
begins. -/
theorem step_sends {s t : State} (ht : step s = .next t) :
    State.Sends s t ∨ s.pending = [] ∧ t = s.settled.tick ∧ State.Rests s t := by
  unfold step at ht
  split at ht
  next c rest _ => exact Or.inl (exec_sends c (s := { s with pending := rest }) ht)
  next hpending =>
    unfold State.ownWork at ht
    split at ht
    next hline =>
      obtain rfl := Host.Outcome.next.inj ht
      exact Or.inl (.of_muted (State.tick_asserted_puts hline))
    next hline =>
      split at ht
      · obtain rfl := Host.Outcome.next.inj ht
        obtain ⟨-, -, -, -, -, -, -, -, -, hout⟩ := s.settled.beginStartup_rest
        exact Or.inl (.of_muted hout)
      · split at ht
        next i rest _ =>
          unfold State.takeHanded at ht
          dsimp only at ht
          split at ht
          · have hsends := exec_sends i (s := { s with out := { s.out with handed := rest } }) ht
            have htaken : Outbox.Puts { u | (t.tr u).Clear t.matrix } s.out { s.out with handed := rest } :=
              .of_eq rfl rfl rfl
            exact Or.inl (htaken.trans hsends)
          · obtain rfl := Host.Outcome.next.inj ht
            exact Or.inl (.of_muted (.of_eq rfl rfl rfl))
        · split at ht
          · exact Or.inl (exec_sends _ ht)
          · split at ht
            · exact Or.inl (exec_sends _ ht)
            · split at ht
              next r rest _ _ => 
                exact Or.inl (exec_sends r.command (s := { s with link := { s.link with queue := rest, taking := true } }) ht)
              · split at ht
                · exact Or.inl (exec_sends _ ht)
                · obtain rfl := Host.Outcome.next.inj ht
                  have hsettled : State.Rests s s.settled := .of_plant (.refl _) rfl
                  exact Or.inr ⟨hpending, rfl, hsettled.tick (Bool.not_eq_true _ ▸ hline)⟩

theorem Outbox.Puts.mem_of_unmute {L : Set Tx} {o p : Outbox} (h : Outbox.Puts L o p)
    {orders : List (Tx × PortOrder)} (hport : p.port = o.port ++ orders) {u : Tx} (hu : (u, .unmute) ∈ orders) : u ∈ L := by
  obtain ⟨sent, hsent, hmuted⟩ := h.port
  obtain rfl := List.append_cancel_left (hport.symm.trans hsent)
  by_contra hnot
  exact hmuted u hnot hu

/-- Settles O14: every command that sends UNMUTE leaves its transmitter clear (`exec_sends`), and a tick sends it to a
restrike that has waited (`State.Rests.tick`). -/
theorem noCarrierUnderHold : Obligations.NoCarrierUnderHold := by
  intro s t u orders hstep hport hu
  rcases step_sends hstep with hsends | ⟨hpending, htick, hrests⟩
  · exact Or.inl (hsends.mem_of_unmute hport hu)
  · obtain ⟨hstate, -, hholds, hservice⟩ := hrests.out.mem_of_unmute hport hu
    exact Or.inr ⟨hpending, htick, hstate, hholds, hservice⟩

end Sys2Proof.Machine

/-! How a request is decided and answered (R188-R190), events and records, and the invariants at reset (O1, O4, O5, O6,
O35). -/

namespace Sys2Proof.Machine

/-- Settles O1. -/
theorem stepRunsTheFrontCommand : Obligations.StepRunsTheFrontCommand := by
  intro c rest s hpending
  unfold step
  rw [hpending]

/-! ### A request taken at once (R189, R190) -/

/-- What the tests of a request leave: the refusal of the first one that fails, else the state accepted. -/
def State.tested (s : State) (kind : Byte) (h : Head) : List (Bool × Reason) → State → State
  | [], t => t
  | (fails, r) :: ts, t => if fails then Claims.refuse s kind h r else s.tested kind h ts t

@[simp] theorem State.tested_nil (s t : State) (kind : Byte) (h : Head) : s.tested kind h [] t = t := rfl

@[simp] theorem State.tested_cons (s t : State) (kind : Byte) (h : Head) (fails : Bool) (r : Reason)
    (ts : List (Bool × Reason)) :
    s.tested kind h ((fails, r) :: ts) t = if fails then Claims.refuse s kind h r else s.tested kind h ts t := rfl

theorem State.taken_request (s : State) (kind : Byte) (h : Head) (ts : List (Bool × Reason)) (e : State → State)
    (a : State → Answer) : s.taken.request kind h ts e a =
      if h.sized = false then Claims.refuse s kind h .badLength
      else s.tested kind h ts ((e s.taken).answer kind h.tag (.accepted (a (e s.taken)))) := by
  cases hsized : h.sized with
  | false => rw [State.request_short _ _ _ _ _ _ hsized, State.taken_refuse, if_pos rfl]
  | true =>
    rw [if_neg (by decide)]
    induction ts with
    | nil => exact State.request_accepted _ _ _ _ _ hsized
    | cons q ts ih =>
      obtain ⟨fails, r⟩ := q
      rw [State.request_test _ _ _ _ _ _ _ _ hsized, ih]
      rfl

/-- A request served is decided by its tests, in their order. -/
theorem State.host_decides {s : State} (hs : Claims.serves s) {i : Instr} {kind : Byte} {h : Head}
    {ts : State → List (Bool × Reason)} {e : State → State → State} {a : State → State → Answer} :
    s.host i (fun x => x.request kind h (ts x) (e x) (a x)) = .next
      (if h.sized = false then Claims.refuse s kind h .badLength
      else s.tested kind h (ts s.taken)
        ((e s.taken s.taken).answer kind h.tag (.accepted (a s.taken (e s.taken s.taken))))) := by
  rw [State.host_of_serves hs, State.taken_request]

/-! ### READ_STATUS, READ_LOG, SET_START_KIND, RESTART (R196, R201, R205, R206) -/

theorem statusAndLogRead : Claims.StatusAndLogRead := by
  refine ⟨fun h s hs => ?_, fun h s hs => ?_⟩
  · show execReadStatus h s = _
    refine (State.host_decides hs).trans ?_
    have hcode : ∀ c : ResetCause, c.code = match c with | .powerOn => 0 | .resetLine => 1 | .restart => 2 := fun c => by
      cases c <;> rfl
    rw [hcode]
    rfl
  · show execReadLog h s = _
    exact (State.host_decides hs).trans rfl

theorem exec_unknownKind_of_serves {s : State} (hs : Claims.serves s) (h : Head) (kind : Byte) :
    exec (.unknownKind h kind) s = .next (Claims.refuse s kind h .unknownKind) := by
  show execUnknownKind h kind s = _
  exact State.host_of_serves hs _ _

theorem startKindAndRestartDecided : Claims.StartKindAndRestartDecided := by
  refine ⟨fun h kind s hs => ?_, fun h s hs => ?_, fun h kind s hs => exec_unknownKind_of_serves hs h kind⟩
  · show execSetStartKind h kind s = _
    refine (State.host_decides hs).trans ?_
    cases kind with
    | none => rfl
    | some k => rfl
  · show execRestart h s = _
    exact (State.host_decides hs).trans rfl

/-- Settles O35. -/
theorem statusAndRestartDecided : Obligations.StatusAndRestartDecided := ⟨statusAndLogRead, startKindAndRestartDecided⟩

/-! ### Every request is answered (R190) -/

/-- A request of a kind and a head is answered: by a reply of its kind and tag; a refusal other than WRONG_BANK changes
nothing but the reply slot; and a body of the wrong length is refused. -/
structure State.Decides (kind : Byte) (h : Head) (s t : State) : Prop where
  reply : ∃ v, t.link.reply = some { kind := kind, tag := h.tag, verdict := v }
  refused : ∀ why items, t.link.reply = some { kind := kind, tag := h.tag, verdict := .refused why items } →
    why ≠ .wrongBank → t = s.answer kind h.tag (.refused why items)
  short : h.sized = false → t = s.refuse kind h.tag .badLength

namespace State.Decides

variable {s : State} {kind : Byte} {h : Head} {ts : List (Bool × Reason)} {e : State → State} {a : State → Answer}

theorem request : State.Decides kind h s (s.request kind h ts e a) := by
  refine ⟨State.request_reply .., fun why items hreply _ => ?_, State.request_short _ _ _ _ _ _⟩
  rcases s.request_cases kind h ts e a with ⟨r, hrefused⟩ | haccepted
  · rw [hrefused] at hreply ⊢
    cases hreply
    rfl
  · rw [haccepted] at hreply
    cases hreply

/-- A refusal with items, of a body of the right length. -/
theorem answer (hsized : h.sized = true) {why : Reason} {items : List Byte} :
    State.Decides kind h s (s.answer kind h.tag (.refused why items)) := by
  refine ⟨⟨_, rfl⟩, fun why' items' hreply _ => ?_, fun hshort => ?_⟩
  · cases hreply
    rfl
  · rw [hsized] at hshort
    cases hshort

end State.Decides

/-- A host request is given to its block by `State.host`, which decides it. -/
def State.Hosted (i : Instr) (kind : Byte) (h : Head) (s : State) (o : Host.Outcome State Fault Refusal) : Prop :=
  ∃ f, o = s.host i f ∧ ∀ x : State, State.Decides kind h x (f x)

theorem State.Hosted.request {i : Instr} {kind : Byte} {h : Head} {s : State} {ts : State → List (Bool × Reason)}
    {e : State → State → State} {a : State → State → Answer} :
    State.Hosted i kind h s (s.host i fun x => x.request kind h (ts x) (e x) (a x)) := ⟨_, rfl, fun _ => .request⟩

/-- WRITE_ENTRIES: BANK_MISMATCH comes with a WRONG_BANK refusal alone (R40). -/
theorem execWriteEntries_hosted (h : Head) (b p : Nat) (entries : List Slot) (s : State) :
    State.Hosted (.writeEntries h b p entries) 0x32 h s (execWriteEntries h b p entries s) := by
  refine ⟨_, rfl, fun x => ?_⟩
  dsimp only
  split
  next hwrong =>
    refine ⟨State.request_reply .., fun why items hreply hwhy => ?_, fun hshort => ?_⟩
    · simp only [State.request, hwrong] at hreply
      cases hreply
      exact absurd rfl hwhy
    · simp [firstFailing, hshort] at hwrong
  · exact .request

theorem exec_hosted {i : Instr} {kind : Byte} {h : Head} (hi : requestOf i = some (kind, h))
    (hkind : ∀ h' k', i ≠ .unknownKind h' k') (s : State) : State.Hosted i kind h s (exec i s) := by
  unfold exec
  cases i with
  | unknownKind h' k' => exact absurd rfl (hkind h' k')
  | writeEntries h' b p entries =>
    cases hi
    exact execWriteEntries_hosted ..
  | interlockClearGroup h' named =>
    cases hi
    refine ⟨_, rfl, fun x => ?_⟩
    dsimp only
    split
    next hactive => exact .answer hactive.1
    · exact .request
  | interlockClearEmergency h' =>
    cases hi
    refine ⟨_, rfl, fun x => ?_⟩
    split
    next hactive => exact .answer hactive.1
    · exact .request
  | setTransmitter | setAntenna | setAvailability | setLimits | setMonitor | setProtection | setLine | setMember
  | setMemberRemove | writeLines | setTime | setClockSource | eraseBank | openBank | closeBank | checkBank
  | cancelCheck | readBank | readEntries | run | haltDrain | haltStop | readUpcoming | manualTune | manualEnd
  | resumeSchedule | releaseTransmitter | readTransmitter | withdrawAntenna | restoreAntenna | pollMatrix | readRoutes
  | readAntenna | readLines | readInterlock | readStatus | readLog
  | setNoticeEnables | clearSources | saveSettings | setStartKind | restart =>
    cases hi
    exact .request
  | _ => cases hi

/-- A request served is decided. -/
theorem exec_decides {i : Instr} {kind : Byte} {h : Head} (hi : requestOf i = some (kind, h))
    (hkind : ∀ h' k', i ≠ .unknownKind h' k') {s : State} (hs : Claims.serves s) :
    ∃ t, exec i s = .next t ∧ State.Decides kind h s.taken t := by
  obtain ⟨f, hf, hdecides⟩ := exec_hosted hi hkind s
  exact ⟨_, hf.trans (State.host_of_serves hs i f), hdecides _⟩

theorem everyRequestIsAnswered : Claims.EveryRequestIsAnswered := by
  intro c s kind h hs hc
  by_cases hkind : ∃ h' k', c = .unknownKind h' k'
  · obtain ⟨h', k', rfl⟩ := hkind
    cases hc
    exact ⟨_, _, exec_unknownKind_of_serves hs _ _, rfl, rfl, rfl⟩
  · obtain ⟨t, ht, hdecides⟩ := exec_decides hc (fun h' k' heq => hkind ⟨h', k', heq⟩) hs
    obtain ⟨v, hv⟩ := hdecides.reply
    exact ⟨t, _, ht, hv, rfl, rfl⟩

theorem refusedRequestChangesNothing : Claims.RefusedRequestChangesNothing := by
  refine ⟨fun c s t kind h why items hs hc ht hreply hwhy => ?_, fun c s kind h hs hc hshort hkind => ?_⟩
  · by_cases hkind : ∃ h' k', c = .unknownKind h' k'
    · obtain ⟨h', k', rfl⟩ := hkind
      cases hc
      rw [exec_unknownKind_of_serves hs, Host.Outcome.next.injEq] at ht
      subst ht
      cases hreply
      rfl
    · obtain ⟨u, hu, hdecides⟩ := exec_decides hc (fun h' k' heq => hkind ⟨h', k', heq⟩) hs
      rw [ht, Host.Outcome.next.injEq] at hu
      exact hu ▸ hdecides.refused why items (hu ▸ hreply) hwhy
  · obtain ⟨u, hu, hdecides⟩ := exec_decides hc hkind hs
    rw [hu, hdecides.short hshort, State.taken_refuse]

theorem State.enqueue_of_room {s : State} (h : s.link.queue.length < 4) (r : Request) :
    s.enqueue r = { s with link := { s.link with queue := s.link.queue ++ [r] } } := if_pos h

theorem State.enqueue_of_full {s : State} (h : 4 ≤ s.link.queue.length) (hrefusal : s.link.refusal = none) (r : Request) :
    s.enqueue r = { s with link := { s.link with refusal := some r.header } } := by
  unfold State.enqueue Config.requestQueueSize
  rw [if_neg (Nat.not_lt.2 h), if_pos (by rw [hrefusal]; rfl)]
  rfl

theorem State.enqueue_overrun {s : State} (h : 4 ≤ s.link.queue.length) (hrefusal : s.link.refusal ≠ none) (r : Request) :
    s.enqueue r = Claims.event s .linkFrameFault .none [3] := by
  unfold State.enqueue Config.requestQueueSize
  rw [if_neg (Nat.not_lt.2 h), if_neg (by simpa using hrefusal)]
  rfl

theorem requestsWait : Claims.RequestsWait := by
  intro c s kind h hs hserves hc
  obtain ⟨f, hf, -⟩ := exec_hosts c s (by rw [hc]; rfl)
  have henqueue : exec c s = .next (s.enqueue (.spelled c)) := by
    rw [hf, State.host_waits s c f hs.1 hserves, State.settled_of_none s hs.2]
  have hheader : (Request.spelled c).header = { tag := h.tag, kind := kind } := by
    simp only [Request.header, hc]
  rw [henqueue]
  refine ⟨fun hroom => by rw [State.enqueue_of_room hroom], fun hfull hrefusal => ?_, fun hfull hrefusal => ?_⟩
  · rw [State.enqueue_of_full hfull hrefusal, hheader]
  · rw [State.enqueue_overrun hfull hrefusal]

/-- Settles O4. -/
theorem requestsAnsweredOnce : Obligations.RequestsAnsweredOnce :=
  ⟨everyRequestIsAnswered, refusedRequestChangesNothing, requestsWait,
    fun _ _ hqueue hstep => (step_keeps hstep).2 hqueue⟩

/-! ### Events and records (R192, R198, R200) -/

theorem raisingAnEvent : Claims.RaisingAnEvent := by
  intro o e
  refine ⟨o.raise_flag e, fun n hn => ?_, fun henabled hroom => ⟨Outbox.raise_notices_of_enabled henabled hroom, ?_⟩,
    fun henabled hfull => ⟨?_, ?_⟩, fun hdisabled => ⟨Outbox.raise_notices_of_disabled hdisabled, ?_⟩, rfl⟩
  · rw [Outbox.raise_sources]
    by_cases hbit : n < 8
    · rw [setBit_getLsbD _ _ _ hbit]
      simp [hn.symm]
    · rw [BitVec.getLsbD_of_ge _ _ (Nat.not_lt.1 hbit), BitVec.getLsbD_of_ge _ _ (Nat.not_lt.1 hbit)]
  · simp [Outbox.raise, Config.noticeQueueSize, Nat.not_le.2 hroom]
  · exact if_neg fun h => absurd h.2 (Nat.not_lt.2 hfull)
  · simp [Outbox.raise, Config.noticeQueueSize, henabled, hfull]
  · simp [Outbox.raise, hdisabled]

theorem writingALogRecord : Claims.WritingALogRecord := by
  intro l r
  unfold Log.write Config.logSize
  refine ⟨fun hroom => ?_, fun hfull => ?_⟩
  · rw [if_pos hroom]
    exact ⟨rfl, rfl, rfl, rfl⟩
  · rw [if_neg (by omega)]
    exact ⟨rfl, rfl, rfl, rfl⟩

/-- Settles O5. -/
theorem eventsAndRecordsTaken : Obligations.EventsAndRecordsTaken := ⟨raisingAnEvent, writingALogRecord⟩

/-! ### The reset state -/

/-- Settles O6. -/
theorem invariantsAtReset : Obligations.InvariantsAtReset := by
  refine ⟨by decide, by decide, ⟨by decide, nofun⟩, Matrix.reset_slotsBalanced _, List.nodup_nil, fun hone => ?_,
    fun hload => absurd rfl hload, storeQuiet_of_idle rfl rfl, fun _ => ⟨rfl, rfl, rfl⟩,
    ⟨fun r hr => absurd hr List.not_mem_nil, nofun⟩⟩
  have hblank : (Store.blank.bank 0).state ≠ .active := by decide
  exact hblank hone.1

end Sys2Proof.Machine

/-! The reference's presence and the clock's advance (R18-R24; O16, O19). -/

namespace Sys2Proof.Machine

/-! ### What a command does to the clock's source and the reference's presence (R20-R22) -/

/-- A command leaves both as they are, or takes the clock off the reference for the reason `gone`, or judges the
reference PRESENT, or selects a PRESENT reference. -/
def Clock.Follows (gone : Prop) (k j : Clock) : Prop :=
  j.timebase = k.timebase ∨ (gone ∧ j.source = .internal) ∨ (j.source = k.source ∧ j.present = true) ∨
    (j.source = .reference ∧ j.present = true)

namespace Clock.Follows

variable {gone : Prop} {k j : Clock}

theorem of_timebase {l : Clock} (hl : l.timebase = k.timebase) (h : l.Follows gone j) : k.Follows gone j := by
  obtain ⟨hsource, -⟩ := Prod.mk.inj hl
  unfold Clock.Follows at h ⊢
  rwa [hl, hsource] at h

theorem mono {gone' : Prop} (hgone : gone → gone') (h : k.Follows gone j) : k.Follows gone' j :=
  h.imp_right fun h => h.imp_left fun h => ⟨hgone h.1, h.2⟩

/-- A clock on the reference has it PRESENT (R21). -/
theorem present (h : k.Follows gone j) (hk : k.source = .reference → k.present = true) (hj : j.source = .reference) :
    j.present = true := by
  rcases h with hsame | ⟨-, hinternal⟩ | ⟨-, hpresent⟩ | ⟨-, hpresent⟩
  · obtain ⟨hsource, hpresent⟩ := Prod.mk.inj hsame
    exact hpresent.trans (hk (hsource.symm.trans hj))
  · cases hinternal.symm.trans hj
  · exact hpresent
  · exact hpresent

/-- A clock on a PRESENT reference stays on it (R21). -/
theorem stays (h : k.Follows gone j) (hgone : ¬ gone) (hsource : k.source = .reference) (hpresent : k.present = true) :
    j.source = .reference ∧ j.present = true := by
  rcases h with hsame | ⟨hleft, -⟩ | ⟨hj, hjudged⟩ | hselected
  · obtain ⟨hs, hp⟩ := Prod.mk.inj hsame
    exact ⟨hs.trans hsource, hp.trans hpresent⟩
  · exact absurd hleft hgone
  · exact ⟨hj.trans hsource, hjudged⟩
  · exact hselected

end Clock.Follows

theorem exec_setClockSource_follows (h : Head) (source : Option ClockSource) {s t : State}
    (ht : exec (.setClockSource h source) s = .next t) : s.clock.Follows (source = some .internal) t.clock := by
  change execSetClockSource h source s = _ at ht
  unfold execSetClockSource State.host State.take at ht
  split at ht
  · cases ht
    exact Or.inl rfl
  · dsimp only at ht
    split at ht
    · obtain rfl := Host.Outcome.next.inj ht
      unfold State.request
      split
      · exact Or.inl rfl
      next hpassed =>
        rw [firstFailing_eq_none_iff] at hpassed
        simp only [List.forall_mem_cons, Bool.and_eq_false_iff] at hpassed
        obtain ⟨-, hnamed, hpresent, -⟩ := hpassed
        cases source with
        | none => cases hnamed
        | some x =>
          cases x with
          | internal => exact Or.inr (Or.inl ⟨rfl, rfl⟩)
          | reference =>
            refine Or.inr (Or.inr (Or.inr ⟨rfl, ?_⟩))
            rcases hpresent with hreference | habsent
            · cases hreference
            · simpa using habsent
    · obtain rfl := Host.Outcome.next.inj ht
      exact Or.inl (congrArg Clock.timebase (State.enqueue_clock _ _))

/-- A command after which the head of the queue is taken. -/
theorem State.takeAndServe_follows {c : Instr} {s t : State} {f : State → State}
    (hf : (f s.settled).clock.timebase = s.clock.timebase)
    (hnext : ∀ h x, (f s.settled).link.queue.head?.map Request.command = some (.setClockSource h x) →
      Claims.nextRequest c s = some (.setClockSource h x))
    (ht : s.takeAndServe f = .next t) :
    s.clock.Follows (∃ h, Claims.nextRequest c s = some (.setClockSource h (some .internal))) t.clock := by
  by_cases hhead : ∃ h x, (f s.settled).link.queue.head?.map Request.command = some (.setClockSource h x)
  · obtain ⟨h, x, hx⟩ := hhead
    unfold State.takeAndServe at ht
    split at ht
    · cases ht
      exact Or.inl rfl
    · unfold State.serveHead at ht
      split at ht
      next r rest hmay hqueue =>
        have hr : r.command = .setClockSource h x := by simpa [hqueue] using hx
        rw [hr, serveRequest_eq_exec _ _ rfl] at ht
        refine .of_timebase hf ((exec_setClockSource_follows h x ht).mono fun hgone => ⟨h, ?_⟩)
        rw [hnext h x hx, hgone]
      · cases ht
        exact Or.inl hf
  · simp only [not_exists] at hhead
    exact Or.inl (State.takeAndServe_keepsTimebase s f hf hhead t ht)

/-- The reasons for which a command takes the clock off the reference. -/
def leavesReference (c : Instr) (s : State) : Prop :=
  c = .powerOn ∨ c = .referenceInputFailure ∨ (∃ h, c = .setClockSource h (some .internal)) ∨
    ∃ h, Claims.nextRequest c s = some (.setClockSource h (some .internal))

theorem exec_powerOn_source {s t : State} (ht : exec .powerOn s = .next t) : t.clock.source = .internal := by
  change Host.Outcome.next (s.resetFor .powerOn).beginStartup = _ at ht
  obtain rfl := Host.Outcome.next.inj ht
  have hkept := State.beginStartup_timebase (s.resetFor .powerOn)
  have hsource : (s.resetFor .powerOn).clock.source = .internal := rfl
  generalize s.resetFor .powerOn = x at hkept hsource
  generalize x.beginStartup = y at hkept
  exact (Prod.mk.inj hkept).1.trans hsource

/-- A command that takes a SET_CLOCK_SOURCE from the request queue in its own event (R189). -/
theorem exec_next_follows {c : Instr} {s t : State} (ht : exec c s = .next t)
    (hnext : ∃ h x, Claims.nextRequest c s = some (.setClockSource h x)) :
    s.clock.Follows (∃ h, Claims.nextRequest c s = some (.setClockSource h (some .internal))) t.clock := by
  obtain ⟨h, x, hnext⟩ := hnext
  cases c with
  | outgoingFrameEnd =>
    refine State.takeAndServe_follows s.settled.endFrame_timebase (fun h x hx => ?_) ht
    rcases s.settled.endFrame_queue with hq | hq
    · rwa [hq] at hx
    · simp [hq] at hx
  | frameReceived bytes =>
    refine State.takeAndServe_follows (by rw [State.enterFrame_clock, State.settled_clock]) (fun h x hx => ?_) ht
    rcases State.enterFrame_queue bytes s.settled with hq | hq
    · rw [hq, State.settled_link] at hx
      cases hs : s.link.queue with
      | nil => simp [hs] at hx
      | cons r rest => simpa [Claims.nextRequest, hs] using hx
    · rwa [hq] at hx
  | startupEnd =>
    refine State.takeAndServe_follows ?_ (fun h x => ?_) ht
    · dsimp only
      split <;> rfl
    · dsimp only
      split <;> exact id
  | _ => cases hnext

theorem exec_follows (c : Instr) {s t : State} (ht : exec c s = .next t) :
    s.clock.Follows (leavesReference c s) t.clock := by
  by_cases hpower : c = .powerOn
  · subst hpower
    exact Or.inr (Or.inl ⟨Or.inl rfl, exec_powerOn_source ht⟩)
  by_cases hfail : c = .referenceInputFailure
  · subst hfail
    cases ht
    exact Or.inr (Or.inl ⟨Or.inr (Or.inl rfl), State.referenceFails_source _⟩)
  by_cases hjudged : c = .referenceJudgedPresent
  · subst hjudged
    have hsource := exec_referenceJudgedPresent_source ht
    cases ht
    by_cases hseen : s.clock.referenceSeen = true
    · refine Or.inr (Or.inr (Or.inl ⟨hsource, ?_⟩))
      simp [Clock.referenceGood, hseen]
    · left
      simp [Clock.referenceGood, hseen]
  by_cases hrequest : ∃ h x, c = .setClockSource h x
  · obtain ⟨h, x, rfl⟩ := hrequest
    exact (exec_setClockSource_follows h x ht).mono fun hx => Or.inr (Or.inr (Or.inl ⟨h, by rw [hx]⟩))
  by_cases hnext : ∃ h x, Claims.nextRequest c s = some (.setClockSource h x)
  · exact (exec_next_follows ht hnext).mono fun hgone => Or.inr (Or.inr (Or.inr hgone))
  · simp only [not_exists] at hrequest hnext
    exact Or.inl (exec_keepsTimebase c s hpower hfail hjudged hrequest hnext t ht)

/-! ### Reference presence (O16) -/

theorem State.sampleReference_eq_exec (good : Bool) (s : State) (hwrites : s.store.cellWrites = []) :
    exec (if good then .referenceJudgedPresent else .referenceInputFailure) s = .next (s.sampleReference good) := by
  cases good with
  | true =>
    show Host.Outcome.next (s.settled.onClock Clock.referenceGood) = _
    rw [State.settled_of_none s hwrites]
    rfl
  | false =>
    show Host.Outcome.next s.settled.referenceFails = _
    rw [State.settled_of_none s hwrites]
    rfl

theorem presenceRecorded : Claims.PresenceRecorded := by
  refine ⟨fun s hwrites => ?_, fun s hwrites => ?_, State.sampleReference_eq_exec,
    fun c s t hs ht hsource => (exec_follows c ht).present hs hsource⟩
  · refine (State.sampleReference_eq_exec true s hwrites).trans (congrArg _ ?_)
    show s.onClock Clock.referenceGood = _
    unfold State.onClock Clock.referenceGood Clock.referenceSeen Config.referenceTicks
    by_cases hseen : 100 ≤ s.clock.seen
    · rw [if_pos hseen, if_pos (decide_eq_true hseen)]
    · rw [if_neg hseen, if_neg (by simpa using hseen)]
  · refine (State.sampleReference_eq_exec false s hwrites).trans (congrArg _ ?_)
    show s.referenceFails = _
    rfl

namespace State

/-- The clock runs on a PRESENT reference. -/
def onReference (s : State) : Prop := s.clock.source = .reference ∧ s.clock.present = true

theorem onReference_of_timebase {s t : State} (h : t.clock.timebase = s.clock.timebase) (hs : s.onReference) :
    t.onReference := by
  obtain ⟨hsource, hpresent⟩ := Prod.mk.inj h
  exact ⟨hsource.trans hs.1, hpresent.trans hs.2⟩

theorem sampleLine_timebase (s : State) (high : Bool) (l : Line) :
    (s.sampleLine high l).clock.timebase = s.clock.timebase := by
  unfold sampleLine
  dsimp only
  split
  · rfl
  · split
    · split
      · simp
      · rfl
    · split
      · simp
      · rfl

theorem sampleMains_clock (s : State) (percent : Nat) : (s.sampleMains percent).clock = s.clock := by
  unfold sampleMains
  split
  · split <;> simp
  · simp

theorem sampleEmergency_clock (s : State) (high : Bool) : (s.sampleEmergency high).clock = s.clock := by
  unfold sampleEmergency
  dsimp only
  split
  · simp
  · rfl

theorem sampleStation_clock (s : State) (n : Nat) (d : Detectors) (t : Tx) :
    (s.sampleStation n d t).clock = s.clock := by
  simp only [sampleStation, csq_clock, apply_ite State.clock, ite_self]

theorem foldl_timebase {α : Type} {f : State → α → State} (hf : ∀ s x, (f s x).clock.timebase = s.clock.timebase)
    (xs : List α) (s : State) : (xs.foldl f s).clock.timebase = s.clock.timebase := by
  induction xs generalizing s with
  | nil => rfl
  | cons x xs ih => exact (ih (f s x)).trans (hf s x)

/-- A sample instant at which the input reads good keeps a clock on a PRESENT reference. -/
theorem sample_onReference {s : State} {n : Nat} {i : Inputs} (hgood : i.reference = true) (hs : s.onReference) :
    (State.sample n i s).onReference := by
  have hjudged : (s.sampleReference i.reference).onReference := by
    rw [hgood]
    show (s.onClock Clock.referenceGood).onReference
    unfold onReference onClock Clock.referenceGood
    split
    · exact ⟨hs.1, rfl⟩
    · exact hs
  unfold sample
  dsimp only
  generalize s.sampleReference i.reference = x at hjudged
  split
  · exact hjudged
  · refine onReference_of_timebase ?_ hjudged
    have hlines := foldl_timebase (fun s l => sampleLine_timebase s (i.pins.getLsbD l.val) l) allLines x
    have hstations := foldl_clock (fun s t => sampleStation_clock s n (i.detectors.get t) t) allTx
    rw [hstations, sampleMains_clock, sampleEmergency_clock]
    exact hlines

theorem passInstant_onReference {s : State} (hgood : ∀ i ∈ s.sampling.feed.take 1, i.reference = true)
    (hs : s.onReference) : s.passInstant.onReference := by
  unfold passInstant
  dsimp only
  split
  · exact hs
  next i rest hfeed => exact sample_onReference (hgood i (by simp [hfeed])) hs

theorem tickAll_timebase (s : State) : s.tickAll.clock.timebase = s.clock.timebase := by
  have hclock : ∀ x : State, x.tickClock.clock.timebase = x.clock.timebase := fun x => by
    unfold tickClock
    split
    · simp
    · rfl
  have hcheck : ∀ x : State, x.tickCheck.clock = x.clock := fun x => by
    unfold tickCheck checkVisits
    dsimp only
    repeat' split
    all_goals rfl
  unfold tickAll
  dsimp only
  split
  · exact hclock _
  · rw [hclock, hcheck]
    rfl

end State

/-! ### The feed is read one instant at a time (R145) -/

namespace State

theorem foldl_sampling {α : Type} {f : State → α → State} (hf : ∀ s x, (f s x).sampling = s.sampling) (xs : List α)
    (s : State) : (xs.foldl f s).sampling = s.sampling := by
  induction xs generalizing s with
  | nil => rfl
  | cons x xs ih => exact (ih (f s x)).trans (hf s x)

theorem sampleReference_sampling (s : State) (good : Bool) : (s.sampleReference good).sampling = s.sampling := by
  unfold sampleReference referenceFails
  repeat' split
  all_goals rfl

theorem acceptLevel_sampling (s : State) (l : Line) (high : Bool) : (s.acceptLevel l high).sampling = s.sampling := by
  unfold acceptLevel
  dsimp only
  repeat' split
  all_goals rfl

theorem sampleLine_sampling (s : State) (high : Bool) (l : Line) : (s.sampleLine high l).sampling = s.sampling := by
  have halign : s.align.sampling = s.sampling := by
    unfold align
    dsimp only
    split
    · rw [carrySecond_sampling]
      rfl
    · rfl
  unfold sampleLine
  dsimp only
  split
  · rfl
  · split
    · split
      · exact halign
      · rfl
    · split
      · exact acceptLevel_sampling ..
      · rfl

theorem sampleEmergency_sampling (s : State) (high : Bool) : (s.sampleEmergency high).sampling = s.sampling := by
  unfold sampleEmergency emergencyLevel
  dsimp only
  repeat' split
  all_goals rfl

theorem evaluateMember_sampling (s : State) (m : Member) : (s.evaluateMember m).sampling = s.sampling := by
  unfold evaluateMember joinLatched
  dsimp only
  repeat' split
  all_goals rfl

theorem putInForce_sampling (s : State) (i : Instr) : (s.putInForce i).sampling = s.sampling := by
  unfold putInForce
  split
  all_goals rfl

theorem hallInForce_sampling (s : State) (percent : Nat) : (s.hallInForce percent).sampling = s.sampling := by
  unfold hallInForce findHall
  dsimp only
  rw [foldl_sampling putInForce_sampling, onOut_sampling, foldl_sampling evaluateMember_sampling]
  repeat' split
  all_goals rfl

theorem sampleMains_sampling (s : State) (percent : Nat) : (s.sampleMains percent).sampling = s.sampling := by
  unfold sampleMains
  split
  · split
    · have hinForce := s.hallInForce_sampling percent
      rw [evaluateHall_eq]
      generalize s.hallInForce percent = x at hinForce
      rw [State.onEach, foldl_sampling fun s t => onStation_sampling s t _]
      exact hinForce
    · rfl
  · unfold mainsSample
    dsimp only
    repeat' split
    all_goals rfl

theorem sampleStation_sampling (s : State) (n : Nat) (d : Detectors) (t : Tx) :
    (s.sampleStation n d t).sampling = s.sampling := by
  simp only [sampleStation, csq_sampling, apply_ite State.sampling, ite_self]

theorem sample_sampling (s : State) (n : Nat) (i : Inputs) : (State.sample n i s).sampling = s.sampling := by
  have hreference := s.sampleReference_sampling i.reference
  unfold sample
  dsimp only
  generalize s.sampleReference i.reference = x at hreference
  have hlines := foldl_sampling (fun s l => sampleLine_sampling s (i.pins.getLsbD l.val) l) allLines x
  have hstations := foldl_sampling (fun s t => sampleStation_sampling s n (i.detectors.get t) t) allTx
  split
  · exact hreference
  · rw [hstations, sampleMains_sampling, sampleEmergency_sampling, hlines, hreference]

/-- An instant takes one reading of the feed, where there is one. -/
theorem passInstant_feed (s : State) : s.passInstant.sampling.feed = s.sampling.feed.tail := by
  unfold passInstant
  dsimp only
  split
  next hfeed => rw [hfeed]; rfl
  next i rest hfeed => rw [sample_sampling, hfeed]; rfl

end State

theorem referenceKept : Claims.ReferenceKept := by
  refine ⟨fun c s t hsource hpresent ht hfail hpower hrequest hnext => ?_, fun s hsource hpresent hgood => ?_⟩
  · refine (exec_follows c ht).stays ?_ hsource hpresent
    rintro (h | h | ⟨h, hc⟩ | ⟨h, hc⟩)
    · exact hpower h
    · exact hfail h
    · exact hrequest h hc
    · exact hnext h hc
  · have hcounted := State.onReference_of_timebase s.tickAll_timebase ⟨hsource, hpresent⟩
    have hfeed : s.tickAll.sampling.feed = s.sampling.feed := by rw [s.tickAll_sampling]
    refine State.passInstant_onReference (fun i hi => ?_) (State.passInstant_onReference (fun i hi => ?_) hcounted)
    · rw [State.passInstant_feed, hfeed] at hi
      exact hgood i (by cases h : s.sampling.feed <;> simp_all)
    · rw [hfeed] at hi
      exact hgood i (by cases h : s.sampling.feed <;> simp_all)

/-- Settles O16. -/
theorem referencePresenceFollowed : Obligations.ReferencePresenceFollowed := ⟨presenceRecorded, referenceKept⟩

/-! ### The tenth, the second pulse and the pulse watch (R18, R23, R24; O19) -/

/-- The carries of a second, made on a clock whose tenth and divider have returned to 0, are those of R18. -/
theorem State.carrySecond_eq_nextSecond (s t : State)
    (hreading : t.clock.reading = { s.clock.reading with tenth := 0 }) (hdivider : t.clock.divider = 0)
    (hset : t.clock.isSet = s.clock.isSet) : t.carrySecond s.clock.reading =
      Claims.nextSecond s fun x => { t with clock := { t.clock with reading := x } } := by
  unfold State.carrySecond Claims.nextSecond
  dsimp only
  rw [hreading]
  dsimp only
  split
  · rfl
  · split
    · unfold State.advanceBoundary
      rw [← hset]
      rfl
    · split
      · have hminutes : wrapReading.minutes = 0 := by decide
        dsimp only [State.setClock, State.stepBoundary, State.onClock, State.onOut]
        rw [hminutes, hdivider, hset]
        rfl
      · unfold Date.succ State.advanceBoundary
        rw [← hset]
        split
        · rfl
        · split
          · rfl
          · rfl

theorem tenthAdvances : Claims.TenthAdvances := by
  intro s hwrites r at_
  show Host.Outcome.next s.settled.advanceTenth = _
  rw [State.settled_of_none s hwrites]
  congr 1
  unfold State.advanceTenth
  dsimp only
  split
  · rfl
  · exact s.carrySecond_eq_nextSecond (s.onClock fun k => { k with divider := 0, reading := { s.clock.reading with tenth := 0 } })
      rfl rfl rfl

/-- The clock's carries leave the field lines alone. -/
theorem State.carrySecond_lines (s : State) (old : Reading) (ls : Vector FieldLine 32) :
    { s.carrySecond old with lines := ls } = ({ s with lines := ls } : State).carrySecond old := by
  unfold State.carrySecond
  dsimp only
  split
  · rfl
  · split
    · rfl
    · split
      · rfl
      · rfl

theorem State.secondPulse_eq (s : State) (l : Line) : s.secondPulse l =
    { s.align with lines := upd s.lines l { s.lines.get l with pin := some true, last := some true } } := by
  have hlines : s.align.lines = s.lines := by
    unfold State.align State.carrySecond
    dsimp only
    repeat' split
    all_goals rfl
  unfold State.secondPulse
  dsimp only
  rw [hlines]

theorem secondPulseAligns : Claims.SecondPulseAligns := by
  refine ⟨?_, fun s hlive hnone => ?_, fun s l hlive hwatch hline => ?_⟩
  · intro s l hlive hline r at_
    show execSecondPulse s = _
    rw [execSecondPulse, State.take_of_live hlive, hline]
    congr 1
    dsimp only
    rw [State.secondPulse_eq]
    unfold State.align
    dsimp only
    split
    next hlate =>
      rw [if_neg (Nat.not_lt.2 hlate), State.carrySecond_lines]
      exact s.carrySecond_eq_nextSecond _ rfl rfl rfl
    next hearly =>
      rw [if_pos (Nat.not_le.1 hearly)]
      rfl
  · show execSecondPulse s = _
    rw [execSecondPulse, State.take_of_live hlive, hnone]
  · show execPulseWatchExpiry s = _
    rw [execPulseWatchExpiry, State.take_of_live hlive, if_pos hwatch, hline]
    rfl

/-- Settles O19. -/
theorem clockAdvances : Obligations.ClockAdvances := ⟨tenthAdvances, secondPulseAligns⟩

end Sys2Proof.Machine

/-! The host link's bytes and frames (R186-R191; O36, O37). -/

namespace Sys2Proof.Machine

/-! ### The receiver (R187) -/

theorem State.receive_of_short {bytes : List Byte} (h : bytes.length < 2) (s : State) : s.receive bytes =
    { s with link := { s.link with receiver := .receiving bytes, gap := some { count := 0, limit := 3 } } } := by
  have hnone : lengthField bytes = none := by
    match bytes, h with
    | [], _ => rfl
    | [_], _ => rfl
  unfold State.receive
  rw [hnone]
  rfl

theorem receiverFollowsTheBytes : Claims.ReceiverFollowsTheBytes := by
  refine ⟨fun b s hlive hhunting => ?_, ?_, fun bytes s hlive hreceiving => ?_⟩
  · show execReceivedByte b s = _
    rw [execReceivedByte, State.take_of_live hlive, hhunting]
    dsimp only
    rw [State.receive_of_short (by decide)]
  · intro b bytes s hlive hreceiving all quiet more
    have hexec : exec (.receivedByte b) s = .next (s.receive all) := by
      show execReceivedByte b s = _
      rw [execReceivedByte, State.take_of_live hlive, hreceiving]
    rw [hexec]
    refine ⟨fun hshort => congrArg _ (State.receive_of_short hshort s), fun n hn hwrong => ?_, fun n hn hlow hhigh hwhole => ?_,
      fun n hn hlow hhigh hpart => ?_⟩
    · unfold State.receive
      rw [hn]
      dsimp only
      rw [if_pos hwrong]
      rfl
    · unfold State.receive
      rw [hn]
      dsimp only
      rw [if_neg (by omega), if_pos hwhole]
      rfl
    · unfold State.receive
      rw [hn]
      dsimp only
      rw [if_neg (by omega), if_neg hpart]
      rfl
  · show execLinkGapExpiry s = _
    rw [execLinkGapExpiry, State.take_of_live hlive, hreceiving]
    rfl

/-! ### Received frames (R187-R189) -/

/-- A queue as every step keeps it holds nothing to take. -/
theorem State.serveHead_of_queueServed {s : State} (h : Claims.queueServed s) : s.serveHead = .next s := by
  cases hmay : s.mayTake with
  | false => exact s.serveHead_closed hmay
  | true =>
    simp only [State.mayTake, Bool.and_eq_true, beq_iff_eq, Option.isNone_iff_eq_none] at hmay
    exact s.serveHead_empty (h.2 hmay.1 hmay.2)

theorem State.mayTake_iff (s : State) : s.mayTake = true ↔ s.boot.phase = .done ∧ s.link.reply = none := by
  simp [State.mayTake]

theorem State.serveHead_of_may_not {s : State} (h : ¬ (s.boot.phase = .done ∧ s.link.reply = none)) :
    s.serveHead = .next s := by
  rw [← State.mayTake_iff, Bool.not_eq_true] at h
  exact s.serveHead_closed h

theorem exec_frameReceived {s : State} (hlive : Claims.live s) (bytes : List Byte) :
    exec (.frameReceived bytes) s = (s.enterFrame bytes).serveHead := by
  show execFrameReceived bytes s = _
  rw [execFrameReceived, State.takeAndServe_live _ _ hlive.1, State.settled_of_none s hlive.2]

theorem receivedFrameIsQueued : Claims.ReceivedFrameIsQueued := by
  intro bytes s hlive hqueue hshape may inner sound f
  rw [exec_frameReceived hlive]
  have hagrees : checkAgrees bytes = true ↔ sound := beq_iff_eq
  have hentered : sound → s.enterFrame bytes = s.enqueue (.frame f) := fun hsound => by
    rw [State.enterFrame, if_neg (not_not.2 hshape), if_pos (hagrees.2 hsound)]
    rfl
  have hwaits : sound → ¬ may → (s.enterFrame bytes).serveHead = .next (s.enqueue (.frame f)) := fun hsound hmay => by
    rw [hentered hsound]
    refine State.serveHead_of_may_not ?_
    rwa [State.enqueue_boot, State.enqueue_reply]
  refine ⟨fun hsound => ?_, fun hsound hmay => ?_, fun hsound hmay hroom => ?_, fun hsound hmay hfull hrefusal => ?_,
    fun hsound hmay hfull hrefusal => ?_⟩
  · rw [State.enterFrame, if_neg (not_not.2 hshape), if_neg (mt hagrees.1 hsound)]
    exact State.serveHead_of_queueServed (s := s.frameFault 2) hqueue
  · have hempty := hqueue.2 hmay.1 hmay.2
    rw [hentered hsound, State.enqueue, hempty, if_pos (by decide)]
    exact State.serveHead_takes (s.onLink fun k => { k with queue := k.queue ++ [.frame f] }) (.frame f) []
      ((State.mayTake_iff _).2 hmay) (by simp [State.onLink, hempty]) (Frame.command_isRequest f)
  · rw [hwaits hsound hmay, State.enqueue_of_room hroom]
  · rw [hwaits hsound hmay, State.enqueue_of_full hfull hrefusal]
    rfl
  · rw [hwaits hsound hmay, State.enqueue_overrun hfull hrefusal]

/-- Settles O36. -/
theorem framesReceived : Obligations.FramesReceived := ⟨receiverFollowsTheBytes, receivedFrameIsQueued⟩

/-! ### The outgoing line (R191) -/

theorem exec_outgoingFrameBegin {s : State} (hlive : Claims.live s) :
    exec .outgoingFrameBegin s = .next s.beginFrame := by
  show execOutgoingFrameBegin s = _
  rw [execOutgoingFrameBegin, State.take_of_live hlive]

theorem exec_outgoingFrameEnd {s : State} (hlive : Claims.live s) : exec .outgoingFrameEnd s = s.endFrame.serveHead := by
  show execOutgoingFrameEnd s = _
  rw [execOutgoingFrameEnd, State.takeAndServe_live _ _ hlive.1, State.settled_of_none s hlive.2]

theorem State.beginFrame_of_line {s : State} (h : s.link.line.isSome = true) : s.beginFrame = s := by
  rw [State.beginFrame, if_pos h]

/-- The end of a reply's frame, but of an accepted RESTART's, frees the line and the reply slot. -/
theorem State.endFrame_of_reply {s : State} {r : Reply} (hline : s.link.line = some (.reply r))
    (hkind : r.kind ≠ 0x74 ∨ ∃ why items, r.verdict = .refused why items) :
    s.endFrame = { s with link := { s.link with line := none, reply := none } } := by
  unfold State.endFrame
  rw [hline]
  dsimp only
  split
  next hverdict =>
    rcases hkind with hkind | ⟨why, items, hrefused⟩
    · rw [if_neg hkind]
      rfl
    · cases hverdict.symm.trans hrefused
  · rfl

/-- Settles O37. -/
theorem outgoingFramesInOrder : Obligations.OutgoingFramesInOrder := by
  refine ⟨fun s hlive hline => ?_, fun s hlive hfree => ?_, fun s hlive hqueue => ?_⟩
  · rw [exec_outgoingFrameBegin hlive, State.beginFrame_of_line hline]
  · rw [exec_outgoingFrameBegin hlive, State.beginFrame, if_neg (by rw [hfree]; decide)]
    refine ⟨fun f hf => ?_, fun r hf hr => ?_, fun e rest hf hr hnotices => ?_⟩
    · rw [hf]
      rfl
    · rw [hf, hr]
      rfl
    · rw [hf, hr, hnotices]
  · rw [exec_outgoingFrameEnd hlive]
    refine ⟨fun hfree => ?_, fun f hline hf => ?_, fun r hline hkind => ?_⟩
    · rw [State.endFrame, hfree]
      exact State.serveHead_of_queueServed hqueue
    · have hended : s.endFrame = { s with link := { s.link with line := none } } := by
        unfold State.endFrame
        rw [hline]
        cases f with
        | reply r => exact absurd rfl (hf r)
        | refusal => rfl
        | notice => rfl
      rw [hended]
      exact State.serveHead_of_queueServed hqueue
    · intro t
      rw [State.endFrame_of_reply hline hkind]
      refine ⟨fun hnone => ?_, fun q rest hdone hq => ?_⟩
      · rcases hnone with hempty | hphase
        · exact State.serveHead_empty t hempty
        · exact State.serveHead_of_may_not fun hmay => hphase hmay.1
      · exact State.serveHead_takes t q rest ((State.mayTake_iff t).2 ⟨hdone, rfl⟩) hq
          (hqueue.1 q (hq ▸ List.mem_cons_self ..))

end Sys2Proof.Machine

/-! The part's own work and the phase tick's counts (R18-R20, log 1, log 2; O3). -/

namespace Sys2Proof.Machine

/-! ### The own work (log 1, log 2) -/

theorem step_of_nothing_pending {s : State} (h : s.pending = []) : step s = s.ownWork := by
  unfold step
  rw [h]

theorem State.frameWaits_iff (s : State) : s.frameWaits = true ↔
    s.link.line = none ∧ (s.link.refusal.isSome ∨ s.link.reply.isSome ∨ s.out.notices ≠ []) := by
  simp only [State.frameWaits, Bool.and_eq_true, Option.isNone_iff_eq_none, Bool.or_eq_true, Bool.not_eq_true',
    List.isEmpty_eq_false_iff, or_assoc]

/-- Start-up has ended, and nothing is on its way: the next request, the next frame, or a phase tick. -/
theorem State.ownWork_of_done {s : State} (hlive : Claims.live s) (hdone : s.boot.phase = .done)
    (hhanded : s.out.handed = []) : s.ownWork = match s.mayTake, s.link.queue with
      | true, r :: rest => s.takeRequest r rest
      | _, _ => if s.frameWaits then exec .outgoingFrameBegin s else .next s.tick := by
  unfold State.ownWork
  rw [if_neg (by rw [hlive.1]; decide), if_neg (by rw [hdone]; decide), hhanded]
  dsimp only
  rw [if_neg (by rw [hdone]; rintro ⟨h, -⟩; cases h), if_neg (by rw [hdone]; rintro ⟨h, -⟩; cases h),
    State.settled_of_none s hlive.2] <;> rfl

theorem ownWorkInOrder : Claims.OwnWorkInOrder := by
  intro s hlive hpending hdone
  rw [step_of_nothing_pending hpending]
  refine ⟨fun i rest hhanded => ?_, fun r rest hhanded hreply hqueue => ?_, ?_⟩
  · unfold State.ownWork State.takeHanded
    rw [if_neg (by rw [hlive.1]; decide), if_neg (by rw [hdone]; decide), hhanded]
    rfl
  · rw [State.ownWork_of_done hlive hdone hhanded, hqueue, (State.mayTake_iff s).2 ⟨hdone, hreply⟩]
    rfl
  · intro hhanded hnone waits
    have hwork : s.ownWork = if s.frameWaits then exec .outgoingFrameBegin s else .next s.tick := by
      rw [State.ownWork_of_done hlive hdone hhanded]
      rcases hnone with hempty | hreply
      · rw [hempty]
        cases s.mayTake <;> rfl
      · have hmay : s.mayTake = false := by
          rw [← Bool.not_eq_true, State.mayTake_iff]
          rintro ⟨-, hnone⟩
          rw [hnone] at hreply
          cases hreply
        rw [hmay]
    rw [hwork]
    refine ⟨fun hline hwaits => if_pos ((State.frameWaits_iff s).2 ⟨hline, hwaits⟩), fun hnot => if_neg ?_⟩
    rw [State.frameWaits_iff]
    rintro ⟨hline, hwaits⟩
    rcases hnot with hsome | hnotWaits
    · rw [hline] at hsome
      cases hsome
    · exact hnotWaits hwaits

theorem startupWorkInOrder : Claims.StartupWorkInOrder := by
  intro s hwrites hpending
  rw [step_of_nothing_pending hpending]
  unfold State.ownWork
  rw [State.settled_of_none s hwrites]
  refine ⟨fun hline => if_pos hline, fun hline hphase => ?_, fun hline hphase i rest hhanded hstands => ?_,
    fun hline hhanded => ?_⟩
  · rw [if_neg (by rw [hline]; decide), if_pos hphase]
  · rw [if_neg (by rw [hline]; decide), if_neg hphase, hhanded]
    exact if_pos hstands
  · refine ⟨fun hphase hended => ?_, fun hphase hended => ?_⟩
    · rw [if_neg (by rw [hline]; decide), if_neg (by rw [hphase]; decide), hhanded]
      exact if_pos ⟨hphase, hended⟩
    · rw [if_neg (by rw [hline]; decide), if_neg (by rw [hphase]; decide), hhanded]
      dsimp only
      rw [if_neg (by rw [hphase]; rintro ⟨h, -⟩; cases h), if_pos ⟨hphase, hended⟩]

/-! ### The counts of a phase tick (R18-R20) -/

theorem Timer.tick_of_running {w : Timer} (h : w.count < w.limit) : w.tick = { w with count := w.count + 1 } := if_pos h

theorem mem_expiry_of_limit {w : Timer} (h : w.count < w.limit) (hlimit : w.count + 1 = w.limit) (i : Instr) :
    i ∈ expiry (some w) i := by
  simp [expiry, Timer.expires, h, hlimit]

/-- A tick at whose instants nothing is read, with no check running and no tenth complete. -/
theorem State.tick_of_idle {s : State} (hlive : s.boot.asserted = false) (hcheck : s.check = none)
    (hdivider : s.clock.divider < 9) (hfeed : s.sampling.feed = []) :
    s.tick = { (s.onClock Clock.countReference).onOut (fun o => o.handAll s.expiries) |>.tickCounts with
      clock := { s.clock.countReference with watch := s.clock.watch.map Timer.tick, divider := s.clock.divider + 1 }
      sampling := { s.sampling with instant := ((s.sampling.instant + 1) % 8 + 1) % 8 } } := by
  have hcounted : ∀ x : State, x.check = none → x.clock.divider < 9 →
      x.tickCheck.tickClock = x.onClock fun k => { k with divider := k.divider + 1 } := fun x hx hdiv => by
    rw [State.tickCheck, hx]
    exact if_neg (Nat.not_le.2 hdiv)
  rw [State.tick_nil s hfeed, State.tickAll]
  dsimp only
  rw [if_neg (by simp [hlive]), hcounted _ (by exact hcheck) (by exact hdivider)]
  rfl

theorem tickAdvancesTheCounts : Claims.TickAdvancesTheCounts := by
  intro s hlive hcheck hdivider hfeed
  have hhanded : ∀ i ∈ s.expiries, i ∈ s.tick.out.handed := fun i hi => by
    rw [State.tick_of_idle hlive.1 hcheck hdivider hfeed]
    exact List.mem_append_right _ hi
  have hstation : ∀ t, s.tick.stations.get t = (s.stations.get t).tick := fun t => by
    rw [State.tick_of_idle hlive.1 hcheck hdivider hfeed]
    exact mapV_get _ _ _
  refine ⟨?_, ?_, ?_, ?_, fun w hw hrun => ⟨?_, fun hlimit => hhanded _ ?_⟩,
    fun w hw hrun => ⟨?_, fun hlimit => hhanded _ ?_⟩, fun t k w hk hw hrun => ⟨?_, fun hlimit => hhanded _ ?_⟩⟩
  · rw [State.tick_of_idle hlive.1 hcheck hdivider hfeed]
    show ((s.sampling.instant + 1) % 8 + 1) % 8 = _
    omega
  · rw [State.tick_of_idle hlive.1 hcheck hdivider hfeed]
    rfl
  · rw [State.tick_of_idle hlive.1 hcheck hdivider hfeed]
  · rw [State.tick_of_idle hlive.1 hcheck hdivider hfeed]
    rfl
  · rw [State.tick_of_idle hlive.1 hcheck hdivider hfeed, ← Timer.tick_of_running hrun, hw]
    rfl
  · simp only [State.expiries, List.mem_append, hw]
    have := mem_expiry_of_limit hrun hlimit .pulseWatchExpiry
    tauto
  · rw [State.tick_of_idle hlive.1 hcheck hdivider hfeed, ← Timer.tick_of_running hrun]
    show s.mains.recovery.map Timer.tick = _
    rw [hw]
    rfl
  · simp only [State.expiries, List.mem_append, hw]
    have := mem_expiry_of_limit hrun hlimit .mainsRecoveryExpiry
    tauto
  · rw [State.tr, hstation, ← Timer.tick_of_running hrun]
    show (s.tr t).context.map _ = _
    rw [hk, Option.map_some, hw]
    rfl
  · have hmem : k.phase.expiry t ∈ (s.stations.get t).expiries t := by
      unfold State.tr at hk
      simp only [Station.expiries, hk, hw, List.mem_append]
      have := mem_expiry_of_limit hrun hlimit (k.phase.expiry t)
      tauto
    simp only [State.expiries, List.mem_append]
    have hall : k.phase.expiry t ∈ allTx.flatMap fun t => (s.stations.get t).expiries t :=
      List.mem_flatMap.2 ⟨t, mem_allTx t, hmem⟩
    tauto

/-- Settles O3. -/
theorem ownWorkAndTicks : Obligations.OwnWorkAndTicks := ⟨ownWorkInOrder, startupWorkInOrder, tickAdvancesTheCounts⟩

end Sys2Proof.Machine

/-! The schedule store's requests and completions (R36-R44, R203; O23, O24, O25, O27). -/

namespace Sys2Proof.Machine

/-! ### Erasing and opening a bank (R37-R39) -/

theorem eraseDecided : Claims.EraseDecided := by
  refine ⟨fun h n s hs => ?_, fun s k hlive hop => ?_⟩
  · show execEraseBank h n s = _
    refine (State.host_decides hs).trans ?_
    simp only [State.tested_cons, State.tested_nil]
    exact congrArg _ (if_congr Iff.rfl rfl (if_congr decide_eq_true_iff rfl (if_congr (by simp [State.taken]) rfl
      (if_congr (by simp [State.taken, Option.isSome_iff_ne_none]) rfl rfl))))
  · show execEraseComplete s = _
    rw [execEraseComplete, State.take_of_live hlive, hop]
    rfl

theorem openBankDecided : Claims.OpenBankDecided := by
  refine ⟨fun h n code year month day minute s hs => ?_, fun s k hlive hop => ?_⟩
  · show execOpenBank h n code year month day minute s = _
    refine (State.host_decides hs).trans ?_
    simp only [State.tested_cons, State.tested_nil]
    refine congrArg _ (if_congr Iff.rfl rfl (ite_congr (propext ?_) (fun _ => rfl) fun hrange =>
      if_congr ?_ rfl (if_congr ?_ rfl (if_congr ?_ rfl rfl))))
    · simp only [Bool.or_eq_true, decide_eq_true_eq]
      omega
    · have hvalid : Date.valid { year := year, month := month, day := day } = decide (¬ monthLength year month < day) := by
        rw [Date.valid, decide_eq_true (show 2000 ≤ year by omega), decide_eq_true (show year ≤ 2099 by omega),
          decide_eq_true (show 1 ≤ day by omega), Bool.and_self, Bool.and_self, Bool.true_and, decide_eq_decide, not_lt]
      simp [hvalid, or_assoc]
    · simp [State.taken]
    · simp [State.taken, Option.isSome_iff_ne_none]
  · show execHeaderWriteComplete s = _
    rw [execHeaderWriteComplete, State.take_of_live hlive, hop]
    rfl

/-- Settles O23. -/
theorem bankErasedAndOpened : Obligations.BankErasedAndOpened := ⟨eraseDecided, openBankDecided⟩

/-! ### Writing, closing and reading a bank (R40-R44) -/

theorem pageOf_get {entries : List Slot} (h : entries.length ≤ 8) (i : Fin 8) :
    (pageOf entries).get i = (entries ++ List.replicate 8 (BitVec.allOnes 128)).getD i.val 0 := by
  have hget : (pageOf entries).get i = entries.getD i.val emptySlot := by
    fin_cases i <;> rfl
  rw [hget]
  by_cases hi : i.val < entries.length
  · rw [List.getD_append _ _ _ _ hi, List.getD_eq_getElem _ _ hi, List.getD_eq_getElem _ _ hi]
  · rw [List.getD_append_right _ _ _ _ (Nat.not_lt.1 hi), List.getD_eq_default _ _ (Nat.not_lt.1 hi),
      List.getD_replicate]
    · rfl
    · omega

theorem State.request_of_firstFailing {s : State} {kind : Byte} {h : Head} {ts : List (Bool × Reason)}
    {e : State → State} {a : State → Answer} {r : Reason} (hfirst : firstFailing ((!h.sized, .badLength) :: ts) = some r) :
    s.request kind h ts e a = s.refuse kind h.tag r := by
  rw [State.request, hfirst]

/-- BANK_MISMATCH comes with the refusal WRONG_BANK alone (R40). -/
theorem writeEntries_wrongBank_iff (h : Head) (n p : Nat) (entries : List Slot) (k : SeasonBank) (busy : Bool) :
    firstFailing [(!h.sized, .badLength), (entries.isEmpty || decide (8 < entries.length), .badLength),
      (decide (1 < n) || decide (63 < p), .outOfRange), (k.state != .opened, .wrongBank),
      (k.written.getLsbD p, .pageWritten), (busy, .busy)] = some .wrongBank ↔
    ¬ (h.sized = false ∨ entries = [] ∨ 8 < entries.length) ∧ ¬ (1 < n ∨ 63 < p) ∧ k.state ≠ .opened := by
  simp only [firstFailing]
  split_ifs <;> simp_all

theorem writeEntries_of_serves {h : Head} {n p : Nat} {entries : List Slot} {s : State} (hs : Claims.serves s) :
    let b := s.store.bank (bank n)
    exec (.writeEntries h n p entries) s = .next
      (if h.sized = false ∨ entries = [] ∨ 8 < entries.length then Claims.refuse s 0x32 h .badLength
      else if 1 < n ∨ 63 < p then Claims.refuse s 0x32 h .outOfRange
      else if b.state ≠ .opened then
        Claims.refuse (Claims.event s .bankMismatch (.bank (bank n)) (b1 s.store.openBank)) 0x32 h .wrongBank
      else if b.written.getLsbD p then Claims.refuse s 0x32 h .pageWritten
      else if s.store.op ≠ none then Claims.refuse s 0x32 h .busy
      else Claims.accept (Claims.setOp (Claims.setBank s (bank n) { b with written := setBit b.written p })
        (some (.page (bank n) (page p) (pageOf entries)))) 0x32 h .empty) := by
  intro b
  show execWriteEntries h n p entries s = _
  refine (State.host_of_serves hs _ _).trans (congrArg _ ?_)
  have hiff := writeEntries_wrongBank_iff h n p entries b s.store.op.isSome
  by_cases hwrong : ¬ (h.sized = false ∨ entries = [] ∨ 8 < entries.length) ∧ ¬ (1 < n ∨ 63 < p) ∧ b.state ≠ .opened
  · obtain ⟨hlength, hrange, hstate⟩ := hwrong
    rw [if_neg hlength, if_neg hrange, if_pos hstate]
    have hfirst := hiff.2 ⟨hlength, hrange, hstate⟩
    refine (congrArg (fun x : State => x.request 0x32 h _ _ _) (if_pos hfirst)).trans ?_
    exact State.request_of_firstFailing hfirst
  · refine (congrArg (fun x : State => x.request 0x32 h _ _ _) (if_neg (mt hiff.1 hwrong))).trans ?_
    rw [State.taken_request, ite_or]
    simp only [State.tested_cons, State.tested_nil]
    refine ite_congr rfl (fun _ => rfl) fun hsized => ite_congr (by simp) (fun _ => rfl) fun hlength =>
      ite_congr (by simp) (fun _ => rfl) fun hrange => ?_
    have hopen : b.state = .opened := by_contra fun hstate => hwrong ⟨not_or.2 ⟨hsized, hlength⟩, hrange, hstate⟩
    rw [if_neg (not_not.2 hopen)]
    refine (if_neg ?_).trans (if_congr Iff.rfl rfl (if_congr Option.isSome_iff_ne_none rfl rfl))
    show ¬ (b.state != .opened) = true
    rw [hopen]
    decide

/-- Settles O24. -/
theorem writeEntriesDecided : Obligations.WriteEntriesDecided := by
  refine ⟨fun h n p entries s hs => writeEntries_of_serves hs, fun entries i h => pageOf_get h i,
    fun s k p slots hlive hop => ?_⟩
  show execEntryPageWriteComplete s = _
  rw [execEntryPageWriteComplete, State.take_of_live hlive, hop]
  rfl

theorem countBits_eq {w : Nat} (v : BitVec w) (n : Nat) :
    countBits v n = ((List.range n).filter fun i => v.getLsbD i).length := by
  have hupto : ∀ n, upTo n = List.range n := fun n => by
    induction n with
    | zero => rfl
    | succ n ih => rw [upTo, ih, List.range_succ]
  rw [countBits, hupto]

/-- Settles O25. -/
theorem closeAndReadBankDecided : Obligations.CloseAndReadBankDecided := by
  refine ⟨fun h n s hs => ?_, fun h n s hs => ?_, fun h n p s hs => ?_⟩
  · show execCloseBank h n s = _
    refine (State.host_decides hs).trans ?_
    simp only [State.tested_cons, State.tested_nil]
    exact congrArg _ (if_congr Iff.rfl rfl (if_congr decide_eq_true_iff rfl (if_congr (by simp [State.taken]) rfl rfl)))
  · show execReadBank h n s = _
    refine (State.host_decides hs).trans ?_
    simp only [State.tested_cons, State.tested_nil]
    refine congrArg _ (if_congr Iff.rfl rfl (if_congr decide_eq_true_iff rfl (if_congr (by simp [State.taken]) rfl ?_)))
    have hop : s.store.opOn (bank n) =
        if s.store.writing (bank n) ∨ s.store.erasing (bank n) then s.store.op else none :=
      if_congr Bool.or_eq_true_iff rfl rfl
    rw [← hop, ← countBits_eq]
    rfl
  · show execReadEntries h n p s = _
    refine (State.host_decides hs).trans ?_
    simp only [State.tested_cons, State.tested_nil]
    refine congrArg _ (if_congr Iff.rfl rfl (if_congr (by simp) rfl (if_congr (by simp [State.taken]) rfl
      (if_congr (by simp [State.taken]) rfl ?_))))
    have hslots : ∀ x : EntryPage, x.slots = match x with
        | .programmed slots => slots.toList
        | _ => List.replicate 8 (BitVec.allOnes 128) := fun x => by cases x <;> rfl
    exact congrArg (fun l => Claims.accept s 0x37 h (.entries _ l)) (hslots _)

/-! ### Saving the settings (R203) -/

/-- A bit set gathered from the elements of a list that have a property. -/
theorem foldl_setBit_getLsbD {α : Type} {w : Nat} (l : List α) (p : α → Bool) (f : α → Nat) (v : BitVec w) {i : Nat}
    (hi : i < w) : (l.foldl (fun v x => if p x then setBit v (f x) else v) v).getLsbD i =
      (v.getLsbD i || l.any fun x => p x && decide (f x = i)) := by
  induction l generalizing v with
  | nil => simp
  | cons x l ih =>
    rw [List.foldl_cons, ih]
    cases hx : p x with
    | false => simp [hx]
    | true => simp [hx, setBit_getLsbD _ _ _ hi, Bool.or_assoc]

/-- The bit of an element in the set of those that have a property. -/
theorem foldl_setBit_getLsbD_val {n : Nat} {l : List (Fin n)} (hl : ∀ x, x ∈ l) (p : Fin n → Bool) (x : Fin n) :
    (l.foldl (fun v x => if p x then setBit v x.val else v) (0 : BitVec n)).getLsbD x.val = p x := by
  rw [foldl_setBit_getLsbD l p Fin.val 0 x.isLt, Bool.eq_iff_iff]
  simp only [BitVec.ofNat_eq_ofNat, BitVec.getLsbD_zero, Bool.false_or, List.any_eq_true, Bool.and_eq_true,
    decide_eq_true_eq, ← Fin.ext_iff]
  exact ⟨fun ⟨y, _, hy, hyx⟩ => hyx ▸ hy, fun hx => ⟨x, hl x, hx, rfl⟩⟩

/-- Settles O27. -/
theorem settingsSaved : Obligations.SettingsSaved := by
  refine ⟨fun h autorun warmAdopt s hs => ?_, fun s g hlive hop => ?_⟩
  · have hdecided : exec (.saveSettings h autorun warmAdopt) s = .next _ :=
      show execSaveSettings h autorun warmAdopt s = _ from State.host_decides hs
    simp only [State.tested_cons, State.tested_nil] at hdecided
    refine ⟨fun hshort => ?_, fun hsized hnone => ?_, ?_, ?_⟩
    · rw [hdecided, if_pos hshort]
    · rw [hdecided, if_neg (by simp [hsized]), if_pos (by simpa using hnone)]
    · rintro a w hsized rfl rfl hop
      rw [hdecided, if_neg (by simp [hsized]), if_neg (by simp),
        if_pos (by simpa [State.taken, Option.isSome_iff_ne_none] using hop)]
    · rintro a w hsized rfl rfl hop
      refine ⟨s.capture a w, ?_, rfl, rfl, rfl, rfl, rfl, rfl, fun t => ⟨?_, ?_, ?_⟩, fun c => ⟨?_, ?_, ?_⟩,
        fun l => ?_, fun m => ?_⟩
      · rw [hdecided, if_neg (by simp [hsized]), if_neg (by simp), if_neg (by simp [State.taken, hop])]
        rfl
      · exact txVector_get _ t
      · exact txVector_get _ t
      · exact txVector_get _ t
      · exact colVector_get _ c
      · exact foldl_setBit_getLsbD_val mem_allCols (fun c => (s.matrix.column c).withdrawn) c
      · exact foldl_setBit_getLsbD_val mem_allCols (fun c => (s.matrix.column c).suspect) c
      · exact lineVector_get _ l
      · exact memberVector_get _ m
  · show execSettingsWriteComplete s = _
    rw [execSettingsWriteComplete, State.take_of_live hlive, hop]
    rfl

end Sys2Proof.Machine

/-! The limits, the protection settings and the monitors' configurations (R136, R151, R165; O28). -/

namespace Sys2Proof.Machine

/-! ### A request's first test is its length (R190) -/

theorem exec_short {s : State} {c : Instr} {kind : Byte} {h : Head} (hs : Claims.serves s)
    (hc : requestOf c = some (kind, h)) (hkind : ∀ h' k', c ≠ .unknownKind h' k') (hshort : h.sized = false) :
    exec c s = .next (Claims.refuse s kind h .badLength) := by
  obtain ⟨u, hu, hdecides⟩ := exec_decides hc hkind hs
  rw [hu, hdecides.short hshort, State.taken_refuse]

section
variable {s : State} {i : Instr} {kind : Byte} {h : Head} {ts : State → List (Bool × Reason)}
  {e : State → State → State} {a : State → State → Answer}

theorem State.host_sized (hs : Claims.serves s) (hsized : h.sized = true) :
    s.host i (fun x => x.request kind h (ts x) (e x) (a x)) = .next (s.tested kind h (ts s.taken)
      ((e s.taken s.taken).answer kind h.tag (.accepted (a s.taken (e s.taken s.taken))))) := by
  rw [State.host_decides hs, if_neg (by simp [hsized])]

end

@[simp] theorem State.taken_stations (s : State) : s.taken.stations = s.stations := rfl
@[simp] theorem State.taken_tr (s : State) (t : Tx) : s.taken.tr t = s.tr t := rfl
@[simp] theorem State.taken_matrix (s : State) : s.taken.matrix = s.matrix := rfl
@[simp] theorem State.taken_store (s : State) : s.taken.store = s.store := rfl
@[simp] theorem State.taken_check (s : State) : s.taken.check = s.check := rfl
@[simp] theorem State.taken_lines (s : State) : s.taken.lines = s.lines := rfl
@[simp] theorem State.taken_ilu (s : State) : s.taken.ilu = s.ilu := rfl
@[simp] theorem State.taken_engine (s : State) : s.taken.engine = s.engine := rfl
@[simp] theorem State.taken_out (s : State) : s.taken.out = s.out := rfl

/-! ### Limits and protection settings -/

theorem outside_eq_false_iff {lo hi n : Nat} : outside lo hi n = false ↔ lo ≤ n ∧ n ≤ hi := by
  simp [outside]

theorem Limits.outOfRange_eq_false_iff (l : Limits) : l.outOfRange = false ↔
    1000 ≤ l.claimWait ∧ l.claimWait ≤ 600000 ∧ 100 ≤ l.mute ∧ l.mute ≤ 10000 ∧ l.settle ≤ 2000 ∧
      5000 ≤ l.tune ∧ l.tune ≤ 120000 ∧ 1000 ≤ l.travel ∧ l.travel ≤ 30000 ∧ 50 ≤ l.hold ∧ l.hold ≤ 1000 ∧
      1000 ≤ l.ramp ∧ l.ramp ≤ 20000 ∧ l.arming ≤ 5000 := by
  simp [Limits.outOfRange, outside_eq_false_iff, and_assoc]

theorem Protection.outOfRange_eq_false_iff (p : Protection) : p.outOfRange = false ↔
    p.restrikeLimit ≤ 9 ∧ 1000 ≤ p.restrikeDelay ∧ p.restrikeDelay ≤ 30000 ∧
      10000 ≤ p.restrikeWindow ∧ p.restrikeWindow ≤ 600000 ∧ 1000 ≤ p.carrierLoss ∧ p.carrierLoss ≤ 60000 ∧
      500 ≤ p.mainsRecovery ∧ p.mainsRecovery ≤ 10000 := by
  simp [Protection.outOfRange, outside_eq_false_iff, and_assoc]

theorem legalMainsLevel_iff (n : Nat) : legalMainsLevel n = true ↔ n = 85 ∨ n = 88 ∨ n = 90 ∨ n = 93 := by
  simp [legalMainsLevel, or_assoc]

theorem exec_setLimits {s : State} (hs : Claims.serves s) {h : Head} (hsized : h.sized = true) (l : Limits) :
    exec (.setLimits h l) s = .next
      (if l.outOfRange then Claims.refuse s 0x13 h .outOfRange
      else if ∃ t, (s.tr t).state = .changing then Claims.refuse s 0x13 h .busy
      else Claims.accept { s with limits := l.ticks } 0x13 h .empty) := by
  show execSetLimits h l s = _
  refine (State.host_sized hs hsized).trans ?_
  simp only [State.tested_cons, State.tested_nil]
  exact congrArg _ (if_congr Iff.rfl rfl (if_congr (by simp [mem_allTx, State.taken_tr]) rfl rfl))

theorem exec_setProtection {s : State} (hs : Claims.serves s) {h : Head} (hsized : h.sized = true) (p : Protection) :
    exec (.setProtection h p) s = .next
      (if p.outOfRange then Claims.refuse s 0x15 h .outOfRange
      else if legalMainsLevel p.mainsLevel = false then Claims.refuse s 0x15 h .badField
      else Claims.accept { s with protection := p.ticks } 0x15 h .empty) := by
  show execSetProtection h p s = _
  refine (State.host_sized hs hsized).trans ?_
  simp only [State.tested_cons, State.tested_nil]
  exact congrArg _ (if_congr Iff.rfl rfl (if_congr (by simp) rfl rfl))

/-! ### A monitor's configuration (R151) -/

theorem legalDivisor_iff (n : Nat) : legalDivisor n = true ↔ n = 1 ∨ n = 2 ∨ n = 4 ∨ n = 8 := by
  simp [legalDivisor, or_assoc]

theorem monitorConfig_eq_none {which : Option MonitorName} {level : Nat} {filter : Option Bool} {n : Nat}
    {edges : Option Edges} {source : Option Coupler} (h : which = none ∨ filter = none ∨ ¬ (n = 1 ∨ n = 2 ∨ n = 4 ∨ n = 8) ∨
      edges = none ∨ source = none ∨ (which = some .reflected ∧ source = some .line)) :
    monitorConfig which level filter n edges source = none := by
  rw [← legalDivisor_iff] at h
  unfold monitorConfig
  split
  next w f g c =>
    refine if_neg fun ⟨hdivisor, hsource⟩ => ?_
    rcases h with h | h | h | h | h | ⟨hw, hc⟩
    · cases h
    · cases h
    · exact h hdivisor
    · cases h
    · cases h
    · cases hw
      cases hc
      cases hsource rfl
  · rfl

theorem TxRecord.restrikeRamping_iff (r : TxRecord) :
    r.restrikeRamping = true ↔ r.state = .tripped ∧ ∃ w, r.stage = .ramp w := by
  unfold TxRecord.restrikeRamping
  cases r.stage <;> simp

theorem TxRecord.monitored_iff (r : TxRecord) : r.monitored = true ↔
    r.state = .onAir ∨ (∃ k, r.context = some k ∧ k.phase = .ramp) ∨ (r.state = .tripped ∧ ∃ w, r.stage = .ramp w) := by
  simp only [TxRecord.monitored, TxRecord.ramping, Bool.or_eq_true, r.restrikeRamping_iff, beq_iff_eq,
    Option.any_eq_true, or_assoc]

theorem exec_setMonitor {s : State} (hs : Claims.serves s) {h : Head} (hsized : h.sized = true) (n : Nat)
    (which : Option MonitorName) (level : Nat) (filter : Option Bool) (d : Nat) (edges : Option Edges)
    (source : Option Coupler) : exec (.setMonitor h n which level filter d edges source) s = .next
      (if 11 < n ∨ 15 < level then Claims.refuse s 0x14 h .outOfRange
      else match monitorConfig which level filter d edges source with
        | none => Claims.refuse s 0x14 h .badField
        | some (w, g) => if (s.tr (tx n)).monitored then Claims.refuse s 0x14 h .inUse
          else Claims.accept { s with stations := upd s.stations (tx n) ((s.stations.get (tx n)).configure w g) } 0x14 h
            .empty) := by
  show execSetMonitor h n which level filter d edges source s = _
  refine (State.host_sized hs hsized).trans ?_
  simp only [State.tested_cons, State.tested_nil]
  refine congrArg _ (if_congr (by simp) rfl ?_)
  cases monitorConfig which level filter d edges source with
  | none => rfl
  | some q => rfl

/-- Settles O28. -/
theorem limitRequestsDecided : Obligations.LimitRequestsDecided := by
  refine ⟨fun h l s hs => ?_, fun h p s hs => ?_, fun h n which level filter d edges source s hs => ?_⟩
  · intro inRange ticks
    have hrange := l.outOfRange_eq_false_iff
    refine ⟨exec_short hs rfl nofun, fun hsized hout => ?_, fun hsized hin hbusy => ?_,
      fun hsized hin hfree => ?_⟩
    · rw [exec_setLimits hs hsized, if_pos (Bool.not_eq_false _ ▸ mt hrange.1 hout)]
    · rw [exec_setLimits hs hsized, if_neg (by simp [hrange.2 hin]), if_pos hbusy]
    · rw [exec_setLimits hs hsized, if_neg (by simp [hrange.2 hin]), if_neg (by simpa using hfree)]
      rfl
  · intro inRange legal ticks
    have hrange := p.outOfRange_eq_false_iff
    have hlegal := legalMainsLevel_iff p.mainsLevel
    refine ⟨exec_short hs rfl nofun, fun hsized hout => ?_, fun hsized hin hbad => ?_,
      fun hsized hin hgood => ?_⟩
    · rw [exec_setProtection hs hsized, if_pos (Bool.not_eq_false _ ▸ mt hrange.1 hout)]
    · rw [exec_setProtection hs hsized, if_neg (by simp [hrange.2 hin]),
        if_pos (Bool.not_eq_true _ ▸ mt hlegal.1 hbad)]
    · rw [exec_setProtection hs hsized, if_neg (by simp [hrange.2 hin]), if_neg (by simp [hlegal.2 hgood])]
      rfl
  · intro i u divisor running
    have hrunning := (s.tr (tx n)).monitored_iff
    refine ⟨exec_short hs rfl nofun, fun hsized hout => ?_, fun hsized hn hlevel hbad => ?_, ?_⟩
    · rw [exec_setMonitor hs hsized, if_pos hout]
    · rw [exec_setMonitor hs hsized, if_neg (by omega), monitorConfig_eq_none hbad]
    · rintro w f g c hsized hn hlevel rfl rfl hdivisor rfl rfl hsource config v
      have hconfig : monitorConfig (some w) level (some f) d (some g) (some c) = some (w, config) :=
        if_pos ⟨(legalDivisor_iff d).2 hdivisor, hsource⟩
      refine ⟨fun hrun => ?_, fun hrun => ?_⟩
      · rw [exec_setMonitor hs hsized, if_neg (by omega), hconfig]
        exact congrArg _ (if_pos (hrunning.2 hrun))
      · rw [exec_setMonitor hs hsized, if_neg (by omega), hconfig]
        refine congrArg _ ((if_neg (mt hrunning.1 hrun)).trans ?_)
        cases w <;> rfl

end Sys2Proof.Machine

/-! The field lines (R170-R175; O29). -/

namespace Sys2Proof.Machine

/-! ### A line's kind changed (R173) -/

theorem State.relabel_lines (s : State) (l : Line) (k : LineKind) :
    (s.relabel l k).lines = upd s.lines l
      { s.lines.get l with
        kind := k
        pin := if (s.lines.get l).kind.drives ∨ k.drives then none else (s.lines.get l).pin
        last := if (s.lines.get l).kind.drives ∨ k.drives then none else (s.lines.get l).last } := by
  unfold State.relabel
  dsimp only
  split_ifs <;> (try split) <;> rfl

theorem State.relabel_clock (s : State) (l : Line) (k : LineKind) :
    (s.relabel l k).clock = if k = .pulse then s.clock.pulseKind true
      else if (s.lines.get l).kind = .pulse then s.clock.pulseKind false else s.clock := by
  unfold State.relabel
  dsimp only
  split_ifs <;> (try split) <;> rfl

theorem State.relabel_ilu_of_kept {s : State} {l : Line} {k : LineKind}
    (h : ¬ ((s.lines.get l).kind = .interlock ∧ k ≠ .interlock)) : (s.relabel l k).ilu = s.ilu := by
  unfold State.relabel
  dsimp only
  rw [if_neg h]
  split_ifs <;> rfl

theorem State.relabel_ilu_of_left {s : State} {l : Line} {k : LineKind} {m : Member}
    (h : (s.lines.get l).kind = .interlock ∧ k ≠ .interlock) (hm : s.ilu.memberOn l = some m) :
    (s.relabel l k).ilu = s.ilu.onMember m fun _ => { config := none, level := .unsettled, applied := 0 } := by
  unfold State.relabel
  dsimp only
  rw [if_pos h]
  split_ifs <;> simp [hm, State.onLine, State.onClock, State.unconfigure]

/-! ### SET_LINE (R172, R173) -/

theorem exec_setLine {s : State} (hs : Claims.serves s) {h : Head} (hsized : h.sized = true) (n : Nat)
    (kind : Option LineUse) (parameter : Nat) : exec (.setLine h n kind parameter) s = .next
      (if 31 < n ∨ (kind = some .lamp ∧ 11 < parameter) then Claims.refuse s 0x16 h .outOfRange
      else match kind with
        | none => Claims.refuse s 0x16 h .badField
        | some k =>
          if k = .pulse ∧ ∃ q, s.pulseLine = some q ∧ q ≠ line n then Claims.refuse s 0x16 h .lineClaimed
          else if ((s.lines.get (line n)).kind = .interlock ∧ k ≠ .interlock) ∧ s.ilu.firstOut.isSome then
            Claims.refuse s 0x16 h .held
          else (if lineKind k parameter = (s.lines.get (line n)).kind then s.taken
            else s.taken.relabel (line n) (lineKind k parameter)).answer 0x16 h.tag (.accepted .empty)) := by
  show execSetLine h n kind parameter s = _
  refine (State.host_sized hs hsized).trans ?_
  simp only [State.tested_cons, State.tested_nil]
  refine congrArg _ (if_congr (by simp) rfl ?_)
  cases kind with
  | none => rfl
  | some k =>
    have hclaimed : (s.pulseLine.any fun q => q != line n) = true ↔ ∃ q, s.pulseLine = some q ∧ q ≠ line n := by
      simp [Option.any_eq_true]
    refine (if_neg (by simp)).trans (if_congr ?_ rfl (if_congr (by simp) rfl rfl))
    simp only [Bool.and_eq_true, beq_iff_eq, Option.some.injEq, ← hclaimed]
    exact Iff.rfl

theorem setLineDecided : Claims.SetLineDecided := by
  intro h n kind parameter s hs i l old taken
  refine ⟨exec_short hs rfl nofun, fun hsized hout => ?_, ?_, ?_, ?_⟩
  · rw [exec_setLine hs hsized, if_pos hout]
  · rintro hsized hn rfl
    rw [exec_setLine hs hsized, if_neg (by simp [hn])]
  · rintro hsized hn rfl htaken
    rw [exec_setLine hs hsized, if_neg (by simp [hn])]
    exact congrArg _ (if_pos ⟨rfl, htaken⟩)
  · rintro k hsized hn rfl hlamp hfree
    have hin : ¬ (31 < n ∨ (some k = some LineUse.lamp ∧ 11 < parameter)) := by
      rintro (hn' | ⟨hk, hp⟩)
      · omega
      · exact absurd (hlamp (Option.some.inj hk)) (by omega)
    refine ⟨fun hold hk hheld => ?_, ?_⟩
    · rw [exec_setLine hs hsized, if_neg hin]
      exact congrArg _ ((if_neg hfree).trans (if_pos ⟨⟨hold, hk⟩, hheld⟩))
    · intro hlatch new
      have hexec : exec i s = .next ((if new = old.kind then s.taken else s.taken.relabel l new).answer 0x16 h.tag
          (.accepted .empty)) := by
        rw [exec_setLine hs hsized, if_neg hin]
        refine congrArg _ ((if_neg hfree).trans (if_neg ?_))
        rintro ⟨hleft, hheld⟩
        rw [hlatch hleft] at hheld
        cases hheld
      by_cases hsame : new = old.kind
      · rw [if_pos hsame] at hexec
        refine ⟨_, hexec, rfl, fun _ => rfl, hsame.symm, rfl, fun hne => absurd hsame hne, fun m _ => rfl,
          fun hne => absurd hsame hne, fun hne hold => absurd (hsame.trans hold) hne, fun _ _ => rfl,
          fun hold hne => absurd (hsame.trans hold) hne, fun _ => rfl⟩
      · rw [if_neg hsame] at hexec
        have hlines := s.taken.relabel_lines l new
        have hclock : (s.taken.relabel l new).clock = if new = .pulse then s.clock.pulseKind true
            else if old.kind = .pulse then s.clock.pulseKind false else s.clock := s.taken.relabel_clock l new
        refine ⟨_, hexec, rfl, fun heq => absurd heq hsame, ?_⟩
        simp only [State.answer_lines, State.answer_clock, State.answer_ilu, hlines, hclock, upd_get_same]
        refine ⟨trivial, rfl, fun _ => rfl, fun m hm => upd_get_other _ _ _ _ hm, fun _ hp => ?_, fun hp hold => ?_,
          fun hp hold => ?_, fun hold hne m hm => ?_, fun hold => ?_⟩
        · rw [if_pos hp]
          exact ⟨rfl, rfl⟩
        · rw [if_neg hp, if_pos hold]
          exact ⟨rfl, rfl⟩
        · rw [if_neg hp, if_neg hold]
        · rw [State.relabel_ilu_of_left (s := s.taken) ⟨hold, hne⟩ hm]
          exact congrArg _ (upd_get_same _ _ _)
        · rw [State.relabel_ilu_of_kept (s := s.taken) fun hleft => hold hleft.1]
          rfl

/-! ### The latches (R174, R175) -/

theorem State.latches_getLsbD (s : State) (l : Line) : s.latches.getLsbD l.val = (s.lines.get l).latch :=
  foldl_setBit_getLsbD_val mem_allLines (fun l => (s.lines.get l).latch) l

/-- The lines as the pairs of WRITE_LINES leave them. -/
def writeLatches (v : Vector FieldLine 32) (writes : List (Nat × Nat)) : Vector FieldLine 32 :=
  writes.foldl (fun v w => upd v (line w.1) { v.get (line w.1) with latch := w.2 == 1 }) v

theorem foldl_onLine_eq (writes : List (Nat × Nat)) (s : State) :
    writes.foldl (fun s w => s.onLine (line w.1) fun k => { k with latch := w.2 == 1 }) s =
      { s with lines := writeLatches s.lines writes } := by
  induction writes generalizing s with
  | nil => rfl
  | cons w writes ih =>
    rw [List.foldl_cons, ih]
    rfl

theorem line_eq_iff {n : Nat} (hn : n ≤ 31) (l : Line) : l = line n ↔ n = l.val := by
  rw [Fin.ext_iff, line, Fin.val_ofNat, Nat.mod_eq_of_lt (by omega), eq_comm]

/-- Of several pairs of one line the last decides (log 63). -/
theorem writeLatches_get {writes : List (Nat × Nat)} (h : ∀ w ∈ writes, w.1 ≤ 31) (v : Vector FieldLine 32) (l : Line) :
    (writeLatches v writes).get l = { v.get l with
      latch := match (writes.filter fun w => w.1 == l.val).getLast? with
        | some w => w.2 == 1
        | none => (v.get l).latch } := by
  induction writes generalizing v with
  | nil => rfl
  | cons w writes ih =>
    have hw : l = line w.1 ↔ w.1 = l.val := line_eq_iff (h w (List.mem_cons_self ..)) l
    refine (ih (fun q hq => h q (List.mem_cons_of_mem _ hq)) _).trans ?_
    by_cases hl : w.1 = l.val
    · rw [List.filter_cons_of_pos (by simpa using hl), List.getLast?_cons]
      beta_reduce
      rw [← hw.2 hl, upd_get_same]
      cases (writes.filter fun w => w.1 == l.val).getLast? <;> rfl
    · rw [List.filter_cons_of_neg (by simpa using hl), upd_get_other _ _ _ _ (mt hw.1 hl)]

theorem exec_writeLines {s : State} (hs : Claims.serves s) {h : Head} (hsized : h.sized = true)
    (writes : List (Nat × Nat)) : exec (.writeLines h writes) s = .next
      (if ∃ w ∈ writes, 31 < w.1 ∨ 1 < w.2 then Claims.refuse s 0x18 h .outOfRange
      else
        let t : State := { s with lines := writeLatches s.lines writes }
        Claims.accept t 0x18 h (.latches t.latches)) := by
  show execWriteLines h writes s = _
  refine (State.host_sized hs hsized).trans ?_
  simp only [State.tested_cons, State.tested_nil, foldl_onLine_eq]
  exact congrArg _ (if_congr (by simp) rfl rfl)

theorem lineLatchesWrittenAndRead : Claims.LineLatchesWrittenAndRead := by
  refine ⟨fun h writes s hs => ?_, fun h s hs => ?_⟩
  · intro i
    refine ⟨exec_short hs rfl nofun, fun hsized hout => ?_, fun hsized hin => ?_⟩
    · rw [exec_writeLines hs hsized, if_pos hout]
    · have hrange : ¬ ∃ w ∈ writes, 31 < w.1 ∨ 1 < w.2 := by
        rintro ⟨w, hw, hbad⟩
        have := hin w hw
        omega
      have hexec := exec_writeLines hs hsized writes
      rw [if_neg hrange] at hexec
      have hget := writeLatches_get (fun w hw => (hin w hw).1) s.lines
      refine ⟨_, _, hexec, rfl, fun l => State.latches_getLsbD _ l, fun l => ?_, rfl⟩
      show ((writeLatches s.lines writes).get l).kind = _ ∧ ((writeLatches s.lines writes).get l).pin = _ ∧
        ((writeLatches s.lines writes).get l).latch = _
      rw [hget l]
      exact ⟨rfl, rfl, rfl⟩
  · show execReadLines h s = _
    have hlevel : ∀ l, s.lineLevel l = match (s.lines.get l).kind with
        | .output => some (s.lines.get l).latch
        | .lamp t => some ((s.tr t).state == .onAir)
        | _ => (s.lines.get l).pin := fun l => by
      unfold State.lineLevel State.drive
      dsimp only
      cases (s.lines.get l).kind <;> rfl
    refine (State.host_decides hs).trans (congrArg _ (if_congr Iff.rfl rfl ?_))
    refine congrArg (fun ls => Claims.accept s 0x64 h (.lines ls s.ilu.input)) (List.map_congr_left fun l _ => ?_)
    exact congrArg _ (congrArg _ (hlevel l))

/-- Settles O29. -/
theorem fieldLinesDecided : Obligations.FieldLinesDecided := ⟨setLineDecided, lineLatchesWrittenAndRead⟩

end Sys2Proof.Machine

/-! The interlock members: SET_MEMBER and the latching of a member (R176-R180; O30). -/

namespace Sys2Proof.Machine

/-! ### A member joins the Latched Set (R179, R180) -/

theorem State.joinLatched_of_new {s : State} {m : Member} (h : m ∉ s.ilu.latchedSet) (g : MemberConfig) :
    s.joinLatched m g =
      { s with
        ilu := { s.ilu with
          members := upd s.ilu.members m { s.ilu.members.get m with applied := s.appliedSet g.scope }
          firstOut := some (s.ilu.firstOut.getD m), latchedSet := s.ilu.latchedSet ++ [m] }
        out := (s.out.handAll (effectMessages m g.scope (s.appliedSet g.scope))).event
          (if s.ilu.firstOut.isNone then .interlockLatched else .memberActive) (.member m) g.scope.bytes } :=
  if_neg h

theorem Outbox.not_mem_forget (o : Outbox) (m : Member) (x : MemberLevel) :
    Instr.memberLevelChange m x ∉ (o.forget m).handed := by
  simp [Outbox.forget]

theorem not_mem_effectMessages (m n : Member) (x : MemberLevel) (scope : Scope) (applied : BitVec 12) :
    Instr.memberLevelChange n x ∉ effectMessages m scope applied := by
  cases scope <;> simp [effectMessages, holdAdds]

/-! ### SET_MEMBER (R176, R177) -/

theorem MemberConfig.levelOf_eq_active_iff (g : MemberConfig) (pin : Option Bool) :
    g.levelOf pin = .active ↔ pin = some g.activeHigh := by
  cases pin with
  | none => simp [MemberConfig.levelOf]
  | some p => by_cases hp : p = g.activeHigh <;> simp [MemberConfig.levelOf, hp]

theorem Interlocks.carried_iff (u : Interlocks) (l : Line) (m : Member) :
    u.carried l m = true ↔ ∃ n, n ≠ m ∧ ∃ g, (u.members.get n).config = some g ∧ g.line = l := by
  simp [Interlocks.carried, mem_allMembers, Option.any_eq_true]

theorem exec_setMember {s : State} (hs : Claims.serves s) {h : Head} (hsized : h.sized = true) (n l : Nat)
    (activeHigh : Option Bool) (scope : ScopeArg) : exec (.setMember h n l activeHigh scope) s = .next
      (if 23 < n ∨ 31 < l ∨ scope.outOfRange then Claims.refuse s 0x17 h .outOfRange
      else if activeHigh = none ∨ scope.illegal then Claims.refuse s 0x17 h .badField
      else if member n ∈ s.ilu.latchedSet then Claims.refuse s 0x17 h .held
      else if (s.lines.get (line l)).kind ≠ .interlock then Claims.refuse s 0x17 h .wrongState
      else if s.ilu.carried (line l) (member n) then Claims.refuse s 0x17 h .lineClaimed
      else (match memberConfig l activeHigh scope with
        | some g => s.taken.configure (member n) g
        | none => s.taken).answer 0x17 h.tag (.accepted .empty)) := by
  show execSetMember h n l activeHigh scope s = _
  refine (State.host_sized hs hsized).trans ?_
  simp only [State.tested_cons, State.tested_nil]
  exact congrArg _ (if_congr (by simp [or_assoc]) rfl (if_congr (by simp) rfl (if_congr decide_eq_true_iff rfl
    (if_congr (by simp) rfl (if_congr Iff.rfl rfl rfl)))))

theorem ScopeArg.illegal_eq_false_iff (x : ScopeArg) : x.illegal = false ↔ x ≠ .other ∧ x ≠ .transmitters 0 := by
  cases x <;> simp [ScopeArg.illegal]

theorem ScopeArg.outOfRange_eq_false_iff (x : ScopeArg) : x.outOfRange = false ↔
    match x with | .transmitters set => set.toNat ≤ 4095 | .antenna c => c ≤ 35 | _ => True := by
  cases x <;> simp [ScopeArg.outOfRange]

/-- The state with a member on its new line, its level read from there, before it may latch (R177). -/
def State.rewired (s : State) (m : Member) (g : MemberConfig) : State :=
  { s with
    ilu := s.ilu.onMember m fun _ => { config := some g, level := g.levelOf (s.lines.get g.line).pin, applied := 0 }
    out := s.out.forget m }

theorem State.configure_eq (s : State) (m : Member) (g : MemberConfig) : s.configure m g =
    if (s.lines.get g.line).pin = some g.activeHigh then (s.rewired m g).joinLatched m g else s.rewired m g :=
  if_congr (g.levelOf_eq_active_iff _) rfl rfl

theorem State.configure_of_active {s : State} {g : MemberConfig} (h : (s.lines.get g.line).pin = some g.activeHigh)
    {m : Member} : s.configure m g = (s.rewired m g).joinLatched m g := (s.configure_eq m g).trans (if_pos h)

theorem State.configure_of_other {s : State} {g : MemberConfig} (h : (s.lines.get g.line).pin ≠ some g.activeHigh)
    {m : Member} : s.configure m g = s.rewired m g := (s.configure_eq m g).trans (if_neg h)

theorem State.rewired_member (s : State) (m : Member) (g : MemberConfig) : (s.rewired m g).ilu.members.get m =
    { config := some g, level := g.levelOf (s.lines.get g.line).pin, applied := 0 } := upd_get_same _ _ _

theorem State.joinLatched_handed (s : State) {m : Member} (h : m ∉ s.ilu.latchedSet) (g : MemberConfig) :
    (s.joinLatched m g).out.handed = s.out.handed ++ effectMessages m g.scope (s.appliedSet g.scope) := by
  rw [State.joinLatched_of_new h, Outbox.event_handed, Outbox.handAll_handed]

theorem State.configure_member (s : State) {m : Member} (hnew : m ∉ s.ilu.latchedSet) (g : MemberConfig) :
    ((s.configure m g).ilu.members.get m).config = some g ∧
      ((s.configure m g).ilu.members.get m).level = g.levelOf (s.lines.get g.line).pin ∧
      ∀ x, Instr.memberLevelChange m x ∉ (s.configure m g).out.handed := by
  have hnew' : m ∉ (s.rewired m g).ilu.latchedSet := hnew
  rw [State.configure_eq]
  split
  · refine ⟨?_, ?_, fun x => ?_⟩
    · rw [State.joinLatched_of_new hnew', upd_get_same, s.rewired_member]
    · rw [State.joinLatched_of_new hnew', upd_get_same, s.rewired_member]
    · rw [State.joinLatched_handed _ hnew', List.mem_append, not_or]
      exact ⟨s.out.not_mem_forget m x, not_mem_effectMessages _ _ _ _ _⟩
  · rw [s.rewired_member]
    exact ⟨rfl, rfl, s.out.not_mem_forget m⟩

theorem setMemberDecided_removal {s : State} (hs : Claims.serves s) (h : Head) (n : Nat) :
    exec (.setMemberRemove h n) s = .next
      (if h.sized = false then Claims.refuse s 0x17 h .badLength
      else if 23 < n then Claims.refuse s 0x17 h .outOfRange
      else if member n ∈ s.ilu.latchedSet then Claims.refuse s 0x17 h .held
      else Claims.accept { s with
        ilu := { s.ilu with
          members := upd s.ilu.members (member n) { config := none, level := .unsettled, applied := 0 } }
        out := s.out.forget (member n) } 0x17 h .empty) := by
  show execSetMemberRemove h n s = _
  refine (State.host_decides hs).trans ?_
  simp only [State.tested_cons, State.tested_nil]
  exact congrArg _ (if_congr Iff.rfl rfl (if_congr decide_eq_true_iff rfl (if_congr decide_eq_true_iff rfl rfl)))

/-- Settles O30. -/
theorem setMemberDecided : Obligations.SetMemberDecided := by
  refine ⟨fun h n l activeHigh scope s hs => ?_, fun h n s hs => setMemberDecided_removal hs h n⟩
  intro i inRange legal carried
  have hcarried : s.ilu.carried (line l) (member n) = true ↔ carried := Interlocks.carried_iff ..
  have hrange : ¬ (23 < n ∨ 31 < l ∨ scope.outOfRange = true) ↔ inRange := by
    rw [not_or, not_or, not_lt, not_lt, Bool.not_eq_true]
    refine and_congr Iff.rfl (and_congr Iff.rfl (scope.outOfRange_eq_false_iff.trans ?_))
    cases scope <;> exact Iff.rfl
  have hlegal : ¬ (activeHigh = none ∨ scope.illegal = true) ↔ legal := by
    rw [not_or, Bool.not_eq_true, ScopeArg.illegal_eq_false_iff]
    exact and_congr_left' Option.isSome_iff_ne_none.symm
  refine ⟨exec_short hs rfl nofun, fun hsized hout => ?_, fun hsized hin hbad => ?_, fun hsized hin hgood hheld => ?_,
    fun hsized hin hgood hheld hkind => ?_, fun hsized hin hgood hheld hkind hc => ?_, ?_⟩
  · rw [exec_setMember hs hsized, if_pos (not_not.1 (mt hrange.1 hout))]
  · rw [exec_setMember hs hsized, if_neg (hrange.2 hin), if_pos (not_not.1 (mt hlegal.1 hbad))]
  · rw [exec_setMember hs hsized, if_neg (hrange.2 hin), if_neg (hlegal.2 hgood), if_pos hheld]
  · rw [exec_setMember hs hsized, if_neg (hrange.2 hin), if_neg (hlegal.2 hgood), if_neg hheld, if_pos hkind]
  · rw [exec_setMember hs hsized, if_neg (hrange.2 hin), if_neg (hlegal.2 hgood), if_neg hheld, if_neg (not_not.2 hkind),
      if_pos (hcarried.2 hc)]
  · rintro a hsized hin hgood rfl hheld hkind hc
    obtain ⟨x, hx⟩ : ∃ x, scope.scope = some x := by
      obtain ⟨-, hother, -⟩ := hgood
      cases scope with
      | other => exact absurd rfl hother
      | transmitters | antenna | matrix => exact ⟨_, rfl⟩
    let g : MemberConfig := { line := line l, activeHigh := a, scope := x }
    have hexec : exec i s = .next ((s.taken.configure (member n) g).answer 0x17 h.tag (.accepted .empty)) := by
      rw [exec_setMember hs hsized, if_neg (hrange.2 hin), if_neg (hlegal.2 hgood), if_neg hheld,
        if_neg (not_not.2 hkind), if_neg (mt hcarried.1 hc)]
      have hconfig : memberConfig l (some a) scope = some g := by
        simp only [memberConfig, hx]
        rfl
      rw [hconfig]
    obtain ⟨hmember, hlevel, hforgotten⟩ := State.configure_member s.taken (m := member n) hheld g
    refine ⟨_, g, hexec, rfl, hmember, rfl, rfl, ?_, hlevel.trans ?_, fun hactive => ?_, fun hidle => ?_, hforgotten⟩
    · refine hx.symm.trans ?_
      cases scope <;> rfl
    · show g.levelOf (s.lines.get (line l)).pin = _
      cases (s.lines.get (line l)).pin <;> rfl
    · have hnew : member n ∉ (s.taken.rewired (member n) g).ilu.latchedSet := hheld
      rw [State.answer_ilu, State.configure_of_active (s := s.taken) (g := g) hactive, State.joinLatched_of_new hnew]
      exact ⟨rfl, rfl⟩
    · rw [State.answer_ilu, State.answer_out, State.configure_of_other (s := s.taken) (g := g) hidle]
      exact ⟨rfl, rfl⟩

end Sys2Proof.Machine

/-! Clearing the group and the emergency stop (R181-R184; O31). -/

namespace Sys2Proof.Machine

theorem memberSet_getLsbD (ms : List Member) (p : Member → Bool) (m : Member) :
    (memberSet ms p).getLsbD m.val = true ↔ m ∈ ms ∧ p m = true := by
  rw [memberSet, foldl_setBit_getLsbD ms p Fin.val 0 m.isLt]
  simp only [BitVec.ofNat_eq_ofNat, BitVec.getLsbD_zero, Bool.false_or, List.any_eq_true, Bool.and_eq_true,
    decide_eq_true_eq, ← Fin.ext_iff]
  exact ⟨fun ⟨n, hn, hp, hnm⟩ => hnm ▸ ⟨hn, hp⟩, fun ⟨hm, hp⟩ => ⟨m, hm, hp, rfl⟩⟩

theorem stillActive_eq (u : Interlocks) : u.stillActive =
    allMembers.filter fun m => decide (m ∈ u.latchedSet) && (u.members.get m).level == .active := rfl

/-- INTERLOCK_CLEAR(GROUP) served: STILL_ACTIVE names the members (R181). -/
theorem exec_interlockClearGroup {s : State} (hs : Claims.serves s) {h : Head} (hsized : h.sized = true)
    (named : Bool) : exec (.interlockClearGroup h named) s = .next
      (if named = true ∧ s.ilu.firstOut.isSome ∧ s.ilu.stillActive ≠ [] then
        Claims.reply s 0x57 h (.refused .stillActive (s.ilu.stillActive.map fun m => BitVec.ofNat 8 m.val))
      else if named = false then Claims.refuse s 0x57 h .badField
      else if s.ilu.firstOut = none then Claims.refuse s 0x57 h .wrongState
      else s.taken.clearGroup.answer 0x57 h.tag (.accepted (.cleared s.ilu.latchedSet))) := by
  show execInterlockClearGroup h named s = _
  refine (State.host_of_serves hs _ _).trans (congrArg _ (if_congr ?_ rfl ?_))
  · simp [hsized]
  · rw [State.taken_request, if_neg (by simp [hsized])]
    simp only [State.tested_cons, State.tested_nil]
    exact if_congr (by simp) rfl (if_congr (by simp) rfl rfl)

theorem groupClearDecided : Claims.GroupClearDecided := by
  refine ⟨fun h named s hs => ?_, fun h s hs => ?_⟩
  · intro i active latchedWith just
    refine ⟨exec_short hs rfl nofun, fun hsized hnamed => ?_, fun hsized hnamed hout => ?_,
      fun hsized hnamed hout hactive => ?_, fun hsized hnamed hout hactive => ?_⟩
    · rw [exec_interlockClearGroup hs hsized, if_neg (by simp [hnamed]), if_pos hnamed]
    · rw [exec_interlockClearGroup hs hsized, if_neg (by simp [hout]), if_neg (by simp [hnamed]), if_pos hout]
    · rw [exec_interlockClearGroup hs hsized, if_pos ⟨hnamed, hout, hactive⟩]
      rfl
    · refine ⟨s.taken.clearGroup.answer 0x57 h.tag (.accepted (.cleared s.ilu.latchedSet)), s.ilu.clearMessages, ?_, rfl, rfl, rfl, fun m => ?_, rfl,
        fun u => memberSet s.ilu.latchedSet fun m => (s.ilu.members.get m).applied.getLsbD u.val,
        fun c => memberSet s.ilu.latchedSet fun m => (s.ilu.members.get m).config.any fun g => g.scope == .antenna c,
        memberSet s.ilu.latchedSet fun m => (s.ilu.members.get m).config.any fun g => g.scope == .matrix,
        fun u m => memberSet_getLsbD .., fun c m => (memberSet_getLsbD ..).trans ?_,
        fun m => (memberSet_getLsbD ..).trans ?_, List.Perm.refl _⟩
      · rw [exec_interlockClearGroup hs hsized, if_neg fun hnot => hnot.2.2 hactive, if_neg (by simp [hnamed]),
          if_neg (Option.isSome_iff_ne_none.1 hout)]
      · have hget : (s.taken.clearGroup.answer 0x57 h.tag (.accepted (.cleared s.ilu.latchedSet))).ilu.members.get m =
            { s.ilu.members.get m with applied := 0 } := memberVector_get _ m
        rw [hget]
        exact ⟨rfl, rfl, rfl⟩
      · simp [latchedWith, Option.any_eq_true]
      · simp [latchedWith, Option.any_eq_true]
  · show execReadInterlock h s = _
    exact (State.host_decides hs).trans rfl

theorem Outbox.handAll_hand (o : Outbox) (is : List Instr) (i : Instr) : (o.handAll is).hand i = o.handAll (is ++ [i]) :=
  congrArg (fun l => { o with handed := l }) (List.append_assoc ..)

theorem emergencyStopLatchesAndClears : Claims.EmergencyStopLatchesAndClears := by
  refine ⟨fun active s hlive hdone => ?_, fun h s hs => ?_⟩
  · intro heard
    show execEmergencyInputChange active s = _
    rw [execEmergencyInputChange, State.take_of_live hlive]
    have hphase : s.boot.phase.evaluated = true := by
      rw [hdone]
      rfl
    by_cases hnew : active = true ∧ s.ilu.emergency = false
    · rw [if_pos hnew]
      obtain ⟨rfl, hnone⟩ := hnew
      refine congrArg _ (Eq.trans (if_pos ⟨rfl, by simp [State.onIlu, hnone], hphase⟩) ?_)
      rw [State.latchEmergency, Outbox.handAll_hand]
      rfl
    · rw [if_neg hnew]
      exact congrArg _ (if_neg fun h => hnew ⟨h.1, Bool.not_eq_true _ ▸ h.2.1⟩)
  · intro only
    show execInterlockClearEmergency h s = _
    refine (State.host_of_serves hs _ _).trans (congrArg _ ?_)
    by_cases hactive : h.sized = true ∧ s.ilu.emergency = true ∧ s.ilu.input ≠ some false
    · obtain ⟨hsized, hlatched, hinput⟩ := hactive
      refine (if_pos ⟨hsized, hlatched, hinput⟩).trans ?_
      rw [if_neg (by simp [hsized]), if_neg (by simp [hlatched]), if_pos hinput]
      rfl
    · refine (if_neg hactive).trans ?_
      rw [State.taken_request]
      simp only [State.tested_cons, State.tested_nil]
      refine ite_congr rfl (fun _ => rfl) fun hsized => ite_congr (by simp) (fun _ => rfl) fun hlatched => ?_
      have hinput : s.ilu.input = some false :=
        not_not.1 fun hinput => hactive ⟨Bool.not_eq_false _ ▸ hsized, Bool.not_eq_false _ ▸ hlatched, hinput⟩
      rw [if_neg (not_not.2 hinput), State.clearEmergency, Outbox.handAll_hand]
      rfl

/-- Settles O31. -/
theorem interlockClearsDecided : Obligations.InterlockClearsDecided := ⟨groupClearDecided, emergencyStopLatchesAndClears⟩

end Sys2Proof.Machine

/-! Accepted levels of lines and members, and the samples that make them (R171, R179, R180; O32). -/

namespace Sys2Proof.Machine

/-! ### A line's level is accepted (R171) -/

/-- The line records with a line's level accepted. -/
def State.leveled (s : State) (l : Line) (high : Bool) : State :=
  { s with lines := upd s.lines l { s.lines.get l with pin := some high, last := some high } }

theorem State.acceptLevel_of_quiet {s : State} {l : Line} (high : Bool)
    (h : (s.lines.get l).kind ≠ .interlock ∨ s.ilu.memberOn l = none) : s.acceptLevel l high = s.leveled l high := by
  unfold State.acceptLevel
  dsimp only
  split
  next hkind =>
    rw [State.onLine_ilu, h.resolve_left (not_not.2 hkind)]
    rfl
  · rfl

theorem State.acceptLevel_of_member {s : State} {l : Line} (high : Bool) {m : Member} {g : MemberConfig}
    (hkind : (s.lines.get l).kind = .interlock) (hm : s.ilu.memberOn l = some m)
    (hg : (s.ilu.members.get m).config = some g) : s.acceptLevel l high =
      Claims.handed (s.leveled l high) [.memberLevelChange m (if high = g.activeHigh then .active else .released)] := by
  unfold State.acceptLevel
  dsimp only
  rw [if_pos hkind, State.onLine_ilu, hm]
  dsimp only
  rw [hg]
  rfl

theorem State.acceptLevel_lines (s : State) (l : Line) (high : Bool) :
    (s.acceptLevel l high).lines = (s.leveled l high).lines := by
  unfold State.acceptLevel
  dsimp only
  split
  · split
    · split <;> rfl
    · rfl
  · rfl

theorem State.acceptLevel_handed (s : State) (l : Line) (high : Bool) :
    Instr.secondPulse ∉ (s.acceptLevel l high).out.handed.drop s.out.handed.length := by
  unfold State.acceptLevel
  dsimp only
  split
  · split
    · split <;> simp
    · simp
  · simp

theorem State.carrySecond_handed (s : State) (old : Reading) :
    Instr.secondPulse ∉ (s.carrySecond old).out.handed.drop s.out.handed.length := by
  unfold State.carrySecond
  dsimp only
  split_ifs <;> simp [State.advanceBoundary, State.setClock, State.stepBoundary]

theorem State.secondPulse_handed (s : State) (l : Line) :
    Instr.secondPulse ∉ (s.secondPulse l).out.handed.drop s.out.handed.length := by
  show Instr.secondPulse ∉ s.align.out.handed.drop s.out.handed.length
  unfold State.align
  dsimp only
  split
  · exact State.carrySecond_handed (s.onClock _) _
  · simp

theorem State.kind_of_pulseLine {s : State} {l : Line} (h : s.pulseLine = some l) : (s.lines.get l).kind = .pulse :=
  beq_iff_eq.1 (List.find?_some (p := fun l => (s.lines.get l).kind == .pulse) h)

theorem exec_fieldLineLevelChange {s : State} (hlive : Claims.live s) (l : Line) (high : Bool) :
    exec (.fieldLineLevelChange l high) s = .next
      (if (s.lines.get l).kind.drives ∨ (s.lines.get l).pin = some high then s
      else if (s.lines.get l).kind = .pulse ∧ (s.lines.get l).pin = some false then s.secondPulse l
      else s.acceptLevel l high) := by
  show execFieldLineLevelChange l high s = _
  rw [execFieldLineLevelChange, State.take_of_live hlive]

theorem exec_secondPulse {s : State} (hlive : Claims.live s) {l : Line} (h : s.pulseLine = some l) :
    exec .secondPulse s = .next (s.secondPulse l) := by
  show execSecondPulse s = _
  rw [execSecondPulse, State.take_of_live hlive, h]

/-! ### A member's level changes (R179, R180) -/

theorem exec_memberLevelChange {s : State} (hlive : Claims.live s) (m : Member) (level : MemberLevel) :
    exec (.memberLevelChange m level) s = .next (match (s.ilu.members.get m).config with
      | none => s
      | some g =>
        let t := s.onIlu fun u => u.onMember m fun k => { k with level := level }
        if level = .active ∧ (s.ilu.members.get m).level ≠ .active ∧ s.boot.phase.evaluated then t.joinLatched m g
        else t) := by
  show execMemberLevelChange m level s = _
  rw [execMemberLevelChange, State.take_of_live hlive]
  rfl

theorem levelChangesFollowed : Claims.LevelChangesFollowed := by
  refine ⟨?_, ?_, ?_, ?_, ?_, ?_⟩
  · intro l high s hlive hdrives hpin next
    have hnot : ¬ ((s.lines.get l).kind.drives = true ∨ (s.lines.get l).pin = some high) := by simp [hdrives, hpin]
    rw [exec_fieldLineLevelChange hlive, if_neg hnot]
    refine ⟨fun hquiet hpulse => ?_, fun hline hlow => ?_, fun m g hkind hm hg => ?_⟩
    · rw [if_neg hpulse, State.acceptLevel_of_quiet high hquiet]
      rfl
    · rw [if_pos ⟨State.kind_of_pulseLine hline, hlow⟩, exec_secondPulse hlive hline]
    · rw [if_neg (by simp [hkind]), State.acceptLevel_of_member high hkind hm hg]
      rfl
  · intro l high s hlive hdrives
    rw [exec_fieldLineLevelChange hlive, if_pos (.inl hdrives)]
  · intro l high s hlive hdrives
    refine ⟨_, exec_fieldLineLevelChange hlive l high, ?_⟩
    split
    next hsame =>
      exact ⟨hsame.resolve_left (by simp [hdrives]), by simp⟩
    next hnot =>
      split
      next hrise =>
        have hhigh : high = true := by
          rw [not_or, hrise.2] at hnot
          simpa using hnot.2
        refine ⟨?_, s.secondPulse_handed l⟩
        rw [hhigh]
        exact congrArg _ (upd_get_same _ _ _)
      · refine ⟨?_, s.acceptLevel_handed l high⟩
        rw [State.acceptLevel_lines]
        exact congrArg _ (upd_get_same _ _ _)
  · intro m level s hlive _ hnone
    rw [exec_memberLevelChange hlive, hnone]
  · intro m level g s hlive hg hquiet
    rw [exec_memberLevelChange hlive, hg]
    dsimp only
    split
    next hactive =>
      exact congrArg _ (if_pos (hquiet.resolve_left (not_not.2 hactive.1)))
    · rfl
  · intro m g s hlive hdone hg hold hnew applied effect record kind
    have hphase : s.boot.phase.evaluated = true := by
      rw [hdone]
      rfl
    let u : State := s.onIlu fun k => k.onMember m fun r => { r with level := .active }
    have hnew' : m ∉ u.ilu.latchedSet := hnew
    have hkind : (if s.ilu.firstOut.isNone then .interlockLatched else .memberActive) = kind :=
      if_congr Option.isNone_iff_eq_none rfl rfl
    have happlied : u.appliedSet g.scope = applied := by
      show u.appliedSet g.scope = (match g.scope with
        | .transmitters set => set
        | .antenna c => (match (s.matrix.column c).holder with | some u => oneBit 12 u.val | none => 0)
        | .matrix => BitVec.allOnes 12)
      cases g.scope <;> rfl
    have heffect : effectMessages m g.scope applied = effect := by
      show effectMessages m g.scope applied = (match g.scope with
        | .transmitters _ => []
        | .antenna c => [.gateMemberAdd c m]
        | .matrix => [.suspensionSourceAdd (.member m)]) ++
        ((allTx.filter fun u => applied.getLsbD u.val).map fun u => .holdAdd u (.member m))
      cases g.scope <;> rfl
    have hrecord : upd (upd s.ilu.members m { s.ilu.members.get m with level := .active }) m
        { (upd s.ilu.members m { s.ilu.members.get m with level := .active }).get m with applied := applied } =
          upd s.ilu.members m record := by
      rw [upd_upd, upd_get_same]
      exact congrArg (fun c => upd s.ilu.members m { config := c, level := .active, applied := applied }) hg
    rw [exec_memberLevelChange hlive, hg]
    refine congrArg _ ((if_pos ⟨rfl, hold, hphase⟩).trans ((State.joinLatched_of_new hnew' g).trans ?_))
    rw [happlied, heffect, ← hkind, ← hrecord]
    rfl

/-! ### Samples (R171, R23) -/

theorem twoSamplesAreAccepted : Claims.TwoSamplesAreAccepted := by
  refine ⟨fun l high s hlive => ?_, fun high s hlive => ?_⟩
  · intro k
    have hsample : s.sampleLine high l = if k.kind.drives then s
        else if k.kind = .pulse then
          if k.pin = some false ∧ high = true then s.secondPulse l else s.leveled l high
        else if k.last = some high ∧ k.pin ≠ some high then s.acceptLevel l high
        else { s with lines := upd s.lines l { k with last := some high } } := rfl
    refine ⟨fun hdrives => if_pos hdrives, fun hdrives hkind hlast hpin => ?_, fun hdrives hkind hquiet => ?_,
      fun hline hlow hhigh => ?_, fun hkind hquiet => ?_⟩
    · rw [exec_fieldLineLevelChange hlive, hsample, if_neg (by simp [k, hdrives, hpin]), if_neg (by simp [k, hkind]),
        if_neg (by simp [hdrives]), if_neg hkind, if_pos ⟨hlast, hpin⟩]
    · rw [hsample, if_neg (by simp [hdrives]), if_neg hkind, if_neg]
      exact fun h => hquiet.elim (fun hlast => hlast h.1) h.2
    · have hkind := State.kind_of_pulseLine hline
      rw [exec_secondPulse hlive hline, hsample, if_neg (by simp [k, hkind, LineKind.drives]), if_pos hkind,
        if_pos ⟨hlow, hhigh⟩]
    · rw [hsample, if_neg (by simp [hkind, LineKind.drives]), if_pos hkind, if_neg]
      · rfl
      · exact fun h => hquiet.elim (fun hpin => hpin h.1) fun hlow => absurd (h.2.symm.trans hlow) (by decide)
  · have hexec : exec (.emergencyInputChange (!high)) s = .next (s.emergencyLevel (!high)) := by
      show execEmergencyInputChange (!high) s = _
      rw [execEmergencyInputChange, State.take_of_live hlive]
    refine ⟨fun hlast hinput => hexec.trans (congrArg _ (if_pos ⟨hlast, hinput⟩).symm), fun hquiet => if_neg fun h => ?_⟩
    exact hquiet.elim (fun hlast => hlast h.1) h.2

/-- Settles O32. -/
theorem levelsLatch : Obligations.LevelsLatch := ⟨levelChangesFollowed, twoSamplesAreAccepted⟩

end Sys2Proof.Machine

/-! Claims on the columns (R100-R102; O44). -/

namespace Sys2Proof.Machine

/-! ### The matrix's operations -/

/-- The matrix, with what it puts out. -/
def State.board (s : State) : Board := ⟨s.matrix, s.out⟩

/-- The machine with the matrix and what it puts out replaced. -/
def State.putBoard (s : State) (b : Board) : State := { s with matrix := b.m, out := b.o }

theorem State.onMatrix_eq (s : State) (f : Board → Board) : s.onMatrix f = s.putBoard (f s.board) := rfl

theorem State.putBoard_ite (s : State) (p : Prop) [Decidable p] (b c : Board) :
    s.putBoard (if p then b else c) = if p then s.putBoard b else s.putBoard c := apply_ite s.putBoard p b c

theorem State.live_putBoard {s : State} (h : Claims.live s) (b : Board) : Claims.live (s.putBoard b) := h

/-! ### CLAIM (R100) -/

/-- CLAIM once the transmitter's other claims and grants are gone (R100). -/
def Board.takeClaim (t : Tx) (c : Col) (b : Board) : Board :=
  let k := b.m.column c
  let u := b.m.use c
  if ¬ k.inService then { b with o := b.o.hand (.claimRefused t c) }
  else if k.claimant = some t then { b with o := b.o.hand (.claimGranted t c) }
  else if u = .free ∨ u = .idle ∨ (k.holder = some t ∧ k.claimant = none) then
    { m := b.m.setClaimant c (some t), o := b.o.hand (.claimGranted t c) }
  else { m := { b.m with claims := b.m.claims ++ [⟨t, c⟩] }, o := b.o.hand (.claimListed t c) }

/-- The listed claims of a transmitter removed. -/
def Board.unlist (t : Tx) (b : Board) : Board := { b with m := { b.m with claims := b.m.claims.filter fun q => q.t != t } }

theorem Board.claim_eq (t : Tx) (c : Col) (b : Board) : b.claim t c = ((b.unlist t).releaseOthers t c).takeClaim t c := rfl

theorem exec_claim {s : State} (hlive : Claims.live s) (t : Tx) (c : Col) :
    exec (.claim t c) s = .next (s.putBoard (s.board.claim t c)) := by
  show execClaim t c s = _
  rw [execClaim, State.take_of_live hlive, State.onMatrix_eq]

/-- A fold of board operations each of which is the identity where its test fails. -/
theorem foldl_eq_of_none {α β : Type} {p : β → α → Prop} [∀ b x, Decidable (p b x)] {f : β → α → β} {b : β} {xs : List α}
    (h : ∀ x ∈ xs, ¬ p b x) : xs.foldl (fun b x => if p b x then f b x else b) b = b := by
  induction xs with
  | nil => rfl
  | cons x xs ih =>
    rw [List.foldl_cons, if_neg (h x List.mem_cons_self)]
    exact ih fun y hy => h y (List.mem_cons_of_mem _ hy)

theorem Board.releaseOthers_of_none {b : Board} {t : Tx} {c : Col} (h : ∀ d, d ≠ c → (b.m.column d).claimant ≠ some t) :
    b.releaseOthers t c = b :=
  foldl_eq_of_none (p := fun (b : Board) d => d ≠ c ∧ (b.m.column d).claimant = some t) fun d _ hd => h d hd.1 hd.2

theorem Board.releaseOthers_of_one {b : Board} {t : Tx} {c d : Col} (hd : d ≠ c) (hclaimant : (b.m.column d).claimant = some t)
    (hone : ∀ e, e ≠ c → e ≠ d → (b.m.column e).claimant ≠ some t)
    (hnone : ∀ e, e ≠ c → ((b.dropClaim t d).m.column e).claimant ≠ some t) : b.releaseOthers t c = b.dropClaim t d := by
  obtain ⟨before, after, hsplit, hbefore⟩ := List.eq_append_cons_of_mem (mem_allCols d)
  let p := fun (b : Board) e => e ≠ c ∧ (b.m.column e).claimant = some t
  unfold Board.releaseOthers
  rw [hsplit, List.foldl_append, foldl_eq_of_none (p := p) fun e he h => hone e h.1 (fun hed => hbefore (hed ▸ he)) h.2,
    List.foldl_cons, if_pos ⟨hd, hclaimant⟩]
  exact foldl_eq_of_none (p := p) fun e _ h => hnone e h.1 h.2

theorem claim_of_no_other {t : Tx} {c : Col} {s : State} (hlive : Claims.live s)
    (h : ∀ d, d ≠ c → (s.matrix.column d).claimant ≠ some t) :
    exec (.claim t c) s = .next (s.putBoard ((s.board.unlist t).takeClaim t c)) := by
  rw [exec_claim hlive, Board.claim_eq, Board.releaseOthers_of_none h]

theorem Board.unlist_of_none {t : Tx} {b : Board} (h : ∀ q ∈ b.m.claims, q.t ≠ t) : b.unlist t = b := by
  have hclaims : b.m.claims.filter (fun q => q.t != t) = b.m.claims :=
    List.filter_eq_self.2 fun q hq => bne_iff_ne.2 (h q hq)
  rw [Board.unlist, hclaims]

/-- CLAIM releases the one grant that the transmitter has on another column, and goes on from there (R100, R102). -/
theorem claim_of_one_other {t : Tx} {c d : Col} {s : State} {b : Board} (hlive : Claims.live s) (hd : d ≠ c)
    (hclaimant : (s.matrix.column d).claimant = some t) (hone : ∀ e, e ≠ c → e ≠ d → (s.matrix.column e).claimant ≠ some t)
    (hb : (s.board.unlist t).dropClaim t d = b) (hnone : ∀ e, e ≠ c → (b.m.column e).claimant ≠ some t)
    (hclaims : ∀ q ∈ b.m.claims, q.t ≠ t) : exec (.claim t c) s = exec (.claim t c) (s.putBoard b) := by
  have hboard : (s.putBoard b).board = b := rfl
  rw [claim_of_no_other (State.live_putBoard hlive b) hnone, exec_claim hlive, Board.claim_eq,
    Board.releaseOthers_of_one hd hclaimant hone (by rw [hb]; exact hnone), hb, hboard, Board.unlist_of_none hclaims]
  rfl

/-- No column of a kind is the transmitter's after a claimant is set that is not it. -/
theorem Matrix.setClaimant_claimant_ne {m : Matrix} {c e : Col} {t : Option Tx} {u : Tx} (ht : t ≠ some u)
    (h : e ≠ c → (m.column e).claimant ≠ some u) : ((m.setClaimant c t).column e).claimant ≠ some u := by
  rw [Matrix.setClaimant, Matrix.onColumn_column]
  split
  · exact ht
  next hne => exact h hne

/-- Settles O44. -/
theorem claimsDecided : Obligations.ClaimsDecided := by
  refine ⟨fun t c s hlive hnone => ?_, fun t c d s hlive hd hclaimant hone => ?_⟩
  · intro k u others with_ mine
    rw [claim_of_no_other hlive hnone]
    refine congrArg _ ((s.putBoard_ite _ _ _).trans (if_congr (Bool.not_eq_true _).to_iff rfl ?_))
    refine (s.putBoard_ite _ _ _).trans (if_congr Iff.rfl rfl ?_)
    exact (s.putBoard_ite _ _ _).trans (if_congr Iff.rfl rfl rfl)
  · intro k others freed passes first
    have hothers : ∀ q ∈ others, q.t ≠ t := fun q hq => bne_iff_ne.1 (List.mem_filter.1 hq).2
    have hfreed : ({ s.matrix with claims := others } : Matrix).setClaimant d none = freed := rfl
    have hpasses : (({ s.matrix with claims := others } : Matrix).setClaimant d none).passes d ↔ passes := by
      rw [Matrix.setClaimant_passes, hfreed]
      rfl
    refine ⟨fun hstays => ?_, fun q hpass hq => ?_⟩
    · rw [← hpasses] at hstays
      show _ = exec (.claim t c) (s.putBoard ⟨freed, s.out⟩)
      refine claim_of_one_other hlive hd hclaimant hone
        (Board.dropClaim_of_stays (b := s.board.unlist t) hclaimant hstays) (fun e he => ?_) hothers
      exact Matrix.setClaimant_claimant_ne nofun fun hed => hone e he hed
    · show _ = exec (.claim t c) (s.putBoard
        ⟨({ s.matrix with claims := others.erase q } : Matrix).setClaimant d (some q.t), s.out.hand (.claimGranted q.t d)⟩)
      refine claim_of_one_other hlive hd hclaimant hone
        (Board.dropClaim_of_listed (b := s.board.unlist t) hclaimant (hpasses.2 hpass) hq)
        (fun e he => ?_) fun r hr => hothers r (List.mem_of_mem_erase hr)
      exact Matrix.setClaimant_claimant_ne (fun h => hothers q (List.mem_of_find?_eq_some hq) (Option.some.inj h))
        fun hed => hone e he hed

end Sys2Proof.Machine

/-! What the matrix's shared operations do to a column's entry and what they hand on (R96, R98, R99, R101). -/

namespace Sys2Proof.Machine

/-! ### What is handed on -/

/-- A message that tells of a column: of its service, or of a claim on it (R99, R101). -/
def telling : Instr → Bool
  | .serviceChanged .. => true
  | .claimGranted .. => true
  | .claimRefused .. => true
  | _ => false

/-- Between two outboxes nothing happens but that messages telling of columns are handed on. -/
def Outbox.Tells (o p : Outbox) : Prop := ∃ is : List Instr, (∀ i ∈ is, telling i = true) ∧ p = o.handAll is

namespace Outbox.Tells

variable {o p q : Outbox}

theorem refl (o : Outbox) : Outbox.Tells o o := ⟨[], nofun, by simp [Outbox.handAll]⟩

theorem trans (h : Outbox.Tells o p) (g : Outbox.Tells p q) : Outbox.Tells o q := by
  obtain ⟨is, his, rfl⟩ := h
  obtain ⟨js, hjs, rfl⟩ := g
  refine ⟨is ++ js, fun i hi => (List.mem_append.1 hi).elim (his i) (hjs i), ?_⟩
  simp [Outbox.handAll]

theorem handAll {is : List Instr} (h : ∀ i ∈ is, telling i = true) : Outbox.Tells o (o.handAll is) := ⟨is, h, rfl⟩

theorem hand {i : Instr} (h : telling i = true) : Outbox.Tells o (o.hand i) :=
  ⟨[i], fun _ hj => List.mem_singleton.1 hj ▸ h, rfl⟩

theorem link (h : Outbox.Tells o p) : p.link = o.link := by
  obtain ⟨is, -, rfl⟩ := h
  rfl

theorem sources (h : Outbox.Tells o p) : p.sources = o.sources := by
  obtain ⟨is, -, rfl⟩ := h
  rfl

theorem notices (h : Outbox.Tells o p) : p.notices = o.notices := by
  obtain ⟨is, -, rfl⟩ := h
  rfl

theorem noticeLost (h : Outbox.Tells o p) : p.noticeLost = o.noticeLost := by
  obtain ⟨is, -, rfl⟩ := h
  rfl

theorem enables (h : Outbox.Tells o p) : p.enables = o.enables := by
  obtain ⟨is, -, rfl⟩ := h
  rfl

theorem mem (h : Outbox.Tells o p) {i : Instr} (hi : i ∈ o.handed) : i ∈ p.handed := by
  obtain ⟨is, -, rfl⟩ := h
  exact List.mem_append_left _ hi

theorem mem_iff (h : Outbox.Tells o p) {i : Instr} (hi : telling i = false) : i ∈ p.handed ↔ i ∈ o.handed := by
  obtain ⟨is, his, rfl⟩ := h
  refine ⟨fun hmem => (List.mem_append.1 hmem).elim id fun hmem => ?_, List.mem_append_left _⟩
  rw [his i hmem] at hi
  cases hi

end Outbox.Tells

/-! ### A column passed on (R101) -/

/-- A column that passes changes its claimant alone. -/
theorem Board.pass_column (b : Board) (c d : Col) : ∃ a, (b.pass c).m.column d = { b.m.column d with claimant := a } := by
  unfold Board.pass
  dsimp only
  split
  · split
    · rw [Matrix.setClaimant, Matrix.onColumn_column]
      split
      next hd =>
        subst hd
        exact ⟨_, rfl⟩
      · exact ⟨_, rfl⟩
    · exact ⟨_, rfl⟩
  · exact ⟨_, rfl⟩

theorem Column.inService_claimant (k : Column) (a : Option Tx) : ({ k with claimant := a } : Column).inService = k.inService := rfl

section
variable (b : Board) (c d : Col)

theorem Board.pass_withdrawn : ((b.pass c).m.column d).withdrawn = (b.m.column d).withdrawn := by
  obtain ⟨a, h⟩ := b.pass_column c d
  rw [h]

theorem Board.pass_suspect : ((b.pass c).m.column d).suspect = (b.m.column d).suspect := by
  obtain ⟨a, h⟩ := b.pass_column c d
  rw [h]

theorem Board.pass_position : ((b.pass c).m.column d).position = (b.m.column d).position := by
  obtain ⟨a, h⟩ := b.pass_column c d
  rw [h]

theorem Board.pass_gates : ((b.pass c).m.column d).gates = (b.m.column d).gates := by
  obtain ⟨a, h⟩ := b.pass_column c d
  rw [h]

theorem Board.pass_holder : ((b.pass c).m.column d).holder = (b.m.column d).holder := by
  obtain ⟨a, h⟩ := b.pass_column c d
  rw [h]

theorem Board.pass_inService : ((b.pass c).m.column d).inService = (b.m.column d).inService := by
  obtain ⟨a, h⟩ := b.pass_column c d
  rw [h, Column.inService_claimant]

end

theorem Board.pass_tells (b : Board) (c : Col) : Outbox.Tells b.o (b.pass c).o := by
  unfold Board.pass
  dsimp only
  split
  · split
    · exact .hand rfl
    · exact .refl _
  · exact .refl _

/-! ### A column's out reasons change (R99) -/

theorem Matrix.onColumn_column_same (m : Matrix) (c : Col) (f : Column → Column) : (m.onColumn c f).column c = f (m.column c) := by
  rw [Matrix.onColumn_column, if_pos rfl]

theorem Column.mem_told (k : Column) (u : Tx) : u ∈ k.told ↔ k.claimant = some u ∨ k.holder = some u := by
  unfold Column.told
  cases k.claimant <;> cases k.holder
  case some.some a h => by_cases hah : a = h <;> simp [hah, eq_comm]
  all_goals simp [eq_comm]

section
variable {b : Board} {c : Col} {f : Column → Column}

theorem Board.service_of_same (h : (b.m.column c).inService = (f (b.m.column c)).inService) :
    b.service c f = { b with m := b.m.onColumn c f } := by
  unfold Board.service
  dsimp only
  rw [Matrix.onColumn_column_same, if_pos h]

theorem Board.service_of_restored (hout : (b.m.column c).inService = false) (hin : (f (b.m.column c)).inService = true) :
    b.service c f = Board.pass c
      { m := b.m.onColumn c f
        o := b.o.handAll ((f (b.m.column c)).told.map fun t => .serviceChanged t c true) } := by
  unfold Board.service
  dsimp only
  rw [Matrix.onColumn_column_same, if_neg (by simp [hout, hin]), if_pos hin, hin]

theorem Board.service_of_removed (hin : (b.m.column c).inService = true) (hout : (f (b.m.column c)).inService = false) :
    b.service c f =
      { m := { b.m.onColumn c f with claims := b.m.claims.filter fun q => q.column != c }
        o := (b.o.handAll ((f (b.m.column c)).told.map fun t => .serviceChanged t c false)).handAll
          ((b.m.claims.filter fun q => q.column == c).map fun q => .claimRefused q.t c) } := by
  unfold Board.service
  dsimp only
  rw [Matrix.onColumn_column_same, if_neg (by simp [hout, hin]), if_neg (by simp [hout]), hout]
  rfl

/-- What a change of out reasons leaves of the column's entry: the changed entry, with its claimant perhaps another. -/
theorem Board.service_column (b : Board) (c : Col) (f : Column → Column) :
    ∃ a, (b.service c f).m.column c = { f (b.m.column c) with claimant := a } := by
  rcases hbefore : (b.m.column c).inService with - | - <;> rcases hafter : (f (b.m.column c)).inService with - | -
  · rw [Board.service_of_same (hbefore.trans hafter.symm), Matrix.onColumn_column_same]
    exact ⟨_, rfl⟩
  · rw [Board.service_of_restored hbefore hafter]
    obtain ⟨a, ha⟩ := Board.pass_column { m := b.m.onColumn c f, o := b.o.handAll _ } c c
    exact ⟨a, ha.trans (by rw [Matrix.onColumn_column_same])⟩
  · rw [Board.service_of_removed hbefore hafter]
    exact ⟨_, Matrix.onColumn_column_same ..⟩
  · rw [Board.service_of_same (hbefore.trans hafter.symm), Matrix.onColumn_column_same]
    exact ⟨_, rfl⟩

theorem Board.service_told (hout : (b.m.column c).inService = false) (hin : (f (b.m.column c)).inService = true) {u : Tx}
    (hu : (f (b.m.column c)).claimant = some u ∨ (f (b.m.column c)).holder = some u) :
    Instr.serviceChanged u c true ∈ (b.service c f).o.handed := by
  rw [Board.service_of_restored hout hin]
  refine (Board.pass_tells _ c).mem (List.mem_append_right _ (List.mem_map.2 ⟨u, (Column.mem_told _ _).2 hu, rfl⟩))

theorem Board.service_tells (b : Board) (c : Col) (f : Column → Column) : Outbox.Tells b.o (b.service c f).o := by
  unfold Board.service
  dsimp only
  split
  · exact .refl _
  · have htold : ∀ x (k : Column), ∀ i ∈ k.told.map (fun t => Instr.serviceChanged t c x), telling i = true := by
      intro x k i hi
      obtain ⟨u, -, rfl⟩ := List.mem_map.1 hi
      rfl
    split
    · exact .trans (.handAll (htold _ _)) (Board.pass_tells _ c)
    · refine .trans (.handAll (htold _ _)) (.handAll fun i hi => ?_)
      obtain ⟨q, -, rfl⟩ := List.mem_map.1 hi
      rfl

end

end Sys2Proof.Machine

/-! The host's requests on antennas and routes (R109-R113; O43). -/

namespace Sys2Proof.Machine

/-! ### WITHDRAW_ANTENNA (R109) -/

section
variable {b : Board} {c : Col} {f : Column → Column}

/-- A column that a change of out reasons leaves out of service passes to nobody. -/
theorem Board.service_column_of_out (hout : (f (b.m.column c)).inService = false) : (b.service c f).m.column c = f (b.m.column c) := by
  rcases hbefore : (b.m.column c).inService with - | -
  · rw [Board.service_of_same (hbefore.trans hout.symm), Matrix.onColumn_column_same]
  · rw [Board.service_of_removed hbefore hout]
    exact Matrix.onColumn_column_same ..

theorem Board.service_told_removed (hin : (b.m.column c).inService = true) (hout : (f (b.m.column c)).inService = false)
    {u : Tx} (hu : (f (b.m.column c)).claimant = some u ∨ (f (b.m.column c)).holder = some u) :
    Instr.serviceChanged u c false ∈ (b.service c f).o.handed := by
  rw [Board.service_of_removed hin hout]
  exact List.mem_append_left _ (List.mem_append_right _ (List.mem_map.2 ⟨u, (Column.mem_told _ _).2 hu, rfl⟩))

end

theorem Board.withdraw_m (b : Board) (c : Col) (force : Bool) :
    (b.withdraw c force).m = (b.service c fun k => { k with withdrawn := true }).m := by
  unfold Board.withdraw
  dsimp only
  split <;> rfl

theorem Board.withdraw_mem (b : Board) (c : Col) (force : Bool) {i : Instr}
    (h : i ∈ (b.service c fun k => { k with withdrawn := true }).o.handed) : i ∈ (b.withdraw c force).o.handed := by
  unfold Board.withdraw
  dsimp only
  split
  · exact List.mem_append_left _ h
  · exact h

theorem Board.withdraw_ordered {b : Board} {c : Col} {x : Tx}
    (h : (b.m.use c = .live ∧ (b.m.column c).holder = some x) ∨
      (b.m.use c = .claimed ∧ (b.m.column c).claimant = some x)) :
    Instr.withdrawEndOrder x ∈ (b.withdraw c true).o.handed := by
  have hordered : (if !true then none else if b.m.use c = .live then (b.m.column c).holder
      else if b.m.use c = .claimed then (b.m.column c).claimant else none) = some x := by
    rcases h with ⟨huse, hx⟩ | ⟨huse, hx⟩ <;> simp [huse, hx]
  unfold Board.withdraw
  dsimp only
  rw [hordered]
  exact List.mem_append_right _ (List.mem_singleton.2 rfl)

theorem exec_withdrawAntenna {s : State} (hs : Claims.serves s) {h : Head} (hsized : h.sized = true) (n : Nat)
    (force : Option Bool) : exec (.withdrawAntenna h n force) s = .next
      (if 35 < n then Claims.refuse s 0x54 h .outOfRange
      else if force = none then Claims.refuse s 0x54 h .badField
      else if force = some false ∧ (s.matrix.use (col n) = .claimed ∨ s.matrix.use (col n) = .live) then
        Claims.refuse s 0x54 h .inUse
      else Claims.accept (s.putBoard (s.board.withdraw (col n) (force == some true))) 0x54 h .empty) := by
  show execWithdrawAntenna h n force s = _
  refine (State.host_sized hs hsized).trans ?_
  simp only [State.tested_cons, State.tested_nil]
  exact congrArg _ (if_congr (by simp) rfl (if_congr (by simp) rfl (if_congr (by simp) rfl rfl)))

theorem withdrawAntennaDecided (h : Head) (n : Nat) (force : Option Bool) (s : State) (hs : Claims.serves s) :
    let i : Instr := .withdrawAntenna h n force
    let c := col n
    let k := s.matrix.column c
    let u := s.matrix.use c
    (h.sized = false → exec i s = .next (Claims.refuse s 0x54 h .badLength)) ∧
    (h.sized = true → 35 < n → exec i s = .next (Claims.refuse s 0x54 h .outOfRange)) ∧
    (h.sized = true → n ≤ 35 → force = none → exec i s = .next (Claims.refuse s 0x54 h .badField)) ∧
    (h.sized = true → n ≤ 35 → force = some false → (u = .claimed ∨ u = .live) →
      exec i s = .next (Claims.refuse s 0x54 h .inUse)) ∧
    ∀ v, h.sized = true → n ≤ 35 → force = some v → (v = true ∨ u = .free ∨ u = .idle) →
      ∃ t, exec i s = .next t ∧ t.link.reply = some { kind := 0x54, tag := h.tag, verdict := .accepted .empty } ∧
        t.matrix.column c = { k with withdrawn := true } ∧ t.matrix.points = s.matrix.points ∧
        (∀ x, u = .live → k.holder = some x → Instr.withdrawEndOrder x ∈ t.out.handed) ∧
        (∀ x, u = .claimed → k.claimant = some x → Instr.withdrawEndOrder x ∈ t.out.handed) ∧
        (k.inService = true → (∀ x, k.claimant = some x → Instr.serviceChanged x c false ∈ t.out.handed) ∧
          (∀ x, k.holder = some x → Instr.serviceChanged x c false ∈ t.out.handed) ∧
          t.matrix.claims = s.matrix.claims.filter fun q => q.column != c) := by
  intro i c k u
  refine ⟨exec_short hs rfl nofun, fun hsized hn => ?_, ?_, ?_, ?_⟩
  · rw [exec_withdrawAntenna hs hsized, if_pos hn]
  · rintro hsized hn rfl
    rw [exec_withdrawAntenna hs hsized, if_neg (Nat.not_lt.2 hn), if_pos rfl]
  · rintro hsized hn rfl huse
    rw [exec_withdrawAntenna hs hsized, if_neg (Nat.not_lt.2 hn), if_neg nofun, if_pos ⟨rfl, huse⟩]
  · rintro v hsized hn rfl hfree
    have hexec := exec_withdrawAntenna hs hsized n (some v)
    have hforce : (some v == some true) = v := by cases v <;> rfl
    have hnot : ¬ (some v = some false ∧ (u = .claimed ∨ u = .live)) := by
      rintro ⟨hv, huse⟩
      cases hv
      rcases huse with huse | huse <;> simp [huse] at hfree
    rw [if_neg (Nat.not_lt.2 hn), if_neg nofun, if_neg hnot, hforce] at hexec
    have hout : ({ k with withdrawn := true } : Column).inService = false := rfl
    have hv : u = .live ∨ u = .claimed → v = true := by
      rintro (huse | huse) <;> simpa [huse] using hfree
    refine ⟨_, hexec, rfl, ?_, ?_, fun x hu hx => ?_, fun x hu hx => ?_,
      fun hin => ⟨fun x hx => ?_, fun x hx => ?_, ?_⟩⟩
    · show (s.board.withdraw c v).m.column c = _
      rw [Board.withdraw_m]
      exact Board.service_column_of_out hout
    · show (s.board.withdraw c v).m.points = _
      rw [Board.withdraw_m, Board.service_points]
      rfl
    · show _ ∈ (s.board.withdraw c v).o.handed
      rw [hv (.inl hu)]
      exact Board.withdraw_ordered (.inl ⟨hu, hx⟩)
    · show _ ∈ (s.board.withdraw c v).o.handed
      rw [hv (.inr hu)]
      exact Board.withdraw_ordered (.inr ⟨hu, hx⟩)
    · exact Board.withdraw_mem s.board c v (Board.service_told_removed hin hout (.inl hx))
    · exact Board.withdraw_mem s.board c v (Board.service_told_removed hin hout (.inr hx))
    · show (s.board.withdraw c v).m.claims = _
      rw [Board.withdraw_m, Board.service_of_removed hin hout]
      rfl

/-! ### RESTORE_ANTENNA (R110) -/

theorem Column.inService_iff (k : Column) : k.inService = true ↔
    k.withdrawn = false ∧ k.suspect = false ∧ k.position = false ∧ k.gates = 0 := by
  simp [Column.inService, and_assoc]

theorem exec_restoreAntenna {s : State} (hs : Claims.serves s) {h : Head} (hsized : h.sized = true) (n : Nat) :
    let k := s.matrix.column (col n)
    exec (.restoreAntenna h n) s = .next
      (if 35 < n then Claims.refuse s 0x55 h .outOfRange
      else if k.withdrawn = false ∧ k.suspect = false then Claims.refuse s 0x55 h .wrongState
      else Claims.accept (s.putBoard (s.board.service (col n) fun k => { k with withdrawn := false, suspect := false }))
        0x55 h .empty) := by
  intro k
  show execRestoreAntenna h n s = _
  refine (State.host_sized hs hsized).trans ?_
  simp only [State.tested_cons, State.tested_nil]
  exact congrArg _ (if_congr (by simp) rfl (if_congr (by simp [k]) rfl rfl))

theorem restoreAntennaDecided (h : Head) (n : Nat) (s : State) (hs : Claims.serves s) :
    let i : Instr := .restoreAntenna h n
    let k := s.matrix.column (col n)
    (h.sized = false → exec i s = .next (Claims.refuse s 0x55 h .badLength)) ∧
    (h.sized = true → 35 < n → exec i s = .next (Claims.refuse s 0x55 h .outOfRange)) ∧
    (h.sized = true → n ≤ 35 → k.withdrawn = false → k.suspect = false →
      exec i s = .next (Claims.refuse s 0x55 h .wrongState)) ∧
    (h.sized = true → n ≤ 35 → (k.withdrawn = true ∨ k.suspect = true) →
      ∃ t, exec i s = .next t ∧ t.link.reply = some { kind := 0x55, tag := h.tag, verdict := .accepted .empty } ∧
        (t.matrix.column (col n)).withdrawn = false ∧ (t.matrix.column (col n)).suspect = false ∧
        (t.matrix.column (col n)).position = k.position ∧ (t.matrix.column (col n)).gates = k.gates ∧
        (t.matrix.column (col n)).holder = k.holder ∧ t.matrix.points = s.matrix.points ∧
        (k.position = false → k.gates = 0 → (t.matrix.column (col n)).inService = true ∧
          ∀ x, (k.claimant = some x ∨ k.holder = some x) → Instr.serviceChanged x (col n) true ∈ t.out.handed) ∧
        (k.position = true ∨ k.gates ≠ 0 → (t.matrix.column (col n)).inService = false ∧ t.out = s.out)) := by
  intro i k
  refine ⟨exec_short hs rfl nofun, fun hsized hn => ?_, fun hsized hn hw hk => ?_, fun hsized hn hreason => ?_⟩
  · rw [exec_restoreAntenna hs hsized, if_pos hn]
  · rw [exec_restoreAntenna hs hsized, if_neg (Nat.not_lt.2 hn), if_pos ⟨hw, hk⟩]
  · have hexec := exec_restoreAntenna hs hsized n
    have hnot : ¬ (k.withdrawn = false ∧ k.suspect = false) := by
      rintro ⟨hw, hk⟩
      simp [hw, hk] at hreason
    dsimp only at hexec
    rw [if_neg (Nat.not_lt.2 hn), if_neg hnot] at hexec
    let f (k : Column) : Column := { k with withdrawn := false, suspect := false }
    have hbefore : k.inService = false := by
      rw [← Bool.not_eq_true, Column.inService_iff]
      exact fun hin => hnot ⟨hin.1, hin.2.1⟩
    obtain ⟨a, ha⟩ := s.board.service_column (col n) f
    refine ⟨_, hexec, rfl, ?_⟩
    show ((s.board.service (col n) f).m.column (col n)).withdrawn = _ ∧
      ((s.board.service (col n) f).m.column (col n)).suspect = _ ∧
      ((s.board.service (col n) f).m.column (col n)).position = _ ∧
      ((s.board.service (col n) f).m.column (col n)).gates = _ ∧
      ((s.board.service (col n) f).m.column (col n)).holder = _ ∧ _
    rw [ha]
    refine ⟨rfl, rfl, rfl, rfl, rfl, Board.service_points .., fun hp hg => ⟨?_, fun x hx => ?_⟩, fun hleft => ?_⟩
    · show ((s.board.service (col n) f).m.column (col n)).inService = true
      rw [ha, Column.inService_iff]
      exact ⟨rfl, rfl, hp, hg⟩
    · exact Board.service_told hbefore ((Column.inService_iff _).2 ⟨rfl, rfl, hp, hg⟩) hx
    · have hafter : (f k).inService = false := by
        rw [← Bool.not_eq_true, Column.inService_iff]
        rintro ⟨-, -, hp, hg⟩
        exact hleft.elim (fun h => by rw [show k.position = false from hp] at h; cases h) fun h => h hg
      refine ⟨?_, ?_⟩
      · show ((s.board.service (col n) f).m.column (col n)).inService = false
        rw [Board.service_column_of_out hafter]
        exact hafter
      · show (s.board.service (col n) f).o = _
        rw [Board.service_of_same (hbefore.trans hafter.symm)]
        rfl

/-! ### POLL_MATRIX, READ_ROUTES and READ_ANTENNA (R111-R113) -/

theorem allTx_eq : allTx = List.finRange 12 := by decide

theorem allCols_eq : allCols = List.finRange 36 := by decide

theorem Matrix.exceptions_eq (m : Matrix) : m.exceptions = (List.finRange 12).flatMap fun u =>
    (List.finRange 36).filterMap fun c =>
      if m.xstate u c = .opened ∨ m.xstate u c = .closed then none else some (u, c, m.point u c) := by
  unfold Matrix.exceptions
  rw [allTx_eq, allCols_eq]
  congr 1
  funext u
  congr 1
  funext c
  exact if_congr (by simp [XState.known]) rfl rfl

theorem Matrix.closedIn_eq (m : Matrix) (t : Tx) :
    m.closedIn t = (List.finRange 36).filter fun c => decide (m.xstate t c = .closed) := by
  rw [Matrix.closedIn, allCols_eq]
  rfl

/-- Settles O43. -/
theorem antennaRequestsDecided : Obligations.AntennaRequestsDecided := by
  refine ⟨withdrawAntennaDecided, restoreAntennaDecided, fun h module s hs => ?_, fun h s hs => ?_, fun h n s hs => ?_⟩
  · intro polls
    refine ⟨exec_short hs rfl nofun, ?_, fun hsized hn => ?_⟩
    · rintro n hsized rfl hn
      show execPollMatrix h (some n) s = _
      exact (State.host_sized hs hsized).trans (congrArg _ (if_pos (by simpa using hn)))
    · show execPollMatrix h module s = _
      refine (State.host_sized hs hsized).trans (congrArg _ ?_)
      cases module with
      | none => rfl
      | some n => exact if_neg (by simpa using hn n rfl)
  · intro routes exceptions
    show execReadRoutes h s = _
    refine (State.host_decides hs).trans ?_
    have hroutes : allTx.map s.matrix.closedIn = routes := by
      rw [allTx_eq, funext s.matrix.closedIn_eq]
    have hexceptions : s.matrix.exceptions = exceptions := s.matrix.exceptions_eq
    rw [← hroutes, ← hexceptions]
    rfl
  · intro k
    show execReadAntenna h n s = _
    refine (State.host_decides hs).trans ?_
    simp only [State.tested_cons, State.tested_nil]
    exact congrArg _ (if_congr Iff.rfl rfl (if_congr decide_eq_true_iff rfl rfl))

end Sys2Proof.Machine

/-! The motor slots: drive requests, their tests and the queue (R103-R105; O46). -/

namespace Sys2Proof.Machine

/-! ### The tests of a start (R105) -/

theorem Matrix.restOfRow_iff (m : Matrix) (t : Tx) (c : Col) :
    m.restOfRow t c (· == .opened) = true ↔ ∀ e, e ≠ c → m.xstate t e = .opened := by
  simp only [Matrix.restOfRow, List.all_eq_true, mem_allCols, Bool.or_eq_true, beq_iff_eq, forall_const, or_iff_not_imp_left]

theorem Matrix.restOfColumn_iff (m : Matrix) (t : Tx) (c : Col) :
    m.restOfColumn t c (· == .opened) = true ↔ ∀ u, u ≠ t → m.xstate u c = .opened := by
  simp only [Matrix.restOfColumn, List.all_eq_true, mem_allTx, Bool.or_eq_true, beq_iff_eq, forall_const, or_iff_not_imp_left]

theorem RowRecord.mayMove_iff (r : RowRecord) : r.mayMove = true ↔
    r.muteConfirmed = true ∧ r.condition ≠ .ramp ∧ r.condition ≠ .onAir ∧ r.condition ≠ .tripped := by
  simp [RowRecord.mayMove, and_assoc]

/-- The holder of the request's column, if it is another transmitter, may have its crosspoint moved (R105 test 4). -/
def Matrix.holderMay (m : Matrix) (r : SlotRequest) : Prop :=
  ∀ u, (m.column r.column).holder = some u → u ≠ r.row → (m.row u).mayMove = true

/-- The crosspoints beside the request's do not bar a closing (R105 tests 2 and 3). -/
def Matrix.rowFree (m : Matrix) (r : SlotRequest) : Prop := r.direction = .closing → ∀ e, e ≠ r.column → m.xstate r.row e = .opened
/-- See `Matrix.rowFree`. -/
def Matrix.columnFree (m : Matrix) (r : SlotRequest) : Prop := r.direction = .closing → ∀ u, u ≠ r.row → m.xstate u r.column = .opened

theorem XState.known_iff (x : XState) : x.known = true ↔ x = .opened ∨ x = .closed := by simp [XState.known]

theorem XState.not_known_iff (x : XState) : ¬ x.known = true ↔ x = .unknown ∨ x.moving = true := by
  cases x <;> simp [XState.known, XState.moving]

section
variable {m : Matrix} {r : SlotRequest}

theorem Matrix.startTest_of_unknown (h : ¬ (m.xstate r.row r.column).known = true) : m.startTest r = .fails .routeUnknown :=
  if_pos ((XState.not_known_iff _).1 h)

theorem Matrix.startTest_of_already (h : m.xstate r.row r.column = r.direction.reached) : m.startTest r = .already := by
  have hknown : (m.xstate r.row r.column).known = true := by
    rw [h]
    cases r.direction <;> rfl
  exact (if_neg (mt (XState.not_known_iff _).2 (not_not.2 hknown))).trans (if_pos h)

variable (hknown : (m.xstate r.row r.column).known = true) (hgoal : m.xstate r.row r.column ≠ r.direction.reached)

include hknown hgoal

/-- A crosspoint that is known and stands elsewhere: what is left of the tests. -/
theorem Matrix.startTest_of_away : m.startTest r =
    if r.direction = .closing ∧ ¬ m.restOfRow r.row r.column (· == .opened) then .fails .rowBusy
    else if r.direction = .closing ∧ ¬ m.restOfColumn r.row r.column (· == .opened) then .fails .columnBusy
    else if ¬ (m.row r.row).mayMove then .fails .rowBusy
    else if ¬ (match (m.column r.column).holder with | some h => h == r.row || (m.row h).mayMove | none => true) = true then
      .fails .columnBusy
    else .starts :=
  (if_neg (mt (XState.not_known_iff _).2 (not_not.2 hknown))).trans ((if_neg hgoal).trans rfl)

theorem Matrix.startTest_of_rowBusy (hrow : ¬ m.rowFree r) : m.startTest r = .fails .rowBusy := by
  rw [Matrix.startTest_of_away hknown hgoal, if_pos]
  rw [Matrix.restOfRow_iff]
  exact Classical.not_imp.1 hrow

theorem Matrix.startTest_of_columnBusy (hrow : m.rowFree r) (hcolumn : ¬ m.columnFree r) :
    m.startTest r = .fails .columnBusy := by
  rw [Matrix.startTest_of_away hknown hgoal, if_neg, if_pos]
  · rw [Matrix.restOfColumn_iff]
    exact Classical.not_imp.1 hcolumn
  · rw [Matrix.restOfRow_iff, ← Classical.not_imp]
    exact not_not.2 hrow

variable (hrow : m.rowFree r) (hcolumn : m.columnFree r)

include hrow hcolumn

theorem Matrix.startTest_of_free :
    ((m.row r.row).mayMove = false → m.startTest r = .fails .rowBusy) ∧
    ((m.row r.row).mayMove = true → ¬ m.holderMay r → m.startTest r = .fails .columnBusy) ∧
    ((m.row r.row).mayMove = true → m.holderMay r → m.startTest r = .starts) := by
  have hrow' : ¬ (r.direction = .closing ∧ ¬ m.restOfRow r.row r.column (· == .opened)) := by
    rw [Matrix.restOfRow_iff, ← Classical.not_imp]
    exact not_not.2 hrow
  have hcolumn' : ¬ (r.direction = .closing ∧ ¬ m.restOfColumn r.row r.column (· == .opened)) := by
    rw [Matrix.restOfColumn_iff, ← Classical.not_imp]
    exact not_not.2 hcolumn
  rw [Matrix.startTest_of_away hknown hgoal, if_neg hrow', if_neg hcolumn']
  cases hholder : (m.column r.column).holder with
  | none =>
    have hmay : m.holderMay r := fun u hu => by
      rw [hholder] at hu
      cases hu
    exact ⟨fun h => if_pos (by simp [h]), fun _ h => absurd hmay h, fun h _ => (if_neg (by simp [h])).trans (if_neg (by simp))⟩
  | some x =>
    have hmay : m.holderMay r ↔ (x == r.row || (m.row x).mayMove) = true := by
      simp [Matrix.holderMay, hholder, or_iff_not_imp_left]
    rw [hmay]
    exact ⟨fun h => if_pos (by simp [h]), fun h hx => (if_neg (by simp [h])).trans (if_pos hx),
      fun h hx => (if_neg (by simp [h])).trans (if_neg (not_not.2 hx))⟩

end

/-! ### A request that is given a slot (R105) -/

theorem Board.startDrive_of_fails {b : Board} {r : SlotRequest} {why : DriveFailure} (h : b.m.startTest r = .fails why)
    (travel : Nat) : b.startDrive travel r = { b with o := b.o.hand (.driveFailed r.t r.row r.column why) } := by
  rw [Board.startDrive, h]

theorem Board.startDrive_of_already {b : Board} {r : SlotRequest} (h : b.m.startTest r = .already) (travel : Nat) :
    b.startDrive travel r = { b with o := b.o.hand (.driveDone r.t r.row r.column) } := by
  rw [Board.startDrive, h]

/-- The board with a request's crosspoint set in motion. -/
def Board.moved (travel : Nat) (r : SlotRequest) (b : Board) : Board :=
  b.setPoint r.row r.column r.direction.moving (some { t := r.t, travel := Timer.start travel })

theorem Board.startDrive_of_starts {b : Board} {r : SlotRequest} (h : b.m.startTest r = .starts) (travel : Nat) :
    b.startDrive travel r =
      { m := { (b.moved travel r).m with free := (b.moved travel r).m.free - 1 }
        o := ((b.moved travel r).o.send (.drive r.row r.column r.direction)).hand (.driveStarted r.t r.row r.column) } := by
  rw [Board.startDrive, h]
  rfl

theorem Board.setPoint_tells (b : Board) (t : Tx) (c : Col) (x : XState) (w : Option Drive) :
    Outbox.Tells b.o (b.setPoint t c x w).o := by
  refine .trans ?_ (Board.pass_tells _ c)
  unfold Board.positionReason
  split
  · exact Board.service_tells _ c _
  · split
    · exact Board.service_tells _ c _
    · exact .refl _

theorem Board.startDrive_queue (travel : Nat) (r : SlotRequest) (b : Board) :
    (b.startDrive travel r).m.queue = b.m.queue := by
  cases h : b.m.startTest r with
  | fails why => rw [Board.startDrive_of_fails h]
  | already => rw [Board.startDrive_of_already h]
  | starts =>
    rw [Board.startDrive_of_starts h]
    exact Board.setPoint_queue ..

/-- What a start does to the matrix and what it puts out. -/
theorem Board.startDrive_starts {b : Board} {r : SlotRequest} (h : b.m.startTest r = .starts) (travel : Nat) :
    (∀ u d, (b.startDrive travel r).m.point u d = if u = r.row ∧ d = r.column then
      { b.m.point r.row r.column with
        state := r.direction.moving, drive := some { t := r.t, travel := { count := 0, limit := travel } } }
      else b.m.point u d) ∧
    (b.startDrive travel r).m.free = b.m.free - 1 ∧
    (b.startDrive travel r).o.link = b.o.link ++ [.drive r.row r.column r.direction] ∧
    Instr.driveStarted r.t r.row r.column ∈ (b.startDrive travel r).o.handed := by
  have htells := b.setPoint_tells r.row r.column r.direction.moving (some { t := r.t, travel := Timer.start travel })
  rw [Board.startDrive_of_starts h]
  refine ⟨fun u d => b.setPoint_point .., congrArg (· - 1) (b.setPoint_free ..), ?_,
    List.mem_append_right _ (List.mem_singleton.2 rfl)⟩
  exact congrArg (· ++ [MatrixOrder.drive r.row r.column r.direction]) htells.link

/-! ### The queue (R103) -/

theorem Matrix.mayGrant_iff (m : Matrix) : m.mayGrant = true ↔ 0 < m.free ∧ m.suspension.empty = true ∧ m.granting = true := by
  simp [Matrix.mayGrant, Matrix.suspended, and_assoc]

theorem Board.grant_of_not {b : Board} (h : b.m.mayGrant = false ∨ b.m.queue = []) (travel : Nat) : b.grant travel = b := by
  rcases h with h | h
  · unfold Board.grant
    cases b.m.queue.length with
    | zero => rfl
    | succ n => exact if_neg (by simp [h])
  · exact Board.grant_nothing travel b h

theorem Board.grant_of_waiting {b : Board} {r : SlotRequest} {rest : List SlotRequest} (h : b.m.mayGrant = true)
    (hqueue : b.m.queue = r :: rest) (travel : Nat) :
    b.grant travel = (Board.startDrive travel r { b with m := { b.m with queue := rest } }).grant travel := by
  unfold Board.grant
  rw [Board.startDrive_queue, hqueue, List.length_cons, Board.grantUpTo, if_pos h, hqueue]

theorem slotsPassOn : Claims.SlotsPassOn := by
  refine ⟨fun travel b h => Board.grant_of_not h travel, fun travel r rest b h hqueue => Board.grant_of_waiting h hqueue travel,
    fun travel r b => ?_⟩
  refine ⟨fun why h => Board.startDrive_of_fails h travel, fun h => Board.startDrive_of_already h travel, fun h => ?_⟩
  obtain ⟨hpoint, hfree, hlink, hhanded⟩ := Board.startDrive_starts h travel
  have hself := (hpoint r.row r.column).trans (if_pos ⟨rfl, rfl⟩)
  refine ⟨?_, congrArg Crosspoint.drive hself, hfree, Board.startDrive_queue .., hlink, hhanded⟩
  refine (congrArg Crosspoint.state hself).trans ?_
  cases r.direction <;> rfl

theorem enqueue_eq (r : SlotRequest) (qs : List SlotRequest) : enqueue r qs =
    qs.takeWhile (fun q => decide (r.priority ≤ q.priority)) ++ r :: qs.dropWhile fun q => decide (r.priority ≤ q.priority) := by
  induction qs with
  | nil => rfl
  | cons q qs ih =>
    rw [enqueue]
    split
    next h => simp [Fin.not_le.2 h]
    next h => simp [Fin.not_lt.1 h, ih]

/-! ### DRIVE_REQUEST and CANCEL_DRIVE (R103, R104) -/

theorem exec_driveRequest {s : State} (hlive : Claims.live s) (t row : Tx) (c : Col) (d : Direction) (p : Fin 4) :
    exec (.driveRequest t row c d p) s = .next (s.putBoard (s.board.driveRequest s.limits.travel ⟨t, row, c, d, p⟩)) := by
  show execDriveRequest t row c d p s = _
  rw [execDriveRequest, State.take_of_live hlive, State.onMatrix_eq]

/-- With a slot free and nothing waiting, a request takes the slot. -/
theorem Board.driveRequest_of_free {b : Board} (hgrant : b.m.mayGrant = true) (hqueue : b.m.queue = []) (travel : Nat)
    (r : SlotRequest) : b.driveRequest travel r = b.startDrive travel r := by
  have hb : ({ b with m := { b.m with queue := b.m.queue.filter fun q => q.t != r.t } } : Board) = b := by
    obtain ⟨⟨points, columns, rows, claims, queue, free, suspension, granting⟩, o⟩ := b
    subst hqueue
    rfl
  unfold Board.driveRequest
  dsimp only
  rw [if_pos hgrant, hb]
  exact Board.grant_nothing _ _ ((Board.startDrive_queue ..).trans hqueue)

theorem driveStarts : Claims.DriveStarts := by
  intro t row c d p s hlive m hfree hnormal hgranting hqueue hstate hclosing hmay
  let r : SlotRequest := ⟨t, row, c, d, p⟩
  have hstarts : m.startTest r = .starts := by
    have hx : m.xstate r.row r.column = match r.direction with | .opening => .closed | .closing => .opened := hstate
    have hknown : (m.xstate r.row r.column).known = true := by
      rw [hx]
      cases r.direction <;> rfl
    have hgoal : m.xstate r.row r.column ≠ r.direction.reached := by
      rw [hx]
      cases r.direction <;> nofun
    refine (Matrix.startTest_of_free hknown hgoal (fun hd => (hclosing hd).1) (fun hd => (hclosing hd).2)).2.2 ?_ ?_
    · exact (RowRecord.mayMove_iff _).2 (hmay row (.inl rfl))
    · exact fun u hu _ => (RowRecord.mayMove_iff _).2 (hmay u (.inr hu))
  obtain ⟨hpoint, hslot, hlink, hhanded⟩ := Board.startDrive_starts (b := s.board) hstarts s.limits.travel
  have hexec := exec_driveRequest hlive t row c d p
  rw [Board.driveRequest_of_free (b := s.board) ((Matrix.mayGrant_iff _).2 ⟨hfree, hnormal, hgranting⟩) hqueue] at hexec
  refine ⟨_, hexec, ?_, fun u e hne => ?_, hslot, (Board.startDrive_queue ..).trans hqueue, hlink, hhanded⟩
  · refine (hpoint row c).trans ((if_pos ⟨rfl, rfl⟩).trans ?_)
    cases d <;> rfl
  · exact (hpoint u e).trans (if_neg fun h => hne.elim (fun hu => hu h.1) fun he => he h.2)

theorem direction_reached_eq (d : Direction) :
    (match d with | .opening => XState.opened | .closing => .closed) = d.reached := by
  cases d <;> rfl

theorem driveRequestsWaitOrFail : Claims.DriveRequestsWaitOrFail := by
  refine ⟨fun t row c d p s hlive hnone => ?_, fun t row c d p s hlive => ?_, fun t s hlive => ?_⟩
  · let queue := s.matrix.queue.filter fun q => q.t != t
    refine ⟨queue.takeWhile fun q => decide (p ≤ q.priority), queue.dropWhile fun q => decide (p ≤ q.priority),
      List.takeWhile_append_dropWhile, fun q hq => of_decide_eq_true (List.mem_takeWhile_imp (p := fun q : SlotRequest => decide (p ≤ q.priority)) hq), fun q hq => ?_, ?_⟩
    · have := List.head?_dropWhile_not (fun q : SlotRequest => decide (p ≤ q.priority)) queue
      rw [hq] at this
      simpa using this
    · have hgrant : ¬ s.board.m.mayGrant = true := by
        rw [Matrix.mayGrant_iff]
        rintro ⟨hfree, hnormal, -⟩
        rcases hnone with h | h
        · exact absurd h hfree.ne'
        · cases h.symm.trans hnormal
      rw [exec_driveRequest hlive]
      refine congrArg _ ((s.putBoard_ite _ _ _).trans ((if_neg hgrant).trans ?_))
      rw [enqueue_eq]
      rfl
  · intro m hfree hnormal hgranting hqueue rowFree columnFree may goal known holderMay answered
    let r : SlotRequest := ⟨t, row, c, d, p⟩
    have hexec := exec_driveRequest hlive t row c d p
    rw [Board.driveRequest_of_free (b := s.board) ((Matrix.mayGrant_iff _).2 ⟨hfree, hnormal, hgranting⟩) hqueue] at hexec
    have hfails : ∀ why, m.startTest r = .fails why → answered (.driveFailed t row c why) := fun why h => by
      show exec _ s = _
      rw [hexec, Board.startDrive_of_fails (b := s.board) h]
      rfl
    have hgoal : goal = r.direction.reached := direction_reached_eq d
    have hknown : known → (m.xstate r.row r.column).known = true := (XState.known_iff _).2
    have hmay : ∀ u, may u ↔ (m.row u).mayMove = true := fun u => (RowRecord.mayMove_iff _).symm
    have hholder : holderMay ↔ m.holderMay r := forall_congr' fun u => by simp only [hmay]; rfl
    rw [hgoal]
    refine ⟨fun h => hfails _ (Matrix.startTest_of_unknown (mt (XState.known_iff _).1 h)), fun h => ?_,
      fun hk hg h => hfails _ (Matrix.startTest_of_rowBusy (hknown hk) hg h),
      fun hk hg hr h => hfails _ (Matrix.startTest_of_columnBusy (hknown hk) hg hr h),
      fun hk hg hr hc h => hfails _ ((Matrix.startTest_of_free (hknown hk) hg hr hc).1 ?_),
      fun hk hg hr hc hm h => hfails _ ((Matrix.startTest_of_free (hknown hk) hg hr hc).2.1 ((hmay _).1 hm) (mt hholder.2 h))⟩
    · show exec _ s = _
      rw [hexec, Board.startDrive_of_already (b := s.board) (r := r) (Matrix.startTest_of_already h)]
      rfl
    · rw [hmay] at h
      exact Bool.not_eq_true _ ▸ h
  · show execCancelDrive t s = _
    rw [execCancelDrive, State.take_of_live hlive]
    rfl

/-- Settles O46. -/
theorem driveRequestsDecided : Obligations.DriveRequestsDecided := ⟨driveStarts, driveRequestsWaitOrFail, slotsPassOn⟩

end Sys2Proof.Machine

/-! The sequencer's reports to the matrix, the out reasons, and the suspension (R97, R99, R101, R108; O48, O49). -/

namespace Sys2Proof.Machine

/-! ### Columns passed on side by side (R97, R101) -/

/-- An operation on the other columns: column `c` and the claim first listed for it stay, and messages are only added. -/
structure Board.Beside (c : Col) (b b' : Board) : Prop where
  column : b'.m.column c = b.m.column c
  rows : b'.m.rows = b.m.rows
  points : b'.m.points = b.m.points
  first : (b'.m.claims.find? fun q => q.column == c) = b.m.claims.find? fun q => q.column == c
  handed : ∀ i ∈ b.o.handed, i ∈ b'.o.handed

namespace Board.Beside

variable {c d : Col} {b b' b'' : Board}

theorem refl (c : Col) (b : Board) : Board.Beside c b b := ⟨rfl, rfl, rfl, rfl, fun _ h => h⟩

theorem trans (h : Board.Beside c b b') (g : Board.Beside c b' b'') : Board.Beside c b b'' :=
  ⟨g.column.trans h.column, g.rows.trans h.rows, g.points.trans h.points, g.first.trans h.first,
    fun i hi => g.handed i (h.handed i hi)⟩

theorem find?_erase_other {claims : List Claim} {q : Claim} (h : q.column ≠ c) :
    ((claims.erase q).find? fun q => q.column == c) = claims.find? fun q => q.column == c := by
  induction claims with
  | nil => rfl
  | cons r claims ih =>
    by_cases hr : r = q
    · subst hr
      rw [List.erase_cons_head, List.find?_cons_of_neg (by simpa using h)]
    · rw [List.erase_cons_tail (by simpa using hr), List.find?_cons, List.find?_cons, ih]

theorem pass (h : d ≠ c) (b : Board) : Board.Beside c b (b.pass d) := by
  refine ⟨?_, b.pass_rows d, b.pass_points d, ?_, fun i hi => (b.pass_tells d).mem hi⟩
  · unfold Board.pass
    dsimp only
    split
    · split
      · exact (Matrix.onColumn_column ..).trans (if_neg h.symm)
      · rfl
    · rfl
  · unfold Board.pass
    dsimp only
    split
    · split
      next q hq =>
        have hcolumn : q.column = d := beq_iff_eq.1 (List.find?_some (p := fun q : Claim => q.column == d) hq)
        exact find?_erase_other (hcolumn ▸ h)
      · rfl
    · rfl

theorem foldl {f : Board → Col → Board} (hf : ∀ b d, d ≠ c → Board.Beside c b (f b d)) {ds : List Col} (h : c ∉ ds)
    (b : Board) : Board.Beside c b (ds.foldl f b) := by
  induction ds generalizing b with
  | nil => exact .refl c b
  | cons d ds ih =>
    exact (hf b d fun hd => h (hd ▸ List.mem_cons_self)).trans (ih (fun hc => h (List.mem_cons_of_mem _ hc)) _)

end Board.Beside

theorem nodup_allCols : allCols.Nodup := by decide

theorem Matrix.use_of_holder {m : Matrix} {c : Col} {t : Tx} (hholder : (m.column c).holder = some t)
    (hquiet : (m.row t).condition = .quiet) (hnone : (m.column c).claimant = none) : m.use c = .idle := by
  unfold Matrix.use
  dsimp only
  rw [hholder]
  dsimp only
  rw [hquiet, hnone]
  rfl

/-- One step of a row report: a column that the transmitter holds may pass on. -/
def Board.passIfHeld (t : Tx) (b : Board) (c : Col) : Board := if (b.m.column c).holder = some t then b.pass c else b

theorem Board.Beside.passIfHeld {t : Tx} {c d : Col} (b : Board) (h : d ≠ c) : Board.Beside c b (b.passIfHeld t d) := by
  unfold Board.passIfHeld
  split
  · exact .pass h b
  · exact .refl c b

theorem Board.passIfHeld_rows (t : Tx) (b : Board) (c : Col) : (b.passIfHeld t c).m.rows = b.m.rows := by
  unfold Board.passIfHeld
  split
  · exact b.pass_rows c
  · rfl

theorem Board.passIfHeld_points (t : Tx) (b : Board) (c : Col) : (b.passIfHeld t c).m.points = b.m.points := by
  unfold Board.passIfHeld
  split
  · exact b.pass_points c
  · rfl

theorem foldl_passIfHeld_rows (t : Tx) (cs : List Col) (b : Board) : (cs.foldl (Board.passIfHeld t) b).m.rows = b.m.rows := by
  induction cs generalizing b with
  | nil => rfl
  | cons c cs ih => exact (ih _).trans (b.passIfHeld_rows t c)

theorem foldl_passIfHeld_points (t : Tx) (cs : List Col) (b : Board) :
    (cs.foldl (Board.passIfHeld t) b).m.points = b.m.points := by
  induction cs generalizing b with
  | nil => rfl
  | cons c cs ih => exact (ih _).trans (b.passIfHeld_points t c)

/-- Of the columns that a QUIET transmitter holds, each that may passes to the claim first listed for it. -/
theorem foldl_passIfHeld_granted {t : Tx} {c : Col} {b : Board} {q : Claim} (hholder : (b.m.column c).holder = some t)
    (hquiet : (b.m.row t).condition = .quiet) (hnone : (b.m.column c).claimant = none)
    (hin : (b.m.column c).inService = true) (hq : (b.m.claims.find? fun q => q.column == c) = some q) :
    ((allCols.foldl (Board.passIfHeld t) b).m.column c).claimant = some q.t ∧
      Instr.claimGranted q.t c ∈ (allCols.foldl (Board.passIfHeld t) b).o.handed := by
  obtain ⟨before, after, hsplit⟩ := List.append_of_mem (mem_allCols c)
  have hnodup := hsplit ▸ nodup_allCols
  rw [List.nodup_append] at hnodup
  obtain ⟨-, hafter, hdisjoint⟩ := hnodup
  have hbefore : c ∉ before := fun h => hdisjoint c h c List.mem_cons_self rfl
  rw [hsplit, List.foldl_append, List.foldl_cons]
  have h1 := Board.Beside.foldl (c := c) (f := Board.passIfHeld t) (fun b d hd => .passIfHeld b hd) hbefore b
  generalize before.foldl (Board.passIfHeld t) b = b1 at h1 ⊢
  have hrow : b1.m.row t = b.m.row t := congrArg (·.get t) h1.rows
  have hidle : b1.m.use c = .idle :=
    Matrix.use_of_holder (h1.column ▸ hholder) (hrow ▸ hquiet) (h1.column ▸ hnone)
  have hpass : b1.passIfHeld t c = _ := (if_pos (h1.column ▸ hholder)).trans
    (Board.pass_of_listed ⟨h1.column ▸ hin, .inr hidle⟩ (h1.first.trans hq))
  have h2 := Board.Beside.foldl (c := c) (f := Board.passIfHeld t) (fun b d hd => .passIfHeld b hd) (List.nodup_cons.1 hafter).1
    (b1.passIfHeld t c)
  rw [hpass] at h2 ⊢
  refine ⟨?_, h2.handed _ (List.mem_append_right _ (List.mem_singleton.2 rfl))⟩
  rw [h2.column, Matrix.setClaimant_column_same]

theorem rowReportsRecorded : Claims.RowReportsRecorded := by
  refine ⟨fun t r s hlive => ?_, fun t yes s hlive => ?_⟩
  · let b : Board := ⟨s.matrix.onRow t fun k => { k with condition := r }, s.out⟩
    have hexec : exec (.rowConditionReport t r) s = .next (s.putBoard (allCols.foldl (Board.passIfHeld t) b)) := by
      show execRowConditionReport t r s = _
      rw [execRowConditionReport, State.take_of_live hlive]
      rfl
    have hrow : b.m.row t = { s.matrix.row t with condition := r } := (Matrix.onRow_row ..).trans (if_pos rfl)
    have hrows := foldl_passIfHeld_rows t allCols b
    have hpoints := foldl_passIfHeld_points t allCols b
    have hgranted := fun c q => foldl_passIfHeld_granted (t := t) (c := c) (b := b) (q := q)
    generalize allCols.foldl (Board.passIfHeld t) b = n at hexec hrows hpoints hgranted
    have hrow' : n.m.row t = { s.matrix.row t with condition := r } := (congrArg (·.get t) hrows).trans hrow
    refine ⟨_, hexec, congrArg RowRecord.condition hrow', (congrArg RowRecord.muteConfirmed hrow').trans rfl, hpoints, ?_⟩
    rintro c q rfl hholder hnone hin hq
    exact hgranted c q hholder (congrArg RowRecord.condition hrow) hnone hin hq
  · show execMuteConfirmedReport t yes s = _
    rw [execMuteConfirmedReport, State.take_of_live hlive]
    rfl

/-! ### Out reasons (R99) -/

/-- What a reason that puts a column out of service does to the claims and what it tells. -/
theorem Board.service_put_out {b : Board} {c : Col} {f : Column → Column} (hout : (f (b.m.column c)).inService = false)
    (hclaimant : (f (b.m.column c)).claimant = (b.m.column c).claimant)
    (hholder : (f (b.m.column c)).holder = (b.m.column c).holder) :
    ((b.m.column c).inService = true →
      (∀ u, ((b.m.column c).claimant = some u ∨ (b.m.column c).holder = some u) →
        Instr.serviceChanged u c false ∈ (b.service c f).o.handed) ∧
      ∀ q ∈ b.m.claims, q.column = c →
        q ∉ (b.service c f).m.claims ∧ Instr.claimRefused q.t c ∈ (b.service c f).o.handed) ∧
    ((b.m.column c).inService = false → (b.service c f).o = b.o ∧ (b.service c f).m.claims = b.m.claims) := by
  refine ⟨fun hin => ⟨fun u hu => Board.service_told_removed hin hout (by rwa [hclaimant, hholder]), fun q hq hc => ?_⟩,
    fun hbefore => ?_⟩
  · rw [Board.service_of_removed hin hout]
    refine ⟨fun hmem => ?_, List.mem_append_right _ (List.mem_map.2 ⟨q, List.mem_filter.2 ⟨hq, by simpa using hc⟩, rfl⟩)⟩
    simpa [hc] using (List.mem_filter.1 hmem).2
  · rw [Board.service_of_same (hbefore.trans hout.symm)]
    exact ⟨rfl, rfl⟩

theorem setBit_ne_zero {n : Nat} (s : BitVec n) {i : Nat} (hi : i < n) : setBit s i ≠ 0 := fun h => by
  have hbit := setBit_getLsbD s i i hi
  rw [h] at hbit
  simp at hbit

theorem outReasonsChangeService : Claims.OutReasonsChangeService := by
  refine ⟨fun c x i s hlive hi => ?_, fun c ms s hlive => ?_⟩
  · intro k
    rcases hi with rfl | rfl
    · let f (k : Column) : Column := { k with suspect := true }
      have hexec : exec (.suspectMark c) s = .next (s.putBoard (s.board.service c f)) := by
        show execSuspectMark c s = _
        rw [execSuspectMark, State.take_of_live hlive, State.onMatrix_eq]
      have hout : (f k).inService = false := by simp [Column.inService, f]
      have hcolumn : (s.board.service c f).m.column c = f k := Board.service_column_of_out hout
      obtain ⟨htold, hquiet⟩ := Board.service_put_out (b := s.board) (c := c) (f := f) hout rfl rfl
      exact ⟨_, hexec, (congrArg Column.inService hcolumn).trans hout, fun _ => hcolumn, nofun, htold, hquiet⟩
    · let f (k : Column) : Column := { k with gates := setBit k.gates x.val }
      have hexec : exec (.gateMemberAdd c x) s = .next (s.putBoard (s.board.service c f)) := by
        show execGateMemberAdd c x s = _
        rw [execGateMemberAdd, State.take_of_live hlive, State.onMatrix_eq]
      have hout : (f k).inService = false := by
        rw [← Bool.not_eq_true, Column.inService_iff]
        exact fun h => setBit_ne_zero _ x.isLt h.2.2.2
      have hcolumn : (s.board.service c f).m.column c = f k := Board.service_column_of_out hout
      obtain ⟨htold, hquiet⟩ := Board.service_put_out (b := s.board) (c := c) (f := f) hout rfl rfl
      exact ⟨_, hexec, (congrArg Column.inService hcolumn).trans hout, nofun, fun _ => hcolumn, htold, hquiet⟩
  · intro k
    let f (k : Column) : Column := { k with gates := without k.gates ms }
    have hexec : exec (.gateMemberRemove c ms) s = .next (s.putBoard (s.board.service c f)) := by
      show execGateMemberRemove c ms s = _
      rw [execGateMemberRemove, State.take_of_live hlive, State.onMatrix_eq]
    obtain ⟨a, ha⟩ := s.board.service_column c f
    refine ⟨_, hexec, fun j _ => ?_, fun hw hs hp hbefore hgates => ?_⟩
    · show ((s.board.service c f).m.column c).gates.getLsbD j = _
      rw [ha]
      exact without_getLsbD _ _ _
    · have hempty : without k.gates ms = 0 := by
        have : ((s.board.service c f).m.column c).gates = 0 := hgates
        rwa [ha] at this
      have hin : (f k).inService = true := (Column.inService_iff _).2 ⟨hw, hs, hp, hempty⟩
      refine ⟨?_, fun u hu => Board.service_told hbefore hin hu⟩
      show ((s.board.service c f).m.column c).inService = true
      rw [ha]
      exact hin

/-- Settles O48. -/
theorem reportsAndReasonsFollowed : Obligations.ReportsAndReasonsFollowed := ⟨rowReportsRecorded, outReasonsChangeService⟩

end Sys2Proof.Machine

/-! The events that an operation raises, and the suspension of the matrix (R108; O49). -/

namespace Sys2Proof.Machine

/-! ### The events of the matrix controller's operations -/

namespace Outbox

theorem Tells.voice {o p : Outbox} (h : Outbox.Tells o p) : p.voice = o.voice := by
  obtain ⟨is, -, rfl⟩ := h
  rfl

end Outbox

/-- Between two states just the events of a list are raised. -/
theorem raises_of_voice {s t : State} {es : List Event} (h : t.out.voice = es.foldl Outbox.raise s.out.voice) :
    Claims.raises s t es := by
  rw [← Outbox.voice_foldl_raise, Outbox.voice_eq_iff] at h
  exact ⟨h.1, h.2.2.1, h.2.2.2⟩

/-! ### A drive stopped by the suspension (R108) -/

/-- The crosspoint of a drive, and the transmitter that asked for it. -/
abbrev DriveName := Tx × Col × Tx

theorem Board.suspendDrive_point (b : Board) (d : DriveName) (u : Tx) (e : Col) :
    (b.suspendDrive d).m.point u e =
      if u = d.1 ∧ e = d.2.1 then { b.m.point d.1 d.2.1 with state := .unknown, drive := none } else b.m.point u e :=
  Board.stopDrive_point b d.1 u d.2.1 e

theorem Board.suspendDrive_queue (b : Board) (d : DriveName) : (b.suspendDrive d).m.queue = b.m.queue := Board.setPoint_queue ..

theorem Board.suspendDrive_suspension (b : Board) (d : DriveName) : (b.suspendDrive d).m.suspension = b.m.suspension :=
  Board.setPoint_suspension ..

theorem Board.suspendDrive_tells (b : Board) (d : DriveName) :
    Outbox.Tells (b.o.send (.stop d.1 d.2.1)) (b.stopDrive d.1 d.2.1).o := Board.setPoint_tells ..

theorem Board.suspendDrive_voice (b : Board) (d : DriveName) : (b.suspendDrive d).o.voice = b.o.voice :=
  (b.suspendDrive_tells d).voice

theorem Board.suspendDrive_link (b : Board) (d : DriveName) :
    (b.suspendDrive d).o.link = b.o.link ++ [.stop d.1 d.2.1] := (b.suspendDrive_tells d).link

theorem Board.suspendDrive_answer (b : Board) (d : DriveName) :
    Instr.driveFailed d.2.2 d.1 d.2.1 .suspended ∈ (b.suspendDrive d).o.handed :=
  List.mem_append_right _ (List.mem_singleton.2 rfl)

theorem Board.suspendDrive_mem (b : Board) (d : DriveName) {i : Instr} (h : i ∈ b.o.handed) :
    i ∈ (b.suspendDrive d).o.handed := List.mem_append_left _ ((b.suspendDrive_tells d).mem h)

/-- The drives of a list stopped one after the other. -/
def Board.suspendDrives (ds : List DriveName) (b : Board) : Board := ds.foldl (fun b d => b.suspendDrive d) b

section
variable (ds : List DriveName) (b : Board)

theorem Board.suspendDrives_queue : (b.suspendDrives ds).m.queue = b.m.queue := by
  induction ds generalizing b with
  | nil => rfl
  | cons d ds ih => exact (ih _).trans (b.suspendDrive_queue d)

theorem Board.suspendDrives_suspension : (b.suspendDrives ds).m.suspension = b.m.suspension := by
  induction ds generalizing b with
  | nil => rfl
  | cons d ds ih => exact (ih _).trans (b.suspendDrive_suspension d)

theorem Board.suspendDrives_voice : (b.suspendDrives ds).o.voice = b.o.voice := by
  induction ds generalizing b with
  | nil => rfl
  | cons d ds ih => exact (ih _).trans (b.suspendDrive_voice d)

variable {ds b}

theorem Board.suspendDrives_mem {i : Instr} (h : i ∈ b.o.handed) : i ∈ (b.suspendDrives ds).o.handed := by
  induction ds generalizing b with
  | nil => exact h
  | cons d ds ih => exact ih (b.suspendDrive_mem d h)

theorem Board.suspendDrives_link_mem {x : MatrixOrder} (h : x ∈ b.o.link) : x ∈ (b.suspendDrives ds).o.link := by
  induction ds generalizing b with
  | nil => exact h
  | cons d ds ih => exact ih (by rw [Board.suspendDrive_link]; exact List.mem_append_left _ h)

/-- A crosspoint whose drive is stopped stays UNKNOWN without a drive. -/
theorem Board.suspendDrives_stopped {u : Tx} {e : Col}
    (h : (b.m.point u e).state = .unknown ∧ (b.m.point u e).drive = none) :
    ((b.suspendDrives ds).m.point u e).state = .unknown ∧ ((b.suspendDrives ds).m.point u e).drive = none := by
  induction ds generalizing b with
  | nil => exact h
  | cons d ds ih =>
    refine ih ?_
    rw [Board.suspendDrive_point]
    split
    · exact ⟨rfl, rfl⟩
    · exact h

/-- Each drive of the list is stopped and answered. -/
theorem Board.suspendDrives_each {d : DriveName} (h : d ∈ ds) :
    (((b.suspendDrives ds).m.point d.1 d.2.1).state = .unknown ∧ ((b.suspendDrives ds).m.point d.1 d.2.1).drive = none) ∧
      MatrixOrder.stop d.1 d.2.1 ∈ (b.suspendDrives ds).o.link ∧
      Instr.driveFailed d.2.2 d.1 d.2.1 .suspended ∈ (b.suspendDrives ds).o.handed := by
  induction ds generalizing b with
  | nil => cases h
  | cons x ds ih =>
    rcases List.mem_cons.1 h with rfl | h
    · refine ⟨Board.suspendDrives_stopped (ds := ds) (b := b.suspendDrive d) ?_,
        Board.suspendDrives_link_mem (ds := ds) (b := b.suspendDrive d) ?_,
        Board.suspendDrives_mem (ds := ds) (b.suspendDrive_answer d)⟩
      · rw [Board.suspendDrive_point, if_pos ⟨rfl, rfl⟩]
        exact ⟨rfl, rfl⟩
      · rw [Board.suspendDrive_link]
        exact List.mem_append_right _ (List.mem_singleton.2 rfl)
    · exact ih h

theorem Board.suspendDrives_other {u : Tx} {e : Col} (h : ∀ d ∈ ds, ¬ (u = d.1 ∧ e = d.2.1)) :
    (b.suspendDrives ds).m.point u e = b.m.point u e := by
  induction ds generalizing b with
  | nil => rfl
  | cons x ds ih =>
    refine (ih fun d hd => h d (List.mem_cons_of_mem _ hd)).trans ?_
    rw [Board.suspendDrive_point, if_neg (h x List.mem_cons_self)]

end

theorem Matrix.mem_drivesByTransmitter_of_drive {m : Matrix} {t : Tx} {c : Col} {d : Drive} (h : (m.point t c).drive = some d) :
    (t, c, d.t) ∈ m.drivesByTransmitter := by
  have hdrives : (t, c, d.t) ∈ m.drives :=
    List.mem_flatMap.2 ⟨t, mem_allTx t, List.mem_filterMap.2 ⟨c, mem_allCols c, by rw [h]; rfl⟩⟩
  exact List.mem_flatMap.2 ⟨d.t, mem_allTx _, List.mem_filter.2 ⟨hdrives, beq_self_eq_true _⟩⟩

theorem Matrix.driving_of_none {m : Matrix} (h : ∀ t c, (m.point t c).drive = none) : Claims.driving m = 0 := by
  have hdrives : m.drives = [] := by
    simp [Matrix.drives, h]
  rw [Claims.driving, hdrives]
  rfl

theorem Sources.add_not_empty (s : Sources) (a : Source) : (s.add a).empty = false := by
  cases a with
  | member m =>
    simp only [Sources.add, Sources.empty, beq_eq_false_iff_ne.2 (setBit_ne_zero s.members m.isLt), Bool.false_and]
  | emergency => simp [Sources.add, Sources.empty]
  | mains => simp [Sources.add, Sources.empty]

/-! ### A slot for the one request that waits (R103, R105) -/

theorem Board.startDrive_voice (travel : Nat) (r : SlotRequest) (b : Board) : (b.startDrive travel r).o.voice = b.o.voice := by
  cases h : b.m.startTest r with
  | fails why => rw [Board.startDrive_of_fails h]; rfl
  | already => rw [Board.startDrive_of_already h]; rfl
  | starts =>
    rw [Board.startDrive_of_starts h]
    exact (b.setPoint_tells ..).voice

theorem Board.startDrive_suspension (travel : Nat) (r : SlotRequest) (b : Board) :
    (b.startDrive travel r).m.suspension = b.m.suspension := by
  cases h : b.m.startTest r with
  | fails why => rw [Board.startDrive_of_fails h]
  | already => rw [Board.startDrive_of_already h]
  | starts =>
    rw [Board.startDrive_of_starts h]
    exact Board.setPoint_suspension ..

/-- With one request waiting and slots to grant, that request is given one. -/
theorem Board.grant_of_one {b : Board} {r : SlotRequest} (h : b.m.mayGrant = true) (hqueue : b.m.queue = [r])
    (travel : Nat) : b.grant travel = Board.startDrive travel r { b with m := { b.m with queue := [] } } := by
  rw [Board.grant_of_waiting h hqueue]
  exact Board.grant_nothing _ _ (Board.startDrive_queue ..)

theorem tookSlot_of_grant {s : State} {b : Board} {r : SlotRequest} (h : b.m.mayGrant = true) (hqueue : b.m.queue = [r])
    (travel : Nat) : Claims.tookSlot (s.putBoard (b.grant travel)) r b.m.free := by
  rw [Board.grant_of_one h hqueue]
  refine ⟨Board.startDrive_queue .., ?_⟩
  let b' : Board := { b with m := { b.m with queue := [] } }
  cases htest : b'.m.startTest r with
  | fails why =>
    refine .inr ⟨?_, .inr ⟨why, ?_⟩⟩
    · rw [Board.startDrive_of_fails htest]
      rfl
    · rw [Board.startDrive_of_fails htest]
      exact List.mem_append_right _ (List.mem_singleton.2 rfl)
  | already =>
    refine .inr ⟨?_, .inl ?_⟩
    · rw [Board.startDrive_of_already htest]
      rfl
    · rw [Board.startDrive_of_already htest]
      exact List.mem_append_right _ (List.mem_singleton.2 rfl)
  | starts =>
    obtain ⟨-, hfree, hlink, hhanded⟩ := Board.startDrive_starts htest travel
    have hpos : 0 < b.m.free := ((Matrix.mayGrant_iff _).1 h).1
    refine .inl ⟨hhanded, ?_, ?_⟩
    · show (b'.startDrive travel r).m.free + 1 = b.m.free
      rw [hfree]
      exact Nat.sub_add_cancel hpos
    · show _ ∈ (b'.startDrive travel r).o.link
      rw [hlink]
      exact List.mem_append_right _ (List.mem_singleton.2 rfl)

theorem Board.grant_voice_of_one {b : Board} {r : SlotRequest} (h : b.m.mayGrant = true) (hqueue : b.m.queue = [r])
    (travel : Nat) : (b.grant travel).o.voice = b.o.voice := by
  rw [Board.grant_of_one h hqueue, Board.startDrive_voice]

/-! ### The suspension set (R108) -/

theorem exec_suspensionSourceAdd {s : State} (hlive : Claims.live s) (a : Source) :
    exec (.suspensionSourceAdd a) s = .next (s.putBoard (s.board.suspend a)) := by
  show execSuspensionSourceAdd a s = _
  rw [execSuspensionSourceAdd, State.take_of_live hlive, State.onMatrix_eq]

theorem exec_suspensionSourceRemove {s : State} (hlive : Claims.live s) (r : Sources) :
    exec (.suspensionSourceRemove r) s = .next (s.putBoard (s.board.resume s.limits.travel r)) := by
  show execSuspensionSourceRemove r s = _
  rw [execSuspensionSourceRemove, State.take_of_live hlive, State.onMatrix_eq]

/-- The board with the suspension set replaced. -/
def Board.withSuspension (b : Board) (x : Sources) : Board := { b with m := { b.m with suspension := x } }

theorem Board.suspend_of_normal {b : Board} (h : b.m.suspension.empty = true) (a : Source) :
    b.suspend a =
      let n := (b.withSuspension (b.m.suspension.add a)).suspendDrives b.m.drivesByTransmitter
      { n with o := n.o.event .matrixSuspended .none (b1 a.code) } :=
  if_neg (by simp [Matrix.suspended, h])

theorem Board.suspend_of_suspended {b : Board} (h : b.m.suspension.empty = false) (a : Source) :
    b.suspend a = b.withSuspension (b.m.suspension.add a) :=
  if_pos (by simp [Matrix.suspended, h])

theorem Board.resume_eq (travel : Nat) (r : Sources) (b : Board) : b.resume travel r =
    if b.m.suspension.empty = false ∧ (b.m.suspension.remove r).empty = true then
      Board.grant travel { m := (b.withSuspension (b.m.suspension.remove r)).m, o := b.o.event .matrixResumed .none [] }
    else b.withSuspension (b.m.suspension.remove r) :=
  if_congr (by simp [Matrix.suspended]) rfl rfl

theorem matrixSuspends (a : Source) (s : State) (hlive : Claims.live s) (hnormal : s.matrix.suspension.empty = true)
    (hslots : Claims.slotsBalanced s.matrix) :
    ∃ n, exec (.suspensionSourceAdd a) s = .next n ∧ n.matrix.suspension = s.matrix.suspension.add a ∧
      n.matrix.suspended = true ∧ Claims.driving n.matrix = 0 ∧ n.matrix.free = 3 ∧ n.matrix.queue = s.matrix.queue ∧
      Claims.raises s n [{ kind := .matrixSuspended, subject := .none, detail := b1 a.code }] ∧
      ∀ t c d, (s.matrix.point t c).drive = some d → n.matrix.xstate t c = .unknown ∧
        MatrixOrder.stop t c ∈ n.out.link ∧ Instr.driveFailed d.t t c .suspended ∈ n.out.handed := by
  have hbalanced : Claims.slotsBalanced (s.board.suspend a).m := (s.board.suspend_works a).matrix.slots hslots
  have hsuspend := Board.suspend_of_normal (b := s.board) hnormal a
  dsimp only at hsuspend
  have heach := fun t c d (hd : (s.matrix.point t c).drive = some d) =>
    Board.suspendDrives_each (b := s.board.withSuspension (s.board.m.suspension.add a))
      (ds := s.board.m.drivesByTransmitter) (Matrix.mem_drivesByTransmitter_of_drive hd)
  have hnone : ∀ t c, ((s.board.suspend a).m.point t c).drive = none := fun t c => by
    rw [hsuspend]
    cases hd : (s.matrix.point t c).drive with
    | some d => exact (heach t c d hd).1.2
    | none =>
      refine (congrArg Crosspoint.drive (Board.suspendDrives_other fun x hx hat => ?_)).trans hd
      have hdrive := Matrix.mem_drives (Matrix.mem_drivesByTransmitter hx)
      rw [← hat.1, ← hat.2] at hdrive
      rw [show (s.board.m.point t c).drive = none from hd] at hdrive
      cases hdrive
  have hdriving := Matrix.driving_of_none hnone
  have hsuspension : (s.board.suspend a).m.suspension = s.matrix.suspension.add a := by
    rw [hsuspend]
    exact Board.suspendDrives_suspension ..
  refine ⟨_, exec_suspensionSourceAdd hlive a, hsuspension, ?_, hdriving, ?_, ?_, raises_of_voice ?_, fun t c d hd => ?_⟩
  · show (!(s.board.suspend a).m.suspension.empty) = true
    rw [hsuspension, Sources.add_not_empty]
    rfl
  · have := hbalanced.2
    rw [hdriving] at this
    exact this
  · show (s.board.suspend a).m.queue = _
    rw [hsuspend]
    exact Board.suspendDrives_queue ..
  · show (s.board.suspend a).o.voice = _
    rw [hsuspend, Outbox.voice_event, Board.suspendDrives_voice]
    rfl
  · have h := heach t c d hd
    show (s.board.suspend a).m.xstate t c = _ ∧ _ ∈ (s.board.suspend a).o.link ∧ _ ∈ (s.board.suspend a).o.handed
    rw [hsuspend]
    exact ⟨h.1.1, h.2.1, h.2.2⟩

/-- Settles O49. -/
theorem suspensionStopsTheMatrix : Obligations.SuspensionStopsTheMatrix := by
  refine ⟨matrixSuspends, fun a s hlive hsuspended => ?_, fun g r s hlive hqueue hgranting hfree hsuspended hempty => ?_,
    fun r s hlive hqueue => ?_⟩
  · rw [exec_suspensionSourceAdd hlive, Board.suspend_of_suspended hsuspended]
    rfl
  · have hresume := s.board.resume_eq s.limits.travel g
    rw [if_pos ⟨hsuspended, hempty⟩] at hresume
    have hexec := exec_suspensionSourceRemove hlive g
    rw [hresume] at hexec
    let b : Board :=
      { m := (s.board.withSuspension (s.matrix.suspension.remove g)).m, o := s.out.event .matrixResumed .none [] }
    have hgrant : b.m.mayGrant = true := (Matrix.mayGrant_iff _).2 ⟨hfree, hempty, hgranting⟩
    refine ⟨_, hexec, ?_, raises_of_voice ?_, tookSlot_of_grant (b := b) hgrant hqueue _⟩
    · show (b.grant s.limits.travel).m.suspension = _
      rw [Board.grant_of_one hgrant hqueue, Board.startDrive_suspension]
      rfl
    · show (b.grant s.limits.travel).o.voice = _
      rw [Board.grant_voice_of_one hgrant hqueue]
      rfl
  · intro left
    rw [exec_suspensionSourceRemove hlive, Board.resume_eq]
    refine congrArg _ ((s.putBoard_ite _ _ _).trans (if_congr Iff.rfl ?_ rfl))
    rw [Board.grant_nothing _ _ hqueue]
    rfl

end Sys2Proof.Machine

/-! Position reports, completed and expired drives (R94-R96, R106, R107; O47). -/

namespace Sys2Proof.Machine

/-! ### A crosspoint placed, with its column following (R96, R98) -/

/-- A crosspoint set to a state with a drive or none, its column given a holder; then the column follows. -/
def Board.placed (t : Tx) (c : Col) (x : XState) (w : Option Drive) (holder : Option Tx) (b : Board) : Board :=
  Board.settle c x { b with
    m := (b.m.onPoint t c fun p => { p with state := x, drive := w }).onColumn c fun k => { k with holder := holder } }

theorem Board.setPoint_eq (b : Board) (t : Tx) (c : Col) (x : XState) (w : Option Drive) :
    ∃ holder, b.setPoint t c x w = b.placed t c x w holder := ⟨_, rfl⟩

theorem Board.completePoint_eq (b : Board) (t : Tx) (c : Col) (d : Direction) :
    ∃ holder, b.completePoint t c d = b.placed t c d.reached none holder ∧ (d = .closing → holder = some t) := by
  cases d with
  | opening => exact ⟨_, rfl, nofun⟩
  | closing => exact ⟨some t, rfl, fun _ => rfl⟩

section
variable (b : Board) (t : Tx) (c : Col) (x : XState) (w : Option Drive) (holder : Option Tx)

/-- The matrix before its column's reasons and claims follow the crosspoint. -/
def Board.placing : Board :=
  { b with
    m := (b.m.onPoint t c fun p => { p with state := x, drive := w }).onColumn c fun k => { k with holder := holder } }

theorem Board.placing_point (u : Tx) (e : Col) : (b.placing t c x w holder).m.point u e =
    if u = t ∧ e = c then { b.m.point t c with state := x, drive := w } else b.m.point u e :=
  Matrix.onPoint_point b.m t u c e fun p => { p with state := x, drive := w }

theorem Board.placing_column : (b.placing t c x w holder).m.column c = { b.m.column c with holder := holder } :=
  Matrix.onColumn_column_same ..

theorem Board.placed_point (u : Tx) (e : Col) : (b.placed t c x w holder).m.point u e =
    if u = t ∧ e = c then { b.m.point t c with state := x, drive := w } else b.m.point u e :=
  (congrFun (congrFun (Board.settle_point ..) u) e).trans (b.placing_point t c x w holder u e)

theorem Board.placed_rows : (b.placed t c x w holder).m.rows = b.m.rows := by simp [Board.placed, Board.settle]
theorem Board.placed_queue : (b.placed t c x w holder).m.queue = b.m.queue := by simp [Board.placed, Board.settle]
theorem Board.placed_free : (b.placed t c x w holder).m.free = b.m.free := by simp [Board.placed, Board.settle]
theorem Board.placed_suspension : (b.placed t c x w holder).m.suspension = b.m.suspension := by simp [Board.placed, Board.settle]
theorem Board.placed_granting : (b.placed t c x w holder).m.granting = b.m.granting := by simp [Board.placed, Board.settle]

theorem Board.positionReason_tells : Outbox.Tells b.o (b.positionReason c x).o := by
  unfold Board.positionReason
  split
  · exact Board.service_tells _ c _
  · split
    · exact Board.service_tells _ c _
    · exact .refl _

theorem Board.placed_tells : Outbox.Tells b.o (b.placed t c x w holder).o :=
  .trans ((b.placing t c x w holder).positionReason_tells c x) (Board.pass_tells _ c)

/-- The reason POSITION of a column one of whose crosspoints has become `x` (R96). -/
def Board.positionOf : Bool :=
  if x = .unknown then true else if x.known && b.m.columnKnown c then false else (b.m.column c).position

theorem Board.positionReason_column :
    ∃ a, (b.positionReason c x).m.column c = { b.m.column c with position := b.positionOf c x, claimant := a } := by
  unfold Board.positionReason Board.positionOf
  split
  · exact b.service_column c _
  · split
    · exact b.service_column c _
    · exact ⟨_, rfl⟩

theorem Board.placed_column : ∃ a, (b.placed t c x w holder).m.column c =
    { b.m.column c with holder := holder, position := (b.placing t c x w holder).positionOf c x, claimant := a } := by
  obtain ⟨a, ha⟩ := (b.placing t c x w holder).positionReason_column c x
  obtain ⟨a', ha'⟩ := ((b.placing t c x w holder).positionReason c x).pass_column c c
  refine ⟨a', ha'.trans ?_⟩
  rw [ha, Board.placing_column]

theorem Board.placed_holder : ((b.placed t c x w holder).m.column c).holder = holder := by
  obtain ⟨a, ha⟩ := b.placed_column t c x w holder
  rw [ha]

theorem Board.placed_position :
    ((b.placed t c x w holder).m.column c).position = (b.placing t c x w holder).positionOf c x := by
  obtain ⟨a, ha⟩ := b.placed_column t c x w holder
  rw [ha]

variable {b t c x w holder}

/-- Every crosspoint of the column is known, once the one placed is (R96). -/
theorem Board.placing_columnKnown (hx : x.known = true) : (b.placing t c x w holder).m.columnKnown c = true ↔
    ∀ u, u ≠ t → b.m.xstate u c = .opened ∨ b.m.xstate u c = .closed := by
  simp only [Matrix.columnKnown, List.all_eq_true, mem_allTx, forall_const, Matrix.xstate, Board.placing_point, and_true]
  refine forall_congr' fun u => ?_
  by_cases hu : u = t
  · simp [hu, hx]
  · simp [hu, XState.known_iff]

/-- A column whose last reason POSITION goes comes into service, and its claimant and holder are told (R96, R99). -/
theorem Board.placed_restored (hx : x.known = true) (hknown : (b.placing t c x w holder).m.columnKnown c = true)
    (hold : (b.m.column c).position = true) (hw : (b.m.column c).withdrawn = false) (hs : (b.m.column c).suspect = false)
    (hg : (b.m.column c).gates = 0) : ((b.placed t c x w holder).m.column c).inService = true ∧
      ∀ u, ((b.m.column c).claimant = some u ∨ holder = some u) →
        Instr.serviceChanged u c true ∈ (b.placed t c x w holder).o.handed := by
  have hx' : x ≠ .unknown := by
    rintro rfl
    cases hx
  have hposition : (b.placing t c x w holder).positionOf c x = false := by
    rw [Board.positionOf, if_neg hx', hx, hknown]
    rfl
  refine ⟨?_, fun u hu => ?_⟩
  · obtain ⟨a, ha⟩ := b.placed_column t c x w holder
    rw [ha, Column.inService_iff]
    exact ⟨hw, hs, hposition, hg⟩
  · have hreason : (b.placing t c x w holder).positionReason c x =
        (b.placing t c x w holder).service c fun k => { k with position := false } := by
      rw [Board.positionReason, if_neg hx', hx, hknown]
      rfl
    refine (Board.pass_tells ((b.placing t c x w holder).positionReason c x) c).mem ?_
    rw [hreason]
    refine Board.service_told ?_ ?_ ?_
    · rw [Board.placing_column, ← Bool.not_eq_true, Column.inService_iff]
      exact fun h => absurd hold (by rw [h.2.2.1]; decide)
    · rw [Board.placing_column, Column.inService_iff]
      exact ⟨hw, hs, rfl, hg⟩
    · rw [Board.placing_column]
      exact hu

end

/-! ### POSITION (R93-R95) -/

/-- The board with a crosspoint's reported contacts noted (R93). -/
def Board.noted (t : Tx) (c : Col) (k : Contacts) (b : Board) : Board :=
  { b with m := b.m.onPoint t c fun p => { p with contacts := some k } }

section
variable (b : Board) (t : Tx) (c : Col) (k : Contacts)

theorem Board.noted_point (u : Tx) (e : Col) : (b.noted t c k).m.point u e =
    if u = t ∧ e = c then { b.m.point t c with contacts := some k } else b.m.point u e := Matrix.onPoint_point ..

theorem Board.noted_xstate (u : Tx) (e : Col) : (b.noted t c k).m.xstate u e = b.m.xstate u e := by
  rw [Matrix.xstate, Board.noted_point]
  split
  next h => rw [h.1, h.2]; rfl
  · rfl

theorem Board.noted_drive : ((b.noted t c k).m.point t c).drive = (b.m.point t c).drive := by
  rw [Board.noted_point, if_pos ⟨rfl, rfl⟩]

theorem Board.position_eq (travel : Nat) : b.position travel t c k =
    if (b.m.xstate t c).moving then
      if (b.m.xstate t c).reachedBy k then (b.noted t c k).confirmDrive travel t c else b.noted t c k
    else if b.m.xstate t c = k.state then b.noted t c k
    else (b.noted t c k).strayOrResolved t c k.state := rfl

variable {b t c}

/-- A drive that its contacts complete, before its slot goes on (R106). -/
def Board.completed (t : Tx) (c : Col) (d : Drive) (b : Board) : Board :=
  { m := (b.completePoint t c (b.m.xstate t c).direction).m.returnSlot
    o := (b.completePoint t c (b.m.xstate t c).direction).o.hand (.driveDone d.t t c) }

theorem Board.confirmDrive_of_drive {d : Drive} (h : (b.m.point t c).drive = some d) (travel : Nat) :
    b.confirmDrive travel t c = (b.completed t c d).grant travel := by
  unfold Board.confirmDrive
  dsimp only
  rw [h]
  rfl

theorem Board.confirmDrive_of_none (h : (b.m.point t c).drive = none) (travel : Nat) : b.confirmDrive travel t c = b := by
  unfold Board.confirmDrive
  dsimp only
  rw [h]

/-- A report outside a drive changes a crosspoint, before its faults are handed (R95). -/
def Board.strayed (t : Tx) (c : Col) (x : XState) (b : Board) : Board :=
  Board.setPoint t c x none { b with
    o := if b.m.xstate t c = .unknown then b.o else b.o.event .strayMove (.column c) (b1 t.val ++ b1 x.code) }

theorem Board.strayOrResolved_eq (x : XState) : b.strayOrResolved t c x =
    if b.m.xstate t c = .unknown ∧ x = .opened then b.strayed t c x
    else (b.strayed t c x).faults t (b.m.column c).holder := rfl

end

theorem exec_position {s : State} (hlive : Claims.live s) (hdone : s.boot.phase = .done) (t : Tx) (c : Col) (k : Contacts) :
    exec (.position t c k) s = .next (s.putBoard (s.board.position s.limits.travel t c k)) := by
  show execPosition t c k s = _
  rw [execPosition, State.take_of_live hlive]
  exact congrArg _ (if_neg fun h => absurd (show s.boot.phase = .table from h.1) (by rw [hdone]; decide))

theorem Contacts.state_eq (k : Contacts) :
    (match k with | .openContact => XState.opened | .closedContact => .closed | _ => .unknown) = k.state := by
  cases k <;> rfl

theorem XState.reachedBy_iff {x : XState} (hx : x.moving = true) (k : Contacts) :
    x.reachedBy k = true ↔ k.state = if x = .movingOpen then .opened else .closed := by
  cases x <;> cases k <;> simp_all [XState.reachedBy, Contacts.state, XState.moving]

theorem XState.direction_reached {x : XState} (hx : x.moving = true) :
    x.direction.reached = if x = .movingOpen then .opened else .closed := by
  cases x <;> simp_all [XState.direction, Direction.reached, XState.moving]

/-! ### A completed drive (R106) -/

section
variable (b : Board) (t : Tx) (c : Col) (d : Drive)

theorem Board.completed_point (u : Tx) (e : Col) : (b.completed t c d).m.point u e =
    if u = t ∧ e = c then { b.m.point t c with state := (b.m.xstate t c).direction.reached, drive := none }
    else b.m.point u e := Board.completePoint_point ..

theorem Board.completed_queue : (b.completed t c d).m.queue = b.m.queue := by
  obtain ⟨holder, h, -⟩ := b.completePoint_eq t c (b.m.xstate t c).direction
  exact (congrArg (·.m.queue) h).trans (Board.placed_queue ..)

theorem Board.completed_suspension : (b.completed t c d).m.suspension = b.m.suspension := by
  obtain ⟨holder, h, -⟩ := b.completePoint_eq t c (b.m.xstate t c).direction
  exact (congrArg (·.m.suspension) h).trans (Board.placed_suspension ..)

theorem Board.completed_granting : (b.completed t c d).m.granting = b.m.granting := by
  obtain ⟨holder, h, -⟩ := b.completePoint_eq t c (b.m.xstate t c).direction
  exact (congrArg (·.m.granting) h).trans (Board.placed_granting ..)

theorem Board.completed_free : (b.completed t c d).m.free = b.m.free + 1 := by
  obtain ⟨holder, h, -⟩ := b.completePoint_eq t c (b.m.xstate t c).direction
  exact congrArg (· + 1) ((congrArg (·.m.free) h).trans (Board.placed_free ..))

theorem Board.completed_voice : (b.completed t c d).o.voice = b.o.voice := by
  obtain ⟨holder, h, -⟩ := b.completePoint_eq t c (b.m.xstate t c).direction
  exact (congrArg (·.o.voice) h).trans (Board.placed_tells ..).voice

theorem Board.completed_answer : Instr.driveDone d.t t c ∈ (b.completed t c d).o.handed :=
  List.mem_append_right _ (List.mem_singleton.2 rfl)

variable {b t c d}

theorem Board.completed_holder (h : b.m.xstate t c = .movingClose) : ((b.completed t c d).m.column c).holder = some t := by
  obtain ⟨holder, hplaced, hclosing⟩ := b.completePoint_eq t c (b.m.xstate t c).direction
  have hcolumn : (b.completed t c d).m.column c = ((b.placed t c (b.m.xstate t c).direction.reached none holder).m).column c :=
    congrArg (·.m.column c) hplaced
  rw [hcolumn, Board.placed_holder]
  exact hclosing (by rw [h]; rfl)

end

/-! ### A report outside a drive (R95) -/

section
variable (b : Board) (t : Tx) (c : Col) (x : XState)

/-- STRAY_MOVE of a report, for a crosspoint that was known (R95). -/
def Board.strayMoves : List Event :=
  if b.m.xstate t c = .unknown then []
  else [{ kind := .strayMove, subject := .column c, detail := b1 t.val ++ b1 x.code }]

theorem Board.strayed_eq : ∃ holder, b.strayed t c x = Board.placed t c x none holder
    { b with o := (b.strayMoves t c x).foldl Outbox.raise b.o } := by
  unfold Board.strayed Board.strayMoves
  split
  · exact Board.setPoint_eq ..
  · exact Board.setPoint_eq ..

theorem Board.strayOrResolved_m : (b.strayOrResolved t c x).m = (b.strayed t c x).m := by
  rw [Board.strayOrResolved_eq]
  split <;> rfl

theorem Board.strayOrResolved_voice : (b.strayOrResolved t c x).o.voice = (b.strayMoves t c x).foldl Outbox.raise b.o.voice := by
  have hvoice : (b.strayOrResolved t c x).o.voice = (b.strayed t c x).o.voice := by
    rw [Board.strayOrResolved_eq]
    split <;> rfl
  obtain ⟨holder, h⟩ := b.strayed_eq t c x
  rw [hvoice, h, (Board.placed_tells ..).voice, Outbox.voice_foldl_raise]

end

/-! ### What POSITION does (R94, R95, R106) -/

theorem positionsFollowed : Claims.PositionsFollowed := by
  intro t c k s hlive hdone hqueue m x target seen
  have hseen : seen = k.state := Contacts.state_eq k
  have hexec := exec_position hlive hdone t c k
  have hposition : s.board.position s.limits.travel t c k =
      if x.moving then
        if x.reachedBy k then (s.board.noted t c k).confirmDrive s.limits.travel t c else s.board.noted t c k
      else if x = k.state then s.board.noted t c k else (s.board.noted t c k).strayOrResolved t c k.state :=
    s.board.position_eq t c k s.limits.travel
  have hx : (s.board.noted t c k).m.xstate t c = x := s.board.noted_xstate t c k t c
  have hother : ∀ u e, (u ≠ t ∨ e ≠ c) → (s.board.noted t c k).m.point u e = m.point u e := fun u e hne =>
    (s.board.noted_point t c k u e).trans (if_neg fun h => hne.elim (fun hu => hu h.1) fun he => he h.2)
  have hself : (s.board.noted t c k).m.point t c = { m.point t c with contacts := some k } :=
    (s.board.noted_point t c k t c).trans (if_pos ⟨rfl, rfl⟩)
  cases hmoving : x.moving with
  | true =>
    rw [if_pos hmoving] at hposition
    by_cases hk : seen = target
    · rw [if_pos ((XState.reachedBy_iff hmoving k).2 (hseen.symm.trans hk))] at hposition
      cases hdrive : (m.point t c).drive with
      | none =>
        have hnone : ((s.board.noted t c k).m.point t c).drive = none := hself ▸ hdrive
        rw [Board.confirmDrive_of_none hnone] at hposition
        rw [hposition] at hexec
        exact ⟨_, hexec, congrArg Crosspoint.contacts hself, hother, nofun, fun _ h => absurd hk h, nofun, nofun⟩
      | some d =>
        have hsome : ((s.board.noted t c k).m.point t c).drive = some d := hself ▸ hdrive
        rw [Board.confirmDrive_of_drive hsome,
          Board.grant_nothing _ _ ((Board.completed_queue ..).trans hqueue)] at hposition
        rw [hposition] at hexec
        have hpoint := (s.board.noted t c k).completed_point t c d
        have hcompleted := (hpoint t c).trans (if_pos ⟨rfl, rfl⟩)
        refine ⟨_, hexec, ?_, fun u e hne => ?_, ?_, fun _ h => absurd hk h, nofun, nofun⟩
        · exact (congrArg Crosspoint.contacts hcompleted).trans (congrArg Crosspoint.contacts hself)
        · exact ((hpoint u e).trans (if_neg fun h => hne.elim (fun hu => hu h.1) fun he => he h.2)).trans (hother u e hne)
        · rintro d' - hd' -
          obtain rfl := Option.some.inj hd'
          refine ⟨?_, congrArg Crosspoint.drive hcompleted,
            (s.board.noted t c k).completed_free t c d, fun hclose => ?_,
            raises_of_voice (Board.completed_voice ..), Board.completed_answer ..⟩
          · refine (congrArg Crosspoint.state hcompleted).trans ?_
            rw [hx]
            exact XState.direction_reached hmoving
          · exact Board.completed_holder (d := d) (hx.trans hclose)
    · rw [if_neg fun h => hk (hseen.trans ((XState.reachedBy_iff hmoving k).1 h))] at hposition
      rw [hposition] at hexec
      refine ⟨_, hexec, congrArg Crosspoint.contacts hself, hother, fun _ _ _ h => absurd h hk,
        fun _ _ => ⟨hx, (congrArg Crosspoint.drive hself).trans rfl, rfl⟩, nofun, nofun⟩
  | false =>
    rw [if_neg (by rw [hmoving]; decide)] at hposition
    by_cases hsame : seen = x
    · rw [if_pos (hsame.symm.trans hseen)] at hposition
      rw [hposition] at hexec
      exact ⟨_, hexec, congrArg Crosspoint.contacts hself, hother, nofun, nofun, fun _ _ => ⟨hx, rfl⟩,
        fun _ h => absurd hsame h⟩
    · rw [if_neg fun h => hsame (hseen.trans h.symm)] at hposition
      rw [hposition] at hexec
      obtain ⟨holder, hstrayed⟩ := (s.board.noted t c k).strayed_eq t c k.state
      have hm := ((s.board.noted t c k).strayOrResolved_m t c k.state).trans (congrArg Board.m hstrayed)
      have hpoint := fun u e => (congrArg (·.point u e) hm).trans (Board.placed_point _ t c k.state none holder u e)
      have hplaced := (hpoint t c).trans (if_pos ⟨rfl, rfl⟩)
      refine ⟨_, hexec, ?_, fun u e hne => ?_, nofun, nofun, fun _ h => absurd h hsame, fun _ _ => ⟨?_, ?_, fun hunknown => ?_,
        raises_of_voice ?_⟩⟩
      · exact (congrArg Crosspoint.contacts hplaced).trans (congrArg Crosspoint.contacts hself)
      · exact ((hpoint u e).trans (if_neg fun h => hne.elim (fun hu => hu h.1) fun he => he h.2)).trans (hother u e hne)
      · exact (congrArg Crosspoint.state hplaced).trans hseen.symm
      · exact (congrArg Matrix.free hm).trans (Board.placed_free ..)
      · refine (congrArg (fun m => (m.column c).position) hm).trans ((Board.placed_position ..).trans ?_)
        rw [Board.positionOf, if_pos (hseen.symm.trans hunknown)]
      · refine ((s.board.noted t c k).strayOrResolved_voice t c k.state).trans ?_
        unfold Board.strayMoves
        rw [hx, ← hseen]
        rfl

end Sys2Proof.Machine

/-! The faults and reasons that follow a position report, travel expiry, and the slots returned (R95, R96, R103, R107;
O47). -/

namespace Sys2Proof.Machine

/-! ### Faults handed (R95) -/

/-- The messages of the faults of a report: to the row's transmitter and to the former holder, each where it is live. -/
def Board.faultMessages (t : Tx) (former : Option Tx) (b : Board) : List Instr :=
  ((match former with
    | some h => if h = t then [t] else [t, h]
    | none => [t]).filter fun u => (b.m.row u).condition.live).map fun u => .matrixFault u

theorem Board.faults_eq (t : Tx) (former : Option Tx) (b : Board) :
    b.faults t former = { b with o := b.o.handAll (b.faultMessages t former) } := rfl

theorem Board.mem_faultMessages {t : Tx} {former : Option Tx} {b : Board} {u : Tx} :
    Instr.matrixFault u ∈ b.faultMessages t former ↔ (u = t ∨ former = some u) ∧ (b.m.row u).condition.live = true := by
  have htold : u ∈ (match former with | some h => if h = t then [t] else [t, h] | none => [t]) ↔ u = t ∨ former = some u := by
    cases former with
    | none => simp
    | some h =>
      by_cases hh : h = t
      · simp [hh, eq_comm]
      · simp [hh, eq_comm]
  simp only [Board.faultMessages, List.mem_map, List.mem_filter, Instr.matrixFault.injEq, exists_eq_right]
  exact and_congr_left' htold

theorem RowCondition.live_iff (r : RowCondition) : r.live = true ↔ r = .ramp ∨ r = .onAir ∨ r = .held ∨ r = .tripped := by
  cases r <;> simp [RowCondition.live]

theorem Outbox.foldl_raise_handed (es : List Event) (o : Outbox) : (es.foldl Outbox.raise o).handed = o.handed := by
  induction es generalizing o with
  | nil => rfl
  | cons e es ih => exact ih _

/-- A report outside a drive that changes its crosspoint. -/
theorem Board.position_of_stray {b : Board} {t : Tx} {c : Col} {k : Contacts} (hstill : (b.m.xstate t c).moving = false)
    (hnew : k.state ≠ b.m.xstate t c) (travel : Nat) :
    b.position travel t c k = (b.noted t c k).strayOrResolved t c k.state := by
  rw [Board.position_eq, if_neg (by rw [hstill]; decide), if_neg fun h => hnew h.symm]

theorem positionFaultsHanded : Claims.PositionFaultsHanded := by
  intro t c k s hlive hdone m x seen exposed hstill hnew
  have hseen : seen = k.state := Contacts.state_eq k
  have hexec := exec_position hlive hdone t c k
  rw [Board.position_of_stray (b := s.board) hstill (hseen ▸ hnew), Board.strayOrResolved_eq] at hexec
  have hx : (s.board.noted t c k).m.xstate t c = x := s.board.noted_xstate t c k t c
  obtain ⟨holder, hstrayed⟩ := (s.board.noted t c k).strayed_eq t c k.state
  have hrows : ((s.board.noted t c k).strayed t c k.state).m.rows = m.rows := by
    rw [hstrayed, Board.placed_rows]
    rfl
  obtain ⟨is, his, hout⟩ : Outbox.Tells _ ((s.board.noted t c k).strayed t c k.state).o := hstrayed ▸ Board.placed_tells ..
  have hhanded : ((s.board.noted t c k).strayed t c k.state).o.handed = s.out.handed ++ is := by
    rw [hout, Outbox.handAll_handed, Outbox.foldl_raise_handed]
    rfl
  have hnone : ∀ u, Instr.matrixFault u ∉ is := fun u hu => by cases his _ hu
  by_cases hresolved : x = .unknown ∧ seen = .opened
  · rw [if_pos ⟨hx.trans hresolved.1, hseen.symm.trans hresolved.2⟩] at hexec
    exact ⟨_, is, hexec, hhanded, fun u => ⟨fun h => absurd h (hnone u), fun h => absurd hresolved h.2.2⟩⟩
  · rw [if_neg fun h => hresolved ⟨hx.symm.trans h.1, hseen.trans h.2⟩, Board.faults_eq] at hexec
    refine ⟨_, is ++ Board.faultMessages t (m.column c).holder ((s.board.noted t c k).strayed t c k.state), hexec, ?_, fun u => ?_⟩
    · rw [← List.append_assoc, ← hhanded]
      rfl
    · have hrow : ((s.board.noted t c k).strayed t c k.state).m.row u = m.row u := congrArg (·.get u) hrows
      rw [List.mem_append, or_iff_right (hnone u), Board.mem_faultMessages, hrow, RowCondition.live_iff]
      exact ⟨fun h => ⟨h.1, h.2, hresolved⟩, fun h => ⟨h.1, h.2.1⟩⟩

/-! ### The reason POSITION (R96) -/

section
variable {b : Board} {t : Tx} {c : Col} {x : XState} {w : Option Drive} {holder : Option Tx}

/-- The reason POSITION of a column that has it, once a crosspoint of it is known: it goes exactly where the others are
known too, and with it the last reason of a column is told. -/
theorem Board.placed_reason (hx : x.known = true) (hold : (b.m.column c).position = true) :
    let rest : Prop := ∀ u, u ≠ t → b.m.xstate u c = .opened ∨ b.m.xstate u c = .closed
    let n := b.placed t c x w holder
    (¬ rest → (n.m.column c).position = true) ∧
    (rest → (n.m.column c).position = false ∧
      ((b.m.column c).withdrawn = false → (b.m.column c).suspect = false → (b.m.column c).gates = 0 →
        (n.m.column c).inService = true ∧
        ∀ u, ((b.m.column c).claimant = some u ∨ (n.m.column c).holder = some u) →
          Instr.serviceChanged u c true ∈ n.o.handed)) := by
  intro rest n
  have hx' : x ≠ .unknown := by
    rintro rfl
    cases hx
  have hrest : (b.placing t c x w holder).m.columnKnown c = true ↔ rest := Board.placing_columnKnown hx
  have hposition : (n.m.column c).position =
      if (b.placing t c x w holder).m.columnKnown c then false else true := by
    refine (Board.placed_position ..).trans ?_
    rw [Board.positionOf, if_neg hx', hx, Bool.true_and, Board.placing_column]
    exact if_congr Iff.rfl rfl hold
  refine ⟨fun h => hposition.trans (if_neg (mt hrest.1 h)), fun h => ⟨hposition.trans (if_pos (hrest.2 h)), fun hw hs hg => ?_⟩⟩
  rw [show (n.m.column c).holder = holder from Board.placed_holder ..]
  exact Board.placed_restored hx (hrest.2 h) hold hw hs hg

end

theorem Contacts.known_iff (k : Contacts) : k.state.known = true ↔ k = .openContact ∨ k = .closedContact := by
  cases k <;> simp [Contacts.state, XState.known]

/-- The crosspoints beside the one reported are as they were. -/
theorem Board.noted_rest (b : Board) (t : Tx) (c : Col) (k : Contacts) :
    (∀ u, u ≠ t → (b.noted t c k).m.xstate u c = .opened ∨ (b.noted t c k).m.xstate u c = .closed) ↔
      ∀ u, u ≠ t → b.m.xstate u c = .opened ∨ b.m.xstate u c = .closed := by
  simp only [Board.noted_xstate]

theorem positionReasonRemoved : Claims.PositionReasonRemoved := by
  intro t c k s hlive hdone hqueue m x old resolves completes rest hold hchange
  have hexec := exec_position hlive hdone t c k
  have hrest := s.board.noted_rest t c k
  rcases hchange with ⟨hstill, hk⟩ | ⟨hdrive, hk⟩
  · have hknown : k.state.known = true := (Contacts.known_iff k).2 (hk.imp And.left And.left)
    have hnew : k.state ≠ x := by
      rcases hk with ⟨rfl, hne⟩ | ⟨rfl, hne⟩ <;> exact hne.symm
    rw [Board.position_of_stray (b := s.board) hstill hnew] at hexec
    obtain ⟨holder, hstrayed⟩ := (s.board.noted t c k).strayed_eq t c k.state
    have hm := ((s.board.noted t c k).strayOrResolved_m t c k.state).trans (congrArg Board.m hstrayed)
    have hcolumn := congrArg (·.column c) hm
    have hmem : ∀ i ∈ ((s.board.noted t c k).strayed t c k.state).o.handed,
        i ∈ ((s.board.noted t c k).strayOrResolved t c k.state).o.handed := fun i hi => by
      rw [Board.strayOrResolved_eq]
      split
      · exact hi
      · exact List.mem_append_left _ hi
    obtain ⟨hnot, hgone⟩ := Board.placed_reason (t := t) (c := c) (w := none) (holder := holder)
      (b := { s.board.noted t c k with
        o := ((s.board.noted t c k).strayMoves t c k.state).foldl Outbox.raise (s.board.noted t c k).o }) hknown hold
    refine ⟨_, hexec, fun h => (congrArg Column.position hcolumn).trans (hnot (mt hrest.1 h)), fun h => ?_⟩
    obtain ⟨hposition, htold⟩ := hgone (hrest.2 h)
    refine ⟨(congrArg Column.position hcolumn).trans hposition, fun hw hs hg => ?_⟩
    obtain ⟨hin, hserved⟩ := htold hw hs hg
    refine ⟨(congrArg Column.inService hcolumn).trans hin, fun u hu => hmem _ ?_⟩
    rw [hstrayed]
    exact hserved u (hu.imp id fun hu => (congrArg Column.holder hcolumn).symm.trans hu)
  · have hmoving : x.moving = true := by
      rcases hk with ⟨h, -⟩ | ⟨h, -⟩ <;> rw [h] <;> rfl
    have hreached : x.reachedBy k = true := by
      rcases hk with ⟨h, rfl⟩ | ⟨h, rfl⟩ <;> rw [h] <;> rfl
    obtain ⟨d, hd⟩ := Option.isSome_iff_exists.1 hdrive
    have hposition : s.board.position s.limits.travel t c k = (s.board.noted t c k).completed t c d := by
      rw [Board.position_eq]
      refine (if_pos hmoving).trans ((if_pos hreached).trans ?_)
      rw [Board.confirmDrive_of_drive ((s.board.noted_drive t c k).trans hd)]
      exact Board.grant_nothing _ _ ((Board.completed_queue ..).trans hqueue)
    rw [hposition] at hexec
    obtain ⟨holder, hplaced, -⟩ := (s.board.noted t c k).completePoint_eq t c ((s.board.noted t c k).m.xstate t c).direction
    have hcolumn := congrArg (·.m.column c) hplaced
    have hknown : ((s.board.noted t c k).m.xstate t c).direction.reached.known = true := by
      cases ((s.board.noted t c k).m.xstate t c).direction <;> rfl
    obtain ⟨hnot, hgone⟩ := Board.placed_reason (t := t) (c := c) (w := none) (holder := holder) (b := s.board.noted t c k)
      hknown hold
    refine ⟨_, hexec, fun h => (congrArg Column.position hcolumn).trans (hnot (mt hrest.1 h)), fun h => ?_⟩
    obtain ⟨hgone', htold⟩ := hgone (hrest.2 h)
    refine ⟨(congrArg Column.position hcolumn).trans hgone', fun hw hs hg => ?_⟩
    obtain ⟨hin, hserved⟩ := htold hw hs hg
    refine ⟨(congrArg Column.inService hcolumn).trans hin, fun u hu => List.mem_append_left _ ?_⟩
    rw [hplaced]
    exact hserved u (hu.imp id fun hu => (congrArg Column.holder hcolumn).symm.trans hu)

/-! ### Travel expiry (R107) -/

/-- A drive stopped at its travel limit, before its slot goes on (R107). -/
def Board.expired (t : Tx) (c : Col) (d : Drive) (b : Board) : Board :=
  { m := (b.stopDrive t c).m.returnSlot
    o := ((b.stopDrive t c).o.event .driveTimeout (.column c) (b1 t.val ++ b1 (b.m.xstate t c).direction.code)).hand
      (.driveFailed d.t t c .driveTimeout) }

theorem Board.travelExpired_of_drive {b : Board} {t : Tx} {c : Col} {d : Drive} (hd : (b.m.point t c).drive = some d)
    (hmoving : (b.m.xstate t c).moving = true) (travel : Nat) :
    b.travelExpired travel t c = (b.expired t c d).grant travel := by
  unfold Board.travelExpired
  dsimp only
  rw [hd]
  exact if_pos hmoving

section
variable (b : Board) (t : Tx) (c : Col) (d : Drive)

theorem Board.stopDrive_eq : ∃ holder, b.stopDrive t c = Board.placed t c .unknown none holder
    { b with o := b.o.send (.stop t c) } := Board.setPoint_eq ..

theorem Board.expired_queue : (b.expired t c d).m.queue = b.m.queue := Board.setPoint_queue ..
theorem Board.expired_suspension : (b.expired t c d).m.suspension = b.m.suspension := Board.setPoint_suspension ..
theorem Board.expired_granting : (b.expired t c d).m.granting = b.m.granting := Board.setPoint_granting ..
theorem Board.expired_free : (b.expired t c d).m.free = b.m.free + 1 := congrArg (· + 1) (Board.setPoint_free ..)

end

theorem exec_travelLimitExpiry {s : State} (hlive : Claims.live s) (t : Tx) (c : Col) :
    exec (.travelLimitExpiry t c) s = .next (s.putBoard (s.board.travelExpired s.limits.travel t c)) := by
  show execTravelLimitExpiry t c s = _
  rw [execTravelLimitExpiry, State.take_of_live hlive, State.onMatrix_eq]

theorem travelExpiryStopsTheDrive : Claims.TravelExpiryStopsTheDrive := by
  intro t c s hlive
  refine ⟨fun hnone => ?_, fun d hd hmoving hqueue => ?_⟩
  · rw [exec_travelLimitExpiry hlive]
    unfold Board.travelExpired
    dsimp only
    rw [show (s.board.m.point t c).drive = none from hnone]
    rfl
  · have hexec := exec_travelLimitExpiry hlive t c
    rw [Board.travelExpired_of_drive (b := s.board) hd hmoving,
      Board.grant_nothing _ _ ((Board.expired_queue ..).trans hqueue)] at hexec
    obtain ⟨holder, hstop⟩ := s.board.stopDrive_eq t c
    have hpoint := (congrArg (·.m.point t c) hstop).trans ((Board.placed_point ..).trans (if_pos ⟨rfl, rfl⟩))
    have htells : Outbox.Tells (s.out.send (.stop t c)) (s.board.stopDrive t c).o := hstop ▸ Board.placed_tells ..
    refine ⟨_, hexec, htells.link, congrArg Crosspoint.state hpoint, congrArg Crosspoint.drive hpoint, ?_,
      s.board.expired_free t c d, List.mem_append_right _ (List.mem_singleton.2 rfl), raises_of_voice ?_⟩
    · exact (congrArg (fun b => (b.m.column c).position) hstop).trans (Board.placed_position ..)
    · have hcode : (s.matrix.xstate t c).direction.code = if s.matrix.xstate t c = .movingOpen then 0 else 1 := by
        unfold XState.direction
        split <;> rfl
      show (s.board.expired t c d).o.voice = _
      rw [Board.expired, Outbox.voice_hand, Outbox.voice_event, htells.voice, ← hcode]
      rfl

/-! ### The slot that a drive returns (R103) -/

theorem returnedSlotPassesOn : Claims.ReturnedSlotPassesOn := by
  intro t c k d r s hlive hdone hnormal hgranting hqueue hd hk i hi
  have hmoving : (s.matrix.xstate t c).moving = true := by
    rcases hk with ⟨h, -⟩ | ⟨h, -⟩ <;> rw [h] <;> rfl
  simp only [List.mem_cons, List.not_mem_nil, or_false] at hi
  rcases hi with rfl | rfl
  · have hreached : (s.matrix.xstate t c).reachedBy k = true := by
      rcases hk with ⟨h, rfl⟩ | ⟨h, rfl⟩ <;> rw [h] <;> rfl
    have hposition : s.board.position s.limits.travel t c k =
        ((s.board.noted t c k).completed t c d).grant s.limits.travel := by
      rw [Board.position_eq]
      refine (if_pos hmoving).trans ((if_pos hreached).trans ?_)
      exact Board.confirmDrive_of_drive ((s.board.noted_drive t c k).trans hd) _
    have hfree := Board.completed_free (s.board.noted t c k) t c d
    have hgrant : ((s.board.noted t c k).completed t c d).m.mayGrant = true := by
      rw [Matrix.mayGrant_iff, hfree, Board.completed_suspension, Board.completed_granting]
      exact ⟨Nat.succ_pos _, hnormal, hgranting⟩
    refine ⟨_, (exec_position hlive hdone t c k).trans (congrArg (fun b => Host.Outcome.next (s.putBoard b)) hposition), ?_⟩
    have htook := tookSlot_of_grant (s := s) hgrant ((Board.completed_queue ..).trans hqueue) s.limits.travel
    rwa [hfree] at htook
  · have hfree := Board.expired_free s.board t c d
    have hgrant : (s.board.expired t c d).m.mayGrant = true := by
      rw [Matrix.mayGrant_iff, hfree, Board.expired_suspension, Board.expired_granting]
      exact ⟨Nat.succ_pos _, hnormal, hgranting⟩
    have hexec := exec_travelLimitExpiry hlive t c
    rw [Board.travelExpired_of_drive (b := s.board) hd hmoving] at hexec
    refine ⟨_, hexec, ?_⟩
    have htook := tookSlot_of_grant (s := s) hgrant ((Board.expired_queue ..).trans hqueue) s.limits.travel
    rwa [hfree] at htook

/-- Settles O47. -/
theorem positionsAndExpiries : Obligations.PositionsAndExpiries :=
  ⟨positionsFollowed, positionFaultsHanded, positionReasonRemoved, travelExpiryStopsTheDrive, returnedSlotPassesOn⟩

end Sys2Proof.Machine

/-! What the matrix controller's commands, and the commands about one transmitter, leave unchanged (O58). -/

namespace Sys2Proof.Machine

/-- What a command's operation relates, the command itself relates: to the machine of the event, or to the untouched one
while the reset line is asserted (R205). -/
theorem State.of_take {R : State → State → Prop} {s n : State} {f : State → State} (hrefl : ∀ x, R x x)
    (hn : s.take f = .next n) (hf : ∀ x, R x (f x)) : R (if s.boot.asserted = true then s else s.settled) n := by
  have hn' : (if s.boot.asserted = true then s else f s.settled) = n := Host.Outcome.next.inj hn
  subst hn'
  split
  · exact hrefl s
  · exact hf s.settled

theorem State.takenOn_boot (s : State) : (if s.boot.asserted = true then s else s.settled).boot = s.boot := by
  split <;> rfl

theorem State.takenOn_out (s : State) : (if s.boot.asserted = true then s else s.settled).out = s.out := by
  split <;> rfl

theorem State.takenOn_stations (s : State) : (if s.boot.asserted = true then s else s.settled).stations = s.stations := by
  split <;> rfl

theorem State.takenOn_matrix (s : State) : (if s.boot.asserted = true then s else s.settled).matrix = s.matrix := by
  split <;> rfl

/-! ### The matrix controller -/

/-- Between two machines only the matrix and what it puts out change, and, where `ends` allows it, the step of start-up. -/
structure State.MovesMatrix (ends : Prop) (s n : State) : Prop where
  rest : { n with matrix := s.matrix, out := s.out, boot := s.boot } = s
  boot : n.boot = s.boot ∨ (ends ∧ s.boot.phase = .table)
  out : Outbox.Moves s.out n.out

namespace State.MovesMatrix

variable {ends : Prop} {s : State}

theorem refl (s : State) : State.MovesMatrix ends s s := ⟨rfl, Or.inl rfl, .refl _⟩

theorem of_moves {f : Board → Board} (hf : Outbox.Moves s.out (f s.board).o) : State.MovesMatrix ends s (s.onMatrix f) :=
  ⟨rfl, Or.inl rfl, hf⟩

theorem of_works {f : Board → Board} (hf : Board.Works s.board (f s.board)) : State.MovesMatrix ends s (s.onMatrix f) :=
  of_moves hf.out

theorem rowCondition (s : State) (t : Tx) (r : RowCondition) :
    State.MovesMatrix ends s (s.onMatrix (Board.rowCondition t r)) := by
  refine of_moves ?_
  rw [Board.rowCondition_eq]
  exact (Board.passHeld_works t { s.board with m := s.board.m.onRow t fun k => { k with condition := r } }).out

theorem position (s : State) (t : Tx) (c : Col) (k : Contacts) (hends : ends) :
    let m := s.onMatrix (Board.position s.limits.travel t c k)
    State.MovesMatrix ends s (if m.boot.phase = .table ∧ m.matrix.allReported then m.endTable else m) := by
  intro m
  have hout : Outbox.Moves s.out m.out := (Board.position_works s.limits.travel t c k s.board).out
  split
  next h => exact ⟨rfl, Or.inr ⟨hends, h.1⟩, hout⟩
  next h => exact ⟨rfl, Or.inl rfl, hout⟩

end State.MovesMatrix

/-- Each of the matrix controller's commands changes the matrix, what it puts out and nothing else, but that POSITION may
end start-up's table step (R207). -/
theorem matrixCommand_movesMatrix {t row : Tx} {c : Col} {d : Direction} {p : Fin 4} {k : Contacts} {r : RowCondition}
    {yes : Bool} {x : Member} {ms : BitVec 24} {a : Source} {g : Sources} {i : Instr} {s n : State}
    (hi : i ∈ ([.position t c k, .travelLimitExpiry t c, .claim t c, .release t c, .withdrawClaim t c,
      .driveRequest t row c d p, .cancelDrive t, .rowConditionReport t r, .muteConfirmedReport t yes, .suspectMark c,
      .gateMemberAdd c x, .gateMemberRemove c ms, .suspensionSourceAdd a, .suspensionSourceRemove g] : List Instr))
    (hn : exec i s = .next n) :
    State.MovesMatrix (i = .position t c k) (if s.boot.asserted = true then s else s.settled) n := by
  have taken : ∀ {f : State → State}, s.take f = .next n → (∀ y, State.MovesMatrix (i = .position t c k) y (f y)) →
      State.MovesMatrix (i = .position t c k) (if s.boot.asserted = true then s else s.settled) n :=
    State.of_take .refl
  unfold exec at hn
  simp only [List.mem_cons, List.not_mem_nil, or_false] at hi
  rcases hi with rfl | rfl | rfl | rfl | rfl | rfl | rfl | rfl | rfl | rfl | rfl | rfl | rfl | rfl
  case _ => exact taken hn (fun y => .position y t c k rfl)
  case _ => exact taken hn (fun y => .of_works (Board.travelExpired_works ..))
  case _ => exact taken hn (fun y => .of_works (Board.claim_works ..))
  case _ => exact taken hn (fun y => .of_works (Board.dropClaim_works ..))
  case _ => exact taken hn (fun y => .of_works (Board.dropClaim_works ..))
  case _ => exact taken hn (fun y => .of_works (Board.driveRequest_works ..))
  case _ => exact taken hn (fun y => .of_moves (.refl _))
  case _ => exact taken hn (fun y => .rowCondition y t r)
  case _ => exact taken hn (fun y => .of_moves (.refl _))
  case _ => exact taken hn (fun y => .of_works (Board.service_works ..))
  case _ => exact taken hn (fun y => .of_works (Board.service_works ..))
  case _ => exact taken hn (fun y => .of_works (Board.service_works ..))
  case _ => exact taken hn (fun y => .of_works (Board.suspend_works ..))
  case _ => exact taken hn (fun y => .of_works (Board.resume_works ..))

theorem matrixFrame : Claims.MatrixFrame := by
  intro t row c d p k r yes x ms a g i s n hi hn
  obtain ⟨hrest, hboot, hout⟩ := matrixCommand_movesMatrix hi hn
  rw [State.takenOn_boot] at hrest hboot
  rw [State.takenOn_matrix, State.takenOn_out] at hrest
  rw [State.takenOn_out] at hout
  exact ⟨hrest, hboot, hout.ports, hout.records, hout.enables⟩

/-! ### One transmitter -/

/-- Between two machines only one transmitter's record and monitors and what it puts out change. -/
structure State.Tends (t : Tx) (s n : State) : Prop where
  rest : { n with stations := s.stations, out := s.out } = s
  others : ∀ u, u ≠ t → n.stations.get u = s.stations.get u
  out : Outbox.Serves t Set.univ s.out n.out

theorem State.Tends.refl {t : Tx} (s : State) : State.Tends t s s := ⟨rfl, fun _ _ => rfl, .refl _⟩

theorem State.Tends.csq {t : Tx} (s : State) {f : Env → Bench → Bench}
    (hf : ∀ e b, Bench.Puts e Set.univ b (f e b)) : State.Tends t s (s.csq t f) :=
  ⟨rfl, fun u hu => s.csq_other t u f hu, (hf (s.env t) ⟨s.stations.get t, s.out⟩).reportRow⟩

/-- Each command about one transmitter changes that transmitter's station, what it puts out and nothing else. -/
theorem stationCommand_tends {t row : Tx} {c : Col} {w : DriveFailure} {yes : Bool} {a : Source} {g : Sources} {f : Nat}
    {i : Instr} {s n : State}
    (hi : i ∈ ([.claimGranted t c, .claimListed t c, .claimRefused t c, .driveStarted t row c, .driveDone t row c,
      .driveFailed t row c w, .matrixFault t, .serviceChanged t c yes, .withdrawEndOrder t, .holdAdd t a,
      .holdRemove t g, .rfAbsent t, .rfPresent t, .statPollInstant t, .statReady t, .statOff t, .statFault t,
      .fault t f, .ok t, .tuned t f, .tunefail t, .unknownPortLine t, .claimWaitExpiry t, .muteLimitExpiry t,
      .settleExpiry t, .tuneLimitExpiry t, .openTuneExpiry t, .holdTimeExpiry t, .rampLimitExpiry t,
      .restrikeRampLimitExpiry t, .reflectedRisingCrossing t, .reflectedFallingCrossing t,
      .forwardRisingCrossing t, .forwardFallingCrossing t, .armingDelayExpiry t, .restrikeDelayExpiry t,
      .tripMuteWatchExpiry t, .restrikeWindowExpiry t, .carrierLossExpiry t] : List Instr))
    (hn : exec i s = .next n) : State.Tends t (if s.boot.asserted = true then s else s.settled) n := by
  have served : ∀ {h : Env → Bench → Bench}, s.take (fun y => y.csq t h) = .next n →
      (∀ e b, Bench.Puts e Set.univ b (h e b)) → State.Tends t (if s.boot.asserted = true then s else s.settled) n :=
    fun hn hh => State.of_take .refl hn fun y => .csq y hh
  have ignored : s.take id = .next n → State.Tends t (if s.boot.asserted = true then s else s.settled) n :=
    fun hn => State.of_take .refl hn .refl
  unfold exec at hn
  simp only [List.mem_cons, List.not_mem_nil, or_false] at hi
  rcases hi with rfl | rfl | rfl | rfl | rfl | rfl | rfl | rfl | rfl | rfl | rfl | rfl | rfl | rfl | rfl | rfl | rfl |
    rfl | rfl | rfl | rfl | rfl | rfl | rfl | rfl | rfl | rfl | rfl | rfl | rfl | rfl | rfl | rfl | rfl | rfl | rfl |
    rfl | rfl | rfl
  case _ => exact served hn (fun _ b => .claimGranted (.refl b))
  case _ => exact served hn (fun _ b => .claimListed (.refl b))
  case _ => exact served hn (fun _ b => .claimRefused (.refl b))
  case _ => exact served hn (fun _ b => .driveStarted (.refl b))
  case _ => exact served hn (fun _ b => .driveDone (.refl b))
  case _ => exact served hn (fun _ b => .driveFailed (.refl b))
  case _ => exact served hn (fun _ b => .matrixFault (.refl b))
  case _ => exact served hn (fun _ b => .serviceChanged (.refl b) trivial)
  case _ => exact served hn (fun _ b => .endWork (.refl b))
  case _ => exact served hn (fun _ b => .holdAdd (.refl b))
  case _ => exact served hn (fun _ b => .holdRemove (.refl b) trivial)
  case _ => exact served hn (fun _ b => .rfAbsent (.refl b) trivial)
  case _ => exact served hn (fun _ b => .rfPresent (.refl b))
  case _ => exact served hn (fun _ b => .when (.refl b) (.pollInstant (.refl _)))
  case _ => exact served hn (fun _ b => .statReady (.refl b))
  case _ => exact served hn (fun _ b => .statOff (.refl b))
  case _ => exact served hn (fun _ b => .statFault (.refl b))
  case _ => exact served hn (fun _ b => .faultLine (.refl b))
  case _ => exact ignored hn
  case _ => exact served hn (fun _ b => .tunedLine (.refl b))
  case _ => exact served hn (fun _ b => .tunefailLine (.refl b))
  case _ => exact ignored hn
  case _ => exact served hn (fun _ b => .claimWaitExpired (.refl b))
  case _ => exact served hn (fun _ b => .muteLimitExpired (.refl b))
  case _ => exact served hn (fun _ b => .settled (.refl b))
  case _ => exact served hn (fun _ b => .tuneLimitExpired (.refl b))
  case _ => exact served hn (fun _ b => .when (.refl b) (.openTuneFault (.refl _)))
  case _ => exact served hn (fun _ b => .holdEnded (.refl b) trivial)
  case _ => exact served hn (fun _ b => .rampExpired (.refl b))
  case _ => exact served hn (fun _ b => .restrikeRampExpired (.refl b))
  case _ => exact served hn (fun _ b => .reflectedRise (.refl b))
  case _ => exact served hn (fun _ b => .reflectedFall (.refl b))
  case _ => exact served hn (fun _ b => .forwardRise (.refl b))
  case _ => exact served hn (fun _ b => .forwardFall (.refl b))
  case _ => exact served hn (fun _ b => .when (.refl b) (.station (.refl _)))
  case _ => exact served hn (fun _ b => .when (.refl b) (.restrikeTest (.refl _) trivial))
  case _ => exact served hn (fun _ b => .tripWatchExpired (.refl b))
  case _ => exact served hn (fun _ b => .when (.refl b) (.tr (.refl _)))
  case _ => exact served hn (fun _ b => .when (.refl b) (.lock (.muteAndEnd (.refl _))))

theorem stationFrame : Claims.StationFrame := by
  intro t row c w yes a g f i s n hi hn
  obtain ⟨hrest, hothers, hout⟩ := stationCommand_tends hi hn
  rw [State.takenOn_stations] at hrest hothers
  rw [State.takenOn_out] at hrest hout
  exact ⟨hrest, hothers, hout.link, hout.enables, hout.own⟩

/-- Settles O58: the matrix controller's operations put nothing on the transmitter ports (`Outbox.Moves`), and a
transmitter's operations serve that transmitter alone (`Outbox.Serves`). -/
theorem framesOfOneBlock : Obligations.FramesOfOneBlock := ⟨matrixFrame, stationFrame⟩

end Sys2Proof.Machine

/-! What the operations of one transmitter do to its record, its monitors and the outbox, each said once (07, 08): the
rules by which the statements about the changeover sequencer and the monitors are read off. -/

namespace Sys2Proof.Machine

/-! ### The outbox -/

/-- The record that the log is given (R198). -/
def logEntry (now : Reading) (kind : LogKind) (t : Tx) (manual : Bool) (work : Option SchedRef) (column : Option Col)
    (kHz kW : Option Nat) (detail : Detail) : LogRecord :=
  { kind := kind, date := now.date, second := now.secondOfDay, t := t, manual := manual
    work := work.map fun w => (w.bank, w.entry), column := column, kHz := kHz, kW := kW, detail := detail, sequence := 0 }

section Entry

variable (now : Reading) (kind : LogKind) (t : Tx) (manual : Bool) (work : Option SchedRef) (c : Option Col)
  (kHz kW : Option Nat) (d : Detail)

@[simp] theorem logEntry_kind : (logEntry now kind t manual work c kHz kW d).kind = kind := rfl
@[simp] theorem logEntry_t : (logEntry now kind t manual work c kHz kW d).t = t := rfl
@[simp] theorem logEntry_manual : (logEntry now kind t manual work c kHz kW d).manual = manual := rfl
@[simp] theorem logEntry_column : (logEntry now kind t manual work c kHz kW d).column = c := rfl
@[simp] theorem logEntry_kHz : (logEntry now kind t manual work c kHz kW d).kHz = kHz := rfl
@[simp] theorem logEntry_kW : (logEntry now kind t manual work c kHz kW d).kW = kW := rfl
@[simp] theorem logEntry_detail : (logEntry now kind t manual work c kHz kW d).detail = d := rfl
@[simp] theorem logEntry_work :
    (logEntry now kind t manual work c kHz kW d).work = work.map fun w => (w.bank, w.entry) := rfl

end Entry

namespace Outbox

variable (o : Outbox) (now : Reading) (kind : LogKind) (t : Tx) (manual : Bool) (work : Option SchedRef)
  (c : Option Col) (kHz kW : Option Nat) (d : Detail)

theorem event_eq (k : EventKind) (x : Subject) (l : List Byte) :
    o.event k x l = o.raise { kind := k, subject := x, detail := l } := rfl

@[simp] theorem recordAs_handed : (o.recordAs now kind t manual work c kHz kW d).handed = o.handed := rfl
@[simp] theorem recordAs_port : (o.recordAs now kind t manual work c kHz kW d).port = o.port := rfl
@[simp] theorem recordAs_voice : (o.recordAs now kind t manual work c kHz kW d).voice = o.voice := rfl
@[simp] theorem recordAs_log : (o.recordAs now kind t manual work c kHz kW d).log =
    o.log.write (logEntry now kind t manual work c kHz kW d) := rfl
@[simp] theorem record_handed : (o.record now kind t work c kHz kW d).handed = o.handed := rfl
@[simp] theorem record_port : (o.record now kind t work c kHz kW d).port = o.port := rfl
@[simp] theorem record_voice : (o.record now kind t work c kHz kW d).voice = o.voice := rfl
@[simp] theorem record_log : (o.record now kind t work c kHz kW d).log =
    o.log.write (logEntry now kind t work.isNone work c kHz kW d) := rfl

end Outbox

/-! ### The monitors -/

@[simp] theorem Reflected.disarm_state (r : Reflected) : r.disarm.state = .off := rfl
@[simp] theorem Forward.disarm_state (f : Forward) : f.disarm.state = .off := rfl
@[simp] theorem Reflected.disarm_config (r : Reflected) : r.disarm.config = r.config := rfl
@[simp] theorem Forward.arm_state (f : Forward) : f.arm.state = .ramp := rfl
@[simp] theorem Reflected.arm_state (r : Reflected) (delay : Nat) :
    (r.arm delay).state = if delay = 0 then .armed else .waiting := by
  unfold Reflected.arm
  split <;> rfl
@[simp] theorem Station.disarm_refl (u : Station) : u.disarm.refl = u.refl.disarm := rfl
@[simp] theorem Station.disarm_fwd (u : Station) : u.disarm.fwd = u.fwd.disarm := rfl
@[simp] theorem Station.disarmForward_fwd (u : Station) : u.disarmForward.fwd = u.fwd.disarm := rfl
@[simp] theorem Station.tripped_refl (u : Station) : u.tripped.refl = { u.refl with tripped := true } := rfl
@[simp] theorem Station.endTrip_tr (u : Station) : u.endTrip.tr = u.tr := by simp [Station.endTrip, apply_ite Station.tr]
@[simp] theorem Station.endTrip_fwd (u : Station) : u.endTrip.fwd = u.fwd := by
  simp [Station.endTrip, apply_ite Station.fwd]
theorem Station.endTrip_refl (u : Station) :
    u.endTrip.refl = if u.refl.tripped = true then u.refl.disarm else u.refl := by
  simp [Station.endTrip, apply_ite Station.refl]
@[simp] theorem Station.arm_refl (u : Station) (delay : Nat) : (u.arm delay).refl = u.refl.arm delay := rfl
@[simp] theorem Station.arm_fwd (u : Station) (delay : Nat) : (u.arm delay).fwd = u.fwd.arm := rfl

/-! ### One transmitter's work at the bench -/

/-- A transmitter's station with the outbox. -/
def State.bench (s : State) (t : Tx) : Bench := { u := s.stations.get t, o := s.out }

/-- The machine with a transmitter's station and the outbox replaced. -/
def State.putBench (s : State) (t : Tx) (b : Bench) : State :=
  { s with stations := upd s.stations t b.u, out := b.o }

namespace State

variable (s : State) (t : Tx) (b : Bench)

@[simp] theorem bench_tr : (s.bench t).u.tr = s.tr t := rfl
@[simp] theorem bench_refl : (s.bench t).u.refl = (s.stations.get t).refl := rfl
@[simp] theorem bench_fwd : (s.bench t).u.fwd = (s.stations.get t).fwd := rfl
@[simp] theorem bench_absent : (s.bench t).u.absent = (s.stations.get t).absent := rfl
@[simp] theorem bench_o : (s.bench t).o = s.out := rfl
@[simp] theorem putBench_tr : (s.putBench t b).tr t = b.u.tr := congrArg Station.tr (upd_get_same ..)
@[simp] theorem putBench_station : (s.putBench t b).stations.get t = b.u := upd_get_same ..
@[simp] theorem putBench_out : (s.putBench t b).out = b.o := rfl

theorem csq_eq (f : Env → Bench → Bench) :
    s.csq t f = s.putBench t ((f (s.env t) (s.bench t)).reportRow (s.env t)) := rfl

theorem putBench_bench : s.putBench t (s.bench t) = s := by
  show { s with stations := upd s.stations t (s.stations.get t), out := s.out } = s
  rw [show upd s.stations t (s.stations.get t) = s.stations from Vector.set_getElem_self _]

theorem putBench_ite (p : Prop) [Decidable p] (a c : Bench) :
    s.putBench t (if p then a else c) = if p then s.putBench t a else s.putBench t c := apply_ite (s.putBench t) p a c

end State

/-- A command that is an operation of one transmitter leaves the machine with that transmitter's bench worked. -/
theorem exec_csq {i : Instr} {t : Tx} {f : Env → Bench → Bench} {s : State}
    (hi : exec i s = s.take fun y => y.csq t f) (hlive : Claims.live s) :
    exec i s = .next (s.putBench t ((f (s.env t) (s.bench t)).reportRow (s.env t))) :=
  hi.trans (State.take_of_live hlive _)

/-! ### Reports -/

/-- A report of a row condition. -/
def reporting : Instr → Bool
  | .rowConditionReport .. => true
  | _ => false

@[simp] theorem reporting_release (t : Tx) (c : Col) : reporting (.release t c) = false := (rfl)
@[simp] theorem reporting_claim (t : Tx) (c : Col) : reporting (.claim t c) = false := (rfl)
@[simp] theorem reporting_withdrawClaim (t : Tx) (c : Col) : reporting (.withdrawClaim t c) = false := (rfl)
@[simp] theorem reporting_scheduleWorkEnded (t : Tx) (w : SchedRef) : reporting (.scheduleWorkEnded t w) = false := (rfl)
@[simp] theorem reporting_driveRequest (t row : Tx) (c : Col) (d : Direction) (p : Fin 4) :
    reporting (.driveRequest t row c d p) = false := (rfl)
@[simp] theorem reporting_cancelDrive (t : Tx) : reporting (.cancelDrive t) = false := (rfl)
@[simp] theorem reporting_muteConfirmedReport (t : Tx) (yes : Bool) : reporting (.muteConfirmedReport t yes) = false := (rfl)
@[simp] theorem reporting_suspectMark (c : Col) : reporting (.suspectMark c) = false := (rfl)

/-- The row condition that a report leaves as the reported one (R117). -/
def TxRecord.toldOf (r : TxRecord) : RowCondition :=
  if r.condition = r.reported ∨ (r.condition = .quiet ∧ ¬ (r.muteConfirmed ∨ r.state.off)) then r.reported else r.condition

namespace Bench

variable (e : Env) (b : Bench)

theorem reportRow_record : (b.reportRow e).u.tr = { b.u.tr with reported := b.u.tr.toldOf } := by
  unfold reportRow TxRecord.toldOf
  dsimp only
  split <;> rfl

theorem reportRow_out : ∃ is, (b.reportRow e).o = b.o.handAll is ∧ ∀ i ∈ is, ∃ c, i = .rowConditionReport e.t c := by
  unfold reportRow
  dsimp only
  split
  · exact ⟨[], by simp [Outbox.handAll], nofun⟩
  · exact ⟨[.rowConditionReport e.t b.u.tr.condition], rfl, fun i hi => ⟨_, List.mem_singleton.1 hi⟩⟩

@[simp] theorem reportRow_voice : (b.reportRow e).o.voice = b.o.voice := by
  obtain ⟨is, h, -⟩ := b.reportRow_out e
  rw [h, Outbox.voice_handAll]

theorem mem_reportRow {i : Instr} (h : i ∈ b.o.handed) : i ∈ (b.reportRow e).o.handed := by
  obtain ⟨is, hout, -⟩ := b.reportRow_out e
  rw [hout]
  exact List.mem_append_left _ h

/-- A report of the row condition hands nothing but itself. -/
@[simp] theorem mem_reportRow_iff {i : Instr} (hi : reporting i = false) :
    i ∈ (b.reportRow e).o.handed ↔ i ∈ b.o.handed := by
  obtain ⟨is, hout, his⟩ := b.reportRow_out e
  rw [hout, Outbox.handAll_handed, List.mem_append, or_iff_left]
  intro hmem
  obtain ⟨c, rfl⟩ := his i hmem
  cases hi

/-! ### Mute confirmation and the carrier orders (R117) -/

@[simp] theorem setConfirmed_refl (v : Bool) : (b.setConfirmed e v).u.refl = b.u.refl := by
  unfold setConfirmed
  split <;> rfl
@[simp] theorem setConfirmed_fwd (v : Bool) : (b.setConfirmed e v).u.fwd = b.u.fwd := by
  unfold setConfirmed
  split <;> rfl
@[simp] theorem setConfirmed_port (v : Bool) : (b.setConfirmed e v).o.port = b.o.port := by
  unfold setConfirmed
  split <;> rfl
@[simp] theorem setConfirmed_log (v : Bool) : (b.setConfirmed e v).o.log = b.o.log := by
  unfold setConfirmed
  split <;> rfl
@[simp] theorem setConfirmed_voice (v : Bool) : (b.setConfirmed e v).o.voice = b.o.voice := by
  unfold setConfirmed
  split <;> rfl
@[simp] theorem mem_setConfirmed_iff {v : Bool} {i : Instr} : i ∈ (b.setConfirmed e v).o.handed ↔
    i ∈ b.o.handed ∨ (i = .muteConfirmedReport e.t v ∧ b.u.tr.muteConfirmed ≠ v) := by
  unfold setConfirmed
  split <;> simp_all

theorem sendMute_tr : (b.sendMute e).u.tr =
    { b.u.tr with
      unmuted := false, mutedOnce := true, muteConfirmed := b.u.tr.rf == some false
      tripWatch := if b.u.tr.rf = some false then none else b.u.tr.tripWatch } := by
  unfold sendMute
  by_cases h : b.u.tr.rf = some false
  · simp [h, order, quieten, Station.endTrip, setConfirmed_tr, apply_ite Station.tr]
  · simp [h, order, setConfirmed_tr]

theorem sendMute_refl : (b.sendMute e).u.refl =
    if b.u.tr.rf = some false ∧ b.u.refl.tripped = true then b.u.refl.disarm else b.u.refl := by
  unfold sendMute
  by_cases h : b.u.tr.rf = some false
  · simp [h, order, quieten, Station.endTrip, apply_ite Station.refl]
  · simp [h, order]

theorem sendMute_quiet (h : b.u.tr.rf ≠ some false) : (b.sendMute e).u.refl = b.u.refl := by
  simp [sendMute_refl, h]

@[simp] theorem sendMute_fwd : (b.sendMute e).u.fwd = b.u.fwd := by
  unfold sendMute
  by_cases h : b.u.tr.rf = some false
  · simp [h, order, quieten, Station.endTrip, apply_ite Station.fwd]
  · simp [h, order]

@[simp] theorem sendMute_port : (b.sendMute e).o.port = b.o.port ++ [(e.t, .mute)] := by
  simp [sendMute, order, quieten, apply_ite Bench.o]
@[simp] theorem sendMute_log : (b.sendMute e).o.log = b.o.log := by simp [sendMute, order, quieten, apply_ite Bench.o]
@[simp] theorem sendMute_voice : (b.sendMute e).o.voice = b.o.voice := by
  simp [sendMute, order, quieten, apply_ite Bench.o]
@[simp] theorem mem_sendMute_iff {i : Instr} : i ∈ (b.sendMute e).o.handed ↔ i ∈ b.o.handed ∨
    (i = .muteConfirmedReport e.t (b.u.tr.rf == some false) ∧ b.u.tr.muteConfirmed ≠ (b.u.tr.rf == some false)) := by
  simp [sendMute, order, quieten, apply_ite Bench.o]

@[simp] theorem raiseCarrier_tr (kW : Nat) :
    (b.raiseCarrier e kW).u.tr = { b.u.tr with unmuted := true, muteConfirmed := false } := by
  simp [raiseCarrier, order, setConfirmed_tr]
@[simp] theorem raiseCarrier_refl (kW : Nat) : (b.raiseCarrier e kW).u.refl = b.u.refl := by simp [raiseCarrier, order]
@[simp] theorem raiseCarrier_fwd (kW : Nat) : (b.raiseCarrier e kW).u.fwd = b.u.fwd := by simp [raiseCarrier, order]
@[simp] theorem raiseCarrier_port (kW : Nat) :
    (b.raiseCarrier e kW).o.port = b.o.port ++ [(e.t, .pwr kW), (e.t, .unmute)] := by simp [raiseCarrier, order]
@[simp] theorem raiseCarrier_log (kW : Nat) : (b.raiseCarrier e kW).o.log = b.o.log := by simp [raiseCarrier, order]
@[simp] theorem raiseCarrier_voice (kW : Nat) : (b.raiseCarrier e kW).o.voice = b.o.voice := by
  simp [raiseCarrier, order]

/-! ### Work, records and waiting requests -/

@[simp] theorem workEnded_u (w : Option SchedRef) : (b.workEnded e w).u = b.u := by
  unfold workEnded
  split <;> rfl
@[simp] theorem workEnded_port (w : Option SchedRef) : (b.workEnded e w).o.port = b.o.port := by
  unfold workEnded
  split <;> rfl
@[simp] theorem workEnded_log (w : Option SchedRef) : (b.workEnded e w).o.log = b.o.log := by
  unfold workEnded
  split <;> rfl
@[simp] theorem workEnded_voice (w : Option SchedRef) : (b.workEnded e w).o.voice = b.o.voice := by
  unfold workEnded
  split <;> rfl
@[simp] theorem mem_workEnded_iff {w : Option SchedRef} {i : Instr} : i ∈ (b.workEnded e w).o.handed ↔
    i ∈ b.o.handed ∨ ∃ v, w = some v ∧ i = .scheduleWorkEnded e.t v := by
  unfold workEnded
  split <;> simp_all

theorem missSlot_of_empty (h : b.u.tr.slot = none) (why : Detail) : b.missSlot e why = b := by
  unfold missSlot
  rw [h]

theorem takeUp_of_empty (h : b.u.tr.slot = none) : b.takeUp e = b := by
  unfold takeUp
  rw [h]

theorem lock_of_empty (h : b.u.tr.slot = none) (why : LockReason) (code : Option Nat) : b.lock e why code =
    (b.tr fun r => { r with state := .locked why, lock := some why }).out fun o =>
      o.event .txLocked (.transmitter e.t) (lockDetail why code) := by
  unfold lock
  exact missSlot_of_empty e _ (by simpa using h) _

theorem darken_of_empty (h : b.u.tr.slot = none) (why : DarkReason) :
    b.darken e why = b.tr fun r => { r with state := .dark why } := by
  unfold darken
  exact missSlot_of_empty e _ (by simpa using h) _

@[simp] theorem endRecord_u (d : Detail) : (b.endRecord e d).u = b.u := by
  unfold endRecord
  split <;> rfl
@[simp] theorem endRecord_port (d : Detail) : (b.endRecord e d).o.port = b.o.port := by
  unfold endRecord
  split <;> rfl
@[simp] theorem endRecord_handed (d : Detail) : (b.endRecord e d).o.handed = b.o.handed := by
  unfold endRecord
  split <;> rfl
@[simp] theorem endRecord_voice (d : Detail) : (b.endRecord e d).o.voice = b.o.voice := by
  unfold endRecord
  split <;> rfl

/-- The END record of a transmission (R198). -/
def endEntry (e : Env) (x : Transmission) (d : Detail) : LogRecord :=
  logEntry e.reading .end_ e.t x.work.isNone x.work (some x.column) (some x.kHz) (some x.kW) d

@[simp] theorem endEntry_kind (x : Transmission) (d : Detail) : (endEntry e x d).kind = .end_ := rfl
@[simp] theorem endEntry_t (x : Transmission) (d : Detail) : (endEntry e x d).t = e.t := rfl
@[simp] theorem endEntry_detail (x : Transmission) (d : Detail) : (endEntry e x d).detail = d := rfl

theorem endRecord_log {x : Transmission} (h : b.u.tr.current = some x) (d : Detail) :
    (b.endRecord e d).o.log = b.o.log.write (endEntry e x d) := by
  unfold endRecord
  rw [h]
  rfl

/-! ### A transmission dropped -/

@[simp] theorem drop_tr : b.drop.u.tr =
    { b.u.tr with
      stage := .none, tripWatch := none, window := none, current := none, openTune := none, radiated := none } := rfl
@[simp] theorem drop_refl : b.drop.u.refl = b.u.refl.disarm := rfl
@[simp] theorem drop_fwd : b.drop.u.fwd = b.u.fwd.disarm := rfl
@[simp] theorem drop_o : b.drop.o = b.o := rfl

@[simp] theorem changeoverFailed_u (why : Detail) (onAir : Bool) : (b.changeoverFailed e why onAir).u = b.u := rfl
@[simp] theorem changeoverFailed_o (why : Detail) (onAir : Bool) :
    (b.changeoverFailed e why onAir).o = b.o.raise (Claims.failure e.t why onAir) := by
  cases onAir <;> rfl
@[simp] theorem changeoverDone_u (x : Origin) (c : Col) (kHz : Nat) : (b.changeoverDone e x c kHz).u = b.u := rfl
@[simp] theorem changeoverDone_o (x : Origin) (c : Col) (kHz : Nat) :
    (b.changeoverDone e x c kHz).o = b.o.raise (Claims.success e.t x c kHz) := rfl

@[simp] theorem endFailed_u (why : Detail) : (b.endFailed e why).u = b.drop.u := by
  have hdrop : ∀ c : Bench, c.u = b.u → c.drop.u = b.drop.u := fun c hc => by simp only [drop, tr, station, hc]
  simp [endFailed, hdrop]
@[simp] theorem endFailed_port (why : Detail) : (b.endFailed e why).o.port = b.o.port := by simp [endFailed]
@[simp] theorem endFailed_voice (why : Detail) :
    (b.endFailed e why).o.voice = b.o.voice.raise (Claims.failure e.t why true) := by simp [endFailed]
theorem endFailed_log {x : Transmission} (h : b.u.tr.current = some x) (why : Detail) :
    (b.endFailed e why).o.log = b.o.log.write (endEntry e x why) := by simp [endFailed, endRecord_log e b h]
@[simp] theorem mem_endFailed_iff {why : Detail} {i : Instr} : i ∈ (b.endFailed e why).o.handed ↔
    i ∈ b.o.handed ∨ ∃ v, b.u.tr.current.bind (·.work) = some v ∧ i = .scheduleWorkEnded e.t v := by simp [endFailed]

/-! ### Claims -/

@[simp] theorem releaseClaim_tr : (b.releaseClaim e).u.tr =
    { b.u.tr with context := b.u.tr.context.map fun c => { c with claim := none } } := by
  unfold releaseClaim
  split
  next c hc =>
    split
    · rfl
    next hq =>
      have hsame : ({ c with claim := none } : Context) = c := by rw [← hq]
      rw [hc, Option.map_some, hsame, ← hc]
  next hc => rw [hc, Option.map_none, ← hc]
@[simp] theorem releaseClaim_refl : (b.releaseClaim e).u.refl = b.u.refl := by
  unfold releaseClaim
  split
  · split <;> rfl
  · rfl
@[simp] theorem releaseClaim_fwd : (b.releaseClaim e).u.fwd = b.u.fwd := by
  unfold releaseClaim
  split
  · split <;> rfl
  · rfl
@[simp] theorem releaseClaim_port : (b.releaseClaim e).o.port = b.o.port := by
  unfold releaseClaim
  split
  · split <;> rfl
  · rfl
@[simp] theorem releaseClaim_log : (b.releaseClaim e).o.log = b.o.log := by
  unfold releaseClaim
  split
  · split <;> rfl
  · rfl
@[simp] theorem releaseClaim_voice : (b.releaseClaim e).o.voice = b.o.voice := by
  unfold releaseClaim
  split
  · split <;> rfl
  · rfl
@[simp] theorem mem_releaseClaim_iff {i : Instr} : i ∈ (b.releaseClaim e).o.handed ↔
    i ∈ b.o.handed ∨ ∃ k q, b.u.tr.context = some k ∧ k.claim = some q ∧ i = .release e.t q.column := by
  unfold releaseClaim
  split
  · split <;> simp_all
  · simp_all

end Bench

end Sys2Proof.Machine

/-! The monitors' samples and their other crossings, the arming delay and the mains monitor (R145-R150, R152, R156, R164,
R166, R167; O57). -/

namespace Sys2Proof.Machine

/-! ### Crossings (R150, R152, R156, R164) -/

theorem Edges.rises_iff (g : Edges) : g.rises = false ↔ g = .fall := by cases g <;> decide
theorem Edges.falls_iff (g : Edges) : g.falls = false ↔ g = .rise := by cases g <;> decide

namespace Bench

variable (e : Env) (b : Bench)

theorem lineOpen_iff : b.lineOpen e = true ↔
    b.u.fwd.config.source = .line ∧ ∀ c, b.u.tr.route = some c → e.matrix.xstate e.t c ≠ .closed := by
  unfold lineOpen
  cases b.u.tr.route with
  | none => simp
  | some c => simp

theorem reflectedNormal_eq : b.reflectedNormal e = if b.u.refl.config.edges = .rise then b
    else b.out fun o => o.event .reflectedNormal (.transmitter e.t) (b1 (reflectedLevel b.u.refl.config.level)) := by
  unfold reflectedNormal
  by_cases h : b.u.refl.config.edges = .rise
  · rw [if_pos h, if_neg (by rw [(Edges.falls_iff _).2 h]; decide)]
  · rw [if_neg h, if_pos (Bool.of_not_eq_false fun hf => h ((Edges.falls_iff _).1 hf))]
    rfl

theorem carrierLow_eq : b.carrierLow e = if b.u.fwd.config.edges = .rise then b
    else b.out fun o => o.event .carrierLow (.transmitter e.t) (b1 (forwardLevel b.u.fwd.config.level)) := by
  unfold carrierLow
  by_cases h : b.u.fwd.config.edges = .rise
  · rw [if_pos h, if_neg (by rw [(Edges.falls_iff _).2 h]; decide)]
  · rw [if_neg h, if_pos (Bool.of_not_eq_false fun hf => h ((Edges.falls_iff _).1 hf))]
    rfl

theorem carrierNormal_eq : b.carrierNormal e = if b.u.fwd.config.edges = .fall then b
    else b.out fun o => o.event .carrierNormal (.transmitter e.t) (b1 (forwardLevel b.u.fwd.config.level)) := by
  unfold carrierNormal
  by_cases h : b.u.fwd.config.edges = .fall
  · rw [if_pos h, if_neg (by rw [(Edges.rises_iff _).2 h]; decide)]
  · rw [if_neg h, if_pos (Bool.of_not_eq_false fun hf => h ((Edges.rises_iff _).1 hf))]
    rfl

theorem reflectedHigh_eq : b.reflectedHigh e = if b.u.refl.config.edges = .fall then b
    else b.out fun o => o.event .reflectedHigh (.transmitter e.t) (b1 (reflectedLevel b.u.refl.config.level)) := by
  unfold reflectedHigh
  by_cases h : b.u.refl.config.edges = .fall
  · rw [if_pos h, if_neg (by rw [(Edges.rises_iff _).2 h]; decide)]
  · rw [if_neg h, if_pos (Bool.of_not_eq_false fun hf => h ((Edges.rises_iff _).1 hf))]
    rfl

theorem forwardRise_of_open (h : b.lineOpen e = true) : b.forwardRise e = b := if_pos h

theorem forwardRise_of_off (h : b.u.fwd.state = .off) : b.forwardRise e = b := by
  unfold forwardRise
  rw [h]
  exact ite_self _

theorem forwardRise_of_armed (hopen : b.lineOpen e = false) (h : b.u.fwd.state = .armed) : b.forwardRise e =
    (b.station fun u =>
      { u with fwd := { u.fwd with side := some .high, pending := false, loss := none } }).carrierNormal e := by
  unfold forwardRise
  rw [if_neg (by simp [hopen]), h]

theorem forwardFall_of_armed (h : b.u.fwd.state = .armed) : b.forwardFall e =
    (b.station fun u => { u with fwd := { u.fwd with
      side := some .low, pending := false, loss := some (Timer.start e.protection.carrierLoss) } }).carrierLow e :=
  if_neg (not_not.2 h)

theorem forwardFall_of_off (h : b.u.fwd.state = .off) : b.forwardFall e = b := if_pos (by rw [h]; decide)

theorem reflectedFall_of_armed (h : b.u.refl.state = .armed) : b.reflectedFall e =
    (b.station fun u => { u with refl := { u.refl with side := some .low, pending := false } }).reflectedNormal e :=
  if_neg (not_not.2 h)

theorem reflectedFall_of_off (h : b.u.refl.state = .off) : b.reflectedFall e = b := if_pos (by rw [h]; decide)
theorem reflectedRise_of_off (h : b.u.refl.state = .off) : b.reflectedRise e = b := if_pos (by rw [h]; decide)

end Bench

/-- A transmitter's operation after which its row condition stands as reported reports nothing. -/
theorem State.csq_of_told {s : State} {t : Tx} {f : Env → Bench → Bench} {x : Bench} (hf : f (s.env t) (s.bench t) = x)
    (hx : x.u.tr.condition = x.u.tr.reported) : s.csq t f = s.putBench t x := by
  rw [State.csq_eq, hf, Bench.reportRow_same _ _ hx]

/-- A transmitter's operation that leaves its record, with the row condition reported before, reports nothing. -/
theorem State.csq_of_monitors {s : State} {t : Tx} {f : Env → Bench → Bench} (hrep : (s.tr t).reported = (s.tr t).condition)
    {x : Bench} (hf : f (s.env t) (s.bench t) = x) (hx : x.u.tr = s.tr t) : s.csq t f = s.putBench t x :=
  State.csq_of_told hf (by rw [hx, hrep])

theorem exec_told {s : State} {i : Instr} {t : Tx} {f : Env → Bench → Bench} {x : Bench}
    (hi : exec i s = s.take fun y => y.csq t f) (hlive : Claims.live s) (hf : f (s.env t) (s.bench t) = x)
    (hx : x.u.tr.condition = x.u.tr.reported) : exec i s = .next (s.putBench t x) :=
  (hi.trans (State.take_of_live hlive _)).trans (congrArg _ (State.csq_of_told hf hx))

theorem exec_monitors {s : State} {i : Instr} {t : Tx} {f : Env → Bench → Bench} {x : Bench}
    (hi : exec i s = s.take fun y => y.csq t f) (hlive : Claims.live s) (hrep : (s.tr t).reported = (s.tr t).condition)
    (hf : f (s.env t) (s.bench t) = x) (hx : x.u.tr = s.tr t) : exec i s = .next (s.putBench t x) :=
  exec_told hi hlive hf (by rw [hx, hrep])

/-- A crossing that a monitor does not take changes nothing. -/
theorem exec_ignored {s : State} {i : Instr} {t : Tx} {f : Env → Bench → Bench}
    (hi : exec i s = s.take fun y => y.csq t f) (hlive : Claims.live s) (hrep : (s.tr t).reported = (s.tr t).condition)
    (hf : f (s.env t) (s.bench t) = s.bench t) : exec i s = .next s :=
  (exec_monitors hi hlive hrep hf rfl).trans (congrArg _ (s.putBench_bench t))

theorem crossingsFollowed : Claims.CrossingsFollowed := by
  intro t s hlive hrep u at_ open_
  have hopen : (s.bench t).lineOpen (s.env t) = true ↔ open_ := (s.bench t).lineOpen_iff (s.env t)
  have silent : ∀ {i : Instr} {f : Env → Bench → Bench}, exec i s = s.take (fun y => y.csq t f) →
      f (s.env t) (s.bench t) = s.bench t → exec i s = .next s := fun hi hf => exec_ignored hi hlive hrep hf
  refine ⟨fun h => silent rfl (Bench.forwardRise_of_open _ _ (hopen.2 h)), ?_, ?_, ?_, fun h => ?_, fun h => ⟨silent rfl (Bench.reflectedRise_of_off _ _ h),
      silent rfl (Bench.reflectedFall_of_off _ _ h)⟩, fun h => ⟨silent rfl (Bench.forwardRise_of_off _ _ h),
      silent rfl (Bench.forwardFall_of_off _ _ h)⟩⟩
  · intro h low
    refine (exec_monitors (f := Bench.reflectedFall) rfl hlive hrep
      ((Bench.reflectedFall_of_armed _ _ h).trans (Bench.reflectedNormal_eq ..)) ?_).trans ?_
    · split <;> rfl
    · rw [State.putBench_ite]
      rfl
  · intro h low
    refine (exec_monitors (f := Bench.forwardFall) rfl hlive hrep
      ((Bench.forwardFall_of_armed _ _ h).trans (Bench.carrierLow_eq ..)) ?_).trans ?_
    · split <;> rfl
    · rw [State.putBench_ite]
      rfl
  · intro h hclosed high
    have hclosed' : (s.bench t).lineOpen (s.env t) = false := Bool.eq_false_iff.2 fun hf => hclosed (hopen.1 hf)
    refine (exec_monitors (f := Bench.forwardRise) rfl hlive hrep
      ((Bench.forwardRise_of_armed _ _ hclosed' h).trans (Bench.carrierNormal_eq ..)) ?_).trans ?_
    · split <;> rfl
    · rw [State.putBench_ite]
      rfl
  · exact exec_monitors (f := fun _ b => if b.u.refl.state = .waiting then b.station fun u => { u with refl := u.refl.ready }
      else b) rfl hlive hrep (if_pos h) rfl

/-! ### What a sample is compared with (R147-R149) -/

theorem samplesMeasured : Claims.SamplesMeasured := by
  intro d rated level
  refine ⟨?_, fun hlevel => ?_, ?_⟩
  · unfold Detectors.carrier
    rw [decide_eq_true_eq]
    omega
  · unfold Detectors.reflectedHigh
    cases d.carrier rated with
    | true =>
      rw [if_pos rfl, decide_eq_true_eq, Nat.mul_comm d.reflected]
      exact (and_iff_right rfl).symm
    | false => simp [hlevel.ne']
  · intro e kW b g closed high
    have hread : high (b.forwardReading e d) := by
      show b.forwardHigh e d kW = true ↔ _
      unfold Bench.forwardHigh
      rw [decide_eq_true_eq, Nat.mul_comm (b.forwardReading e d)]
    have hopen : g.source = .line → (b.lineOpen e = true ↔ ¬ closed) := fun hline =>
      (b.lineOpen_iff e).trans ⟨fun h ⟨c, hc, hx⟩ => h.2 c hc hx, fun h => ⟨hline, fun c hc hx => h ⟨c, hc, hx⟩⟩⟩
    have hline : g.source = .line → b.forwardReading e d = if b.lineOpen e then 0 else d.line := fun h => by
      unfold Bench.forwardReading
      rw [show b.u.fwd.config.source = .line from h]
    refine ⟨fun h => ?_, fun h hclosed => ?_, fun h hclosed => ?_⟩
    · have : b.forwardReading e d = d.forward := by
        unfold Bench.forwardReading
        rw [show b.u.fwd.config.source = .transmitter from h]
      exact this ▸ hread
    · rw [hline h, if_neg fun ho => (hopen h).1 ho hclosed] at hread
      exact hread
    · rw [hline h, if_pos ((hopen h).2 hclosed)] at hread
      exact hread

/-! ### When a monitor is sampled (R145) -/

theorem dueAt_iff (instant n : Nat) : dueAt instant n = true ↔ instant % n = 0 := by simp [dueAt]

theorem State.sampleStation_of (s : State) (t : Tx) (d : Detectors) (n : Nat) :
    let u := s.stations.get t
    let a := if n % u.refl.config.divisor = 0 then s.csq t (Bench.sampleReflected d) else s
    let b := if n % u.fwd.config.divisor = 0 then a.csq t (Bench.sampleForward d) else a
    s.sampleStation n d t = b.csq t (Bench.sampleAbsent d) := by
  simp only [State.sampleStation, dueAt_iff]

theorem one_of_every_divisor : ∀ n ∈ ([1, 2, 4, 8] : List Nat), ∀ k, k < 8 →
    ((List.range n).filter fun j => (k + j) % 8 % n == 0).length = 1 := by decide

theorem State.passInstant_of_empty {s : State} (h : s.sampling.feed = []) :
    s.passInstant = { s with sampling := { s.sampling with instant := (s.sampling.instant + 1) % 8 } } := by
  unfold State.passInstant
  dsimp only
  rw [h]

theorem State.passInstant_of_cons {s : State} {i : Inputs} {rest : List Inputs} (h : s.sampling.feed = i :: rest) :
    s.passInstant = State.sample s.sampling.instant i
      { s with sampling := { instant := (s.sampling.instant + 1) % 8, feed := rest } } := by
  unfold State.passInstant
  dsimp only
  rw [h]

theorem samplesTakenByDivisor : Claims.SamplesTakenByDivisor := by
  refine ⟨?_, one_of_every_divisor, ?_⟩
  · intro t d n s reflected forward after
    have hafter := s.sampleStation_of t d n
    refine ⟨fun hr hf => ?_, fun hr hf => ?_, fun hr hf => ?_, fun hr hf => ?_⟩ <;> refine hafter.trans ?_
    · rw [if_neg hr, if_neg hf]
    · rw [if_pos hr, if_neg hf]
    · rw [if_neg hr, if_pos hf]
    · rw [if_pos hr, if_pos hf]
  · intro s next
    refine ⟨fun h => ?_, fun i rest h => ?_⟩
    · exact (State.passInstant_of_empty h).trans (by rw [← h])
    · exact State.passInstant_of_cons h

/-! ### A sample (R145-R147) -/

theorem sideOf_eq (high : Bool) : sideOf high = if high then .high else .low := rfl

theorem sampled_of_agrees {filter pending : Bool} {side : Option Side} {high : Bool} (h : side = some (sideOf high)) :
    sampled filter pending side high = .agrees := if_pos h

theorem sampled_of_pends {filter pending : Bool} {side : Option Side} {high : Bool} (h : side ≠ some (sideOf high))
    (hfilter : filter = true) (hpending : pending = false) : sampled filter pending side high = .pends := by
  rw [sampled, if_neg h, hfilter, hpending]
  rfl

theorem sampled_of_crosses {filter pending : Bool} {side : Option Side} {high : Bool} (h : side ≠ some (sideOf high))
    (hc : filter = false ∨ pending = true) : sampled filter pending side high = .crosses := by
  rw [sampled, if_neg h]
  rcases hc with rfl | rfl <;> simp

/-- A command that is an operation of one transmitter, where the operation made is the same on its bench. -/
theorem exec_csq_of_eq {i : Instr} {t : Tx} {f g : Env → Bench → Bench} {s : State}
    (hi : exec i s = s.take fun y => y.csq t f) (hlive : Claims.live s)
    (h : g (s.env t) (s.bench t) = f (s.env t) (s.bench t)) : exec i s = .next (s.csq t g) := by
  rw [exec_csq hi hlive, State.csq_eq, h]

/-- What a sample does, by what it finds. -/
def Sampled.pick (agrees pends crosses : Bench) : Sampled → Bench
  | .agrees => agrees
  | .pends => pends
  | .crosses => crosses

/-- A sample of the reflected monitor, by what it finds. -/
theorem Bench.sampleReflected_of (d : Detectors) (e : Env) (b : Bench) (h : b.u.refl.state = .armed) (x : Sampled)
    (hx : sampled b.u.refl.config.filter b.u.refl.pending b.u.refl.side
      (d.reflectedHigh b.u.tr.desc.rated (reflectedLevel b.u.refl.config.level)) = x) :
    b.sampleReflected d e = x.pick (b.station fun u => { u with refl := { u.refl with pending := false } })
      (b.station fun u => { u with refl := { u.refl with pending := true } })
      (if d.reflectedHigh b.u.tr.desc.rated (reflectedLevel b.u.refl.config.level) then b.reflectedRise e
        else b.reflectedFall e) := by
  unfold Bench.sampleReflected
  dsimp only
  rw [hx, if_neg (not_not.2 h)]
  cases x <;> rfl

theorem Bench.sampleForward_of (d : Detectors) (e : Env) (b : Bench) (h : b.u.fwd.state ≠ .off) {x : Transmission}
    (hcurrent : b.u.tr.current = some x) (y : Sampled)
    (hy : sampled b.u.fwd.config.filter b.u.fwd.pending b.u.fwd.side (b.forwardHigh e d x.kW) = y) :
    b.sampleForward d e = y.pick (b.station fun u => { u with fwd := { u.fwd with pending := false } })
      (b.station fun u => { u with fwd := { u.fwd with pending := true } })
      (if b.forwardHigh e d x.kW then b.forwardRise e else b.forwardFall e) := by
  unfold Bench.sampleForward
  cases hs : b.u.fwd.state with
  | off => exact absurd hs h
  | ramp =>
    simp only [hs, hcurrent, hy]
    cases y <;> rfl
  | armed =>
    simp only [hs, hcurrent, hy]
    cases y <;> rfl

theorem Bench.sampleAbsent_of (d : Detectors) (e : Env) (b : Bench) (y : Sampled)
    (hy : sampled b.u.absent.side.isSome b.u.absent.pending b.u.absent.side (d.carrier b.u.tr.desc.rated) = y) :
    b.sampleAbsent d e = y.pick (b.station fun u => { u with absent := { u.absent with pending := false } })
      (b.station fun u => { u with absent := { u.absent with pending := true } })
      (if d.carrier b.u.tr.desc.rated then b.rfPresent e else b.rfAbsent e) := by
  unfold Bench.sampleAbsent
  dsimp only
  rw [hy]
  cases y <;> rfl

theorem samplesCompared : Claims.SamplesCompared := by
  intro d t s hlive hrep u at_ side
  have hside : ∀ high, side high = sideOf high := sideOf_eq
  refine ⟨fun h => ?_, ?_, ?_, ?_⟩
  · rw [State.csq_of_monitors (x := s.bench t) hrep (if_pos h) rfl, State.putBench_bench]
  · intro h high after
    have hof := Bench.sampleReflected_of d (s.env t) (s.bench t) h
    refine ⟨fun hs => ?_, fun hs hfilter hpending => ?_, fun hs hc => ?_⟩
    · exact State.csq_of_monitors hrep (hof .agrees (sampled_of_agrees (hs.trans (congrArg _ (hside high))))) rfl
    · exact State.csq_of_monitors hrep (hof .pends (sampled_of_pends (hside high ▸ hs) hfilter hpending)) rfl
    · have hcross := hof .crosses (sampled_of_crosses (hside high ▸ hs) hc)
      cases hhigh : high with
      | true => exact exec_csq_of_eq (f := Bench.reflectedRise) rfl hlive (hcross.trans (if_pos hhigh))
      | false => exact exec_csq_of_eq (f := Bench.reflectedFall) rfl hlive (hcross.trans (if_neg (by rw [Bool.not_eq_true]; exact hhigh)))
  · intro x h hcurrent high after
    have hof := Bench.sampleForward_of d (s.env t) (s.bench t) h hcurrent
    refine ⟨fun hs => ?_, fun hs hfilter hpending => ?_, fun hs hc => ?_⟩
    · exact State.csq_of_monitors hrep (hof .agrees (sampled_of_agrees (hs.trans (congrArg _ (hside high))))) rfl
    · exact State.csq_of_monitors hrep (hof .pends (sampled_of_pends (hside high ▸ hs) hfilter hpending)) rfl
    · have hcross := hof .crosses (sampled_of_crosses (hside high ▸ hs) hc)
      cases hhigh : high with
      | true => exact exec_csq_of_eq (f := Bench.forwardRise) rfl hlive (hcross.trans (if_pos hhigh))
      | false => exact exec_csq_of_eq (f := Bench.forwardFall) rfl hlive (hcross.trans (if_neg (by rw [Bool.not_eq_true]; exact hhigh)))
  · intro high after
    have hof := Bench.sampleAbsent_of d (s.env t) (s.bench t)
    refine ⟨fun hs => ?_, fun hs hnone hpending => ?_, fun hs hc => ?_⟩
    · exact State.csq_of_monitors hrep (hof .agrees (sampled_of_agrees (hs.trans (congrArg _ (hside high))))) rfl
    · exact State.csq_of_monitors hrep
        (hof .pends (sampled_of_pends (hside high ▸ hs) (Option.isSome_iff_ne_none.2 hnone) hpending)) rfl
    · have hcross := hof .crosses (sampled_of_crosses (hside high ▸ hs) (hc.imp_left fun hn => Option.isSome_eq_false_iff.2 (Option.isNone_iff_eq_none.2 hn)))
      cases hhigh : high with
      | true => exact exec_csq_of_eq (f := Bench.rfPresent) rfl hlive (hcross.trans (if_pos hhigh))
      | false => exact exec_csq_of_eq (f := Bench.rfAbsent) rfl hlive (hcross.trans (if_neg (by rw [Bool.not_eq_true]; exact hhigh)))

/-! ### A mute confirmed in phase CLAIM (R152, R156) -/

theorem Bench.confirmed_of_claim {e : Env} {b : Bench} {k : Context} (hstartup : ∀ m, b.u.tr.startup ≠ .muting m)
    (hcontext : b.u.tr.context = some k) (hphase : k.phase = .claim) : b.confirmed e = b := by
  unfold Bench.confirmed
  dsimp only
  split
  next m hm => exact absurd hm (hstartup m)
  · rw [hcontext]
    dsimp only
    rw [if_neg (by rw [hphase]; decide), if_neg (by rw [hphase]; decide)]

/-- A mute confirmed by RF ABSENT, before anything is reported or goes on (R117). -/
def Bench.silenced (e : Env) (b : Bench) : Bench :=
  (((b.tr fun r => { r with rf := some false }).station fun u =>
    { u with absent := { side := some .low, pending := false } }).setConfirmed e true).quieten

/-- RF ABSENT of a muted transmitter, up to what waits for the mute's confirmation (R117). -/
def Bench.hushed (e : Env) (b : Bench) : Bench := (b.silenced e).reportRow e

theorem Bench.rfAbsent_of_muted {e : Env} {b : Bench} (hmuted : b.u.tr.unmuted = false)
    (hpending : b.u.tr.muteConfirmed = false) : b.rfAbsent e = (b.hushed e).confirmed e := by
  unfold Bench.rfAbsent
  exact if_neg (by simp [hmuted, hpending])

theorem Bench.silenced_tr (e : Env) (b : Bench) : (b.silenced e).u.tr =
    { b.u.tr with rf := some false, muteConfirmed := true, tripWatch := none } := by
  simp [Bench.silenced, Bench.quieten, Station.endTrip, Bench.setConfirmed_tr, apply_ite Station.tr]

theorem Bench.hushed_tr (e : Env) (b : Bench) : ∃ c, (b.hushed e).u.tr =
    { b.u.tr with rf := some false, muteConfirmed := true, tripWatch := none, reported := c } :=
  ⟨_, (Bench.reportRow_record e (b.silenced e)).trans (by rw [Bench.silenced_tr])⟩

theorem Bench.hushed_refl (e : Env) (b : Bench) :
    (b.hushed e).u.refl = if b.u.refl.tripped = true then b.u.refl.disarm else b.u.refl := by
  simp [Bench.hushed, Bench.silenced, Bench.quieten, Station.endTrip_refl]

@[simp] theorem Bench.hushed_port (e : Env) (b : Bench) : (b.hushed e).o.port = b.o.port := by
  simp [Bench.hushed, Bench.silenced, Bench.quieten]
@[simp] theorem Bench.hushed_log (e : Env) (b : Bench) : (b.hushed e).o.log = b.o.log := by
  simp [Bench.hushed, Bench.silenced, Bench.quieten]
@[simp] theorem Bench.hushed_voice (e : Env) (b : Bench) : (b.hushed e).o.voice = b.o.voice := by
  simp [Bench.hushed, Bench.silenced, Bench.quieten]
theorem Bench.mem_hushed_iff (e : Env) (b : Bench) {i : Instr} (hi : reporting i = false) : i ∈ (b.hushed e).o.handed ↔
    i ∈ b.o.handed ∨ (i = .muteConfirmedReport e.t true ∧ b.u.tr.muteConfirmed ≠ true) := by
  simp [Bench.hushed, hi, Bench.silenced, Bench.quieten]

theorem muteKeepsTheMonitor : Claims.MuteKeepsTheMonitor := by
  intro t k s hlive hcontext hphase hmuted hpending hstartup r
  have hexec := exec_csq (i := .rfAbsent t) (f := Bench.rfAbsent) rfl hlive
  obtain ⟨c, htr⟩ := (s.bench t).hushed_tr (s.env t)
  rw [Bench.rfAbsent_of_muted hmuted hpending,
    Bench.confirmed_of_claim (k := k) (by simpa [htr] using hstartup) (by simpa [htr] using hcontext) hphase] at hexec
  refine ⟨_, hexec, ?_⟩
  simp [htr, hcontext, Bench.hushed_refl]
  rfl

/-! ### The mains monitor (R166, R167) -/

theorem State.mainsDip_eq (s : State) : s.mainsDip =
    Claims.event (Claims.handed { s with mains := { state := .low, recovery := none } }
      ((allTx.map fun t => .holdAdd t .mains) ++ [.suspensionSourceAdd .mains])) .mainsLow .none
      (b1 s.protection.mainsLevel) := by
  unfold State.mainsDip
  rw [Outbox.handAll_hand]
  rfl

theorem mainsMonitorFollows : Claims.MainsMonitorFollows := by
  refine ⟨fun percent s hlive hdone => ?_, ?_⟩
  · show execMainsSample percent s = _
    rw [execMainsSample, State.take_of_live hlive]
    refine congrArg _ ?_
    unfold State.mainsSample
    rw [hdone]
    cases s.mains.state with
    | normal => simp only [decide_eq_true_eq, State.mainsDip_eq]
    | low => simp only [decide_eq_true_eq, Timer.start]
    | recovering => simp only [decide_eq_true_eq]
  · intro s hlive hstate only
    show execMainsRecoveryExpiry s = _
    rw [execMainsRecoveryExpiry, State.take_of_live hlive]
    refine (congrArg _ (if_pos hstate)).trans ?_
    rw [Outbox.handAll_hand]
    rfl

/-- Settles O57: each crossing and each sample is the model's operation on one bench, which leaves the transmitter's
record, so that nothing is reported. -/
theorem monitorsFollowed : Obligations.MonitorsFollowed :=
  ⟨crossingsFollowed, samplesMeasured, samplesTakenByDivisor, samplesCompared, muteKeepsTheMonitor, mainsMonitorFollows⟩

end Sys2Proof.Machine

/-! The RAMP threshold, the ramp's success and its limit (R127-R129, R149, R153; O52). -/

namespace Sys2Proof.Machine

namespace Bench

variable (e : Env) (b : Bench) {k : Context}

theorem holdEnded_of_closed {w : Timer} (hcontext : b.u.tr.context = some k) (hphase : k.phase = .hold)
    (hdeadline : k.deadline = some w) (hclosed : e.matrix.xstate e.t k.target = .closed) :
    b.holdEnded e = (b.ctx fun c => { c with deadline := none }).tryCross e := by
  simp [holdEnded, hcontext, hphase, hdeadline, hclosed]

theorem tryCross_of_clear (hcontext : b.u.tr.context = some k) (hwaits : k.atThreshold = true)
    (hholds : b.u.tr.holds.empty = true) (hservice : (e.matrix.column k.target).inService = true) :
    b.tryCross e = b.enterRamp e k := by
  simp [tryCross, hcontext, hwaits, hholds, hservice]

theorem tryCross_of_kept (hcontext : b.u.tr.context = some k)
    (hkept : ¬ (b.u.tr.holds.empty = true ∧ (e.matrix.column k.target).inService = true)) : b.tryCross e = b := by
  unfold tryCross
  rw [hcontext]
  exact if_neg fun h => hkept h.2

end Bench

theorem rampBegins : Claims.RampBegins := by
  intro t k w s hlive hcontext hphase hdeadline hclosed r kW clear
  have hexec := exec_csq (i := .holdTimeExpiry t) (f := Bench.holdEnded) rfl hlive
  rw [Bench.holdEnded_of_closed _ _ hcontext hphase hdeadline hclosed] at hexec
  refine ⟨fun hclear horigin => ?_, fun hkept => ?_⟩
  · rw [Bench.tryCross_of_clear (k := { k with deadline := none }) _ _ (by simp [hcontext]) (by simp [Context.atThreshold, hphase])
      hclear.1 hclear.2] at hexec
    refine ⟨_, { k with deadline := some (Timer.start s.limits.ramp), phase := .ramp, started := true },
      { (logEntry s.clock.reading .start t k.work.isNone k.work (some k.target) (some k.kHz) (some kW) k.startDetail) with sequence := s.out.log.next }, hexec, ?_⟩
    simp [Bench.enterRamp, horigin, hcontext, Context.transmission, Log.write_last, Context.startDetail,
      Timer.start, kW, r]
  · rw [Bench.tryCross_of_kept (k := { k with deadline := none }) _ _ (by simp [hcontext]) hkept] at hexec
    exact ⟨_, hexec, by simp [hcontext, r]⟩

/-! ### The ramp's end (R128, R129, R149, R153) -/

namespace Bench

variable {e : Env} {b : Bench} {k : Context}

theorem lineOpen_of_reads (hcontext : b.u.tr.context = some k) (hphase : k.phase = .ramp) :
    b.lineOpen e = false ↔ b.u.fwd.config.source = .transmitter ∨ e.matrix.xstate e.t k.target = .closed := by
  unfold lineOpen TxRecord.route
  rw [hcontext]
  cases b.u.fwd.config.source <;> simp [hphase]

theorem forwardRise_of_ramp (hopen : b.lineOpen e = false) (h : b.u.fwd.state = .ramp) (hcontext : b.u.tr.context = some k)
    (hphase : k.phase = .ramp) : b.forwardRise e = (b.station fun u =>
      { u with fwd := { u.fwd with state := .armed, side := some .high, pending := false, loss := none } }).rampSucceeded e k := by
  simp [forwardRise, hopen, h, hcontext, hphase]

theorem rampExpired_of_ramp (hcontext : b.u.tr.context = some k) (hphase : k.phase = .ramp) :
    b.rampExpired e = (((b.sendMute e).discardRamp e).endFailed e .noCarrier).lock e .carrierLost none := by
  simp [rampExpired, hcontext, hphase]

end Bench

theorem rampEnds : Claims.RampEnds := by
  intro t k x s hlive hcontext hphase hcurrent hslot reads
  have hreads : (s.bench t).lineOpen (s.env t) = false ↔ reads := Bench.lineOpen_of_reads hcontext hphase
  have hrise := exec_csq (i := .forwardRisingCrossing t) (f := Bench.forwardRise) rfl hlive
  refine ⟨fun hopen => ?_, fun hstate hclosed => ?_, ?_⟩
  · rw [Bench.forwardRise_of_open _ _ (Bool.of_not_eq_false fun h => hopen (hreads.1 h))] at hrise
    exact ⟨_, hrise, by simp [hcontext], by simp, by simp, raises_of_voice (by simp)⟩
  · rw [Bench.forwardRise_of_ramp (hreads.2 hclosed) hstate hcontext hphase] at hrise
    refine ⟨_, hrise, ?_, ?_, ?_, ?_, ?_, raises_of_voice ?_, fun q hq => ?_, ?_⟩
    case refine_6 => simp [Bench.rampSucceeded, Bench.goOnAir, Bench.takeUp_of_empty, hslot]
    case refine_7 => simp [Bench.rampSucceeded, Bench.goOnAir, Bench.takeUp_of_empty, hslot, hcontext, hq]
    all_goals simp [Bench.rampSucceeded, Bench.goOnAir, Bench.takeUp_of_empty, hslot, hcurrent, Timer.start]
  · have hexec := exec_csq (i := .rampLimitExpiry t) (f := Bench.rampExpired) rfl hlive
    rw [Bench.rampExpired_of_ramp hcontext hphase, Bench.lock_of_empty _ _ (by simp [Bench.discardRamp, Bench.sendMute_tr, hslot])] at hexec
    refine ⟨_, (Bench.endEntry (s.env t) x .noCarrier), hexec, ?_, ?_, ?_, ?_, ?_, ?_, ?_, rfl, rfl, raises_of_voice ?_⟩
    all_goals simp [Bench.discardRamp, Bench.sendMute_tr, Claims.logs, Bench.endFailed_log _ _ (x := x), hcurrent, Outbox.event_eq, Claims.locking, lockDetail, LockReason.detail]

/-- Settles O52: at the threshold the ramp is entered exactly with no hold and the column IN_SERVICE
(`Bench.tryCross_of_clear`, `Bench.tryCross_of_kept`), and each of its two ends is one operation on the bench. -/
theorem rampBeginsAndEnds : Obligations.RampBeginsAndEnds := ⟨rampBegins, rampEnds⟩

end Sys2Proof.Machine

/-! A refused start under which another work is still on air (R123, R131, R75; O51 fails). -/

namespace Sys2Proof.Machine

namespace TwoWorks

/-- The work that is on air. -/
def onAir : SchedRef := { bank := 0, entry := 0, day := 0, windowEnd := 0 }

/-- The work whose start claims column 5. -/
def starting : SchedRef := { bank := 0, entry := 1, day := 0, windowEnd := 0 }

/-- The changeover in CLAIM. -/
def claiming : Context :=
  { origin := .schedule, work := some starting, late := false, target := 5, reserve := none, reserveUsed := false
    kHz := 6000, kW := 10, programme := 0, priority := 2, phase := .claim, deadline := none
    claim := some { column := 5, status := .sent }, plan := [], tune := .none, outcome := none, started := false
    closing := .none, faultCode := none }

/-- The transmission that the record still carries. -/
def carried : Transmission :=
  { work := some onAir, start := Clock.powerOn.reading, column := 4, kHz := 6000, kW := 10, programme := 0, priority := 2
    reserve := none, reserveUsed := false, late := false }

def station : Station :=
  let u := Station.reset TxDesc.default .reflectedDefault .forwardDefault
  { u with tr := { u.tr with
      state := .changing, current := some carried, context := some claiming, unmuted := false, rf := some false
      muteConfirmed := true } }

/-- Transmitter 0 muted, in CLAIM of a start, over a transmission of another work. -/
def hall : State := State.reset.putBench 0 { u := station, o := Outbox.empty }

/-- The messages on their way after a command. -/
def handedBy (o : Host.Outcome State Fault Refusal) : List Instr :=
  match o with
  | .next n => n.out.handed
  | _ => []

/-- The refusal tells the schedule engine of the work on air, not of the start's. -/
theorem handedBy_refusal : handedBy (exec (.claimRefused 0 5) hall) = [.scheduleWorkEnded 0 onAir] := by decide +kernel

theorem hall_tr : hall.tr 0 = station.tr := State.putBench_tr ..

end TwoWorks

open TwoWorks in
theorem not_refusedStartFails : ¬ Claims.RefusedStartFails := by
  intro h
  have htr := hall_tr
  obtain ⟨n, -, hn, -, -, -, -, -, -, -, -, hw⟩ := h 0 5 claiming { column := 5, status := .sent } hall ⟨rfl, rfl⟩
    (by rw [htr]; rfl) rfl rfl rfl (Or.inl rfl) rfl rfl (by rw [htr]; rfl) (by rw [htr]; rfl) (by rw [htr]; rfl)
    (by rw [htr]; rfl)
  have hmem : Instr.scheduleWorkEnded 0 starting ∈ handedBy (exec (.claimRefused 0 5) hall) := by
    rw [hn]
    exact hw starting rfl
  rw [handedBy_refusal] at hmem
  exact absurd hmem (by decide)

/-- Refutes O51: `RefusedStartFails` leaves open what the transmitter carries, and where that is a transmission of another
work, it is that work whose end is reported (`TwoWorks.hall`). -/
theorem not_changeoverFails : ¬ Obligations.ChangeoverFails := fun h => not_refusedStartFails h.1

end Sys2Proof.Machine

/-! RF reports and the lines of the transmitter ports outside a changeover (R117-R120; O54). -/

namespace Sys2Proof.Machine

namespace Bench

variable {e : Env} {b : Bench}

/-! ### RF reports (R117) -/

/-- Nothing of a transmitter outside a changeover, in no restrike and in no start-up, waits for mute confirmed. -/
theorem confirmed_of_idle (hstartup : ∀ m, b.u.tr.startup ≠ .muting m) (hcontext : b.u.tr.context = none)
    (hstate : b.u.tr.state ≠ .tripped) : b.confirmed e = b := by
  unfold confirmed
  dsimp only
  split
  next m hm => exact absurd hm (hstartup m)
  · rw [hcontext]
    exact if_neg fun h => hstate h.1

/-- The record and the absent comparator after an RF report (R117). -/
def heard (present : Bool) (b : Bench) : Bench :=
  (b.tr fun r => { r with rf := some present }).station fun u =>
    { u with absent := { side := some (if present then .high else .low), pending := false } }

theorem rfAbsent_of_unmuted (h : b.u.tr.unmuted = true) : b.rfAbsent e = b.heard false := if_pos (Or.inl h)

theorem rfPresent_of_unmuted (h : b.u.tr.unmuted = true) : b.rfPresent e = b.heard true :=
  if_pos (by simp [h])

theorem rfPresent_of_ready (hmuted : b.u.tr.unmuted = false) (hconfirmed : b.u.tr.muteConfirmed = true)
    (hstate : b.u.tr.state = .ready) : b.rfPresent e = ((b.heard true).sendMute e).lock e .muteFailed none := by
  have hsent : (((b.heard true).sendMute e).u.tr.state) = .ready := by simp [sendMute_tr, heard, hstate]
  unfold rfPresent
  rw [if_neg (by simp [hmuted, hconfirmed])]
  show (match ((b.heard true).sendMute e).u.tr.state with
    | .ready => ((b.heard true).sendMute e).lock e .muteFailed none
    | .changing => ((b.heard true).sendMute e).fail e .muteFailed
    | .held => ((b.heard true).sendMute e).endMuteFailed e
    | .tripped => ((b.heard true).sendMute e).endMuteFailed e
    | _ => (b.heard true).sendMute e) = _
  rw [hsent]

end Bench

theorem rfReportsFollowed : Claims.RfReportsFollowed := by
  refine ⟨fun t s hlive hstate hcontext hmuted hpending hstartup => ?_,
    fun t s hlive hstate hslot hmuted hconfirmed => ?_, fun t s hlive hunmuted hrep => ⟨?_, ?_⟩⟩
  · have hexec := exec_csq (i := .rfAbsent t) (f := Bench.rfAbsent) rfl hlive
    obtain ⟨c, htr⟩ := (s.bench t).hushed_tr (s.env t)
    rw [Bench.rfAbsent_of_muted hmuted hpending, Bench.confirmed_of_idle (by simpa [htr] using hstartup)
      (by simpa [htr] using hcontext) (by simp [htr, hstate])] at hexec
    refine ⟨_, hexec, ?_⟩
    simp [htr, hstate, Bench.mem_hushed_iff, hpending]
  · have hexec := exec_csq (i := .rfPresent t) (f := Bench.rfPresent) rfl hlive
    rw [Bench.rfPresent_of_ready hmuted hconfirmed hstate,
      Bench.lock_of_empty _ _ (by simp [Bench.sendMute_tr, Bench.heard, hslot])] at hexec
    refine ⟨_, hexec, ?_, ?_, ?_, ?_, ?_, raises_of_voice ?_⟩
    all_goals simp [Bench.sendMute_tr, Bench.heard, Outbox.event_eq, Claims.locking, lockDetail, LockReason.detail]
  · exact ⟨_, exec_told (f := Bench.rfAbsent) rfl hlive (Bench.rfAbsent_of_unmuted hunmuted) hrep.symm, rfl,
      State.putBench_tr ..⟩
  · exact ⟨_, exec_told (f := Bench.rfPresent) rfl hlive (Bench.rfPresent_of_unmuted hunmuted) hrep.symm, rfl,
      State.putBench_tr ..⟩

/-! ### The port lines (R118-R120) -/

namespace Bench

variable {e : Env} {b : Bench}

/-- A poll instant's order and the interval that begins with it (R119). -/
def polled (e : Env) (b : Bench) : Bench := (b.order e .stat).tr fun r => { r with poll := some 0 }

theorem pollInstant_of_counting (h : b.u.tr.silence < 3) :
    b.pollInstant e = (b.polled e).tr fun r => { r with silence := r.silence + 1 } := if_pos h

/-- A silence of four poll instants ends start-up's query for the transmitter (R207). -/
def unasked (b : Bench) : Bench := b.tr fun r => { r with startup := if r.startup = .asked then .done else r.startup }

/-- A poll instant that finds the port silent (R119). -/
theorem pollInstant_of_silent (h : 3 ≤ b.u.tr.silence) (hstate : b.u.tr.state ≠ .dark .portSilent) :
    b.pollInstant e = (b.polled e).unasked.lose e .portSilent none fun b => b.darken e .portSilent :=
  (if_neg (show ¬ (b.polled e).u.tr.silence < 3 from not_lt.2 h)).trans (if_neg hstate)

theorem lose_of_ready (h : b.u.tr.state = .ready) (why : Detail) (code : Option Nat) (after : Bench → Bench) :
    b.lose e why code after = after b := by
  unfold lose
  rw [h]

/-- The query and the adoption of start-up are over for a transmitter, or have not begun (R207). -/
structure OutsideStartup (b : Bench) : Prop where
  asked : b.u.tr.startup ≠ .asked
  candidate : b.u.tr.startup ≠ .candidate
  muting : ∀ m, b.u.tr.startup ≠ .muting m

theorem OutsideStartup.not_asked (h : b.OutsideStartup) : b.u.tr.asked = false := by
  simpa [TxRecord.asked] using h.asked

theorem OutsideStartup.not_inAdoption (h : b.OutsideStartup) : b.u.tr.inAdoption = false := by
  unfold TxRecord.inAdoption
  split
  next hc => exact absurd hc h.candidate
  next m hm => exact absurd hm (h.muting m)
  · rfl

theorem statReady_of_ready (h : b.OutsideStartup) (hstate : b.u.tr.state = .ready) : b.statReady e = b.replied := by
  have hasked : b.replied.u.tr.asked = false := h.not_asked
  have hadoption : b.replied.u.tr.inAdoption = false := h.not_inAdoption
  have hready : b.replied.u.tr.state = .ready := hstate
  simp [statReady, hasked, hadoption, hready]

theorem statReady_of_dark (h : b.OutsideStartup) (hstate : b.u.tr.state = .dark .portSilent ∨ b.u.tr.state = .dark .off)
    (hlock : b.u.tr.lock = none) :
    b.statReady e = (b.replied.sendMute e).tr fun r => { r with state := .ready } := by
  have hasked : b.replied.u.tr.asked = false := h.not_asked
  have hadoption : b.replied.u.tr.inAdoption = false := h.not_inAdoption
  have hnone : b.replied.u.tr.lock = none := hlock
  have hdark : b.replied.u.tr.state = .dark .portSilent ∨ b.replied.u.tr.state = .dark .off := hstate
  rcases hdark with hdark | hdark <;> simp [statReady, hasked, hadoption, hdark, takenOn, hnone]

theorem statOff_of_working (hdark : b.u.tr.state.isDark = false) :
    b.statOff e = b.replied.leaveStartup.lose e .txOff none fun b => b.darken e .off := by
  unfold statOff
  split
  next h => rw [h] at hdark; cases hdark
  next h => rw [h] at hdark; cases hdark
  next h => rw [h] at hdark; cases hdark
  · rfl

theorem statFault_of_working (hoff : b.u.tr.state.off = false) (hasked : b.u.tr.startup ≠ .asked) :
    b.statFault e = b.replied.leaveStartup.lose e .txFault none fun b => b.lock e .txFault none := by
  have hnot : b.u.tr.asked = false := by simpa [TxRecord.asked] using hasked
  unfold statFault
  rw [hnot]
  split
  next h => rw [h] at hoff; cases hoff
  next h => rw [h] at hoff; cases hoff
  next h => rw [h] at hoff; cases hoff
  · rfl

theorem faultLine_of_working (hoff : b.u.tr.state.off = false) (code : Nat) :
    b.faultLine code e = b.lose e .txFault (some code) fun b => b.lock e .txFault (some code) := if_neg (by simp [hoff])

end Bench

theorem TxRecord.condition_of_off {r : TxRecord} (h : r.state.off = true) : r.condition = .quiet := by
  unfold TxRecord.condition
  cases hs : r.state with
  | dark _ => rfl
  | locked _ => rfl
  | _ => simp [hs, TxState.off] at h

theorem portLinesFollowed : Claims.PortLinesFollowed := by
  intro t s hlive hcontext hcurrent hslot hasked hcandidate hmuting r
  have hout : (s.bench t).OutsideStartup := ⟨hasked, hcandidate, hmuting⟩
  have hpoll : ∀ p, r.poll = some p → exec (.statPollInstant t) s =
      .next (s.putBench t (((s.bench t).pollInstant (s.env t)).reportRow (s.env t))) := fun p hp => by
    refine (exec_csq (f := fun e b => if b.u.tr.poll.isSome then b.pollInstant e else b) rfl hlive).trans ?_
    rw [if_pos (by simp [show (s.tr t).poll = some p from hp])]
  refine ⟨fun p hp hsilence => ?_, fun p hp hsilence hready => ?_, fun hready => ?_, fun hdark hlock => ?_,
    fun hready => ?_, fun hready => ?_, fun code hready => ?_, fun code hoff hquiet => ?_, ?_, ?_⟩
  · refine ⟨_, hpoll p hp, ?_⟩
    rw [Bench.pollInstant_of_counting hsilence]
    simp [Bench.polled, Bench.order, r]
  · have hnot : (s.tr t).state ≠ .dark .portSilent := by simp [show (s.tr t).state = .ready from hready]
    refine ⟨_, hpoll p hp, ?_⟩
    rw [Bench.pollInstant_of_silent hsilence hnot, Bench.lose_of_ready hready, Bench.darken_of_empty _ _ hslot]
    simp [Bench.unasked, Bench.polled, Bench.order]
  · refine ⟨_, exec_csq (f := Bench.statReady) rfl hlive, ?_⟩
    rw [Bench.statReady_of_ready hout hready]
    simp [Bench.replied, show (s.tr t).state = .ready from hready]
  · refine ⟨_, exec_csq (f := Bench.statReady) rfl hlive, ?_⟩
    rw [Bench.statReady_of_dark hout hdark hlock]
    simp [Bench.replied, Bench.sendMute_tr]
  · refine ⟨_, exec_csq (f := Bench.statOff) rfl hlive, ?_⟩
    rw [Bench.statOff_of_working (by simp [show (s.tr t).state = .ready from hready, TxState.isDark]),
      Bench.lose_of_ready hready, Bench.darken_of_empty _ _ hslot]
    simp [Bench.replied, Bench.leaveStartup]
  · refine ⟨_, exec_csq (f := Bench.statFault) rfl hlive, ?_⟩
    rw [Bench.statFault_of_working (by simp [show (s.tr t).state = .ready from hready, TxState.off]) hasked,
      Bench.lose_of_ready hready, Bench.lock_of_empty _ _ hslot]
    refine ⟨by simp, by simp, raises_of_voice ?_⟩
    simp [Bench.replied, Bench.leaveStartup, Outbox.event_eq, Claims.locking, lockDetail, LockReason.detail]
  · refine ⟨_, exec_csq (f := Bench.faultLine code) rfl hlive, ?_⟩
    rw [Bench.faultLine_of_working (by simp [show (s.tr t).state = .ready from hready, TxState.off]),
      Bench.lose_of_ready hready, Bench.lock_of_empty _ _ hslot]
    refine ⟨by simp, by simp, raises_of_voice ?_⟩
    simp [Outbox.event_eq, Claims.locking, lockDetail, LockReason.detail]
  · exact exec_ignored (f := Bench.faultLine code) rfl hlive (hquiet.trans (TxRecord.condition_of_off hoff).symm) (if_pos hoff)
  · exact (State.take_of_live hlive id)
  · exact (State.take_of_live hlive id)

/-- Settles O54: each report and each line is one operation on the bench, read off its equation. -/
theorem portsAndRfFollowed : Obligations.PortsAndRfFollowed := ⟨rfReportsFollowed, portLinesFollowed⟩

end Sys2Proof.Machine

/-! Mutes that fail, the losses of a transmission on air, and the END contexts they lead to (R119, R120, R122, R124, R130,
R133, R157, R164; O55). -/

namespace Sys2Proof.Machine

/-- A context as it begins to wind up with an outcome (R130). -/
def Context.windUp (why closing : Detail) (code : Option Nat) (k : Context) : Context :=
  { k with phase := .windUp, deadline := none, outcome := some why, closing := closing, faultCode := code }

namespace Bench

variable {e : Env} {b : Bench} {x : Transmission}

/-! ### END contexts (R133) -/

/-- The context that ends a transmission for a cause (R133). -/
def endContext (e : Env) (x : Transmission) (cause : Detail) : Context :=
  { x.context .end_ .mute with work := none, deadline := some (Timer.start e.limits.mute), closing := cause }

/-- An END context installed and its MUTE sent (R133). -/
def ending (e : Env) (x : Transmission) (cause : Detail) (b : Bench) : Bench :=
  (((b.station Station.disarm).tr fun r => { r.stopRestrike with openTune := none }).install
    (endContext e x cause)).sendMute e

theorem createEnd_eq (hcurrent : b.u.tr.current = some x) (cause : Detail) : b.createEnd e cause =
    if (b.ending e x cause).u.tr.muteConfirmed then (b.ending e x cause).finishEnd e else b.ending e x cause := by
  unfold createEnd
  rw [hcurrent]
  rfl

theorem ending_tr (cause : Detail) : (b.ending e x cause).u.tr =
    { b.u.tr with
      state := .changing, context := some (endContext e x cause), stage := .none, tripWatch := none, window := none
      openTune := none, unmuted := false, mutedOnce := true, muteConfirmed := b.u.tr.rf == some false } := by
  simp [ending, sendMute_tr, install, TxRecord.stopRestrike]
  exact ite_self _

@[simp] theorem ending_port (cause : Detail) : (b.ending e x cause).o.port = b.o.port ++ [(e.t, .mute)] := by
  simp [ending, install]
@[simp] theorem ending_log (cause : Detail) : (b.ending e x cause).o.log = b.o.log := by simp [ending, install]
@[simp] theorem ending_voice (cause : Detail) : (b.ending e x cause).o.voice = b.o.voice := by simp [ending, install]
theorem mem_ending {cause : Detail} {i : Instr} (hi : i ∈ b.o.handed) : i ∈ (b.ending e x cause).o.handed := by
  simp [ending, install, hi]

/-- With RF PRESENT or unknown an END context waits for its mute. -/
theorem createEnd_of_carrier (hcurrent : b.u.tr.current = some x) (hrf : b.u.tr.rf ≠ some false) (cause : Detail) :
    b.createEnd e cause = b.ending e x cause := by
  rw [createEnd_eq hcurrent, if_neg (by simp [ending_tr, hrf])]

/-- The event that an END context's end raises (R133). -/
def endEvent (e : Env) (x : Transmission) (cause : Detail) : Event :=
  if cause.failureCause then Claims.failure e.t cause true else Claims.success e.t .end_ x.column x.kHz

theorem finishEnd_eq {k : Context} (hcontext : b.u.tr.context = some k) : b.finishEnd e =
    let c := ((b.endRecord e k.closing).drop.tr fun r => { r with context := none, state := .ready }).reportRow e
    ((if k.closing.failureCause then c.changeoverFailed e k.closing true else c.changeoverDone e .end_ k.target k.kHz).workEnded
      e b.u.tr.work).takeUp e := by
  unfold finishEnd
  rw [hcontext]

/-- A transmission that has ended at once by an END context of a cause (R133). -/
structure EndedBy (e : Env) (x : Transmission) (cause : Detail) (b c : Bench) : Prop where
  state : c.u.tr.state = .ready
  current : c.u.tr.current = none
  context : c.u.tr.context = none
  port : c.o.port = b.o.port ++ [(e.t, .mute)]
  log : c.o.log = b.o.log.write (endEntry e x cause)
  voice : c.o.voice = b.o.voice.raise (endEvent e x cause)
  kept : ∀ i, reporting i = false → i ∈ b.o.handed → i ∈ c.o.handed
  work : ∀ w, x.work = some w → Instr.scheduleWorkEnded e.t w ∈ c.o.handed

/-- With RF ABSENT and an empty Pending slot an END context ends at once. -/
theorem createEnd_of_silence (hcurrent : b.u.tr.current = some x) (hrf : b.u.tr.rf = some false)
    (hslot : b.u.tr.slot = none) (cause : Detail) : EndedBy e x cause b (b.createEnd e cause) := by
  have hcontext : (b.ending e x cause).u.tr.context = some (endContext e x cause) := by rw [ending_tr]
  have hended : b.createEnd e cause = (b.ending e x cause).finishEnd e := by
    rw [createEnd_eq hcurrent, if_pos (by simp [ending_tr, hrf])]
  rw [hended, finishEnd_eq hcontext]
  dsimp only
  rw [takeUp_of_empty _ _ (by split <;> simp [ending_tr, hslot])]
  have hclosing : (endContext e x cause).closing = cause := rfl
  have htarget : (endContext e x cause).target = x.column := rfl
  have hkHz : (endContext e x cause).kHz = x.kHz := rfl
  rw [hclosing, htarget, hkHz]
  have hwork : ∀ w, x.work = some w → (b.ending e x cause).u.tr.work = some w := fun w hw => by
    simp [TxRecord.work, ending_tr, hcurrent, hw]
  have hlog : ((b.ending e x cause).endRecord e cause).o.log = b.o.log.write (endEntry e x cause) := by
    rw [endRecord_log _ _ (x := x) (by simp [ending_tr, hcurrent]), ending_log]
  constructor
  case state => split <;> simp
  case current => split <;> simp
  case context => split <;> simp
  case port => split <;> simp
  case log => split <;> simp [hlog]
  case voice => unfold endEvent; split <;> simp
  case kept =>
    intro i hi hmem
    split <;> simp [hi, mem_ending hmem]
  case work =>
    intro w hw
    split <;> simp [hwork w hw]

/-! ### Losses (R119, R120) -/

theorem lose_of_carries (h : b.u.tr.state.carries = true) (why : Detail) (code : Option Nat) (after : Bench → Bench) :
    b.lose e why code after = after (b.muteAndEnd e why) := by
  unfold lose
  cases hs : b.u.tr.state <;> rw [hs] at h <;> simp_all [TxState.carries]

/-! ### Wind-up (R130, R131) -/

/-- The changeover begins to wind up (R130). -/
def windingUp (why closing : Detail) (code : Option Nat) (k : Context) (b : Bench) : Bench :=
  (if k.phase = .ramp then b.station Station.disarm else b).ctx (Context.windUp why closing code)

theorem failAs_eq {k : Context} (hcontext : b.u.tr.context = some k) (hphase : k.phase ≠ .windUp) (why closing : Detail)
    (code : Option Nat) : b.failAs e why closing code = ((b.windingUp why closing code k).cancelWaiting e).proceed e := by
  unfold failAs
  rw [hcontext]
  exact if_neg hphase

@[simp] theorem windingUp_tr (why closing : Detail) (code : Option Nat) (k : Context) :
    (b.windingUp why closing code k).u.tr =
      { b.u.tr with context := b.u.tr.context.map (Context.windUp why closing code) } := by
  unfold windingUp
  split <;> rfl
@[simp] theorem windingUp_o (why closing : Detail) (code : Option Nat) (k : Context) :
    (b.windingUp why closing code k).o = b.o := by
  unfold windingUp
  split <;> rfl

theorem cancelWaiting_of_none {k : Context} (hcontext : b.u.tr.context = some k)
    (hnone : ∀ p ∈ k.plan, p.status ≠ .waitingSlot) : b.cancelWaiting e = b := by
  unfold cancelWaiting
  rw [hcontext]
  exact if_neg (by simpa using hnone)

theorem proceed_of_moving {k : Context} (hcontext : b.u.tr.context = some k) (hmoving : k.stepMoving = true) :
    b.proceed e = b := by
  unfold proceed
  rw [hcontext]
  exact if_pos hmoving

/-- A context that winds up with its claim released, and MUTE sent where R130 says. -/
def unclaimed (e : Env) (k : Context) (b : Bench) : Bench :=
  if k.deadline.isNone ∧ (b.u.tr.unmuted ∨ b.u.tr.rf = some true) then (b.releaseClaim e).sendMute e else b.releaseClaim e

section Unclaimed

variable (k : Context)

@[simp] theorem unclaimed_slot : (b.unclaimed e k).u.tr.slot = b.u.tr.slot := by
  unfold unclaimed
  split <;> simp [sendMute_tr]
@[simp] theorem unclaimed_current : (b.unclaimed e k).u.tr.current = b.u.tr.current := by
  unfold unclaimed
  split <;> simp [sendMute_tr]
@[simp] theorem unclaimed_log : (b.unclaimed e k).o.log = b.o.log := by
  unfold unclaimed
  split <;> simp
@[simp] theorem unclaimed_voice : (b.unclaimed e k).o.voice = b.o.voice := by
  unfold unclaimed
  split <;> simp

end Unclaimed

theorem proceed_eq {k : Context} (hcontext : b.u.tr.context = some k) (hstill : k.stepMoving = false) : b.proceed e =
    if (k.outcome.getD .abandoned).leavesReady ∧ ¬ (b.unclaimed e k).u.tr.muteConfirmed then
      if k.deadline.isSome then b.unclaimed e k
      else (b.unclaimed e k).ctx fun c => { c with deadline := some (Timer.start e.limits.mute) }
    else (b.unclaimed e k).applyOutcome e := by
  have hunmuted : (b.releaseClaim e).u.tr.unmuted = b.u.tr.unmuted := by rw [releaseClaim_tr]
  have hrf : (b.releaseClaim e).u.tr.rf = b.u.tr.rf := by rw [releaseClaim_tr]
  unfold proceed unclaimed
  rw [hcontext]
  dsimp only
  rw [if_neg (by simp [hstill]), hunmuted, hrf]

/-- What an outcome is applied to: the record written, CHANGEOVER_FAILED raised, the transmission dropped, its work
reported (R131). -/
def concluded (e : Env) (k : Context) (b : Bench) : Bench :=
  let a := if k.started then b.endRecord e k.closing
    else b.out fun o =>
      o.record e.reading .failed e.t k.work (some k.target) (some k.kHz) none (k.outcome.getD .abandoned)
  ((a.changeoverFailed e (k.outcome.getD .abandoned) false).drop.tr fun r => { r with context := none }).workEnded e
    b.u.tr.work

theorem applyOutcome_eq {k : Context} (hcontext : b.u.tr.context = some k) : b.applyOutcome e =
    let why := k.outcome.getD .abandoned
    let c := ((b.concluded e k).outcomeState e why k.faultCode).reportRow e
    if why.leavesReady then c.takeUp e else c := by
  have hwork : ∀ a : Bench, (if k.started then b.endRecord e k.closing else b.out fun o =>
      o.record e.reading .failed e.t k.work (some k.target) (some k.kHz) none (k.outcome.getD .abandoned)) = a →
      a.u.tr.work = b.u.tr.work := fun a ha => by
    subst ha
    split <;> simp
  unfold applyOutcome concluded
  rw [hcontext]
  dsimp only
  rw [hwork _ rfl]

@[simp] theorem concluded_tr (k : Context) : (b.concluded e k).u.tr =
    { b.u.tr with
      stage := .none, tripWatch := none, window := none, current := none, openTune := none, radiated := none
      context := none } := by
  unfold concluded
  dsimp only
  split <;> simp
@[simp] theorem concluded_port (k : Context) : (b.concluded e k).o.port = b.o.port := by
  unfold concluded
  dsimp only
  split <;> simp
@[simp] theorem concluded_voice (k : Context) : (b.concluded e k).o.voice =
    b.o.voice.raise (Claims.failure e.t (k.outcome.getD .abandoned) false) := by
  unfold concluded
  dsimp only
  split <;> simp
/-- The record of an outcome: FAILED, or the END record of a started transmission (R131). -/
theorem concluded_log {k : Context} (hstarted : k.started = true → b.u.tr.current.isSome = true) :
    ∃ m, (b.concluded e k).o.log = b.o.log.write m ∧ m.t = e.t ∧
      m.kind = (if k.started then .end_ else .failed) ∧
      m.detail = if k.started then k.closing else k.outcome.getD .abandoned := by
  unfold concluded
  cases h : k.started with
  | true =>
    obtain ⟨x, hx⟩ := Option.isSome_iff_exists.1 (hstarted h)
    exact ⟨endEntry e x k.closing, by simp [endRecord_log e b hx], rfl, rfl, rfl⟩
  | false =>
    exact ⟨logEntry e.reading .failed e.t k.work.isNone k.work (some k.target) (some k.kHz) none
      (k.outcome.getD .abandoned), by simp, rfl, rfl, rfl⟩
@[simp] theorem mem_concluded_iff {k : Context} {i : Instr} : i ∈ (b.concluded e k).o.handed ↔
    i ∈ b.o.handed ∨ ∃ w, b.u.tr.work = some w ∧ i = .scheduleWorkEnded e.t w := by
  unfold concluded
  dsimp only
  split <;> simp

end Bench

/-! ### A mute that fails (R124, R130, R133, R157) -/

namespace Bench

variable {e : Env} {b : Bench} {k : Context}

theorem muteLimitExpired_eq {w : Timer} (hstartup : ∀ m, b.u.tr.startup ≠ .muting m) (hcontext : b.u.tr.context = some k)
    (hphase : k.phase = .mute) (hdeadline : k.deadline = some w) :
    b.muteLimitExpired e = if k.origin = .end_ then b.endUnmuted e else b.fail e .muteFailed := by
  unfold muteLimitExpired
  split
  next m hm => exact absurd hm (hstartup m)
  · rw [hcontext]
    dsimp only
    rw [hdeadline, hphase]
    rfl

theorem endUnmuted_eq (hcontext : b.u.tr.context = some k) : b.endUnmuted e =
    (((b.endRecord e .muteFailed).drop.tr fun r => { r with context := none }).workEnded e b.u.tr.work).lock e
      .muteFailed none := by
  unfold endUnmuted
  rw [hcontext]

/-- A changeover outside WIND_UP with nothing in its plan fails with an outcome that locks (R130, R131): it is over in
the same event. -/
theorem fail_muteFailed_eq (hcontext : b.u.tr.context = some k) (hphase : k.phase ≠ .windUp) (hplan : k.plan = []) :
    let c := Context.windUp .muteFailed .muteFailed none k
    b.fail e .muteFailed = ((((b.windingUp .muteFailed .muteFailed none k).unclaimed e c).concluded e
      { c with claim := none }).lock e .muteFailed none).reportRow e := by
  intro c
  have hwinding : (b.windingUp .muteFailed .muteFailed none k).u.tr.context = some c := by simp [hcontext, c]
  have hunclaimed : ((b.windingUp .muteFailed .muteFailed none k).unclaimed e c).u.tr.context =
      some { c with claim := none } := by
    unfold unclaimed
    split <;> simp [sendMute_tr, hcontext, c]
  unfold fail
  rw [failAs_eq hcontext hphase, cancelWaiting_of_none hwinding (by simp [c, Context.windUp, hplan]),
    proceed_eq hwinding (by simp [Context.stepMoving, c, Context.windUp, hplan]),
    if_neg (by simp [c, Context.windUp, Detail.leavesReady]), applyOutcome_eq hunclaimed]
  rfl

theorem tripWatchExpired_of_tripped {w : Timer} (hwatch : b.u.tr.tripWatch = some w) (hstate : b.u.tr.state = .tripped) :
    b.tripWatchExpired e =
      (((b.tr fun r => { r with tripWatch := none }).endFailed e .muteFailed).lock e .muteFailed none) := by
  unfold tripWatchExpired
  rw [if_neg (by simp [hwatch])]
  exact if_pos hstate

end Bench

theorem muteFailureLocks : Claims.MuteFailureLocks := by
  refine ⟨fun t k w s hlive hcontext hphase hdeadline hstartup hplan hslot hend hstarted => ?_,
    fun t x w s hlive hstate hwatch hcurrent hslot => ?_⟩
  · have hexec := exec_csq (i := .muteLimitExpiry t) (f := Bench.muteLimitExpired) rfl hlive
    rw [Bench.muteLimitExpired_eq hstartup hcontext hphase hdeadline] at hexec
    by_cases horigin : k.origin = .end_
    · obtain ⟨x, hx⟩ := Option.isSome_iff_exists.1 (hend horigin)
      rw [if_pos horigin, Bench.endUnmuted_eq (k := k) hcontext, Bench.lock_of_empty _ _ (by simp [hslot])] at hexec
      refine ⟨_, Bench.endEntry (s.env t) x .muteFailed, hexec, ?_, ?_, ?_, ?_, ?_, ?_, ?_, raises_of_voice ?_⟩
      all_goals simp [horigin, Claims.logs, Bench.endRecord_log _ _ (x := x), hx, Outbox.event_eq, Claims.locking,
        lockDetail, LockReason.detail]
    · let c := Context.windUp .muteFailed .muteFailed none k
      obtain ⟨m, hm, ht, hkind, hdetail⟩ := Bench.concluded_log (e := s.env t)
        (b := ((s.bench t).windingUp .muteFailed .muteFailed none k).unclaimed (s.env t) c) (k := { c with claim := none })
        (by simpa [c, Context.windUp] using hstarted)
      rw [if_neg horigin, Bench.fail_muteFailed_eq (k := k) hcontext (by rw [hphase]; decide) hplan,
        Bench.lock_of_empty _ _ (by simp [hslot])] at hexec
      refine ⟨_, m, hexec, ?_, ?_, ?_, ?_, ?_, ht, ?_, raises_of_voice ?_⟩
      case refine_5 => simpa [Claims.logs] using hm
      case refine_6 => simpa [c, Context.windUp] using hdetail
      all_goals simp [horigin, Outbox.event_eq, Claims.locking, lockDetail, LockReason.detail, Context.windUp]
  · have hexec := exec_csq (i := .tripMuteWatchExpiry t) (f := Bench.tripWatchExpired) rfl hlive
    rw [Bench.tripWatchExpired_of_tripped hwatch hstate, Bench.lock_of_empty _ _ (by simp [hslot])] at hexec
    refine ⟨_, Bench.endEntry (s.env t) x .muteFailed, hexec, ?_, ?_, ?_, ?_, ?_, raises_of_voice ?_⟩
    all_goals simp [Claims.logs, Bench.endFailed_log _ _ (x := x), hcurrent, Outbox.event_eq, Claims.locking,
        lockDetail, LockReason.detail]

/-! ### Losses outside a changeover (R119, R120, R163, R164) -/

/-- A command ends a transmission with orders, a detail, a state that follows and events after CHANGEOVER_FAILED. -/
def State.EndsOnAir (s : State) (t : Tx) (x : Transmission) (i : Instr) (orders : List PortOrder) (why : Detail)
    (after : TxState) (es : List Event) : Prop :=
  ∃ n m, exec i s = .next n ∧ (n.tr t).state = after ∧ (n.tr t).current = none ∧ (n.tr t).unmuted = false ∧
    n.out.port = s.out.port ++ orders.map (fun o => (t, o)) ∧ Claims.logs s n [m] ∧ m.kind = .end_ ∧ m.detail = why ∧
    m.t = t ∧ Claims.raises s n (Claims.failure t why true :: es) ∧ (n.tr t).stage = .none ∧
    (n.stations.get t).fwd.state = .off ∧ (n.stations.get t).refl.state = .off ∧
    ∀ w, x.work = some w → Instr.scheduleWorkEnded t w ∈ n.out.handed

/-- A transmitter's bench before its loss: its transmission, an empty Pending slot, and nothing put out but orders. -/
structure Bench.Loses (s : State) (t : Tx) (x : Transmission) (orders : List PortOrder) (b : Bench) : Prop where
  current : b.u.tr.current = some x
  slot : b.u.tr.slot = none
  port : b.o.port = s.out.port ++ orders.map fun o => (t, o)
  log : b.o.log = s.out.log
  voice : b.o.voice = s.out.voice

theorem Bench.Loses.darken {s : State} {t : Tx} {x : Transmission} {orders : List PortOrder} {b : Bench}
    (h : b.Loses s t x orders) {i : Instr} {why : Detail} {after : DarkReason}
    (hexec : exec i s = .next (s.putBench t
      (((b.muteAndEnd (s.env t) why).darken (s.env t) after).reportRow (s.env t)))) :
    s.EndsOnAir t x i (orders ++ [.mute]) why (.dark after) [] := by
  obtain ⟨hcurrent, hslot, hport, hlog, hvoice⟩ := h
  rw [Bench.darken_of_empty _ _ (by simp [Bench.muteAndEnd, Bench.sendMute_tr, hslot])] at hexec
  refine ⟨_, Bench.endEntry (s.env t) x why, hexec, ?_, ?_, ?_, ?_, ?_, rfl, rfl, rfl, raises_of_voice ?_, ?_, ?_, ?_,
    fun w hw => ?_⟩
  case refine_10 => simp [Bench.muteAndEnd, Bench.sendMute_tr, hcurrent, hw]
  all_goals simp [Bench.muteAndEnd, Bench.sendMute_tr, Claims.logs, Bench.endFailed_log _ _ (x := x), hcurrent, hport, hlog,
    hvoice]

theorem Bench.Loses.lock {s : State} {t : Tx} {x : Transmission} {orders : List PortOrder} {b : Bench}
    (h : b.Loses s t x orders) {i : Instr} {why : Detail} {lock : LockReason} {code : Option Nat} {rest : List Byte}
    (hexec : exec i s = .next (s.putBench t
      (((b.muteAndEnd (s.env t) why).lock (s.env t) lock code).reportRow (s.env t))))
    (hrest : lockDetail lock code = b1 lock.detail.code ++ rest) :
    s.EndsOnAir t x i (orders ++ [.mute]) why (.locked lock) [Claims.locking t lock.detail rest] := by
  obtain ⟨hcurrent, hslot, hport, hlog, hvoice⟩ := h
  rw [Bench.lock_of_empty _ _ (by simp [Bench.muteAndEnd, Bench.sendMute_tr, hslot])] at hexec
  refine ⟨_, Bench.endEntry (s.env t) x why, hexec, ?_, ?_, ?_, ?_, ?_, rfl, rfl, rfl, raises_of_voice ?_, ?_, ?_, ?_,
    fun w hw => ?_⟩
  case refine_10 => simp [Bench.muteAndEnd, Bench.sendMute_tr, hcurrent, hw]
  all_goals simp [Bench.muteAndEnd, Bench.sendMute_tr, Claims.logs, Bench.endFailed_log _ _ (x := x), hcurrent, hport, hlog,
    hvoice, Outbox.event_eq, Claims.locking, hrest]

/-- A command mutes a transmission by an END context of a cause. -/
def State.Mutes (s : State) (t : Tx) (i : Instr) (cause : Detail) : Prop :=
  ∃ n k, exec i s = .next n ∧ (n.tr t).state = .changing ∧ (n.tr t).context = some k ∧ k.origin = .end_ ∧
    k.phase = .mute ∧ k.closing = cause ∧ n.out.port = s.out.port ++ [(t, .mute)]

theorem TxState.carries_iff (y : TxState) : y.carries = true ↔ y = .onAir ∨ y = .held ∨ y = .tripped := by
  cases y <;> simp [TxState.carries]

theorem TxState.off_of_carries {y : TxState} (h : y.carries = true) : y.off = false := by
  rcases (TxState.carries_iff y).1 h with rfl | rfl | rfl <;> rfl

theorem TxState.isDark_of_carries {y : TxState} (h : y.carries = true) : y.isDark = false := by
  rcases (TxState.carries_iff y).1 h with rfl | rfl | rfl <;> rfl

/-- An open tune that fails mutes the transmission it tuned, on air or in the context that resumes it (R122). -/
theorem Bench.openTuneFault_eq {e : Env} {b : Bench} (cause : Detail)
    (h : b.u.tr.state = .onAir ∨
      (b.u.tr.state = .changing ∧ ∃ k, b.u.tr.context = some k ∧ k.origin = .resume ∧ k.phase ≠ .windUp)) :
    ∃ c : Bench, b.openTuneFault e cause = c.createEnd e cause ∧ c.u.tr.current = b.u.tr.current ∧
      c.u.tr.rf = b.u.tr.rf ∧ c.o.port = b.o.port := by
  rcases h with h | ⟨h, k, hcontext, horigin, hphase⟩
  · exact ⟨b, if_pos (by rw [h]; rfl), rfl, rfl, rfl⟩
  · refine ⟨b.discardRamp e, ?_, by simp [Bench.discardRamp], by simp [Bench.discardRamp], by simp [Bench.discardRamp]⟩
    unfold Bench.openTuneFault
    rw [if_neg (by rw [h]; decide), hcontext]
    exact if_pos ⟨horigin, hphase⟩

theorem lossOnAirEndsTheTransmission : Claims.LossOnAirEndsTheTransmission := by
  intro t x s hlive hcurrent hslot endedBy ended muting up resumes carries
  have start : (s.bench t).Loses s t x [] := ⟨hcurrent, hslot, by simp, rfl, rfl⟩
  refine ⟨fun hcarries => ?_, fun hup harmed hloss => ?_, fun hopen htune hrf => ?_⟩
  · have hc : (s.tr t).state.carries = true := (TxState.carries_iff _).2 hcarries.1
    have hoff := TxState.off_of_carries hc
    refine ⟨?_, fun hasked => ?_, fun code => ?_, fun hpoll hsilence => ?_⟩
    · have hexec := exec_csq (i := .statOff t) (f := Bench.statOff) rfl hlive
      rw [Bench.statOff_of_working (TxState.isDark_of_carries hc), Bench.lose_of_carries hc] at hexec
      exact Bench.Loses.darken (b := (s.bench t).replied.leaveStartup) ⟨hcurrent, hslot, start.port, rfl, rfl⟩ hexec
    · have hexec := exec_csq (i := .statFault t) (f := Bench.statFault) rfl hlive
      rw [Bench.statFault_of_working hoff hasked, Bench.lose_of_carries hc] at hexec
      exact Bench.Loses.lock (b := (s.bench t).replied.leaveStartup) ⟨hcurrent, hslot, start.port, rfl, rfl⟩ hexec rfl
    · have hexec := exec_csq (i := .fault t code) (f := Bench.faultLine code) rfl hlive
      rw [Bench.faultLine_of_working hoff, Bench.lose_of_carries hc] at hexec
      exact start.lock hexec rfl
    · have hexec := exec_csq (i := .statPollInstant t) (f := fun e b => if b.u.tr.poll.isSome then b.pollInstant e else b)
        rfl hlive
      rw [if_pos (show (s.bench t).u.tr.poll.isSome = true from hpoll), Bench.pollInstant_of_silent hsilence (fun hdark => by
        rw [show (s.tr t).state = .dark .portSilent from hdark] at hoff
        cases hoff), Bench.lose_of_carries hc] at hexec
      exact Bench.Loses.darken (b := ((s.bench t).polled (s.env t)).unasked) (orders := [.stat])
        ⟨hcurrent, hslot, rfl, rfl, rfl⟩ hexec
  · have hexec := exec_csq (i := .carrierLossExpiry t) (f := fun e b =>
      if b.u.fwd.state = .armed ∧ b.u.fwd.loss.isSome ∧ b.u.tr.state = .onAir then
        (b.muteAndEnd e .carrierLost).lock e .carrierLost none
      else b) rfl hlive
    rw [if_pos ⟨harmed, hloss, hup.1⟩] at hexec
    exact start.lock hexec rfl
  · have hopen' : (s.tr t).state = .onAir ∨
        ((s.tr t).state = .changing ∧ ∃ k, (s.tr t).context = some k ∧ k.origin = .resume ∧ k.phase ≠ .windUp) :=
      hopen.imp And.left fun ⟨h, k, hk, horigin, hphase, _⟩ => ⟨h, k, hk, horigin, hphase⟩
    have hsent : (s.bench t).u.tr.tuneSent = false := by
      rcases hopen with ⟨-, hnone⟩ | ⟨-, k, hk, -, -, htuned⟩
      · simp [TxRecord.tuneSent, hnone]
      · simp [TxRecord.tuneSent, hk, htuned]
    have mutes : ∀ {i : Instr} {cause : Detail}, exec i s = .next (s.putBench t
        (((s.bench t).openTuneFault (s.env t) cause).reportRow (s.env t))) → muting i cause := fun {i cause} hexec => by
      obtain ⟨c, hfault, hc, hrf', hport⟩ := Bench.openTuneFault_eq (e := s.env t) (b := s.bench t) cause hopen'
      rw [hfault, Bench.createEnd_of_carrier (x := x) (hc.trans hcurrent)
        (by rw [hrf', State.bench_tr, hrf]; decide)] at hexec
      refine ⟨_, Bench.endContext (s.env t) x cause, hexec, ?_, ?_, rfl, rfl, rfl, ?_⟩
      all_goals simp [Bench.ending_tr, hport]
    refine ⟨mutes ?_, mutes ?_, fun f o ho hne => mutes ?_⟩
    · refine (exec_csq (f := fun e b => if b.u.tr.openTune.isSome then b.openTuneFault e .tuneTimeout else b) rfl hlive).trans ?_
      exact congrArg (fun b => Host.Outcome.next (s.putBench t (Bench.reportRow (s.env t) b))) (if_pos htune)
    · refine (exec_csq (f := Bench.tunefailLine) rfl hlive).trans ?_
      rw [show (s.bench t).tunefailLine (s.env t) = (s.bench t).openTuneFault (s.env t) .tuneFailed from
        (if_neg (by rw [hsent]; decide)).trans (if_pos htune)]
    · refine (exec_csq (f := Bench.tunedLine f) rfl hlive).trans ?_
      have hline : (s.bench t).tunedLine f (s.env t) = (s.bench t).openTuneFault (s.env t) .tuneFailed := by
        unfold Bench.tunedLine
        rw [if_neg (by rw [hsent]; decide), show (s.bench t).u.tr.openTune = some o from ho]
        exact if_neg hne
      rw [hline]

/-- Settles O55: a mute that fails ends what the transmitter carries and locks it; a loss mutes, ends and leaves what its
cause says (`Bench.Loses.darken`, `Bench.Loses.lock`), or mutes by an END context (`Bench.openTuneFault_eq`). -/
theorem carrierLossesEnd : Obligations.CarrierLossesEnd := ⟨muteFailureLocks, lossOnAirEndsTheTransmission⟩

end Sys2Proof.Machine

/-! Holds, withdrawals and matrix faults of a transmission, and the end of a hold (R132-R134, R140-R143; O53). -/

namespace Sys2Proof.Machine

namespace Bench

variable {e : Env} {b : Bench} {k : Context} {x : Transmission}

/-! ### Taking the carrier down (R141, R142) -/

theorem goHeld_of_ramp (hcontext : b.u.tr.context = some k) (hphase : k.phase = .ramp) : b.goHeld e =
    (((((b.sendMute e).station Station.disarm).discardRamp e).tr fun r =>
      { r.stopRestrike with state := .held })).reportRow e := by
  simp [goHeld, hcontext, hphase]

theorem goHeld_of_up (hcontext : b.u.tr.context = none)
    (hup : b.u.tr.state = .onAir ∨ ∃ w, b.u.tr.stage = .ramp w) : b.goHeld e =
    (((b.sendMute e).station Station.disarm).tr fun r => { r.stopRestrike with state := .held }).reportRow e := by
  rcases hup with h | ⟨w, h⟩ <;> simp [goHeld, hcontext, h]

theorem goHeld_of_down (hcontext : b.u.tr.context = none) (hstate : b.u.tr.state ≠ .onAir)
    (hstage : ∀ w, b.u.tr.stage ≠ .ramp w) : b.goHeld e =
    ((b.station Station.disarmForward).tr fun r => { r.stopRestrike with state := .held }).reportRow e := by
  simp [goHeld, hcontext, hstate]

/-- The hold set with a source added. -/
def held (a : Source) (b : Bench) : Bench := b.tr fun r => { r with holds := r.holds.add a }

theorem holdAdd_of_carrying (a : Source) (h : b.u.tr.state = .onAir ∨ b.u.tr.state = .tripped) :
    b.holdAdd a e = (b.held a).goHeld e := by
  rcases h with h | h <;> simp [holdAdd, held, h]

theorem holdAdd_of_ready (a : Source) (h : b.u.tr.state = .ready) : b.holdAdd a e = b.held a := by
  simp [holdAdd, held, h]

theorem holdAdd_of_ramp (a : Source) (h : b.u.tr.state = .changing) (hcontext : b.u.tr.context = some k)
    (hphase : k.phase = .ramp) : b.holdAdd a e = (b.held a).goHeld e := by
  simp [holdAdd, held, h, hcontext, hphase]

theorem holdAdd_of_changing (a : Source) (h : b.u.tr.state = .changing) (hcontext : b.u.tr.context = some k)
    (hramp : k.phase ≠ .ramp) (hwindUp : k.phase ≠ .windUp) (hend : k.origin ≠ .end_) :
    b.holdAdd a e = if b.u.tr.unmuted then (b.held a).sendMute e else b.held a := by
  cases hunmuted : b.u.tr.unmuted <;> simp [holdAdd, held, h, hcontext, hramp, hwindUp, hend, hunmuted]

theorem serviceChanged_of_lost {c : Col} (hroute : b.u.tr.route = some c) (hstate : b.u.tr.state ≠ .held) :
    b.serviceChanged c false e = b.goHeld e := by
  simp [serviceChanged, hroute, hstate]

theorem endWork_of_carries (h : b.u.tr.state.carries = true) (cause why : Detail) :
    b.endWork e cause why = b.createEnd e cause := if_pos h

theorem matrixFault_of_carries (h : b.u.tr.state.carries = true) : b.matrixFault e = b.createEnd e .matrixFault := if_pos h

theorem matrixFault_of_ramp (h : b.u.tr.state = .changing) (hcontext : b.u.tr.context = some k) (hphase : k.phase = .ramp) :
    b.matrixFault e = (b.discardRamp e).createEnd e .matrixFault := by
  unfold matrixFault
  dsimp only
  rw [if_neg (by rw [h]; decide), hcontext]
  exact if_pos hphase

end Bench

theorem holdsAndFaultsTakeTheCarrierDown : Claims.HoldsAndFaultsTakeTheCarrierDown := by
  refine ⟨fun t a c x i s hlive hstate hcurrent hcontext hi => ?_, fun t a s hlive hstate hrep => ?_, ?_⟩
  · rcases hi with rfl | ⟨rfl, hc⟩
    · have hexec := exec_csq (i := .holdAdd t a) (f := Bench.holdAdd a) rfl hlive
      rw [Bench.holdAdd_of_carrying a (Or.inl hstate), Bench.goHeld_of_up (b := (s.bench t).held a) hcontext (Or.inl hstate)]
        at hexec
      refine ⟨_, hexec, ?_⟩
      simp [Bench.held, Bench.sendMute_tr, hcurrent, TxRecord.stopRestrike]
    · have hexec := exec_csq (i := .serviceChanged t c false) (f := Bench.serviceChanged c false) rfl hlive
      rw [Bench.serviceChanged_of_lost (by simp [TxRecord.route, hcontext, hcurrent, hc]) (by simp [hstate]),
        Bench.goHeld_of_up (b := s.bench t) hcontext (Or.inl hstate)] at hexec
      refine ⟨_, hexec, ?_⟩
      simp [Bench.sendMute_tr, hcurrent, TxRecord.stopRestrike]
  · refine (exec_told (f := Bench.holdAdd a) rfl hlive (Bench.holdAdd_of_ready a hstate) ?_).trans rfl
    have hquiet : ∀ r : TxRecord, r.state = .ready → r.condition = .quiet := fun r hr => by simp [TxRecord.condition, hr]
    exact (hquiet _ hstate).trans hrep.symm
  · intro t x s hlive hcurrent muted
    have mutes : ∀ {i : Instr} {cause : Detail} {c : Bench}, exec i s = .next (s.putBench t
        ((c.createEnd (s.env t) cause).reportRow (s.env t))) → c.u.tr.current = some x → c.u.tr.rf = some true →
        c.o.port = s.out.port → (∃ n, exec i s = .next n ∧ muted n cause ∧
          ∀ j, reporting j = false → j ∈ c.o.handed → j ∈ n.out.handed) := fun {i cause c} hexec hc hrf hport => by
      rw [Bench.createEnd_of_carrier hc (by rw [hrf]; decide)] at hexec
      refine ⟨_, hexec, ⟨?_, ?_, ?_, Bench.endContext (s.env t) x cause, ?_, rfl, rfl, rfl, rfl⟩, fun j hj hmem => ?_⟩
      case refine_5 => simp [hj, Bench.mem_ending hmem]
      all_goals simp [Bench.ending_tr, hc, hport]
    refine ⟨fun i cause hstate hi => ?_, fun k hstate hcontext hphase hrf => ?_⟩
    · have hcarries : (s.tr t).state.carries = true := (TxState.carries_iff _).2 hstate
      have hexec : exec i s = .next (s.putBench t (((s.bench t).createEnd (s.env t) cause).reportRow (s.env t))) := by
        rcases hi with ⟨rfl, rfl⟩ | ⟨rfl, rfl⟩
        · refine (exec_csq (f := fun e b => b.endWork e .withdrawn .withdrawn) rfl hlive).trans ?_
          rw [Bench.endWork_of_carries hcarries]
        · refine (exec_csq (f := Bench.matrixFault) rfl hlive).trans ?_
          rw [Bench.matrixFault_of_carries hcarries]
      refine ⟨fun hrf => ?_, fun hrf hslot => ?_⟩
      · obtain ⟨n, hn, hmuted, -⟩ := mutes hexec hcurrent hrf rfl
        exact ⟨n, hn, hmuted⟩
      · have hended := Bench.createEnd_of_silence (e := s.env t) (b := s.bench t) hcurrent hrf hslot cause
        refine ⟨_, Bench.endEntry (s.env t) x cause, hexec, ?_, ?_, ?_, ?_, ?_, rfl, rfl, rfl, raises_of_voice ?_,
          fun w hw => ?_⟩
        case refine_1 => simp [hended.state]
        case refine_2 => simp [hended.current]
        case refine_3 => simp [hended.context]
        case refine_4 => simp [hended.port]
        case refine_5 => simp [Claims.logs, hended.log]
        case refine_6 =>
          rcases hi with ⟨rfl, rfl⟩ | ⟨rfl, rfl⟩ <;> simp [hended.voice, Bench.endEvent, Detail.failureCause]
        case refine_7 => simpa using hended.work w hw
    · have hexec := exec_csq (i := .matrixFault t) (f := Bench.matrixFault) rfl hlive
      rw [Bench.matrixFault_of_ramp hstate hcontext hphase] at hexec
      obtain ⟨n, hn, hmuted, hkept⟩ := mutes hexec (by simp [Bench.discardRamp, hcurrent]) (by simp [Bench.discardRamp, hrf])
        (by simp [Bench.discardRamp])
      exact ⟨n, hn, hmuted, fun q hq => hkept _ rfl (by simp [Bench.discardRamp, hcontext, hq])⟩

end Sys2Proof.Machine

/-! The withdraw end order to a changeover (R130, R140; part of O53). -/

namespace Sys2Proof.Machine

/-- A context with the steps that wait for a slot cancelled (R130 step 1). -/
def Context.cancel (k : Context) : Context :=
  { k with plan := k.plan.map fun p => if p.status = .waitingSlot then { p with status := .cancelled } else p }

theorem Context.cancel_of_none {k : Context} (h : ∀ p ∈ k.plan, p.status ≠ .waitingSlot) : k.cancel = k := by
  have hplan : k.plan.map (fun p => if p.status = .waitingSlot then { p with status := .cancelled } else p) = k.plan :=
    (List.map_congr_left fun p hp => if_neg (h p hp)).trans (List.map_id _)
  unfold Context.cancel
  rw [hplan]

theorem Context.stepMoving_iff (k : Context) : k.stepMoving = true ↔ ∃ p ∈ k.plan, p.status = .moving := by
  simp [Context.stepMoving]

theorem Context.cancel_stepMoving (k : Context) : k.cancel.stepMoving = k.stepMoving := by
  unfold Context.stepMoving Context.cancel
  rw [List.any_map]
  congr 1
  funext p
  simp only [Function.comp]
  split
  next h => simp [h]
  · rfl

namespace Bench

variable {e : Env} {b : Bench} {k : Context} {x : Transmission}

theorem cancelWaiting_eq (hcontext : b.u.tr.context = some k) : b.cancelWaiting e =
    if ∃ p ∈ k.plan, p.status = .waitingSlot then (b.ctx Context.cancel).out fun o => o.hand (.cancelDrive e.t) else b := by
  unfold cancelWaiting
  rw [hcontext]
  simp only [List.any_eq_true, beq_iff_eq]
  rfl

theorem cancelWaiting_context (hcontext : b.u.tr.context = some k) :
    (b.cancelWaiting e).u.tr = { b.u.tr with context := some k.cancel } := by
  rw [cancelWaiting_eq hcontext]
  split
  · simp [hcontext]
  next h => rw [Context.cancel_of_none fun p hp hw => h ⟨p, hp, hw⟩, ← hcontext]

@[simp] theorem cancelWaiting_port : (b.cancelWaiting e).o.port = b.o.port := by
  unfold cancelWaiting
  split
  · split <;> rfl
  · rfl
@[simp] theorem cancelWaiting_log : (b.cancelWaiting e).o.log = b.o.log := by
  unfold cancelWaiting
  split
  · split <;> rfl
  · rfl
@[simp] theorem cancelWaiting_voice : (b.cancelWaiting e).o.voice = b.o.voice := by
  unfold cancelWaiting
  split
  · split <;> rfl
  · rfl

theorem cancelWaiting_cancels (hcontext : b.u.tr.context = some k) (hwaits : ∃ p ∈ k.plan, p.status = .waitingSlot) :
    .cancelDrive e.t ∈ (b.cancelWaiting e).o.handed := by
  rw [cancelWaiting_eq hcontext, if_pos hwaits]
  simp

/-! ### The wind-up's steps (R130) -/

theorem mem_proceed {i : Instr} (h : i ∈ b.o.handed) : i ∈ (b.proceed e).o.handed :=
  (Bench.Puts.proceed (L := ∅) (.refl b)).kept i h

theorem unclaimed_releases {q : ClaimInFlight} (hcontext : b.u.tr.context = some k) (hclaim : k.claim = some q) :
    .release e.t q.column ∈ (b.unclaimed e k).o.handed := by
  unfold unclaimed
  split <;> simp [hcontext, hclaim]

theorem unclaimed_quiet (hunmuted : b.u.tr.unmuted = false) (hrf : b.u.tr.rf ≠ some true) :
    b.unclaimed e k = b.releaseClaim e := if_neg (by simp [hunmuted, hrf])

theorem unclaimed_muted (hdeadline : k.deadline = none) (hrf : b.u.tr.rf = some true) :
    b.unclaimed e k = (b.releaseClaim e).sendMute e := if_pos (by simp [hdeadline, hrf])

theorem proceed_releases {q : ClaimInFlight} (hcontext : b.u.tr.context = some k) (hstill : k.stepMoving = false)
    (hclaim : k.claim = some q) : .release e.t q.column ∈ (b.proceed e).o.handed := by
  have hreleased := unclaimed_releases (e := e) hcontext hclaim
  rw [proceed_eq hcontext hstill]
  split
  · split
    · exact hreleased
    · exact hreleased
  · exact (Bench.Puts.applyOutcome (L := ∅) (.refl _)).kept _ hreleased

/-- With RF PRESENT a wind-up releases its claim, sends MUTE and waits for it, where its outcome leaves READY. -/
theorem proceed_of_carrier (hcontext : b.u.tr.context = some k) (hstill : k.stepMoving = false) (hdeadline : k.deadline = none)
    (hready : (k.outcome.getD .abandoned).leavesReady = true) (hrf : b.u.tr.rf = some true) : b.proceed e =
    ((b.releaseClaim e).sendMute e).ctx fun c => { c with deadline := some (Timer.start e.limits.mute) } := by
  have hmuted : ((b.releaseClaim e).sendMute e).u.tr.muteConfirmed = false := by simp [sendMute_tr, hrf]
  rw [proceed_eq hcontext hstill, unclaimed_muted hdeadline hrf, if_pos ⟨hready, by rw [hmuted]; decide⟩,
    if_neg (by simp [hdeadline])]

/-- With the mute confirmed and no carrier a wind-up whose outcome leaves READY is over at once. -/
theorem proceed_of_silence (hcontext : b.u.tr.context = some k) (hstill : k.stepMoving = false)
    (hunmuted : b.u.tr.unmuted = false) (hconfirmed : b.u.tr.muteConfirmed = true) (hrf : b.u.tr.rf ≠ some true) :
    b.proceed e = (b.releaseClaim e).applyOutcome e := by
  rw [proceed_eq hcontext hstill, unclaimed_quiet hunmuted hrf, if_neg (by simp [hconfirmed])]

/-- An outcome that leaves READY, of a changeover that had not started, with an empty Pending slot (R131). -/
theorem applyOutcome_of_ready (hcontext : b.u.tr.context = some k)
    (hready : (k.outcome.getD .abandoned).leavesReady = true) (hslot : b.u.tr.slot = none) : b.applyOutcome e =
    ((b.concluded e k).tr fun r => { r with state := .ready }).reportRow e := by
  have houtcome : ∀ (c : Bench) (why : Detail) (code : Option Nat), why.leavesReady = true →
      c.outcomeState e why code = c.tr fun r => { r with state := .ready } := fun c why code h => by
    unfold outcomeState
    split
    · cases h
    · cases h
    · cases h
    · cases h
    · rfl
  rw [applyOutcome_eq hcontext]
  dsimp only
  rw [if_pos hready, houtcome _ _ _ hready, takeUp_of_empty _ _ (by simp [hslot])]

/-- What giving up a changeover for a reason that leaves READY does (R130, R131). -/
structure Abandons (e : Env) (why closing : Detail) (k : Context) (b c : Bench) : Prop where
  cancels : (∃ p ∈ k.plan, p.status = .waitingSlot) → .cancelDrive e.t ∈ c.o.handed
  waits : (∃ p ∈ k.plan, p.status = .moving) → c.o.port = b.o.port ∧ ∃ x, c.u.tr.context = some x ∧
    (x.phase = .windUp ∧ x.outcome = some why ∧ x.closing = closing) ∧ x.claim = k.claim
  releases : (¬ ∃ p ∈ k.plan, p.status = .moving) → ∀ q, k.claim = some q → .release e.t q.column ∈ c.o.handed
  mutes : (¬ ∃ p ∈ k.plan, p.status = .moving) → b.u.tr.rf = some true → c.o.port = b.o.port ++ [(e.t, .mute)] ∧
    ∃ x, c.u.tr.context = some x ∧ (x.phase = .windUp ∧ x.outcome = some why ∧ x.closing = closing) ∧ x.claim = none ∧
      x.deadline = some { count := 0, limit := e.limits.mute }
  ends : (¬ ∃ p ∈ k.plan, p.status = .moving) → b.u.tr.unmuted = false → b.u.tr.muteConfirmed = true →
    b.u.tr.rf ≠ some true → b.u.tr.slot = none →
    c.u.tr.state = .ready ∧ c.u.tr.context = none ∧ c.o.port = b.o.port ∧
    (k.started = false → c.o.voice = b.o.voice.raise (Claims.failure e.t why false) ∧
      ∃ m, c.o.log = b.o.log.write m ∧ m.kind = .failed ∧ m.detail = why ∧ m.t = e.t)

theorem abandon_of_ended (hcontext : b.u.tr.context = some k) (h : k.origin = .end_ ∨ k.phase = .windUp) (why closing : Detail) :
    b.abandon e why closing = b := by
  unfold abandon
  rw [hcontext]
  exact if_pos h

theorem abandon_eq (hcontext : b.u.tr.context = some k) (horigin : k.origin ≠ .end_) (hphase : k.phase ≠ .windUp)
    (why closing : Detail) : b.abandon e why closing = ((b.windingUp why closing none k).cancelWaiting e).proceed e := by
  unfold abandon
  rw [hcontext]
  exact (if_neg (by simp [horigin, hphase])).trans (failAs_eq hcontext hphase ..)

theorem abandon_abandons {why closing : Detail} (hcontext : b.u.tr.context = some k) (horigin : k.origin ≠ .end_)
    (hphase : k.phase ≠ .windUp) (hready : why.leavesReady = true) :
    Abandons e why closing k b ((b.abandon e why closing).reportRow e) := by
  let x := Context.windUp why closing none k
  let c := b.windingUp why closing none k
  have hc : c.u.tr.context = some x := by simp [c, x, hcontext]
  have hcancel := cancelWaiting_context (e := e) hc
  have hcontext' : (c.cancelWaiting e).u.tr.context = some x.cancel := by rw [hcancel]
  have hmoving : x.cancel.stepMoving = true ↔ ∃ p ∈ k.plan, p.status = .moving := by
    rw [Context.cancel_stepMoving]
    exact k.stepMoving_iff
  have hstill : (¬ ∃ p ∈ k.plan, p.status = .moving) → x.cancel.stepMoving = false :=
    fun h => Bool.eq_false_iff.2 (mt hmoving.1 h)
  rw [abandon_eq hcontext horigin hphase]
  refine ⟨fun hwaits => ?_, fun hmoves => ?_, fun h q hq => ?_, fun h hrf => ?_, fun h hunmuted hconfirmed hrf hslot => ?_⟩
  · simpa using mem_proceed (e := e) (cancelWaiting_cancels (e := e) hc hwaits)
  · rw [proceed_of_moving hcontext' (hmoving.2 hmoves)]
    exact ⟨by simp [c], x.cancel, by simp [hcontext'], ⟨rfl, rfl, rfl⟩, rfl⟩
  · simpa using proceed_releases (e := e) hcontext' (hstill h) hq
  · rw [proceed_of_carrier hcontext' (hstill h) rfl hready (by rw [hcancel]; simpa [c] using hrf)]
    refine ⟨by simp [c], { x.cancel with claim := none, deadline := some (Timer.start e.limits.mute) }, ?_,
      ⟨rfl, rfl, rfl⟩, rfl, rfl⟩
    simp [sendMute_tr, hcontext']
  · rw [proceed_of_silence hcontext' (hstill h) (by rw [hcancel]; simpa [c] using hunmuted)
      (by rw [hcancel]; simpa [c] using hconfirmed) (by rw [hcancel]; simpa [c] using hrf),
      applyOutcome_of_ready (k := { x.cancel with claim := none }) (by simp [hcontext']) hready (by simp [hcancel, c, hslot])]
    refine ⟨by simp, by simp, by simp [c], fun hstarted => ?_⟩
    obtain ⟨m, hm, ht, hkind, hdetail⟩ := concluded_log (e := e) (b := (c.cancelWaiting e).releaseClaim e)
      (k := { x.cancel with claim := none }) (fun h => absurd (hstarted.symm.trans h) (by decide))
    refine ⟨?_, m, ?_, ?_, ?_, ht⟩
    · simp [c, x, Context.cancel, Context.windUp]
    · simpa [c] using hm
    · simpa [x, Context.cancel, Context.windUp, hstarted] using hkind
    · simpa [x, Context.cancel, Context.windUp, hstarted] using hdetail

/-- Ended work of a transmitter that carries no transmission is a changeover abandoned. -/
theorem endWork_of_changing (hstate : b.u.tr.state = .changing) (cause why : Detail) :
    b.endWork e cause why = b.abandon e why cause := if_neg (by rw [hstate]; decide)

end Bench

theorem withdrawalAbandons : Claims.WithdrawalAbandons := by
  intro t k s hlive r hstate hcontext hslot moving closes
  have hexec := exec_csq (i := .withdrawEndOrder t) (f := fun e b => b.endWork e .withdrawn .withdrawn) rfl hlive
  rw [Bench.endWork_of_changing (b := s.bench t) hstate] at hexec
  refine ⟨_, hexec, fun hruns => ?_, fun horigin hphase => ?_⟩
  · rw [Bench.abandon_of_ended (b := s.bench t) hcontext hruns]
    exact ⟨by simpa using hcontext, by simp, by simp⟩
  · obtain ⟨hcancels, hwaits, hreleases, hmutes, hends⟩ :=
      Bench.abandon_abandons (e := s.env t) (b := s.bench t) (why := .withdrawn) (closing := .withdrawn) hcontext horigin hphase rfl
    simp only [State.putBench_tr, State.putBench_out]
    refine ⟨hcancels, hwaits, hreleases, hmutes, fun hstill hunmuted hconfirmed hrf hstarted => ?_⟩
    obtain ⟨hready, hnone, hport, htold⟩ := hends hstill hunmuted hconfirmed hrf hslot
    obtain ⟨hvoice, m, hlog, hkind, hdetail, ht⟩ := htold hstarted
    exact ⟨hready, hnone, hport, raises_of_voice hvoice, m, hlog, hkind, hdetail, ht⟩

end Sys2Proof.Machine

/-! A hold taken outside ON_AIR, and the end of a hold (R132, R134, R141, R142; O53). -/

namespace Sys2Proof.Machine

theorem holdsTakenElsewhere : Claims.HoldsTakenElsewhere := by
  intro t a s hlive r added bothOff held
  have hexec := exec_csq (i := .holdAdd t a) (f := Bench.holdAdd a) rfl hlive
  refine ⟨fun hstate hcontext => ?_, fun k hstate hcontext hphase => ?_, fun k hstate hcontext hramp hwindUp hend => ?_⟩
  · rw [Bench.holdAdd_of_carrying a (Or.inr hstate)] at hexec
    by_cases hstage : ∃ w, r.stage = .ramp w
    · rw [Bench.goHeld_of_up (b := (s.bench t).held a) hcontext (Or.inr hstage)] at hexec
      refine ⟨_, hexec, ⟨?_, ?_, ?_, ?_, ?_, ?_, ?_⟩, ?_, fun hno => absurd hstage (by simpa using hno),
        fun w hw => ⟨?_, ?_, ?_, ?_⟩⟩
      all_goals simp [added, Bench.held, Bench.sendMute_tr, TxRecord.stopRestrike, r, show (s.tr t).context = none from hcontext]
    · rw [Bench.goHeld_of_down (b := (s.bench t).held a) hcontext
        (by rw [show ((s.bench t).held a).u.tr.state = .tripped from hstate]; decide) (not_exists.1 hstage)] at hexec
      refine ⟨_, hexec, ⟨?_, ?_, ?_, ?_, ?_, ?_, ?_⟩, ?_, fun _ => ?_, fun w hw => absurd ⟨w, hw⟩ hstage⟩
      all_goals simp [added, Bench.held, TxRecord.stopRestrike, r, show (s.tr t).context = none from hcontext]
  · rw [Bench.holdAdd_of_ramp a hstate hcontext hphase, Bench.goHeld_of_ramp (b := (s.bench t).held a) hcontext hphase] at hexec
    refine ⟨_, hexec, ⟨?_, ?_, ?_, ?_, ?_, ?_, ?_⟩, ⟨?_, ?_⟩, ?_, ?_, fun q hq => ?_⟩
    case refine_12 => simp [Bench.held, Bench.discardRamp, Bench.sendMute_tr, show (s.tr t).context = some k from hcontext, hq]
    all_goals simp [added, Bench.held, Bench.discardRamp, Bench.sendMute_tr, TxRecord.stopRestrike, r]
  · rw [Bench.holdAdd_of_changing a hstate hcontext hramp hwindUp hend] at hexec
    have hc : (s.tr t).context = some k := hcontext
    have hs : (s.tr t).state = .changing := hstate
    refine ⟨_, hexec, ?_⟩
    cases hunmuted : (s.tr t).unmuted with
    | true =>
      simp only [State.bench_tr, hunmuted, if_true]
      refine ⟨?_, ?_, ?_, ?_, ?_, ?_, fun hrf => ?_⟩
      case refine_7 => simp [Bench.sendMute_refl, Bench.held, show (s.tr t).rf = some true from hrf]
      all_goals simp [added, Bench.held, Bench.sendMute_tr, r, hc, hs, hunmuted]
    | false =>
      simp only [State.bench_tr, hunmuted, Bool.false_eq_true, if_false]
      simp [added, Bench.held, r, hc, hs, hunmuted]

/-! ### The hold set empties, or the column returns (R132, R134, R142) -/

namespace Bench

variable {e : Env} {b : Bench} {x : Transmission}

theorem afterRelease_eq (hstate : b.u.tr.state = .held) (hholds : b.u.tr.holds.empty = true) (hslot : b.u.tr.slot = none)
    (hcurrent : b.u.tr.current = some x) (hservice : (e.matrix.column x.column).inService = true) : b.afterRelease e =
    if x.runs e.reading.minutes then (b.install (x.context .resume .hold)).tryCross e else b.endHeld e := by
  simp [afterRelease, hstate, hholds, hslot, hcurrent, hservice]

theorem enterRamp_of_resume {k : Context} (horigin : k.origin = .resume) : b.enterRamp e k =
    ((((b.raiseCarrier e (b.u.tr.desc.powerSent k.kW)).station fun u => u.arm e.limits.arming).tr fun r =>
      { r with restrikes := 0 }).ctx fun c =>
        { c with phase := .ramp, deadline := some (Timer.start e.limits.ramp), started := true }).reportRow e := by
  simp [enterRamp, horigin]

end Bench

theorem Transmission.runs_iff (x : Transmission) (now : Nat) :
    x.runs now = true ↔ ∀ w, x.work = some w → now < w.windowEnd := by
  unfold Transmission.runs
  split
  next w h => simp [h]
  next h => simp [h]

theorem heldTransmissionResumesOrEnds : Claims.HeldTransmissionResumesOrEnds := by
  refine ⟨?_, fun t g s hlive hleft => ?_⟩
  · intro t g x i s hlive hstate hcurrent hcontext hslot hservice hi kW
    obtain ⟨b, hexec, htr, ho⟩ : ∃ b : Bench, exec i s = .next (s.putBench t
        ((b.afterRelease (s.env t)).reportRow (s.env t))) ∧
        (∃ h : Sources, h.empty = true ∧ b.u.tr = { s.tr t with holds := h }) ∧ b.o = s.out := by
      rcases hi with ⟨rfl, hbefore, hafter⟩ | ⟨rfl, hholds⟩
      · have hb : ((s.bench t).tr fun r => { r with holds := r.holds.remove g }).u.tr.holds.empty = true := hafter
        refine ⟨(s.bench t).tr fun r => { r with holds := r.holds.remove g }, ?_, ⟨_, hafter, rfl⟩, rfl⟩
        refine (exec_csq (f := Bench.holdRemove g) rfl hlive).trans ?_
        exact congrArg (fun b => Host.Outcome.next (s.putBench t (Bench.reportRow (s.env t) b)))
          (if_pos ⟨by rw [State.bench_tr, hbefore]; decide, hb⟩)
      · refine ⟨s.bench t, ?_, ⟨_, hholds, rfl⟩, rfl⟩
        refine (exec_csq (f := Bench.serviceChanged x.column true) rfl hlive).trans ?_
        have hroute : (s.tr t).route = some x.column := by simp [TxRecord.route, hcontext, hcurrent]
        simp [Bench.serviceChanged, hstate, hroute]
    obtain ⟨h, hempty, htr⟩ := htr
    have hafter := Bench.afterRelease_eq (e := s.env t) (b := b) (x := x) (by rw [htr]; exact hstate) (by rw [htr]; exact hempty)
      (by rw [htr]; exact hslot) (by rw [htr]; exact hcurrent) hservice
    refine ⟨fun hruns => ?_, fun w hw hpast => ?_⟩
    · have htime : x.runs (s.env t).reading.minutes = true := (x.runs_iff _).2 hruns
      rw [hafter, if_pos htime,
        Bench.tryCross_of_clear (k := x.context .resume .hold) _ _ rfl rfl (by simpa [Bench.install, htr] using hempty) hservice,
        Bench.enterRamp_of_resume rfl] at hexec
      refine ⟨_, { x.context .resume .hold with
        phase := .ramp, deadline := some (Timer.start s.limits.ramp), started := true }, hexec, ?_, ?_, rfl, rfl, ?_, ?_, ?_⟩
      all_goals simp [Bench.install, htr, hcurrent, ho, kW]
      rfl
    · have hends : ¬ x.runs (s.env t).reading.minutes = true := fun hr =>
        absurd ((x.runs_iff _).1 hr w hw) (not_lt.2 hpast)
      rw [hafter, if_neg hends] at hexec
      refine ⟨_, { Bench.endEntry (s.env t) x .hold with sequence := s.out.log.next }, hexec, ?_, ?_, ?_, ?_, rfl, rfl, ?_⟩
      all_goals simp [Bench.endHeld, Bench.endRecord_log _ _ (x := x), htr, hcurrent, ho, hw, Log.write_last]
  · refine ⟨_, exec_csq (f := Bench.holdRemove g) rfl hlive, ?_⟩
    have hsame : (s.bench t).holdRemove g (s.env t) = (s.bench t).tr fun r => { r with holds := r.holds.remove g } :=
      if_neg fun h => absurd (hleft.symm.trans h.2) (by decide)
    rw [hsame]
    simp

/-- Settles O53: a hold, a withdrawal and a fault of the matrix each come down to `Bench.goHeld`, to an END context or to
the wind-up's steps, and the end of a hold to `Bench.afterRelease`. -/
theorem holdsAndResumes : Obligations.HoldsAndResumes :=
  ⟨holdsAndFaultsTakeTheCarrierDown, withdrawalAbandons, holdsTakenElsewhere, heldTransmissionResumesOrEnds⟩

end Sys2Proof.Machine

/-! A changeover's phases from CLAIM to HOLD, and its drive plan (R123-R127, R135; O50). -/

namespace Sys2Proof.Machine

/-! ### Contexts by phase -/

namespace Context

/-- The claim of a context is answered (R123). -/
def granted (c : Col) (k : Context) : Context :=
  { k with deadline := none, claim := some { column := c, status := .granted } }

/-- A context turned to its reserve, which it claims (R123). -/
def turned (d : Col) (k : Context) : Context :=
  { k with target := d, reserveUsed := true, deadline := none, claim := some { column := d, status := .sent } }

/-- A context in SETTLE (R125). -/
def settling (e : Env) (k : Context) : Context := { k with phase := .settle, deadline := some (Timer.start e.limits.settle) }

/-- No step of the plan is in progress, so that the next planned one is asked for (R126). -/
def idle (k : Context) : Bool := !(k.plan.any fun p => p.status == .waitingSlot || p.status == .moving)

/-- The step that is asked for next (R126). -/
def next (k : Context) : Option PlanStep := if k.idle then k.plan.find? fun p => p.status == .planned else none

/-- A context with its next step asked for (R126). -/
def asking (k : Context) : Context :=
  match k.next with
  | some p => { k with plan := k.plan.map fun q => if q = p then { q with status := .waitingSlot } else q }
  | none => k

/-- A context in DRIVE with its plan made and TUNE sent, its first step asked for (R125, R126). -/
def driving (e : Env) (k : Context) : Context :=
  asking { k with
    phase := .drive, plan := e.matrix.plan e.t k.target, tune := .sent
    deadline := some (Timer.start e.limits.tune) }

theorem claims_of {k : Context} {c : Col} {q : ClaimInFlight} (hphase : k.phase = .claim) (hclaim : k.claim = some q)
    (hcolumn : q.column = c) : k.claims c = true := by
  simp [claims, hphase, hclaim, hcolumn]

theorem not_claims {k : Context} {c : Col} (h : ∀ q, k.claim = some q → q.column ≠ c) : k.claims c = false := by
  unfold claims
  cases hq : k.claim with
  | none => simp
  | some q => simp [h q hq]

@[simp] theorem asking_phase (k : Context) : k.asking.phase = k.phase := by unfold asking; split <;> rfl
@[simp] theorem asking_tune (k : Context) : k.asking.tune = k.tune := by unfold asking; split <;> rfl
@[simp] theorem asking_target (k : Context) : k.asking.target = k.target := by unfold asking; split <;> rfl
@[simp] theorem asking_deadline (k : Context) : k.asking.deadline = k.deadline := by unfold asking; split <;> rfl
@[simp] theorem asking_length (k : Context) : k.asking.plan.length = k.plan.length := by
  unfold asking
  split <;> simp

end Context

/-- The direction in which a step drives its crosspoint (R126). -/
def PlanStep.direction (p : PlanStep) : Direction := if p.kind = .closeTarget then .closing else .opening

namespace Bench

variable {e : Env} {b : Bench} {k : Context} {c d : Col}

/-! ### CLAIM (R123) -/

theorem claimGranted_eq (hcontext : b.u.tr.context = some k) (hclaims : k.claims c = true) :
    b.claimGranted c e = (b.ctx (Context.granted c)).enterMute e := by
  unfold claimGranted
  rw [hcontext]
  exact if_pos hclaims

theorem claimListed_eq (hcontext : b.u.tr.context = some k) (hclaims : k.claims c = true) : b.claimListed c e =
    b.ctx fun k => { k with
      deadline := some (Timer.start e.limits.claimWait), claim := some { column := c, status := .listed } } := by
  unfold claimListed
  rw [hcontext]
  exact if_pos hclaims

theorem claimRefused_eq (hcontext : b.u.tr.context = some k) (hclaims : k.claims c = true) :
    b.claimRefused c e = (b.ctx fun k => { k with claim := none }).retarget e .noAntenna := by
  unfold claimRefused
  rw [hcontext]
  exact if_pos hclaims

theorem answers_of_other (hcontext : b.u.tr.context = some k) (hclaims : k.claims c = false) :
    b.claimGranted c e = b ∧ b.claimListed c e = b ∧ b.claimRefused c e = b := by
  unfold claimGranted claimListed claimRefused
  rw [hcontext]
  simp [hclaims]

theorem claimWaitExpired_eq {q : ClaimInFlight} (hcontext : b.u.tr.context = some k) (hphase : k.phase = .claim)
    (hclaim : k.claim = some q) (hlisted : q.status = .listed) : b.claimWaitExpired e =
    ((b.ctx fun k => { k with claim := none }).out fun o => o.hand (.withdrawClaim e.t q.column)).retarget e .antennaHeld := by
  unfold claimWaitExpired
  rw [hcontext]
  dsimp only
  rw [hphase, hclaim]
  exact if_pos hlisted

theorem retarget_eq (hcontext : b.u.tr.context = some k) (hreserve : k.reserve = some d) (hunused : k.reserveUsed = false)
    (why : Detail) : b.retarget e why = (b.ctx (Context.turned d)).out fun o => o.hand (.claim e.t d) := by
  unfold retarget
  rw [hcontext]
  dsimp only
  rw [hreserve]
  exact if_neg (by simp [hunused])

/-! ### MUTE, SETTLE and DRIVE (R124-R126) -/

/-- MUTE sent as the MUTE phase begins (R124). -/
def muting (e : Env) (b : Bench) : Bench :=
  (((b.ctx fun c => { c with phase := .mute, deadline := some (Timer.start e.limits.mute) }).station Station.disarm).tr
    fun r => { r with radiated := none }).sendMute e

/-- A RESERVE context's wait for its trip's mute (R135). -/
def awaiting (b : Bench) : Bench := b.ctx fun c => { c with phase := .mute, deadline := none }

theorem enterMute_of_start (hcontext : b.u.tr.context = some k) (horigin : k.origin ≠ .reserve) :
    b.enterMute e = if (b.muting e).u.tr.muteConfirmed then (b.muting e).enterSettle e else b.muting e := by
  unfold enterMute
  rw [hcontext]
  exact if_neg (by simp [horigin])

theorem enterMute_of_reserve (hcontext : b.u.tr.context = some k) (horigin : k.origin = .reserve) :
    b.enterMute e = if b.u.tr.muteConfirmed then b.awaiting.enterSettle e else b.awaiting := by
  unfold enterMute
  rw [hcontext]
  exact if_pos (by simp [horigin])

theorem muting_tr (hcontext : b.u.tr.context = some k) : (b.muting e).u.tr =
    { b.u.tr with
      context := some { k with phase := .mute, deadline := some (Timer.start e.limits.mute) }, radiated := none
      unmuted := false, mutedOnce := true, muteConfirmed := b.u.tr.rf == some false
      tripWatch := if b.u.tr.rf = some false then none else b.u.tr.tripWatch } := by
  simp [muting, sendMute_tr, hcontext]

@[simp] theorem muting_port : (b.muting e).o.port = b.o.port ++ [(e.t, .mute)] := by simp [muting]
@[simp] theorem muting_refl_state : (b.muting e).u.refl.state = .off := by
  simp only [muting, sendMute_refl]
  split <;> rfl
@[simp] theorem muting_fwd_state : (b.muting e).u.fwd.state = .off := by simp [muting]

theorem enterSettle_of_time (hsettle : e.limits.settle ≠ 0) :
    b.enterSettle e = (b.ctx (Context.settling e)).reportRow e := if_neg hsettle

theorem enterSettle_of_none (hsettle : e.limits.settle = 0) :
    b.enterSettle e = ((b.ctx (Context.settling e)).reportRow e).enterDrive e := if_pos hsettle

/-- A change of the context is decided by what it makes of the context there is. -/
theorem ctx_congr {f g : Context → Context} (hcontext : b.u.tr.context = some k) (h : f k = g k) : b.ctx f = b.ctx g := by
  simp [ctx, tr, hcontext, h]

theorem ctx_ctx (f g : Context → Context) : (b.ctx f).ctx g = b.ctx (g ∘ f) := by
  simp [ctx, tr, Option.map_map]

theorem nextStep_eq (hcontext : b.u.tr.context = some k) : b.nextStep e =
    match k.next with
    | some p => (b.ctx fun _ => k.asking).out fun o => o.hand (.driveRequest e.t p.row p.column p.direction k.priority)
    | none => b := by
  have hask : ∀ p, k.next = some p → b.ctx (fun c =>
      { c with plan := c.plan.map fun q => if q = p then { q with status := .waitingSlot } else q }) =
      b.ctx fun _ => k.asking := fun p hp => ctx_congr hcontext (by rw [Context.asking, hp])
  unfold nextStep
  rw [hcontext]
  dsimp only
  by_cases hidle : k.idle = true
  · rw [if_neg (by simpa [Context.idle] using hidle)]
    have hnext : k.next = k.plan.find? fun p => p.status == .planned := if_pos hidle
    rw [← hnext]
    cases hp : k.next with
    | none => rfl
    | some p =>
      exact congrArg (fun x : Bench => x.out fun o => o.hand (.driveRequest e.t p.row p.column p.direction k.priority))
        (hask p hp)
  · have hnone : k.next = none := if_neg hidle
    rw [if_pos (by simpa only [Context.idle, Bool.not_eq_true', Bool.not_eq_false] using hidle), hnone]

theorem nextStep_tr (hcontext : b.u.tr.context = some k) :
    (b.nextStep e).u.tr = { b.u.tr with context := some k.asking } := by
  rw [nextStep_eq hcontext]
  cases hp : k.next with
  | some p => simp [hcontext]
  | none => rw [Context.asking, hp, ← hcontext]

theorem nextStep_port (hcontext : b.u.tr.context = some k) : (b.nextStep e).o.port = b.o.port := by
  rw [nextStep_eq hcontext]
  cases k.next <;> rfl

theorem nextStep_asks {p : PlanStep} (hcontext : b.u.tr.context = some k) (hp : k.next = some p) :
    .driveRequest e.t p.row p.column p.direction k.priority ∈ (b.nextStep e).o.handed := by
  rw [nextStep_eq hcontext, hp]
  simp

/-- The order and the context with which DRIVE begins (R125, R126). -/
theorem enterDrive_eq (hcontext : b.u.tr.context = some k) (hroute : e.matrix.routeUnknown e.t k.target = false) :
    b.enterDrive e = (((b.ctx fun c => { c with
      phase := .drive, plan := e.matrix.plan e.t k.target, tune := .sent
      deadline := some (Timer.start e.limits.tune) }).order e (.tune k.kHz k.programme)).nextStep e) := by
  have hctx : (b.ctx fun c => { c with phase := .drive, deadline := none }).ctx (fun c => { c with
      plan := e.matrix.plan e.t c.target, tune := .sent, deadline := some (Timer.start e.limits.tune) }) =
      b.ctx fun c => { c with
        phase := .drive, plan := e.matrix.plan e.t k.target, tune := .sent
        deadline := some (Timer.start e.limits.tune) } := (ctx_ctx ..).trans (ctx_congr hcontext rfl)
  unfold enterDrive
  rw [hcontext]
  dsimp only
  rw [if_neg (by simp [hroute]), hctx]

theorem enterDrive_tr (hcontext : b.u.tr.context = some k) (hroute : e.matrix.routeUnknown e.t k.target = false) :
    (b.enterDrive e).u.tr = { b.u.tr with context := some (k.driving e) } := by
  rw [enterDrive_eq hcontext hroute, nextStep_tr (k := { k with
    phase := .drive, plan := e.matrix.plan e.t k.target, tune := .sent, deadline := some (Timer.start e.limits.tune) })
    (by simp [order, hcontext])]
  rfl

theorem enterDrive_port (hcontext : b.u.tr.context = some k) (hroute : e.matrix.routeUnknown e.t k.target = false) :
    (b.enterDrive e).o.port = b.o.port ++ [(e.t, .tune k.kHz k.programme)] := by
  rw [enterDrive_eq hcontext hroute, nextStep_port (k := { k with
    phase := .drive, plan := e.matrix.plan e.t k.target, tune := .sent, deadline := some (Timer.start e.limits.tune) })
    (by simp [order, hcontext])]
  rfl

end Bench

/-! ### The answers to a claim (R123) -/

theorem claimAnswersFollowed : Claims.ClaimAnswersFollowed := by
  intro t c k s hlive hcontext hphase r
  refine ⟨fun q hclaim hcolumn horigin hrf => ?_, fun q hclaim hcolumn horigin hsettle => ?_,
    fun q hclaim hcolumn => ?_, fun q d hclaim hcolumn hreserve hunused => ?_,
    fun q d hclaim hlisted hreserve hunused => ?_, fun hother i hi => ?_⟩
  · have hexec := exec_csq (i := .claimGranted t c) (f := Bench.claimGranted c) rfl hlive
    have hgranted : ((s.bench t).ctx (Context.granted c)).u.tr.context = some (k.granted c) := by simp [hcontext]
    have hrf' : (s.tr t).rf = some true := hrf
    have hmuting := Bench.muting_tr (e := s.env t) hgranted
    rw [Bench.claimGranted_eq hcontext (Context.claims_of hphase hclaim hcolumn),
      Bench.enterMute_of_start hgranted horigin, if_neg (by simp [hmuting, hrf'])] at hexec
    refine ⟨_, { k.granted c with phase := .mute, deadline := some (Timer.start s.limits.mute) }, hexec, ?_, rfl, rfl, rfl,
      rfl, ?_, ?_, ?_⟩
    all_goals simp [hmuting, hrf']
  · have hexec := exec_csq (i := .claimGranted t c) (f := Bench.claimGranted c) rfl hlive
    have hgranted : ((s.bench t).ctx (Context.granted c)).u.tr.context = some (k.granted c) := by simp [hcontext]
    rw [Bench.claimGranted_eq hcontext (Context.claims_of hphase hclaim hcolumn),
      Bench.enterMute_of_reserve hgranted horigin] at hexec
    by_cases hconfirmed : r.muteConfirmed = true
    · have hc : (s.tr t).muteConfirmed = true := hconfirmed
      rw [if_pos (by simpa using hconfirmed), Bench.enterSettle_of_time hsettle] at hexec
      refine ⟨_, Context.settling (s.env t) { k.granted c with phase := .mute, deadline := none }, hexec, ?_, ?_, rfl,
        fun _ => ⟨rfl, rfl⟩, fun h => absurd (hconfirmed.symm.trans h) (by decide)⟩
      all_goals simp [Bench.awaiting, hcontext]
    · rw [if_neg (by simpa using hconfirmed)] at hexec
      refine ⟨_, { k.granted c with phase := .mute, deadline := none }, hexec, ?_, ?_, rfl, fun h => absurd h hconfirmed,
        fun _ => rfl⟩
      all_goals simp [Bench.awaiting, hcontext]
  · have hexec := exec_csq (i := .claimListed t c) (f := Bench.claimListed c) rfl hlive
    rw [Bench.claimListed_eq hcontext (Context.claims_of hphase hclaim hcolumn)] at hexec
    exact ⟨_, hexec, by simp [hcontext, Timer.start]⟩
  · have hexec := exec_csq (i := .claimRefused t c) (f := Bench.claimRefused c) rfl hlive
    rw [Bench.claimRefused_eq hcontext (Context.claims_of hphase hclaim hcolumn),
      Bench.retarget_eq (k := { k with claim := none }) (by simp [hcontext]) hreserve hunused] at hexec
    exact ⟨_, hexec, by simp, by simp [hcontext, Context.turned]⟩
  · have hexec := exec_csq (i := .claimWaitExpiry t) (f := Bench.claimWaitExpired) rfl hlive
    rw [Bench.claimWaitExpired_eq hcontext hphase hclaim hlisted,
      Bench.retarget_eq (k := { k with claim := none }) (by simp [hcontext]) hreserve hunused] at hexec
    exact ⟨_, hexec, by simp, by simp, by simp [hcontext, Context.turned]⟩
  · obtain ⟨hg, hl, hr⟩ := Bench.answers_of_other (e := s.env t) (b := s.bench t) hcontext (Context.not_claims hother)
    have unchanged : ∀ {f : Env → Bench → Bench}, exec i s = s.take (fun y => y.csq t f) →
        f (s.env t) (s.bench t) = s.bench t → ∃ n, exec i s = .next n ∧ (n.tr t).context = some k := fun hf hsame => by
      refine ⟨_, exec_csq hf hlive, ?_⟩
      rw [hsame]
      simp [hcontext]
    simp only [List.mem_cons, List.not_mem_nil, or_false] at hi
    rcases hi with rfl | rfl | rfl
    · exact unchanged (f := Bench.claimGranted c) rfl hg
    · exact unchanged (f := Bench.claimListed c) rfl hl
    · exact unchanged (f := Bench.claimRefused c) rfl hr

end Sys2Proof.Machine

/-! Phases that end at once, the drive plan, and the phases from MUTE to HOLD (R124-R127, R135; O50). -/

namespace Sys2Proof.Machine

/-! ### The drive plan (R125) -/

/-- A planned step. -/
def planned (kind : StepKind) (row : Tx) (c : Col) : PlanStep := { kind := kind, row := row, column := c, status := .planned }

namespace Matrix

variable (m : Matrix) (t : Tx) (c : Col)

/-- The step that opens the transmitter's own crosspoint elsewhere. -/
def planOwn : List PlanStep :=
  match allCols.find? fun d => d != c && m.xstate t d == .closed with
  | some d => [planned .openOwn t d]
  | none => []

/-- The step that opens the target column's holder in another row. -/
def planHolder : List PlanStep :=
  match (m.column c).holder with
  | some h => if h = t then [] else [planned .openHolder h c]
  | none => []

/-- The step that closes the target. -/
def planClose : List PlanStep := if m.xstate t c = .closed then [] else [planned .closeTarget t c]

theorem plan_eq : m.plan t c = m.planOwn t c ++ m.planHolder t c ++ m.planClose t c := rfl

variable {m t c} {p : PlanStep}

theorem mem_planOwn : p ∈ m.planOwn t c ↔
    ∃ d, (allCols.find? fun d => d != c && m.xstate t d == .closed) = some d ∧ p = planned .openOwn t d := by
  unfold planOwn
  split
  next d hd => simp [hd]
  next hnone => simp [hnone]

theorem mem_planHolder : p ∈ m.planHolder t c ↔ ∃ h, (m.column c).holder = some h ∧ h ≠ t ∧ p = planned .openHolder h c := by
  unfold planHolder
  split
  next h hh =>
    split
    next heq => simp [hh, heq]
    next hne => simp [hh, hne]
  next hh => simp [hh]

theorem mem_planClose : p ∈ m.planClose t c ↔ m.xstate t c ≠ .closed ∧ p = planned .closeTarget t c := by
  unfold planClose
  split <;> simp_all

theorem mem_plan : p ∈ m.plan t c ↔ p ∈ m.planOwn t c ∨ p ∈ m.planHolder t c ∨ p ∈ m.planClose t c := by
  rw [plan_eq, List.mem_append, List.mem_append, or_assoc]

theorem mem_plan_planned (h : p ∈ m.plan t c) : p = planned p.kind p.row p.column := by
  rcases mem_plan.1 h with h | h | h
  · obtain ⟨d, -, rfl⟩ := mem_planOwn.1 h
    rfl
  · obtain ⟨u, -, -, rfl⟩ := mem_planHolder.1 h
    rfl
  · obtain ⟨-, rfl⟩ := mem_planClose.1 h
    rfl

theorem planOwn_kinds : ((m.planOwn t c).map (·.kind)).Sublist [.openOwn] := by
  unfold planOwn
  split <;> simp [planned]

theorem planHolder_kinds : ((m.planHolder t c).map (·.kind)).Sublist [.openHolder] := by
  unfold planHolder
  split
  · split <;> simp [planned]
  · simp

theorem planClose_kinds : ((m.planClose t c).map (·.kind)).Sublist [.closeTarget] := by
  unfold planClose
  split <;> simp [planned]

end Matrix

theorem planMade : Claims.PlanMade := by
  intro m t c step
  refine ⟨?_, fun p hp => Matrix.mem_plan_planned hp, fun row d h => ?_, fun ⟨d, hne, hclosed⟩ => ?_, fun row d => ?_,
    fun row d => ?_⟩
  · rw [Matrix.plan_eq, List.map_append, List.map_append]
    exact (Matrix.planOwn_kinds.append Matrix.planHolder_kinds).append Matrix.planClose_kinds
  · rcases Matrix.mem_plan.1 h with h | h | h
    · obtain ⟨e, he, hp⟩ := Matrix.mem_planOwn.1 h
      obtain ⟨-, rfl, rfl, -⟩ := PlanStep.mk.inj hp
      have hfound := List.find?_some (p := fun d => d != c && m.xstate row d == .closed) he
      simp only [Bool.and_eq_true, bne_iff_ne, beq_iff_eq] at hfound
      exact ⟨rfl, hfound.1, hfound.2⟩
    · obtain ⟨u, -, -, hp⟩ := Matrix.mem_planHolder.1 h
      cases (PlanStep.mk.inj hp).1
    · obtain ⟨-, hp⟩ := Matrix.mem_planClose.1 h
      cases (PlanStep.mk.inj hp).1
  · have hsome : (allCols.find? fun d => d != c && m.xstate t d == .closed).isSome = true := by
      rw [List.find?_isSome]
      exact ⟨d, by rw [allCols_eq]; exact List.mem_finRange d, by simp [hne, hclosed]⟩
    obtain ⟨e, he⟩ := Option.isSome_iff_exists.1 hsome
    exact ⟨e, Matrix.mem_plan.2 (Or.inl (Matrix.mem_planOwn.2 ⟨e, he, rfl⟩))⟩
  · constructor
    · intro h
      rcases Matrix.mem_plan.1 h with h | h | h
      · obtain ⟨e, -, hp⟩ := Matrix.mem_planOwn.1 h
        cases (PlanStep.mk.inj hp).1
      · obtain ⟨u, hu, hne, hp⟩ := Matrix.mem_planHolder.1 h
        obtain ⟨-, rfl, rfl, -⟩ := PlanStep.mk.inj hp
        exact ⟨rfl, hu, hne⟩
      · obtain ⟨-, hp⟩ := Matrix.mem_planClose.1 h
        cases (PlanStep.mk.inj hp).1
    · rintro ⟨rfl, hholder, hne⟩
      exact Matrix.mem_plan.2 (Or.inr (Or.inl (Matrix.mem_planHolder.2 ⟨row, hholder, hne, rfl⟩)))
  · constructor
    · intro h
      rcases Matrix.mem_plan.1 h with h | h | h
      · obtain ⟨e, -, hp⟩ := Matrix.mem_planOwn.1 h
        cases (PlanStep.mk.inj hp).1
      · obtain ⟨u, -, -, hp⟩ := Matrix.mem_planHolder.1 h
        cases (PlanStep.mk.inj hp).1
      · obtain ⟨hclosed, hp⟩ := Matrix.mem_planClose.1 h
        obtain ⟨-, rfl, rfl, -⟩ := PlanStep.mk.inj hp
        exact ⟨rfl, rfl, hclosed⟩
    · rintro ⟨rfl, rfl, hclosed⟩
      exact Matrix.mem_plan.2 (Or.inr (Or.inr (Matrix.mem_planClose.2 ⟨hclosed, rfl⟩)))

/-- A plan as it is made has no step in progress: its first one is asked for. -/
theorem Matrix.next_of_plan (m : Matrix) (t : Tx) (c : Col) {k : Context} (hplan : k.plan = m.plan t c) :
    k.next = (m.plan t c).head? := by
  have hstatus : ∀ p ∈ m.plan t c, p.status = .planned := fun p hp => by rw [Matrix.mem_plan_planned hp]; rfl
  have hidle : k.idle = true := by
    unfold Context.idle
    rw [hplan, Bool.not_eq_true', List.any_eq_false]
    intro p hp
    simp [hstatus p hp]
  unfold Context.next
  rw [if_pos hidle, hplan]
  cases hm : m.plan t c with
  | nil => rfl
  | cons p ps =>
    have hp : p.status = .planned := hstatus p (by rw [hm]; exact List.mem_cons_self)
    simp [hp]

/-! ### Phases that end at once (R124, R125, R135) -/

namespace Bench

variable {e : Env} {b : Bench} {k : Context}

/-- With a settle time of 0 SETTLE is passed over: DRIVE begins (R125). -/
theorem enterSettle_drives (hcontext : b.u.tr.context = some k) (hsettle : e.limits.settle = 0)
    (hroute : e.matrix.routeUnknown e.t k.target = false) :
    (∃ c, (b.enterSettle e).u.tr = { b.u.tr with context := some ((k.settling e).driving e), reported := c }) ∧
    (b.enterSettle e).o.port = b.o.port ++ [(e.t, .tune k.kHz k.programme)] := by
  have hsettling : ((b.ctx (Context.settling e)).reportRow e).u.tr.context = some (k.settling e) := by simp [hcontext]
  rw [enterSettle_of_none hsettle]
  refine ⟨⟨(b.ctx (Context.settling e)).u.tr.toldOf, ?_⟩, ?_⟩
  · rw [enterDrive_tr hsettling hroute, reportRow_record]
    rfl
  · rw [enterDrive_port hsettling hroute]
    simp
    exact ⟨rfl, rfl⟩

/-- The mute of a changeover confirmed: SETTLE begins (R124). -/
theorem confirmed_of_mute (hstartup : ∀ m, b.u.tr.startup ≠ .muting m) (hcontext : b.u.tr.context = some k)
    (hphase : k.phase = .mute) (horigin : k.origin ≠ .end_) : b.confirmed e = b.enterSettle e := by
  unfold confirmed
  dsimp only
  split
  next m hm => exact absurd hm (hstartup m)
  · rw [hcontext]
    dsimp only
    rw [if_neg (by rw [hphase]; decide), if_pos hphase, if_neg horigin]

end Bench

/-- What a transmitter's bench shows when DRIVE begins at once: the orders with TUNE, and the mute confirmed. -/
def Bench.Drives (s : State) (t : Tx) (k : Context) (orders : List (Tx × PortOrder)) (b : Bench) : Prop :=
  b.o.port = s.out.port ++ orders ++ [(t, .tune k.kHz k.programme)] ∧ b.u.tr.muteConfirmed = true ∧
    ∃ k', b.u.tr.context = some k' ∧ k'.phase = .drive ∧ k'.tune = .sent ∧ k'.target = k.target ∧
      k'.deadline = some { count := 0, limit := s.limits.tune }

theorem Bench.Drives.report {s : State} {t : Tx} {k : Context} {orders : List (Tx × PortOrder)} {b : Bench}
    (h : b.Drives s t k orders) : (b.reportRow (s.env t)).Drives s t k orders := by
  simpa [Bench.Drives] using h

/-- SETTLE entered with a settle time of 0, by a context that differs from another in neither target nor tuning. -/
theorem Bench.Drives.of_settle {s : State} {t : Tx} {k j : Context} {orders : List (Tx × PortOrder)} {b : Bench}
    (hcontext : b.u.tr.context = some j) (hsettle : s.limits.settle = 0)
    (hroute : s.matrix.routeUnknown t k.target = false) (htarget : j.target = k.target) (hkHz : j.kHz = k.kHz)
    (hprogramme : j.programme = k.programme) (hconfirmed : b.u.tr.muteConfirmed = true)
    (hport : b.o.port = s.out.port ++ orders) : (b.enterSettle (s.env t)).Drives s t k orders := by
  obtain ⟨⟨c, htr⟩, hsent⟩ := Bench.enterSettle_drives (e := s.env t) hcontext hsettle (by rw [htarget]; exact hroute)
  refine ⟨?_, ?_, (j.settling (s.env t)).driving (s.env t), ?_, ?_, ?_, ?_, ?_⟩
  · rw [hsent, hport, hkHz, hprogramme]
    rfl
  · rw [htr]
    exact hconfirmed
  · rw [htr]
  all_goals simp [Context.driving, Context.settling, htarget, Timer.start]

theorem phasesEndAtOnce : Claims.PhasesEndAtOnce := by
  intro t k s hlive hcontext horigin hstartup r drives mine
  have claimed : ∀ {c : Col}, mine c → exec (.claimGranted t c) s =
      .next (s.putBench t ((((s.bench t).ctx (Context.granted c)).enterMute (s.env t)).reportRow (s.env t))) := fun h => by
    obtain ⟨hphase, q, hclaim, hcolumn⟩ := h
    refine (exec_csq (f := Bench.claimGranted _) rfl hlive).trans ?_
    rw [Bench.claimGranted_eq hcontext (Context.claims_of hphase hclaim hcolumn)]
  have hgranted : ∀ c, ((s.bench t).ctx (Context.granted c)).u.tr.context = some (k.granted c) := fun c => by simp [hcontext]
  have shows : ∀ {i : Instr} {b : Bench} {orders : List (Tx × PortOrder)},
      exec i s = .next (s.putBench t (b.reportRow (s.env t))) → b.Drives s t k orders →
        ∃ n, exec i s = .next n ∧ drives n orders := fun hexec h => ⟨_, hexec, by
    simpa [Bench.Drives, drives] using h.report⟩
  refine ⟨fun c hmine hstart hrf hsettle => ?_, fun c hmine hstart hrf hsettle hroute => ?_,
    fun c hmine hreserve hconfirmed hsettle hroute => ?_, fun hphase hunmuted hpending hsettle hroute => ?_⟩
  · have hrf' : (s.tr t).rf = some false := hrf
    have hmuting := Bench.muting_tr (e := s.env t) (hgranted c)
    have hexec := claimed hmine
    rw [Bench.enterMute_of_start (hgranted c) hstart, if_pos (by simp [hmuting, hrf']),
      Bench.enterSettle_of_time hsettle] at hexec
    refine ⟨_, hexec, ?_⟩
    simp [hmuting, hrf', Context.settling, Context.granted, Timer.start]
  · have hrf' : (s.tr t).rf = some false := hrf
    have hmuting := Bench.muting_tr (e := s.env t) (hgranted c)
    have hexec := claimed hmine
    rw [Bench.enterMute_of_start (hgranted c) hstart, if_pos (by simp [hmuting, hrf'])] at hexec
    exact shows hexec (.of_settle (congrArg TxRecord.context hmuting) hsettle hroute rfl rfl rfl
      (by simp [hmuting, hrf']) (by simp))
  · have hexec := claimed hmine
    rw [Bench.enterMute_of_reserve (hgranted c) hreserve, if_pos (by simpa using hconfirmed)] at hexec
    exact shows hexec (.of_settle (j := { k.granted c with phase := .mute, deadline := none })
      (by simp [Bench.awaiting, hcontext]) hsettle hroute rfl rfl rfl (by simpa [Bench.awaiting] using hconfirmed)
      (by simp [Bench.awaiting]))
  · have hexec := exec_csq (i := .rfAbsent t) (f := Bench.rfAbsent) rfl hlive
    obtain ⟨c, htr⟩ := (s.bench t).hushed_tr (s.env t)
    rw [Bench.rfAbsent_of_muted hunmuted hpending, Bench.confirmed_of_mute (k := k) (by simpa [htr] using hstartup)
      (by simp [htr, hcontext]) hphase horigin] at hexec
    exact shows hexec (.of_settle (j := k) (by simp [htr, hcontext]) hsettle hroute rfl rfl rfl (by simp [htr]) (by simp))

end Sys2Proof.Machine

/-! The steps of a drive plan asked for, begun and done, and the phases from MUTE to HOLD (R124-R127; O50). -/

namespace Sys2Proof.Machine

/-! ### One step of a plan (R126) -/

namespace Context

variable {k : Context} {before after : List PlanStep} {p : PlanStep}

/-- A report about the one step of a plan whose status it speaks of marks that step. -/
theorem mark_of_plan {test : StepStatus → Bool} {x : StepStatus} (hplan : k.plan = before ++ p :: after)
    (hp : test p.status = true) (hbefore : ∀ q ∈ before, test q.status = false)
    (hafter : ∀ q ∈ after, test q.status = false) :
    k.mark p.row p.column test x = { k with plan := before ++ { p with status := x } :: after } := by
  have kept : ∀ qs : List PlanStep, (∀ q ∈ qs, test q.status = false) → (qs.map fun q =>
      if q.row = p.row ∧ q.column = p.column ∧ test q.status then { q with status := x } else q) = qs := fun qs hqs =>
    (List.map_congr_left (g := id) fun q hq => if_neg (by simp [hqs q hq])).trans (List.map_id qs)
  unfold mark
  rw [hplan, List.map_append, List.map_cons, kept before hbefore, kept after hafter, if_pos ⟨rfl, rfl, hp⟩]

theorem has_of_plan {test : StepStatus → Bool} (hplan : k.plan = before ++ p :: after) (hp : test p.status = true) :
    k.has p.row p.column test = true := by
  unfold has
  rw [hplan]
  simp [hp]

/-- The first planned step of a plan with none in progress is the one asked for. -/
theorem next_of_done (hplan : k.plan = before ++ p :: after) (hp : p.status = .planned)
    (hbefore : ∀ q ∈ before, q.status = .done) (hafter : ∀ q ∈ after, q.status = .planned) : k.next = some p := by
  have hidle : k.idle = true := by
    unfold idle
    rw [hplan, Bool.not_eq_true', List.any_eq_false]
    intro q hq
    rcases List.mem_append.1 hq with hq | hq
    · simp [hbefore q hq]
    · rcases List.mem_cons.1 hq with rfl | hq
      · simp [hp]
      · simp [hafter q hq]
  have hnone : (before.find? fun q => q.status == .planned) = none :=
    List.find?_eq_none.2 fun q hq => by simp [hbefore q hq]
  unfold next
  rw [if_pos hidle, hplan, List.find?_append, hnone]
  simp [hp]

theorem asking_of_next (hplan : k.plan = before ++ p :: after) (hnext : k.next = some p) (hbefore : p ∉ before)
    (hafter : p ∉ after) : k.asking = { k with plan := before ++ { p with status := .waitingSlot } :: after } := by
  have kept : ∀ qs : List PlanStep, p ∉ qs →
      (qs.map fun q => if q = p then { q with status := .waitingSlot } else q) = qs := fun qs hqs =>
    (List.map_congr_left (g := id) fun q hq => if_neg fun (heq : q = p) => hqs (heq ▸ hq)).trans (List.map_id qs)
  unfold asking
  rw [hnext]
  dsimp only
  rw [hplan, List.map_append, List.map_cons, kept before hbefore, kept after hafter, if_pos rfl]

/-- A plan that is done has no next step. -/
theorem next_of_all_done (h : ∀ q ∈ k.plan, q.status = .done) : k.next = none := by
  unfold next
  split
  · exact List.find?_eq_none.2 fun q hq => by simp [h q hq]
  · rfl

theorem asking_of_all_done (h : ∀ q ∈ k.plan, q.status = .done) : k.asking = k := by
  unfold asking
  rw [next_of_all_done h]

/-- The DRIVE phase is done when its steps are and the tune is TUNED (R126). -/
theorem driveDone_iff : k.driveDone = true ↔ (∀ q ∈ k.plan, q.status = .done) ∧ k.tune = .tuned := by
  simp [driveDone]

end Context

namespace Bench

variable {e : Env} {b : Bench} {k : Context}

/-- DRIVE_DONE of a step asked for (R126). -/
theorem driveDone_eq {row : Tx} {c : Col} (hcontext : b.u.tr.context = some k) (hhas : k.has row c StepStatus.asked = true)
    (hphase : k.phase = .drive) : b.driveDone row c e =
    ((b.ctx (Context.mark row c StepStatus.asked .done)).nextStep e).checkDrive e := by
  unfold driveDone
  rw [hcontext]
  dsimp only
  rw [if_pos hhas, if_neg (by rw [hphase]; decide)]

/-- HOLD begins once the steps are done and the tune is TUNED (R126). -/
theorem checkDrive_of_done (hcontext : b.u.tr.context = some k) (hphase : k.phase = .drive) (hdone : k.driveDone = true) :
    b.checkDrive e = b.enterHold e := by
  unfold checkDrive
  rw [hcontext]
  exact if_pos ⟨hphase, hdone⟩

theorem checkDrive_of_undone (hcontext : b.u.tr.context = some k) (hdone : k.driveDone = false) : b.checkDrive e = b := by
  unfold checkDrive
  rw [hcontext]
  exact if_neg (by simp [hdone])

theorem settled_eq (hcontext : b.u.tr.context = some k) (hphase : k.phase = .settle) : b.settled e = b.enterDrive e := by
  unfold settled
  rw [hcontext]
  exact if_pos hphase

/-- TUNED with the frequency of a tune that is SENT in DRIVE (R126). -/
theorem tunedLine_eq (hcontext : b.u.tr.context = some k) (hphase : k.phase = .drive) (htune : k.tune = .sent) :
    b.tunedLine k.kHz e = (b.ctx fun c => { c with tune := .tuned, deadline := none }).checkDrive e := by
  have hctx : (b.ctx fun c => { c with tune := .tuned, deadline := if c.phase = .drive then none else c.deadline }) =
      b.ctx fun c => { c with tune := .tuned, deadline := none } := ctx_congr hcontext (by rw [if_pos hphase])
  unfold tunedLine
  rw [if_pos (by simp [TxRecord.tuneSent, hcontext, htune]), if_pos (by simp [hcontext]), hctx]

/-- The first step of a new plan is asked for as DRIVE begins (R126). -/
theorem enterDrive_asks {p : PlanStep} (hcontext : b.u.tr.context = some k)
    (hroute : e.matrix.routeUnknown e.t k.target = false) (hp : (e.matrix.plan e.t k.target).head? = some p) :
    .driveRequest e.t p.row p.column p.direction k.priority ∈ (b.enterDrive e).o.handed := by
  rw [enterDrive_eq hcontext hroute]
  exact nextStep_asks (k := { k with
    phase := .drive, plan := e.matrix.plan e.t k.target, tune := .sent, deadline := some (Timer.start e.limits.tune) })
    (by simp [order, hcontext]) ((Matrix.next_of_plan e.matrix e.t k.target rfl).trans hp)

end Bench

theorem changeoverPhasesFollow : Claims.ChangeoverPhasesFollow := by
  refine ⟨fun t k s hlive hcontext hphase horigin hmuted hpending hsettle hstartup => ?_,
    fun t k s hlive hcontext hphase hroute => ?_,
    fun t k before after p s hlive hcontext hphase hplan hp hbefore hafter => ?_,
    fun t k before p s hlive hcontext hphase hplan hp hbefore => ?_,
    fun t k before after p q s hlive hcontext hphase hplan hp hbefore hq hafter => ?_,
    fun t k s hlive hcontext hphase htune hdone => ?_⟩
  · have hexec := exec_csq (i := .rfAbsent t) (f := Bench.rfAbsent) rfl hlive
    obtain ⟨c, htr⟩ := (s.bench t).hushed_tr (s.env t)
    have hreport : .muteConfirmedReport t true ∈ ((s.bench t).hushed (s.env t)).o.handed :=
      (Bench.mem_hushed_iff _ _ (reporting_muteConfirmedReport t true)).2
        (Or.inr ⟨rfl, fun h => Bool.false_ne_true (hpending.symm.trans h)⟩)
    rw [Bench.rfAbsent_of_muted hmuted hpending, Bench.confirmed_of_mute (k := k) (by simpa [htr] using hstartup)
      (by simp [htr, hcontext]) hphase horigin, Bench.enterSettle_of_time hsettle] at hexec
    refine ⟨_, hexec, ?_, ?_, Bench.mem_reportRow _ _ (Bench.mem_reportRow _ _ hreport), ?_⟩
    all_goals simp [htr, hcontext, Context.settling, Timer.start]
  · have hexec := exec_csq (i := .settleExpiry t) (f := Bench.settled) rfl hlive
    have hcontext' : (s.bench t).u.tr.context = some k := hcontext
    have htr := Bench.enterDrive_tr (e := s.env t) hcontext' hroute
    rw [Bench.settled_eq hcontext' hphase] at hexec
    refine ⟨_, k.driving (s.env t), hexec, ?_, ?_, ?_, ?_, ?_, ?_, ?_,
      fun p hp => Bench.mem_reportRow _ _ (Bench.enterDrive_asks (e := s.env t) hcontext' hroute hp)⟩
    all_goals simp [htr, Bench.enterDrive_port (e := s.env t) hcontext' hroute, Context.driving, Timer.start]
  · refine ⟨_, exec_csq (i := .driveStarted t p.row p.column) (f := Bench.driveStarted p.row p.column) rfl hlive, ?_⟩
    have hmark := Context.mark_of_plan (test := fun x => x == .waitingSlot || x == .cancelled) (x := .moving) hplan
      (by simp [hp]) (fun q hq => by simp [hbefore q hq]) (fun q hq => by simp [hafter q hq])
    simp [Bench.driveStarted, hcontext, hmark]
  · intro plan
    have hexec := exec_csq (i := .driveDone t p.row p.column) (f := Bench.driveDone p.row p.column) rfl hlive
    have hasked : p.status.asked = true := by rw [hp]; rfl
    have hmark := Context.mark_of_plan (x := .done) hplan hasked (fun q hq => by rw [hbefore q hq]; rfl) nofun
    have hdone : ∀ q ∈ plan, q.status = .done := fun q hq => by
      rcases List.mem_append.1 hq with hq | hq
      · exact hbefore q hq
      · rw [List.mem_singleton.1 hq]
    have hmarked : ((s.bench t).ctx (Context.mark p.row p.column StepStatus.asked .done)).u.tr.context =
        some { k with plan := plan } := by simp [hcontext, hmark, plan]
    have hnext := Bench.nextStep_tr (e := s.env t) hmarked
    rw [Context.asking_of_all_done hdone] at hnext
    rw [Bench.driveDone_eq hcontext (Context.has_of_plan hplan hasked) hphase] at hexec
    refine ⟨_, hexec, ?_⟩
    by_cases htune : k.tune = .tuned
    · rw [Bench.checkDrive_of_done (congrArg TxRecord.context hnext) hphase (Context.driveDone_iff.2 ⟨hdone, htune⟩), if_pos htune]
      simp [Bench.enterHold, hnext, Timer.start]
    · rw [Bench.checkDrive_of_undone (congrArg TxRecord.context hnext)
        (Bool.eq_false_iff.2 fun h => htune (Context.driveDone_iff.1 h).2), if_neg htune]
      simp [hnext]
  · have hexec := exec_csq (i := .driveDone t p.row p.column) (f := Bench.driveDone p.row p.column) rfl hlive
    have hasked : p.status.asked = true := by rw [hp]; rfl
    have hmark := Context.mark_of_plan (x := .done) hplan hasked (fun x hx => by rw [hbefore x hx]; rfl) fun x hx => by
      rcases List.mem_cons.1 hx with rfl | hx
      · rw [hq]; rfl
      · rw [(hafter x hx).1]; rfl
    have hmarked : ((s.bench t).ctx (Context.mark p.row p.column StepStatus.asked .done)).u.tr.context =
        some { k with plan := before ++ { p with status := .done } :: q :: after } := by simp [hcontext, hmark]
    have hsplit : before ++ { p with status := .done } :: q :: after =
        (before ++ [{ p with status := .done }]) ++ q :: after := by simp
    have hdone : ∀ x ∈ before ++ [{ p with status := .done }], x.status = .done := fun x hx => by
      rcases List.mem_append.1 hx with hx | hx
      · exact hbefore x hx
      · rw [List.mem_singleton.1 hx]
    have hnext := Context.next_of_done (k := { k with plan := before ++ { p with status := .done } :: q :: after })
      hsplit hq hdone fun x hx => (hafter x hx).1
    have hasking := Context.asking_of_next hsplit hnext (fun hmem => absurd ((hdone q hmem).symm.trans hq) (by decide))
      fun hmem => (hafter q hmem).2 rfl
    have htr := Bench.nextStep_tr (e := s.env t) hmarked
    rw [hasking] at htr
    rw [Bench.driveDone_eq hcontext (Context.has_of_plan hplan hasked) hphase,
      Bench.checkDrive_of_undone (congrArg TxRecord.context htr) (by simp [Context.driveDone])] at hexec
    have hasks := Bench.nextStep_asks (e := s.env t) hmarked hnext
    exact ⟨_, hexec, by simp [htr], Bench.mem_reportRow _ _ hasks⟩
  · have hexec := exec_csq (i := .tuned t k.kHz) (f := Bench.tunedLine k.kHz) rfl hlive
    rw [Bench.tunedLine_eq hcontext hphase htune, Bench.checkDrive_of_done (k := { k with tune := .tuned, deadline := none })
      (by simp [hcontext]) hphase (Context.driveDone_iff.2 ⟨hdone, rfl⟩)] at hexec
    exact ⟨_, hexec, by simp [Bench.enterHold, hcontext, Timer.start]⟩

/-- Settles O50: the answers to a claim, phases that end at once, the drive plan and the phases from MUTE to HOLD. -/
theorem changeoverAdvances : Obligations.ChangeoverAdvances :=
  ⟨claimAnswersFollowed, phasesEndAtOnce, planMade, changeoverPhasesFollow⟩

end Sys2Proof.Machine

/-! The reflected trip, on air and before the MUTE phase, and the restrike (R154-R162; O56). -/

namespace Sys2Proof.Machine

namespace Bench

variable {e : Env} {b : Bench} {x : Transmission}

/-! ### REFLECTED_HIGH -/

/-- REFLECTED_HIGH, where the edge selection allows it (R150). -/
def highEvents (e : Env) (b : Bench) : List Event :=
  if b.u.refl.config.edges = .fall then []
  else [{ kind := .reflectedHigh, subject := .transmitter e.t, detail := b1 (reflectedLevel b.u.refl.config.level) }]

@[simp] theorem reflectedHigh_u : (b.reflectedHigh e).u = b.u := by
  rw [reflectedHigh_eq]
  split <;> rfl
@[simp] theorem reflectedHigh_port : (b.reflectedHigh e).o.port = b.o.port := by
  rw [reflectedHigh_eq]
  split <;> rfl
@[simp] theorem reflectedHigh_log : (b.reflectedHigh e).o.log = b.o.log := by
  rw [reflectedHigh_eq]
  split <;> rfl
@[simp] theorem reflectedHigh_handed : (b.reflectedHigh e).o.handed = b.o.handed := by
  rw [reflectedHigh_eq]
  split <;> rfl
theorem reflectedHigh_voice : (b.reflectedHigh e).o.voice = (b.highEvents e).foldl Outbox.raise b.o.voice := by
  rw [reflectedHigh_eq]
  unfold highEvents
  split
  · rfl
  · simp [Outbox.event_eq]

@[simp] theorem sendMute_refl_config : (b.sendMute e).u.refl.config = b.u.refl.config := by
  rw [sendMute_refl]
  split <;> rfl

/-! ### The trip (R154) -/

/-- A trip's mute: the reflected monitor marked, MUTE sent, its watch started where it is not confirmed at once, the
forward monitor disarmed and the restrike count one up (R154). -/
def cutOff (e : Env) (b : Bench) : Bench :=
  let m := (b.station Station.tripped).sendMute e
  let w := if m.u.tr.muteConfirmed then m else m.tr fun r => { r with tripWatch := some (Timer.start e.limits.mute) }
  (w.station Station.disarmForward).tr fun r => { r with window := none, restrikes := r.restrikes + 1 }

/-- A trip's mute after which a RAMP context is discarded. -/
def cutDown (e : Env) (b : Bench) : Bench := if b.u.tr.context.isSome then (b.cutOff e).discardRamp e else b.cutOff e

/-- The trips are more than the restrike limit allows (R160). -/
def exhausts (e : Env) (b : Bench) : Bool := decide (e.protection.restrikeLimit < b.u.tr.restrikes + 1)

/-- A trip's transmitter is TRIPPED with its restrike delay running (R154). -/
def fallen (e : Env) (b : Bench) : Bench :=
  (b.cutDown e).tr fun r => { r with state := .tripped, stage := .delay (Timer.start e.protection.restrikeDelay) }

/-- A trip up to its record (R154). -/
def struck (e : Env) (x : Transmission) (b : Bench) : Bench :=
  ((((b.fallen e).reportRow e).out fun o => o.event .trip (.transmitter e.t) (b1 (b.u.tr.restrikes + 1) ++ b1 x.column.val)).reflectedHigh e).out
    fun o => o.record e.reading .trip e.t x.work (some x.column) (some x.kHz) (some x.kW)
      (if b.exhausts e then .exhausted else .restrike)

theorem cutOff_tr : (b.cutOff e).u.tr =
    { b.u.tr with
      unmuted := false, mutedOnce := true, muteConfirmed := b.u.tr.rf == some false, window := none
      restrikes := b.u.tr.restrikes + 1
      tripWatch := if b.u.tr.rf = some false then none else some (Timer.start e.limits.mute) } := by
  by_cases h : b.u.tr.rf = some false <;> simp [cutOff, sendMute_tr, h]

@[simp] theorem cutOff_refl_config : (b.cutOff e).u.refl.config = b.u.refl.config := by
  unfold cutOff
  dsimp only
  split <;> simp
@[simp] theorem cutOff_fwd_state : (b.cutOff e).u.fwd.state = .off := by
  unfold cutOff
  dsimp only
  split <;> simp
@[simp] theorem cutOff_port : (b.cutOff e).o.port = b.o.port ++ [(e.t, .mute)] := by
  unfold cutOff
  dsimp only
  split <;> simp
@[simp] theorem cutOff_log : (b.cutOff e).o.log = b.o.log := by
  unfold cutOff
  dsimp only
  split <;> simp
@[simp] theorem cutOff_voice : (b.cutOff e).o.voice = b.o.voice := by
  unfold cutOff
  dsimp only
  split <;> simp
theorem mem_cutOff {i : Instr} (h : i ∈ b.o.handed) : i ∈ (b.cutOff e).o.handed := by
  unfold cutOff
  dsimp only
  split <;> simp [h]
/-- A trip's mute hands nothing but the report of the mute's confirmation. -/
theorem of_mem_cutOff {i : Instr} (h : i ∈ (b.cutOff e).o.handed) :
    i ∈ b.o.handed ∨ ∃ yes, i = .muteConfirmedReport e.t yes := by
  have hmem : i ∈ ((b.station Station.tripped).sendMute e).o.handed := by
    revert h
    unfold cutOff
    dsimp only
    split <;> exact id
  exact ((mem_sendMute_iff ..).1 hmem).imp id fun h => ⟨_, h.1⟩

theorem cutDown_tr : (b.cutDown e).u.tr = { (b.cutOff e).u.tr with context := none } := by
  unfold cutDown
  split
  · simp [discardRamp]
  next h =>
    have hnone : (b.cutOff e).u.tr.context = none := by simpa [cutOff_tr] using h
    rw [← hnone]
@[simp] theorem cutDown_refl_config : (b.cutDown e).u.refl.config = b.u.refl.config := by
  unfold cutDown
  split <;> simp [discardRamp]
@[simp] theorem cutDown_fwd_state : (b.cutDown e).u.fwd.state = .off := by
  unfold cutDown
  split <;> simp [discardRamp]
@[simp] theorem cutDown_port : (b.cutDown e).o.port = b.o.port ++ [(e.t, .mute)] := by
  unfold cutDown
  split <;> simp [discardRamp]
@[simp] theorem cutDown_log : (b.cutDown e).o.log = b.o.log := by
  unfold cutDown
  split <;> simp [discardRamp]
@[simp] theorem cutDown_voice : (b.cutDown e).o.voice = b.o.voice := by
  unfold cutDown
  split <;> simp [discardRamp]
theorem cutDown_releases {k : Context} {q : ClaimInFlight} (hcontext : b.u.tr.context = some k) (hclaim : k.claim = some q) :
    .release e.t q.column ∈ (b.cutDown e).o.handed := by
  unfold cutDown
  rw [if_pos (by simp [hcontext])]
  simp [discardRamp, cutOff_tr, hcontext, hclaim]
theorem of_mem_cutDown {i : Instr} (h : i ∈ (b.cutDown e).o.handed) :
    i ∈ b.o.handed ∨ (∃ yes, i = .muteConfirmedReport e.t yes) ∨ ∃ c, i = .release e.t c := by
  unfold cutDown at h
  split at h
  · simp only [discardRamp, tr_o, mem_releaseClaim_iff] at h
    rcases h with h | ⟨k, q, -, -, h⟩
    · exact (of_mem_cutOff h).imp id Or.inl
    · exact Or.inr (Or.inr ⟨_, h⟩)
  · exact (of_mem_cutOff h).imp id Or.inl

/-- A transmission that a trip has cut down: what its transmitter's bench shows (R154). -/
theorem struck_tr : ∃ c, (b.struck e x).u.tr =
    { b.u.tr with
      unmuted := false, mutedOnce := true, muteConfirmed := b.u.tr.rf == some false, window := none
      restrikes := b.u.tr.restrikes + 1, context := none, state := .tripped
      stage := .delay (Timer.start e.protection.restrikeDelay), reported := c
      tripWatch := if b.u.tr.rf = some false then none else some (Timer.start e.limits.mute) } :=
  ⟨(b.fallen e).u.tr.toldOf, by
    have hreported : (b.struck e x).u.tr = ((b.fallen e).reportRow e).u.tr := by simp [struck]
    rw [hreported, reportRow_record]
    simp [fallen, cutDown_tr, cutOff_tr]⟩

@[simp] theorem struck_fwd_state : (b.struck e x).u.fwd.state = .off := by simp [struck, fallen]
@[simp] theorem struck_port : (b.struck e x).o.port = b.o.port ++ [(e.t, .mute)] := by simp [struck, fallen]

/-- The record of a trip (R154, R160). -/
def tripEntry (e : Env) (x : Transmission) (d : Detail) : LogRecord :=
  logEntry e.reading .trip e.t x.work.isNone x.work (some x.column) (some x.kHz) (some x.kW) d

/-- TRIP (R154). -/
def tripEvent (e : Env) (n : Nat) (c : Col) : Event :=
  { kind := .trip, subject := .transmitter e.t, detail := b1 n ++ b1 c.val }

theorem struck_log : (b.struck e x).o.log =
    b.o.log.write (tripEntry e x (if b.exhausts e then .exhausted else .restrike)) := by
  simp [struck, fallen, tripEntry]
theorem struck_voice : (b.struck e x).o.voice =
    (tripEvent e (b.u.tr.restrikes + 1) x.column :: b.highEvents e).foldl Outbox.raise b.o.voice := by
  simp [struck, fallen, reflectedHigh_voice, Outbox.event_eq, tripEvent, highEvents]
theorem struck_releases {k : Context} {q : ClaimInFlight} (hcontext : b.u.tr.context = some k) (hclaim : k.claim = some q) :
    .release e.t q.column ∈ (b.struck e x).o.handed := by
  simp [struck, fallen, cutDown_releases hcontext hclaim]
theorem of_suspectMark_struck {c : Col} (h : .suspectMark c ∈ (b.struck e x).o.handed) : .suspectMark c ∈ b.o.handed := by
  have hmem : .suspectMark c ∈ (b.cutDown e).o.handed := by simpa [struck, fallen] using h
  rcases of_mem_cutDown hmem with h | ⟨yes, h⟩ | ⟨d, h⟩
  · exact h
  · cases h
  · cases h

/-- A trip, of a RAMP context with an empty Pending slot (R154, R160): with restrikes left it is over, without it the
transmission is given up. -/
theorem trip_eq (hslot : b.u.tr.context.isSome = true → b.u.tr.slot = none) : b.trip e x =
    if b.exhausts e then ((b.struck e x).suspect e x.column).giveUp e x else b.struck e x := by
  have hrestrikes : (b.cutDown e).u.tr.restrikes = b.u.tr.restrikes + 1 := by rw [cutDown_tr, cutOff_tr]
  have htaken : ∀ y z : Bench, (y = b.struck e x ∨ y = (b.struck e x).suspect e x.column) →
      (if b.u.tr.context.isSome = true ∧ y.u.tr.slot.isSome = true then y.takeUp e else z) = z := fun y z hy => by
    refine if_neg fun ⟨hcontext, hsome⟩ => ?_
    obtain ⟨c, htr⟩ := struck_tr (e := e) (b := b) (x := x)
    have hnone : y.u.tr.slot = none := by
      rcases hy with rfl | rfl
      · rw [htr]
        exact hslot hcontext
      · rw [show ((b.struck e x).suspect e x.column).u = (b.struck e x).u from rfl, htr]
        exact hslot hcontext
    rw [hnone] at hsome
    cases hsome
  have hdown : b.trip e x =
      let n := (b.cutDown e).u.tr.restrikes
      let exhausted : Bool := decide (e.protection.restrikeLimit < n)
      let d := (((b.fallen e).reportRow e).out fun o => o.event .trip (.transmitter e.t) (b1 n ++ b1 x.column.val)).reflectedHigh e
      let d := d.out fun o => o.record e.reading .trip e.t x.work (some x.column) (some x.kHz) (some x.kW)
        (if exhausted then .exhausted else .restrike)
      let d := if exhausted then d.suspect e x.column else d
      if b.u.tr.context.isSome ∧ d.u.tr.slot.isSome then d.takeUp e
      else if exhausted then d.giveUp e x
      else d := rfl
  rw [hdown, hrestrikes]
  by_cases h : e.protection.restrikeLimit < b.u.tr.restrikes + 1
  · have hexhausts : b.exhausts e = true := decide_eq_true h
    simp only [h, hexhausts, decide_true, if_true]
    have hstruck := htaken ((b.struck e x).suspect e x.column) (((b.struck e x).suspect e x.column).giveUp e x) (Or.inr rfl)
    unfold struck at hstruck ⊢
    simpa only [hexhausts, if_true] using hstruck
  · have hexhausts : b.exhausts e = false := decide_eq_false h
    simp only [h, hexhausts, decide_false, Bool.false_eq_true, if_false]
    have hstruck := htaken (b.struck e x) (b.struck e x) (Or.inl rfl)
    unfold struck at hstruck ⊢
    simpa only [hexhausts, Bool.false_eq_true, if_false] using hstruck

end Bench

end Sys2Proof.Machine

/-! Trips and restrikes: what an exhausted transmission is given up to, and the settling of O56 (R154-R162). -/

namespace Sys2Proof.Machine

namespace Bench

variable {e : Env} {b : Bench} {x : Transmission}

/-! ### A transmission given up (R160-R162) -/

/-- A waiting request taken up by a transmitter that carries nothing sends no order and is no carrier. -/
theorem takeUp_of_idle {orders : List (Tx × PortOrder)} (hcurrent : b.u.tr.current = none)
    (hstate : b.u.tr.state ≠ .onAir) (hport : b.o.port = orders) :
    (b.takeUp e).o.port = orders ∧ (b.takeUp e).u.tr.state ≠ .onAir := by
  cases hslot : b.u.tr.slot with
  | none =>
    rw [takeUp_of_empty _ _ hslot]
    exact ⟨hport, hstate⟩
  | some q =>
    unfold takeUp
    rw [hslot]
    simp only [tr_tr, hcurrent]
    cases q.late
    all_goals simp [begin_, createStart, install, hcurrent, hport]

/-- An END context ends at once with RF ABSENT: whatever waits is taken up without an order (R132, R133). -/
theorem createEnd_silent (hcurrent : b.u.tr.current = some x) (hrf : b.u.tr.rf = some false) (cause : Detail) :
    (b.createEnd e cause).o.port = b.o.port ++ [(e.t, .mute)] ∧ (b.createEnd e cause).u.tr.state ≠ .onAir := by
  have hcontext : (b.ending e x cause).u.tr.context = some (endContext e x cause) := by rw [ending_tr]
  rw [createEnd_eq hcurrent, if_pos (by simp [ending_tr, hrf]), finishEnd_eq hcontext]
  dsimp only
  refine takeUp_of_idle ?_ ?_ ?_
  all_goals split <;> simp

/-- What giving a transmission up comes to, with the events it raises and the records it writes (R160-R162). -/
structure GivesUp (e : Env) (x : Transmission) (b c : Bench) (es : List Event) (rest : List LogRecord) : Prop where
  state : c.u.tr.state ≠ .onAir
  voice : c.o.voice = es.foldl Outbox.raise b.o.voice
  log : c.o.log = rest.foldl Log.write b.o.log
  kept : ∀ i ∈ b.o.handed, i ∈ c.o.handed
  carrier : b.u.tr.rf = some true → es = [] ∧ rest = []
  reserve : ∀ d, x.reserve = some d → x.reserveUsed = false →
    ∃ k, c.u.tr.context = some k ∧ k.origin = .reserve ∧ k.target = d ∧ .claim e.t d ∈ c.o.handed
  port : x.reserve = none ∨ x.reserveUsed = true → c.o.port = b.o.port ++ [(e.t, .mute)]
  mutes : x.reserve = none ∨ x.reserveUsed = true → b.u.tr.rf = some true →
    ∃ r, c.u.tr = { b.u.tr with
      state := .changing, context := some (endContext e x .reflection), stage := .none, tripWatch := none
      window := none, openTune := none, unmuted := false, mutedOnce := true, muteConfirmed := false, reported := r }
  ends : x.reserve = none ∨ x.reserveUsed = true → b.u.tr.rf = some false → b.u.tr.slot = none →
    EndedBy e x .reflection b c ∧ es = [Claims.failure e.t .reflection true] ∧ rest = [endEntry e x .reflection]

theorem giveUp_of_reserve {d : Col} (hreserve : x.reserve = some d) (hunused : x.reserveUsed = false) :
    b.giveUp e x = b.createReserve e x d := by
  unfold giveUp
  rw [hreserve]
  exact if_neg (by simp [hunused])

theorem giveUp_of_none (h : x.reserve = none ∨ x.reserveUsed = true) : b.giveUp e x = b.createEnd e .reflection := by
  unfold giveUp
  cases hr : x.reserve with
  | none => rfl
  | some d => exact if_pos (h.resolve_left (by simp [hr]))

/-- An unused reserve gets a RESERVE context (R161). -/
theorem givesUp_reserve {d : Col} (hreserve : x.reserve = some d) (hunused : x.reserveUsed = false) :
    GivesUp e x b (b.giveUp e x) [] [] := by
  have hnot : ¬ (x.reserve = none ∨ x.reserveUsed = true) := by simp [hreserve, hunused]
  rw [giveUp_of_reserve hreserve hunused]
  refine ⟨by simp [createReserve, install], by simp [createReserve, install], by simp [createReserve, install],
    fun i hi => by simp [createReserve, install, hi], fun _ => ⟨rfl, rfl⟩, fun c hc _ => ?_, fun h => absurd h hnot,
    fun h => absurd h hnot, fun h => absurd h hnot⟩
  cases hreserve.symm.trans hc
  exact ⟨_, rfl, rfl, rfl, by simp [createReserve, install]⟩

/-- Without an unused reserve an END context mutes it (R162). -/
theorem givesUp_end (hcurrent : b.u.tr.current = some x) (h : x.reserve = none ∨ x.reserveUsed = true) :
    ∃ es rest, GivesUp e x b (b.giveUp e x) es rest := by
  have hreserve : ∀ d, x.reserve = some d → x.reserveUsed = false → False := fun d hd hu => by
    rcases h with h | h
    · cases h.symm.trans hd
    · cases h.symm.trans hu
  rw [giveUp_of_none h]
  by_cases hrf : b.u.tr.rf = some false
  · have hpresent : b.u.tr.rf ≠ some true := by rw [hrf]; decide
    obtain ⟨hport, hstate⟩ := createEnd_silent (e := e) hcurrent hrf .reflection
    by_cases hslot : b.u.tr.slot = none
    · have hended := createEnd_of_silence (e := e) hcurrent hrf hslot .reflection
      exact ⟨[Claims.failure e.t .reflection true], [endEntry e x .reflection], hstate, hended.voice, hended.log, (Bench.Puts.createEnd (L := ∅) (.refl b)).kept,
        fun hp => absurd hp hpresent, fun d hd hu => (hreserve d hd hu).elim, fun _ => hport,
        fun _ hp => absurd hp hpresent, fun _ _ _ => ⟨hended, rfl, rfl⟩⟩
    · have hputs := Bench.Puts.createEnd (e := e) (L := ∅) (.refl b) (cause := .reflection)
      obtain ⟨es, hes⟩ := hputs.events
      obtain ⟨rs, hrs⟩ := hputs.records
      exact ⟨es, rs, hstate, hes, hrs, hputs.kept, fun hp => absurd hp hpresent, fun d hd hu => (hreserve d hd hu).elim,
        fun _ => hport, fun _ hp => absurd hp hpresent, fun _ _ hs => absurd hs hslot⟩
  · rw [createEnd_of_carrier hcurrent hrf]
    refine ⟨[], [], by simp [ending_tr], by simp, by simp, fun i hi => mem_ending hi, fun _ => ⟨rfl, rfl⟩,
      fun d hd hu => (hreserve d hd hu).elim, fun _ => by simp, fun _ hp => ⟨b.u.tr.reported, ?_⟩, fun _ ha => absurd ha hrf⟩
    simp [ending_tr, hp]

theorem givesUp (hcurrent : b.u.tr.current = some x) : ∃ es rest, GivesUp e x b (b.giveUp e x) es rest := by
  by_cases h : x.reserve = none ∨ x.reserveUsed = true
  · exact givesUp_end hcurrent h
  · rw [not_or, Bool.not_eq_true] at h
    obtain ⟨d, hd⟩ := Option.ne_none_iff_exists'.1 h.1
    exact ⟨[], [], givesUp_reserve hd h.2⟩

/-! ### The rising crossing of an ARMED reflected monitor (R154, R155) -/

/-- The reflected monitor HIGH (R150). -/
def risen (b : Bench) : Bench := b.station fun u => { u with refl := { u.refl with side := some .high, pending := false } }

theorem reflectedRise_of_trip (harmed : b.u.refl.state = .armed) (hcurrent : b.u.tr.current = some x)
    (h : b.u.tr.state = .onAir ∨ b.u.tr.ramping = true ∨ b.u.tr.restrikeRamping = true) :
    b.reflectedRise e = b.risen.trip e x := by
  unfold reflectedRise
  rw [if_neg (not_not.2 harmed)]
  dsimp only
  split
  next y hy =>
    cases hcurrent.symm.trans hy
    exact if_pos h
  next hy _ => cases hcurrent.symm.trans hy
  next hy _ => cases hcurrent.symm.trans hy

theorem reflectedRise_of_claim {k : Context} {y : Radiated} (harmed : b.u.refl.state = .armed)
    (hcurrent : b.u.tr.current = none) (hcontext : b.u.tr.context = some k) (hradiated : b.u.tr.radiated = some y)
    (hphase : k.phase = .claim) : b.reflectedRise e = b.risen.preMuteTrip e k y := by
  unfold reflectedRise
  rw [if_neg (not_not.2 harmed)]
  dsimp only
  split
  next x hx => cases hcurrent.symm.trans hx
  next c hnone hc =>
    cases hcontext.symm.trans hc
    split
    next z hz =>
      cases hradiated.symm.trans hz
      exact if_pos hphase
    next hz => cases hradiated.symm.trans hz
  next _ hc => cases hcontext.symm.trans hc

end Bench

end Sys2Proof.Machine

/-! Trips and restrikes settled (R154-R162; O56). -/

namespace Sys2Proof.Machine

namespace Bench

variable {e : Env} {b : Bench} {x : Transmission}

@[simp] theorem risen_tr : b.risen.u.tr = b.u.tr := rfl
@[simp] theorem risen_o : b.risen.o = b.o := rfl
@[simp] theorem risen_highEvents : b.risen.highEvents e = b.highEvents e := rfl
@[simp] theorem risen_exhausts : b.risen.exhausts e = b.exhausts e := rfl

@[simp] theorem suspect_u (c : Col) : (b.suspect e c).u = b.u := rfl
@[simp] theorem suspect_port (c : Col) : (b.suspect e c).o.port = b.o.port := rfl
@[simp] theorem suspect_log (c : Col) : (b.suspect e c).o.log = b.o.log := rfl

/-- ANTENNA_SUSPECT (R160). -/
def suspectEvent (e : Env) (c : Col) : Event := { kind := .antennaSuspect, subject := .column c, detail := b1 e.t.val }

@[simp] theorem suspect_voice (c : Col) : (b.suspect e c).o.voice = b.o.voice.raise (suspectEvent e c) := by
  simp [suspect, Outbox.event_eq, suspectEvent]
theorem mem_suspect {c : Col} {i : Instr} (h : i ∈ b.o.handed) : i ∈ (b.suspect e c).o.handed := by
  simp [suspect, Outbox.event_eq, h]
theorem suspect_marks (c : Col) : .suspectMark c ∈ (b.suspect e c).o.handed := by simp [suspect, Outbox.event_eq]

theorem preMuteTrip_voice {k : Context} {y : Radiated} : (b.preMuteTrip e k y).o.voice =
    (tripEvent e 0 y.column :: b.highEvents e).foldl Outbox.raise b.o.voice := by
  simp [preMuteTrip, reflectedHigh_voice, Outbox.event_eq, tripEvent, highEvents]

end Bench

theorem reflectedTrip : Claims.ReflectedTrip := by
  intro t x s hlive hcurrent harmed hup n g trip high suspect
  have hslot : (s.bench t).risen.u.tr.context.isSome = true → (s.bench t).risen.u.tr.slot = none := by
    rintro hsome
    rcases hup with ⟨-, hnone⟩ | ⟨-, hnone, -⟩ | ⟨-, hslot, -⟩
    · simp [hnone] at hsome
    · simp [hnone] at hsome
    · exact hslot
  have hrise : (s.tr t).state = .onAir ∨ (s.tr t).ramping = true ∨ (s.tr t).restrikeRamping = true := by
    rcases hup with ⟨h, -⟩ | ⟨h, -, w, hw⟩ | ⟨-, -, k, hk, hphase⟩
    · exact Or.inl h
    · exact Or.inr (Or.inr (by simp [TxRecord.restrikeRamping, h, hw]))
    · exact Or.inr (Or.inl (by simp [TxRecord.ramping, hk, hphase]))
  have hexec := exec_csq (i := .reflectedRisingCrossing t) (f := Bench.reflectedRise) rfl hlive
  rw [Bench.reflectedRise_of_trip harmed hcurrent hrise, Bench.trip_eq hslot] at hexec
  obtain ⟨c, htr⟩ := Bench.struck_tr (e := s.env t) (b := (s.bench t).risen) (x := x)
  have hlog := Bench.struck_log (e := s.env t) (b := (s.bench t).risen) (x := x)
  have hvoice : ((s.bench t).risen.struck (s.env t) x).o.voice = (trip :: high).foldl Outbox.raise s.out.voice :=
    Bench.struck_voice (e := s.env t) (b := (s.bench t).risen) (x := x)
  refine ⟨fun hleft => ?_, fun hover => ?_⟩
  · have hexhausts : (s.bench t).risen.exhausts (s.env t) = false := decide_eq_false (Nat.not_lt.2 hleft)
    rw [hexhausts] at hexec hlog
    refine ⟨_, Bench.tripEntry (s.env t) x .restrike, hexec, ?_, ?_, ?_, ?_, ?_, ?_, ?_, rfl, rfl, rfl, raises_of_voice ?_,
      fun d hd => ?_, ?_, ?_, fun hrf => ?_, fun k q hk hq => ?_⟩
    case refine_9 => exact Bench.of_suspectMark_struck (b := (s.bench t).risen) (by simpa using hd)
    case refine_13 => simpa using Bench.struck_releases (e := s.env t) (b := (s.bench t).risen) (x := x) hk hq
    case refine_8 => simpa using hvoice
    all_goals simp [htr, hlog, Claims.logs, hcurrent, n, Timer.start]
    case refine_12 => simp [hrf]
  · have hexhausts : (s.bench t).risen.exhausts (s.env t) = true := decide_eq_true hover
    rw [hexhausts] at hexec hlog
    let d := ((s.bench t).risen.struck (s.env t) x).suspect (s.env t) x.column
    replace hexec : exec (.reflectedRisingCrossing t) s =
        .next (s.putBench t ((d.giveUp (s.env t) x).reportRow (s.env t))) := hexec
    have hd : d.u.tr = ((s.bench t).risen.struck (s.env t) x).u.tr := rfl
    obtain ⟨es, rest, given⟩ := Bench.givesUp (e := s.env t) (b := d) (x := x) (by rw [hd, htr]; exact hcurrent)
    have hdrf : d.u.tr.rf = (s.tr t).rf := by rw [hd, htr]; rfl
    have hdslot : d.u.tr.slot = (s.tr t).slot := by rw [hd, htr]; rfl
    have hdport : d.o.port = s.out.port ++ [(t, .mute)] := Bench.struck_port
    have hhanded : ∀ i ∈ d.o.handed, i ∈ ((d.giveUp (s.env t) x).reportRow (s.env t)).o.handed := fun i hi =>
      Bench.mem_reportRow _ _ (given.kept i hi)
    refine ⟨_, Bench.tripEntry (s.env t) x .exhausted, rest, es, hexec, hhanded _ (Bench.suspect_marks _), ?_, ?_, rfl, rfl, rfl,
      rfl, raises_of_voice ?_, fun hrf => given.carrier (hdrf.trans hrf), fun k q hk hq => ?_, fun c hc hu => ?_,
      fun hnone => ⟨?_, fun hrf => ?_, fun hrf hempty => ?_⟩⟩
    · simpa using given.state
    · have hdlog : d.o.log = s.out.log.write (Bench.tripEntry (s.env t) x .exhausted) := hlog
      simp [given.log, hdlog]
    · have hdvoice : d.o.voice = (trip :: high ++ [suspect]).foldl Outbox.raise s.out.voice := by
        rw [List.foldl_append, ← hvoice]
        exact Bench.suspect_voice x.column
      simp [given.voice, hdvoice]
    · exact hhanded _ (Bench.mem_suspect (Bench.struck_releases (b := (s.bench t).risen) hk hq))
    · obtain ⟨k, hk, horigin, htarget, hclaim⟩ := given.reserve c hc hu
      exact ⟨k, by simpa using hk, horigin, htarget, Bench.mem_reportRow _ _ hclaim⟩
    · simp [given.port hnone, hdport]
    · obtain ⟨r, hmutes⟩ := given.mutes hnone (hdrf.trans hrf)
      refine ⟨?_, ?_, ?_, Bench.endContext (s.env t) x .reflection, ?_, rfl, rfl, rfl, rfl⟩
      all_goals simp [hmutes, hd, htr, hcurrent]
    · obtain ⟨ended, hes, hrest⟩ := given.ends hnone (hdrf.trans hrf) (hdslot.trans hempty)
      refine ⟨?_, ?_, ?_, hes, ⟨_, hrest, rfl, rfl, rfl⟩, fun w hw => ?_⟩
      · simpa using ended.state
      · simpa using ended.current
      · simpa using ended.context
      · exact Bench.mem_reportRow _ _ (ended.work w hw)

theorem preMuteTrip : Claims.PreMuteTrip := by
  intro t k y s hlive hstate hcurrent hcontext hphase hradiated harmed g trip high
  have hexec := exec_csq (i := .reflectedRisingCrossing t) (f := Bench.reflectedRise) rfl hlive
  rw [Bench.reflectedRise_of_claim harmed hcurrent hcontext hradiated hphase] at hexec
  refine ⟨_, logEntry s.clock.reading .trip t (k.origin != .schedule) none (some y.column) (some y.kHz) (some y.kW) .preMute,
    hexec, ?_, ?_, ?_, ?_, ?_, ?_, fun hrf => ?_, raises_of_voice ?_, ?_, rfl, rfl, rfl, rfl, rfl, rfl, rfl, ?_, fun c hc => ?_⟩
  case refine_7 => simp [Bench.preMuteTrip, Bench.sendMute_quiet, hrf, Bench.risen]
  case refine_8 => exact ((Bench.reportRow_voice ..).trans (Bench.preMuteTrip_voice (b := (s.bench t).risen)))
  case refine_9 => simp [Bench.preMuteTrip, Claims.logs, Outbox.event_eq]
  case refine_10 => simp
  case refine_11 => simpa [Bench.preMuteTrip, Outbox.event_eq] using hc
  all_goals simp [Bench.preMuteTrip, Bench.sendMute_tr, hstate, hcontext]

/-! ### The restrike (R157-R159) -/

namespace Bench

variable {e : Env} {b : Bench} {x : Transmission}

/-- A restrike's ramp may begin (R157, R158). -/
theorem restrikeTest_of_clear (hcurrent : b.u.tr.current = some x) (hconfirmed : b.u.tr.muteConfirmed = true)
    (hroute : e.matrix.xstate e.t x.column = .closed) (hholds : b.u.tr.holds.empty = true)
    (hservice : (e.matrix.column x.column).inService = true) : b.restrikeTest e = b.restrikeRamp e x := by
  unfold restrikeTest
  rw [hcurrent]
  dsimp only
  rw [if_neg (by simp [hconfirmed]), if_neg (by simp [hroute]), if_pos ⟨hholds, hservice⟩]

theorem restrikeTest_of_open (hcurrent : b.u.tr.current = some x) (hconfirmed : b.u.tr.muteConfirmed = true)
    (hroute : e.matrix.xstate e.t x.column ≠ .closed) : b.restrikeTest e = b.createEnd e .routeLost := by
  unfold restrikeTest
  rw [hcurrent]
  dsimp only
  rw [if_neg (by simp [hconfirmed]), if_pos hroute]

theorem restrikeTest_of_unmuted (hcurrent : b.u.tr.current = some x) (hconfirmed : b.u.tr.muteConfirmed = false) :
    b.restrikeTest e = b.tr fun r => { r with stage := .waitMute } := by
  unfold restrikeTest
  rw [hcurrent]
  exact if_pos (by simp [hconfirmed])

theorem confirmed_of_waiting (hstartup : ∀ m, b.u.tr.startup ≠ .muting m) (hcontext : b.u.tr.context = none)
    (hstate : b.u.tr.state = .tripped) (hstage : b.u.tr.stage = .waitMute) : b.confirmed e = b.restrikeTest e := by
  unfold confirmed
  dsimp only
  split
  next m hm => exact absurd hm (hstartup m)
  · rw [hcontext]
    exact if_pos ⟨hstate, hstage⟩

theorem lineOpen_of_carries (hcurrent : b.u.tr.current = some x) (hcontext : b.u.tr.context = none) :
    b.lineOpen e = false ↔ b.u.fwd.config.source = .transmitter ∨ e.matrix.xstate e.t x.column = .closed := by
  unfold lineOpen TxRecord.route
  rw [hcontext, hcurrent]
  cases b.u.fwd.config.source <;> simp

theorem forwardRise_of_restrike (hopen : b.lineOpen e = false) (h : b.u.fwd.state = .ramp)
    (hcontext : b.u.tr.context = none) (hramping : b.u.tr.restrikeRamping = true) : b.forwardRise e =
    ((b.station fun u =>
      { u with fwd := { u.fwd with state := .armed, side := some .high, pending := false, loss := none } }).tr
        fun r => { r with stage := .none }).goOnAir e := by
  simp [forwardRise, hopen, h, hcontext, hramping]

end Bench

theorem restrikeFollows : Claims.RestrikeFollows := by
  have restrikeDelayExpiry : ∀ {t : Tx} {w : Timer} {s : State}, Claims.live s → (s.tr t).state = .tripped →
      (s.tr t).stage = .delay w → exec (.restrikeDelayExpiry t) s =
        .next (s.putBench t (((s.bench t).restrikeTest (s.env t)).reportRow (s.env t))) := fun hlive hstate hstage => by
    refine (exec_csq (f := fun e b =>
      if b.u.tr.state = .tripped ∧ b.u.tr.stage.delaying then b.restrikeTest e else b) rfl hlive).trans ?_
    rw [if_pos ⟨hstate, by rw [State.bench_tr, hstage]; rfl⟩]
  refine ⟨fun t x w s hlive hstate hstage hcurrent => ⟨fun hconfirmed hroute hholds hservice => ?_, fun hunmuted => ?_⟩,
    fun t x s hlive hstate hcontext hcurrent hstage hmuted hpending hstartup hroute hholds hservice => ?_,
    fun t x i s hlive hstate hcontext hcurrent hslot hmuted hroute hi => ?_,
    fun t x w s hlive hstate hstage hcurrent hcontext hslot => ⟨fun hramp hreads => ?_, ?_⟩,
    fun t w s hlive hwindow => ?_⟩
  · have hexec := restrikeDelayExpiry hlive hstate hstage
    rw [Bench.restrikeTest_of_clear hcurrent hconfirmed hroute hholds hservice] at hexec
    refine ⟨_, hexec, ?_, ?_, ?_, ?_, ?_⟩
    all_goals simp [Bench.restrikeRamp, hstate, Timer.start]
  · have hexec := restrikeDelayExpiry hlive hstate hstage
    rw [Bench.restrikeTest_of_unmuted hcurrent hunmuted] at hexec
    exact ⟨_, hexec, by simp, by simp⟩
  · have hexec := exec_csq (i := .rfAbsent t) (f := Bench.rfAbsent) rfl hlive
    obtain ⟨c, htr⟩ := (s.bench t).hushed_tr (s.env t)
    rw [Bench.rfAbsent_of_muted hmuted hpending, Bench.confirmed_of_waiting (by simpa [htr] using hstartup)
      (by simp [htr, hcontext]) (by simp [htr, hstate]) (by simp [htr, hstage]),
      Bench.restrikeTest_of_clear (x := x) (by simp [htr, hcurrent]) (by simp [htr]) hroute (by simp [htr, hholds])
      hservice] at hexec
    refine ⟨_, hexec, ?_, ?_, ?_, ?_, ?_, ?_⟩
    all_goals simp [Bench.restrikeRamp, htr, hstate, Timer.start]
  · obtain ⟨b, hexec, hcurrent', hrf, hslot', hport, hlog, hvoice⟩ : ∃ b : Bench,
        exec i s = .next (s.putBench t ((b.createEnd (s.env t) .routeLost).reportRow (s.env t))) ∧ b.u.tr.current = some x ∧
          b.u.tr.rf = some false ∧ b.u.tr.slot = none ∧ b.o.port = s.out.port ∧ b.o.log = s.out.log ∧
          b.o.voice = s.out.voice := by
      rcases hi with ⟨rfl, ⟨w, hstage⟩, hconfirmed, hrf⟩ | ⟨rfl, hstage, hpending, hstartup⟩
      · have hexec := restrikeDelayExpiry hlive hstate hstage
        rw [Bench.restrikeTest_of_open hcurrent hconfirmed hroute] at hexec
        exact ⟨_, hexec, hcurrent, hrf, hslot, rfl, rfl, rfl⟩
      · have hexec := exec_csq (i := .rfAbsent t) (f := Bench.rfAbsent) rfl hlive
        obtain ⟨c, htr⟩ := (s.bench t).hushed_tr (s.env t)
        rw [Bench.rfAbsent_of_muted hmuted hpending, Bench.confirmed_of_waiting (by simpa [htr] using hstartup)
          (by simp [htr, hcontext]) (by simp [htr, hstate]) (by simp [htr, hstage]),
          Bench.restrikeTest_of_open (x := x) (by simp [htr, hcurrent]) (by simp [htr]) hroute] at hexec
        refine ⟨_, hexec, ?_, ?_, ?_, ?_, ?_, ?_⟩
        all_goals simp [htr, hcurrent, hslot]
    have ended := Bench.createEnd_of_silence (e := s.env t) hcurrent' hrf hslot' .routeLost
    refine ⟨_, Bench.endEntry (s.env t) x .routeLost, hexec, ?_, ?_, ?_, ?_, ?_, rfl, rfl, rfl, raises_of_voice ?_,
      fun w hw => Bench.mem_reportRow _ _ (ended.work w hw)⟩
    all_goals simp [ended.state, ended.current, ended.context, ended.port, ended.log, ended.voice, hport, hlog, hvoice,
      Claims.logs, Bench.endEvent, Detail.failureCause]
  · have hramping : (s.tr t).restrikeRamping = true := by simp [TxRecord.restrikeRamping, hstate, hstage]
    have hexec := exec_csq (i := .forwardRisingCrossing t) (f := Bench.forwardRise) rfl hlive
    rw [Bench.forwardRise_of_restrike ((Bench.lineOpen_of_carries hcurrent hcontext).2 hreads) hramp hcontext hramping] at hexec
    refine ⟨_, hexec, ?_, ?_, ?_, ?_⟩
    all_goals simp [Bench.goOnAir, Timer.start]
  · have hramping : (s.tr t).restrikeRamping = true := by simp [TxRecord.restrikeRamping, hstate, hstage]
    have hexec := exec_csq (i := .restrikeRampLimitExpiry t) (f := Bench.restrikeRampExpired) rfl hlive
    rw [show (s.bench t).restrikeRampExpired (s.env t) =
      ((s.bench t).muteAndEnd (s.env t) .noCarrier).lock (s.env t) .carrierLost none from if_pos hramping] at hexec
    obtain ⟨n, m, hn, hlocked, hnone, -, hport, hlog, hkind, hdetail, -, hraises, -⟩ :=
      Bench.Loses.lock (b := s.bench t) (x := x) (orders := []) ⟨hcurrent, hslot, by simp, rfl, rfl⟩ hexec rfl
    exact ⟨n, m, hn, hlocked, hnone, hport, hraises, hlog, hkind, hdetail⟩
  · refine ⟨_, exec_csq (i := .restrikeWindowExpiry t) (f := fun _ b =>
      if b.u.tr.window.isSome then b.tr fun r => { r with restrikes := 0, window := none, windowStart := none } else b)
      rfl hlive, ?_, ?_, ?_, ?_⟩
    all_goals simp [hwindow]

/-- Settles O56: a trip is one chain of steps on the bench (`Bench.struck`), after which an exhausted transmission is
given up (`Bench.givesUp`); the restrike's test decides by the mute, the route and the holds. -/
theorem tripsAndRestrikes : Obligations.TripsAndRestrikes := ⟨reflectedTrip, preMuteTrip, restrikeFollows⟩

end Sys2Proof.Machine

/-! What a change of the hall's description does to the store, the running check and the events (R11-R13, R64; part of
O20 and O22). -/

namespace Sys2Proof.Machine

/-! ### A VALID bank closed (R12) -/

namespace State

variable (s : State) (b c : Bank)

theorem closeValid_bank : (s.closeValid b).store.bank c =
    if c = b ∧ (s.store.bank b).state = .valid then (s.store.bank b).goto .closed else s.store.bank c := by
  unfold closeValid
  split
  next h =>
    simp only [h, and_true]
    exact Store.bank_writeCell ..
  next h => rw [if_neg fun hc => h hc.2]

/-- The event of a VALID bank closed by a description change. -/
def changedEvents (s : State) (b : Bank) : List Event :=
  if (s.store.bank b).state = .valid then [{ kind := .descriptionChanged, subject := .bank b, detail := [] }] else []

theorem closeValid_voice : (s.closeValid b).out.voice = (s.changedEvents b).foldl Outbox.raise s.out.voice := by
  unfold closeValid changedEvents
  split <;> rfl

@[simp] theorem closeValid_check : (s.closeValid b).check = s.check := by
  unfold closeValid
  split <;> rfl
@[simp] theorem closeValid_serial : (s.closeValid b).store.serial = s.store.serial := by
  unfold closeValid
  split <;> rfl
@[simp] theorem closeValid_stations : (s.closeValid b).stations = s.stations := by
  unfold closeValid
  split <;> rfl
@[simp] theorem closeValid_matrix : (s.closeValid b).matrix = s.matrix := by
  unfold closeValid
  split <;> rfl
@[simp] theorem closeValid_port : (s.closeValid b).out.port = s.out.port := by
  unfold closeValid
  split <;> rfl

/-! ### A check cut short (R63, R64) -/

/-- CHECK_DONE of a running check that ends early. -/
def cutEvents (s : State) (o : CheckOutcome) : List Event :=
  match s.check with
  | some k => [{ kind := .checkDone, subject := .bank k.bank, detail := b1 o.code }]
  | none => []

variable (o : CheckOutcome)

theorem cutCheck_voice : (s.cutCheck o).out.voice = (s.cutEvents o).foldl Outbox.raise s.out.voice := by
  unfold cutCheck cutEvents
  cases s.check <;> rfl
@[simp] theorem cutCheck_check : (s.cutCheck o).check = none := by
  unfold cutCheck
  split
  · rfl
  next h => exact h
@[simp] theorem cutCheck_serial : (s.cutCheck o).store.serial = s.store.serial := by
  unfold cutCheck
  split <;> rfl
@[simp] theorem cutCheck_stations : (s.cutCheck o).stations = s.stations := by
  unfold cutCheck
  split <;> rfl
@[simp] theorem cutCheck_matrix : (s.cutCheck o).matrix = s.matrix := by
  unfold cutCheck
  split <;> rfl
@[simp] theorem cutCheck_port : (s.cutCheck o).out.port = s.out.port := by
  unfold cutCheck
  split <;> rfl

theorem cutCheck_bank_of_other (h : ∀ k, s.check = some k → k.bank ≠ b) : (s.cutCheck o).store.bank b = s.store.bank b := by
  unfold cutCheck
  split
  next k hk => exact Store.bank_writeCell_ne _ _ (h k hk).symm
  · rfl

theorem cutCheck_bank_of_check {k : CheckContext} (h : s.check = some k) : (s.cutCheck o).store.bank k.bank =
    (s.store.bank k.bank).change fun c => { c with state := .closed, report := some (k.report o) } := by
  unfold cutCheck
  rw [h]
  exact Store.bank_writeCell_self ..

/-! ### The description change (R11-R13) -/

@[simp] theorem descriptionChange_serial : s.descriptionChange.store.serial = s.store.serial + 1 := by
  simp [descriptionChange, onStore]
@[simp] theorem descriptionChange_check : s.descriptionChange.check = none := by simp [descriptionChange]
@[simp] theorem descriptionChange_stations : s.descriptionChange.stations = s.stations := by
  simp [descriptionChange, onStore]
@[simp] theorem descriptionChange_matrix : s.descriptionChange.matrix = s.matrix := by simp [descriptionChange, onStore]
@[simp] theorem descriptionChange_port : s.descriptionChange.out.port = s.out.port := by simp [descriptionChange, onStore]
@[simp] theorem descriptionChange_tr (t : Tx) : s.descriptionChange.tr t = s.tr t := by simp [State.tr]

/-- Both banks after a description change has closed the VALID ones. -/
theorem closeValid_both : ((s.closeValid 0).closeValid 1).store.bank b =
    if (s.store.bank b).state = .valid then (s.store.bank b).goto .closed else s.store.bank b := by
  have hone : ((s.closeValid 0).store.bank 1) = s.store.bank 1 := by
    rw [closeValid_bank, if_neg (by simp)]
  rw [closeValid_bank, hone]
  fin_cases b
  · simp [closeValid_bank]
  · simp [hone]

/-- A description change, with the events raised before it and those of its own (R11-R13, R64). -/
theorem descriptionChange_describes {s u : State} {first : List Event} (hstore : u.store = s.store)
    (hcheck : u.check = s.check) (hvoice : u.out.voice = first.foldl Outbox.raise s.out.voice) :
    Claims.describedAnew s u.descriptionChange first := by
  let v := u.onStore fun k => { k with serial := k.serial + 1 }
  have hvcheck : ((v.closeValid 0).closeValid 1).check = s.check := by simp [v, onStore, hcheck]
  have hbanks : ∀ b, v.store.bank b = s.store.bank b := fun b => by rw [← hstore]; rfl
  have hbank : ∀ b, ((v.closeValid 0).closeValid 1).store.bank b =
      if (s.store.bank b).state = .valid then (s.store.bank b).goto .closed else s.store.bank b := fun b => by
    rw [closeValid_both, hbanks]
  have hchanged : ∀ b, v.changedEvents b = s.changedEvents b := fun b => by
    unfold changedEvents
    rw [hbanks]
  have hcut : ((v.closeValid 0).closeValid 1).cutEvents .aborted = s.cutEvents .aborted := by
    unfold cutEvents
    rw [hvcheck]
  refine ⟨by rw [descriptionChange_serial, hstore], by simp, raises_of_voice ?_, fun b hb => ?_, fun k hk => ?_⟩
  · have hsecond : (v.closeValid 0).changedEvents 1 = s.changedEvents 1 := by
      have hone : (v.closeValid 0).store.bank 1 = s.store.bank 1 := by
        rw [closeValid_bank, if_neg (by simp), hbanks]
      unfold changedEvents
      rw [hone]
    have hdescribed : u.descriptionChange.out.voice = (first ++ s.changedEvents 0 ++ s.changedEvents 1 ++
        s.cutEvents .aborted).foldl Outbox.raise s.out.voice := by
      refine (cutCheck_voice ((v.closeValid 0).closeValid 1) .aborted).trans ?_
      rw [closeValid_voice, closeValid_voice, hchanged, hsecond, hcut, List.foldl_append, List.foldl_append,
        List.foldl_append, ← hvoice]
      rfl
    have hfilter : (([0, 1] : List Bank).filter fun b => (s.store.bank b).state == .valid).map (fun b =>
        ({ kind := .descriptionChanged, subject := .bank b, detail := [] } : Event)) =
        s.changedEvents 0 ++ s.changedEvents 1 := by
      unfold changedEvents
      by_cases h0 : (s.store.bank 0).state = .valid <;> by_cases h1 : (s.store.bank 1).state = .valid <;>
        simp [h0, h1]
    rw [hdescribed, hfilter, List.append_assoc first]
    rfl
  · have hkept : u.descriptionChange.store.bank b = _ := cutCheck_bank_of_other _ _ _ (hvcheck ▸ hb)
    rw [hkept, hbank]
    split
    · exact ⟨rfl, rfl⟩
    · exact ⟨rfl, rfl⟩
  · have hclosed : u.descriptionChange.store.bank k.bank = _ := cutCheck_bank_of_check _ _ (hvcheck.trans hk)
    rw [hclosed]
    exact ⟨rfl, rfl⟩

end State

end Sys2Proof.Machine

/-! SET_TRANSMITTER, and the transmitter that follows a change of its presence (R3, R4; O20). -/

namespace Sys2Proof.Machine

namespace Bench

variable {e : Env} {b : Bench}

/-! ### Polling begins and stops (R4, R5) -/

@[simp] theorem missSlot_tr (why : Detail) : (b.missSlot e why).u.tr = { b.u.tr with slot := none } := by
  unfold missSlot
  split
  · rfl
  next h => rw [← h]
@[simp] theorem missSlot_port (why : Detail) : (b.missSlot e why).o.port = b.o.port := by
  unfold missSlot
  split <;> rfl

@[simp] theorem lock_tr (why : LockReason) (code : Option Nat) : (b.lock e why code).u.tr =
    { b.u.tr with state := .locked why, lock := some why, slot := none } := by simp [lock]
@[simp] theorem darken_tr (why : DarkReason) : (b.darken e why).u.tr =
    { b.u.tr with state := .dark why, slot := none } := by simp [darken]
@[simp] theorem stopPolling_tr (why : DarkReason) : (b.stopPolling e why).u.tr =
    { b.u.tr with
      poll := none, startup := if b.u.tr.startup = .none then .none else .done, state := .dark why, slot := none } := by
  simp [stopPolling]

theorem beginPolling_of_locked {why : LockReason} (h : b.u.tr.lock = some why) : b.beginPolling e =
    ((((b.tr fun r => { r with silence := 0 }).lock e why none).polled e).tr fun r =>
      { r with silence := r.silence + 1 }) := by
  have hbegin : b.beginPolling e = ((b.tr fun r => { r with silence := 0 }).lock e why none).pollInstant e := by
    unfold beginPolling
    dsimp only
    rw [show ((b.tr fun r => { r with silence := 0 }).u.tr).lock = some why from h]
  rw [hbegin, pollInstant_of_counting (by simp)]

theorem beginPolling_of_unlocked (h : b.u.tr.lock = none) : b.beginPolling e =
    ((b.tr fun r => { r with silence := 0, state := .dark .portSilent, poll := some 0 }).sendMute e).order e .stat := by
  unfold beginPolling
  dsimp only
  rw [show ((b.tr fun r => { r with silence := 0 }).u.tr).lock = none from h]
  rfl

/-- A transmitter that begins to be polled (R4, R5). -/
structure Polls (e : Env) (b c : Bench) : Prop where
  desc : c.u.tr.desc = b.u.tr.desc
  poll : c.u.tr.poll.isSome = true
  locked : ∀ why, b.u.tr.lock = some why → c.u.tr.state = .locked why
  silent : b.u.tr.lock = none →
    c.u.tr.state = .dark .portSilent ∧ c.u.tr.silence = 0 ∧ c.o.port = b.o.port ++ [(e.t, .mute), (e.t, .stat)]

theorem beginPolling_polls : b.Polls e (b.beginPolling e) := by
  cases h : b.u.tr.lock with
  | some why =>
    rw [beginPolling_of_locked h]
    exact ⟨by simp [polled, order], by simp [polled], fun w hw => (by cases h.symm.trans hw; simp [polled, order]),
      fun hnone => (by cases h.symm.trans hnone)⟩
  | none =>
    rw [beginPolling_of_unlocked h]
    exact ⟨by simp [order, sendMute_tr], by simp [order, sendMute_tr], fun w hw => (by cases h.symm.trans hw),
      fun _ => ⟨by simp [order, sendMute_tr], by simp [order, sendMute_tr], by simp [order]⟩⟩

/-- The events with which polling begins: TX_LOCKED of a kept lock reason (R116). -/
def pollEvents (e : Env) (b : Bench) : List Event :=
  match b.u.tr.lock with
  | some why => [Claims.locking e.t why.detail (if why = LockReason.txFault then b2 0xFFFF else [])]
  | none => []

theorem beginPolling_voice (hslot : b.u.tr.slot = none) :
    (b.beginPolling e).o.voice = (b.pollEvents e).foldl Outbox.raise b.o.voice := by
  unfold pollEvents
  cases h : b.u.tr.lock with
  | some why =>
    rw [beginPolling_of_locked h, lock_of_empty _ _ (by simpa using hslot)]
    simp [polled, order, Outbox.event_eq, Claims.locking, lockDetail]
  | none =>
    rw [beginPolling_of_unlocked h]
    simp [order]

/-! ### A transmitter described (R4) -/

/-- A transmitter's description written. -/
def redesc (d : TxDesc) (b : Bench) : Bench := b.tr fun r => { r with desc := d }

variable {d : TxDesc}

theorem describe_of_same (h : b.u.tr.desc.present = d.present) :
    b.describe d e = b.redesc { d with available := b.u.tr.desc.available } := if_pos h

theorem describe_of_absent (hold : b.u.tr.desc.present = true) (hnew : d.present = false) :
    b.describe d e = (b.redesc { d with available := b.u.tr.desc.available }).stopPolling e .absent :=
  (if_neg (by simp [hold, hnew])).trans (if_neg (by simp [hnew]))

theorem describe_of_withheld (hold : b.u.tr.desc.present = false) (hnew : d.present = true)
    (havailable : b.u.tr.desc.available = false) :
    b.describe d e = (b.redesc { d with available := b.u.tr.desc.available }).darken e .withheld :=
  (if_neg (by simp [hold, hnew])).trans ((if_pos hnew).trans (if_neg (by simp [havailable])))

theorem describe_of_available (hold : b.u.tr.desc.present = false) (hnew : d.present = true)
    (havailable : b.u.tr.desc.available = true) :
    b.describe d e = (b.redesc { d with available := b.u.tr.desc.available }).beginPolling e :=
  (if_neg (by simp [hold, hnew])).trans ((if_pos hnew).trans (if_pos havailable))

theorem describe_desc : (b.describe d e).u.tr.desc = { d with available := b.u.tr.desc.available } := by
  by_cases hold : b.u.tr.desc.present = true <;> by_cases hnew : d.present = true
  · rw [describe_of_same (hold.trans hnew.symm)]; rfl
  · rw [describe_of_absent hold (by simpa using hnew)]; simp [redesc]
  · by_cases havailable : b.u.tr.desc.available = true
    · rw [describe_of_available (by simpa using hold) hnew havailable, beginPolling_polls.desc]; rfl
    · rw [describe_of_withheld (by simpa using hold) hnew (by simpa using havailable)]; simp [redesc]
  · rw [describe_of_same (by simp_all)]; rfl

/-- The events of a change of presence, with an empty Pending slot (R4, R116). -/
theorem describe_voice (hslot : b.u.tr.slot = none) : (b.describe d e).o.voice =
    (if b.u.tr.desc.present = false ∧ d.present = true ∧ b.u.tr.desc.available = true then b.pollEvents e
      else []).foldl Outbox.raise b.o.voice := by
  by_cases hold : b.u.tr.desc.present = true <;> by_cases hnew : d.present = true
  · rw [describe_of_same (hold.trans hnew.symm), if_neg (by simp [hold])]; rfl
  · rw [describe_of_absent hold (by simpa using hnew), if_neg (by simp [hold]), stopPolling,
      darken_of_empty _ _ (by simpa [redesc] using hslot)]
    rfl
  · by_cases havailable : b.u.tr.desc.available = true
    · rw [describe_of_available (by simpa using hold) hnew havailable, if_pos ⟨by simpa using hold, hnew, havailable⟩,
        beginPolling_voice (by simpa [redesc] using hslot)]
      rfl
    · rw [describe_of_withheld (by simpa using hold) hnew (by simpa using havailable), if_neg (by simp [havailable]),
        darken_of_empty _ _ (by simpa [redesc] using hslot)]
      rfl
  · rw [describe_of_same (by simp_all), if_neg (by simp [hnew])]; rfl

end Bench

/-! ### SET_TRANSMITTER (R3, R4, R11) -/

namespace State

@[simp] theorem answer_tr (s : State) (kind tag : Byte) (v : Verdict) (t : Tx) : (s.answer kind tag v).tr t = s.tr t := rfl

variable (s : State) (t : Tx) (d : TxDesc)

/-- A transmitter described anew: its change of presence, and the description change if a checked field changes. -/
def redescribed : State :=
  if (s.tr t).desc.same d then s.csq t (Bench.describe d) else (s.csq t (Bench.describe d)).descriptionChange

theorem redescribed_tr : (s.redescribed t d).tr t =
    (((s.bench t).describe d (s.env t)).reportRow (s.env t)).u.tr := by
  unfold redescribed
  split
  · rw [csq_eq, putBench_tr]
  · rw [descriptionChange_tr, csq_eq, putBench_tr]

theorem redescribed_port : (s.redescribed t d).out.port = ((s.bench t).describe d (s.env t)).o.port := by
  unfold redescribed
  split <;> simp [csq_eq]

end State

theorem TxDesc.same_iff (a b : TxDesc) : a.same b = true ↔
    a.present = b.present ∧ a.rated = b.rated ∧ a.step = b.step ∧ a.low = b.low ∧ a.high = b.high ∧
      a.programmes = b.programmes := by
  obtain ⟨p, r, s, l, h, g, v⟩ := a
  simp [TxDesc.same]

theorem TxState.idle_iff (x : TxState) : x.idle = true ↔ x = .ready ∨ (∃ w, x = .locked w) ∨ ∃ w, x = .dark w := by
  cases x <;> simp [TxState.idle, TxState.off]

/-- Some field of SET_TRANSMITTER is out of its range (R3 test 1). -/
def TxDesc.outOfRange (n rated low high programmes : Nat) : Bool :=
  decide (11 < n) || outside 10 500 rated || outside 2300 26100 low || outside 2300 26100 high || outside 1 16 programmes

/-- The fields of SET_TRANSMITTER do not fit together (R3 tests 2 and 3). -/
def TxDesc.illegal (rated step low high : Nat) : Bool :=
  (step != 1 && step != 5 && step != 10 && step != 25) || !onRaster low || !onRaster high || decide (high < low) ||
    decide (rated < step)

theorem TxDesc.outOfRange_eq_false_iff (n rated low high programmes : Nat) :
    TxDesc.outOfRange n rated low high programmes = false ↔
      n ≤ 11 ∧ 10 ≤ rated ∧ rated ≤ 500 ∧ 2300 ≤ low ∧ low ≤ 26100 ∧ 2300 ≤ high ∧ high ≤ 26100 ∧
        1 ≤ programmes ∧ programmes ≤ 16 := by
  simp [TxDesc.outOfRange, outside_eq_false_iff, and_assoc]

theorem TxDesc.illegal_eq_false_iff (rated step low high : Nat) : TxDesc.illegal rated step low high = false ↔
    (step = 1 ∨ step = 5 ∨ step = 10 ∨ step = 25) ∧ low % 5 = 0 ∧ high % 5 = 0 ∧ low ≤ high ∧ step ≤ rated := by
  simp only [TxDesc.illegal, onRaster, Bool.or_eq_false_iff, Bool.and_eq_false_iff, bne_eq_false_iff_eq, Bool.not_eq_false',
    beq_iff_eq, decide_eq_false_iff_not, Nat.not_lt, and_assoc, or_assoc]

/-- The description that SET_TRANSMITTER writes. -/
def TxDesc.given (present : Bool) (rated step low high programmes : Nat) : TxDesc :=
  { present := present, rated := rated, step := step, low := low, high := high, programmes := programmes, available := true }

theorem exec_setTransmitter {s : State} (hs : Claims.serves s) {h : Head} (hsized : h.sized = true) (n : Nat)
    (present : Bool) (rated step low high programmes : Nat) :
    let d := TxDesc.given present rated step low high programmes
    exec (.setTransmitter h n present rated step low high programmes) s = .next
      (if TxDesc.outOfRange n rated low high programmes then Claims.refuse s 0x10 h .outOfRange
      else if TxDesc.illegal rated step low high then Claims.refuse s 0x10 h .badField
      else if (s.tr (tx n)).state.idle = false then Claims.refuse s 0x10 h .inUse
      else (s.taken.redescribed (tx n) d).answer 0x10 h.tag (.accepted (.serial (s.taken.redescribed (tx n) d).store.serial))) := by
  intro d
  show execSetTransmitter h n present rated step low high programmes s = _
  refine (State.host_sized hs hsized).trans ?_
  simp only [State.tested_cons, State.tested_nil]
  exact congrArg _ (if_congr Iff.rfl rfl (if_congr Iff.rfl rfl (if_congr (by simp) rfl rfl)))

/-- An accepted SET_TRANSMITTER has passed its tests. -/
theorem setTransmitter_accepted {s t : State} (hs : Claims.serves s) {h : Head} {n : Nat} {present : Bool}
    {rated step low high programmes : Nat} (hexec : exec (.setTransmitter h n present rated step low high programmes) s = .next t)
    (haccepted : ∃ m, t.link.reply = some { kind := 0x10, tag := h.tag, verdict := .accepted (.serial m) }) :
    ∃ v, t = (s.taken.redescribed (tx n) (TxDesc.given present rated step low high programmes)).answer 0x10 h.tag v := by
  obtain ⟨m, hm⟩ := haccepted
  have refused : ∀ {r : Reason}, Claims.refuse s 0x10 h r = t → False := fun ht => by
    subst ht
    cases hm
  cases hsized : h.sized with
  | false =>
    rw [exec_short (c := .setTransmitter h n present rated step low high programmes) hs rfl nofun hsized] at hexec
    exact (refused (Host.Outcome.next.inj hexec)).elim
  | true =>
    rw [exec_setTransmitter hs hsized] at hexec
    have ht := Host.Outcome.next.inj hexec
    split at ht
    · exact (refused ht).elim
    split at ht
    · exact (refused ht).elim
    split at ht
    · exact (refused ht).elim
    · exact ⟨_, ht.symm⟩

theorem setTransmitterDecided : Claims.SetTransmitterDecided := by
  intro h n present rated step low high programmes s hs i inRange legal x free
  have hrange : TxDesc.outOfRange n rated low high programmes = false ↔ inRange := TxDesc.outOfRange_eq_false_iff ..
  have hlegal : TxDesc.illegal rated step low high = false ↔ legal := TxDesc.illegal_eq_false_iff ..
  have hfree : (s.tr (tx n)).state.idle = true ↔ free := TxState.idle_iff _
  have hexec : h.sized = true → _ := fun hsized => exec_setTransmitter hs hsized n present rated step low high programmes
  have hshort : h.sized = false → exec i s = _ := fun hshort =>
    exec_short (c := .setTransmitter h n present rated step low high programmes) hs rfl nofun hshort
  refine ⟨hshort, fun hsized hout => ?_, fun hsized hin hillegal => ?_,
    fun hsized hin hl hbusy => ?_, fun hsized hin hl hidle => ?_⟩
  · rw [hexec hsized, if_pos (Bool.of_not_eq_false (mt hrange.1 hout))]
  · rw [hexec hsized, if_neg (by simp [hrange.2 hin]), if_pos (Bool.of_not_eq_false (mt hlegal.1 hillegal))]
  · rw [hexec hsized, if_neg (by simp [hrange.2 hin]), if_neg (by simp [hlegal.2 hl]),
      if_pos (Bool.eq_false_iff.2 (mt hfree.1 hbusy))]
  · have hdone := hexec hsized
    dsimp only at hdone
    rw [if_neg (by simp [hrange.2 hin]), if_neg (by simp [hlegal.2 hl]), if_neg (by simp [hfree.2 hidle])] at hdone
    intro old
    have htr : (s.taken.redescribed (tx n) (TxDesc.given present rated step low high programmes)).tr (tx n) =
        (((s.bench (tx n)).describe (TxDesc.given present rated step low high programmes) (s.env (tx n))).reportRow
          (s.env (tx n))).u.tr := s.taken.redescribed_tr ..
    have hport : (s.taken.redescribed (tx n) (TxDesc.given present rated step low high programmes)).out.port =
        ((s.bench (tx n)).describe (TxDesc.given present rated step low high programmes) (s.env (tx n))).o.port :=
      s.taken.redescribed_port ..
    refine ⟨_, hdone, ?_, rfl, fun hsame => ?_, fun hold hnew => ?_, fun hold hnew hwithheld => ?_,
      fun hold hnew havailable => ?_⟩
    · rw [State.answer_tr, htr]
      simp [Bench.describe_desc, TxDesc.given, old]
    · rw [State.answer_tr, htr, Bench.describe_of_same hsame]
      simp [Bench.redesc, x]
    · rw [State.answer_tr, htr, Bench.describe_of_absent hold hnew]
      simp [Bench.redesc]
    · rw [State.answer_tr, htr, Bench.describe_of_withheld hold hnew hwithheld]
      simp [Bench.redesc]
    · rw [Bench.describe_of_available hold hnew havailable] at htr hport
      have polls := Bench.beginPolling_polls (e := s.env (tx n)) (b := (s.bench (tx n)).redesc
        { TxDesc.given present rated step low high programmes with available := (s.tr (tx n)).desc.available })
      refine ⟨?_, fun w hw => ?_, fun hnone => ?_⟩
      · rw [State.answer_tr, htr]
        simpa using polls.poll
      · rw [State.answer_tr, htr]
        simpa using polls.locked w hw
      · obtain ⟨hstate, hsilence, horders⟩ := polls.silent hnone
        rw [State.answer_tr, htr]
        exact ⟨by simpa using hstate, by simpa using hsilence, hport.trans horders⟩

/-- The description change of an accepted SET_TRANSMITTER, with the events of its change of presence. -/
theorem State.redescribed_describes {s : State} {t : Tx} {d : TxDesc} {first : List Event}
    (hchanged : (s.tr t).desc.same d = false)
    (hvoice : ((s.bench t).describe d (s.env t)).o.voice = first.foldl Outbox.raise s.out.voice) :
    Claims.describedAnew s (s.redescribed t d) first := by
  unfold State.redescribed
  rw [if_neg (by simp [hchanged])]
  exact State.descriptionChange_describes rfl rfl ((Bench.reportRow_voice ..).trans hvoice)

theorem descriptionChangeFollows : Claims.DescriptionChangeFollows := by
  intro h n present rated step low high programmes s t hs hexec haccepted old same
  obtain ⟨v, rfl⟩ := setTransmitter_accepted hs hexec haccepted
  have hsame : (s.tr (tx n)).desc.same (TxDesc.given present rated step low high programmes) = true ↔ same :=
    TxDesc.same_iff ..
  have hanew : ¬ same → ∃ first, Claims.describedAnew s.taken
      (s.taken.redescribed (tx n) (TxDesc.given present rated step low high programmes)) first := fun hne => by
    obtain ⟨es, hes⟩ := (Bench.Puts.describe (e := s.env (tx n)) (L := ∅) (.refl (s.bench (tx n)))
      (d := TxDesc.given present rated step low high programmes)).events
    exact ⟨es, State.redescribed_describes (Bool.eq_false_iff.2 (mt hsame.1 hne)) hes⟩
  refine ⟨fun heq => ?_, fun hne => ?_, fun hne => ?_⟩
  · have hkept : s.taken.redescribed (tx n) (TxDesc.given present rated step low high programmes) = _ :=
      if_pos (hsame.2 heq)
    rw [hkept]
    exact ⟨rfl, rfl⟩
  · obtain ⟨first, hserial, hcheck, -, hbanks, -⟩ := hanew hne
    exact ⟨hserial, hcheck, hbanks⟩
  · obtain ⟨first, -, -, -, -, hchecked⟩ := hanew hne
    exact hchecked

theorem transmitterChangeRaises : Claims.TransmitterChangeRaises := by
  intro h n present rated step low high programmes s t hs hexec haccepted hslot old same relocked
  obtain ⟨v, rfl⟩ := setTransmitter_accepted hs hexec haccepted
  have hsame : (s.tr (tx n)).desc.same (TxDesc.given present rated step low high programmes) = true ↔ same :=
    TxDesc.same_iff ..
  have hvoice := Bench.describe_voice (e := s.env (tx n)) (b := s.bench (tx n))
    (d := TxDesc.given present rated step low high programmes) hslot
  refine ⟨fun heq => ?_, fun hne => ?_⟩
  · have hkept : s.taken.redescribed (tx n) (TxDesc.given present rated step low high programmes) = _ :=
      if_pos (hsame.2 heq)
    rw [hkept]
    rw [if_neg fun ⟨hold, hnew, _⟩ => Bool.false_ne_true (hold.symm.trans (heq.1.trans hnew))] at hvoice
    exact raises_of_voice ((Bench.reportRow_voice ..).trans hvoice)
  · have hrelocked : relocked = if old.present = false ∧ present = true ∧ old.available = true then
        (s.bench (tx n)).pollEvents (s.env (tx n)) else [] := by
      show (match (s.tr (tx n)).lock with
        | some why => if old.present = false ∧ present = true ∧ old.available = true then
            [Claims.locking (tx n) why.detail (if why = LockReason.txFault then b2 0xFFFF else [])]
          else []
        | none => []) = _
      unfold Bench.pollEvents
      rw [State.bench_tr]
      cases (s.tr (tx n)).lock with
      | some why => rfl
      | none => exact (ite_self _).symm
    rw [hrelocked]
    exact State.redescribed_describes (s := s.taken) (Bool.eq_false_iff.2 (mt hsame.1 hne)) hvoice

/-- Settles O20: the tests decide in order; a change of presence begins or stops the polling (`Bench.beginPolling_polls`),
and a change of a checked field is a description change (`State.descriptionChange_describes`). -/
theorem transmitterDescribed : Obligations.TransmitterDescribed :=
  ⟨setTransmitterDecided, descriptionChangeFollows, transmitterChangeRaises⟩

end Sys2Proof.Machine

/-! SET_AVAILABILITY and SET_ANTENNA (R5, R9-R11; O21, O22). -/

namespace Sys2Proof.Machine

/-! ### SET_AVAILABILITY (R5) -/

namespace Bench

variable {e : Env} {b : Bench} {v : Bool}

theorem makeAvailable_of_same (h : b.u.tr.desc.available = v ∨ b.u.tr.desc.present = false) :
    b.makeAvailable v e = b.redesc { b.u.tr.desc with available := v } :=
  if_pos (h.imp id fun hp => by simp [hp])

theorem makeAvailable_of_withheld (hold : b.u.tr.desc.available = true) (hpresent : b.u.tr.desc.present = true) :
    b.makeAvailable false e = (b.redesc { b.u.tr.desc with available := false }).stopPolling e .withheld :=
  (if_neg (by simp [hold, hpresent])).trans (if_neg (by decide))

theorem makeAvailable_of_available (hold : b.u.tr.desc.available = false) (hpresent : b.u.tr.desc.present = true) :
    b.makeAvailable true e = (b.redesc { b.u.tr.desc with available := true }).beginPolling e :=
  (if_neg (by simp [hold, hpresent])).trans (if_pos rfl)

theorem makeAvailable_desc : (b.makeAvailable v e).u.tr.desc = { b.u.tr.desc with available := v } := by
  by_cases h : b.u.tr.desc.available = v ∨ b.u.tr.desc.present = false
  · rw [makeAvailable_of_same h]; rfl
  · obtain ⟨hold, hpresent⟩ := not_or.1 h
    rw [Bool.not_eq_false] at hpresent
    cases v with
    | true => rw [makeAvailable_of_available (by simpa using hold) hpresent, beginPolling_polls.desc]; rfl
    | false => rw [makeAvailable_of_withheld (by simpa using hold) hpresent]; simp [redesc]

end Bench

theorem TxState.busy_iff (x : TxState) :
    x.idle = false ↔ x = .changing ∨ x = .onAir ∨ x = .held ∨ x = .tripped := by
  cases x <;> simp [TxState.idle, TxState.off]

theorem exec_setAvailability {s : State} (hs : Claims.serves s) {h : Head} (hsized : h.sized = true) (n : Nat)
    (available : Option Bool) : exec (.setAvailability h n available) s = .next
      (if 11 < n then Claims.refuse s 0x12 h .outOfRange
      else if available = none then Claims.refuse s 0x12 h .badField
      else if available = some false ∧ (s.tr (tx n)).state.idle = false then Claims.refuse s 0x12 h .inUse
      else (s.taken.csq (tx n) (Bench.makeAvailable (available.getD true))).answer 0x12 h.tag (.accepted .empty)) := by
  show execSetAvailability h n available s = _
  refine (State.host_sized hs hsized).trans ?_
  simp only [State.tested_cons, State.tested_nil]
  exact congrArg _ (if_congr (by simp) rfl (if_congr (by simp) rfl (if_congr (by simp) rfl rfl)))

/-- Settles O21: the tests decide in order, and a change of the availability of a present transmitter begins or stops its
polling. -/
theorem setAvailabilityDecided : Obligations.SetAvailabilityDecided := by
  intro h n available s hs i x old busy
  have hbusy : (s.tr (tx n)).state.idle = false ↔ busy := TxState.busy_iff _
  have hexec : h.sized = true → exec i s = _ := fun hsized => exec_setAvailability hs hsized n available
  have hshort : h.sized = false → exec i s = _ := fun hshort =>
    exec_short (c := .setAvailability h n available) hs rfl nofun hshort
  refine ⟨hshort, fun hsized hout => ?_, fun hsized hin hnone => ?_, fun hsized hin hv hb => ?_,
    fun v hsized hin hv hfree => ?_⟩
  · rw [hexec hsized, if_pos hout]
  · rw [hexec hsized, if_neg (Nat.not_lt.2 hin), if_pos hnone]
  · rw [hexec hsized, if_neg (Nat.not_lt.2 hin), if_neg (by simp [hv]), if_pos ⟨hv, hbusy.2 hb⟩]
  · subst hv
    have hdone := hexec hsized
    rw [if_neg (Nat.not_lt.2 hin), if_neg nofun,
      if_neg fun ⟨hv, hi⟩ => hfree (Option.some.inj hv) (hbusy.1 hi)] at hdone
    have htr : (s.taken.csq (tx n) (Bench.makeAvailable v)).tr (tx n) =
        (((s.bench (tx n)).makeAvailable v (s.env (tx n))).reportRow (s.env (tx n))).u.tr := State.putBench_tr ..
    have hport : (s.taken.csq (tx n) (Bench.makeAvailable v)).out.port =
        ((s.bench (tx n)).makeAvailable v (s.env (tx n))).o.port := Bench.reportRow_port ..
    refine ⟨_, hdone, ?_, rfl, rfl, fun hsame => ?_, fun hold hv hpresent => ?_, fun hold hv hpresent => ?_⟩
    · rw [State.answer_tr, Option.getD_some, htr]
      simp [Bench.makeAvailable_desc, old]
    · rw [State.answer_tr, Option.getD_some, htr, Bench.makeAvailable_of_same hsame]
      simp [Bench.redesc, x]
    · subst hv
      rw [State.answer_tr, Option.getD_some, htr, Bench.makeAvailable_of_withheld hold hpresent]
      simp [Bench.redesc]
    · subst hv
      rw [Bench.makeAvailable_of_available hold hpresent] at htr hport
      have polls := Bench.beginPolling_polls (e := s.env (tx n))
        (b := (s.bench (tx n)).redesc { (s.tr (tx n)).desc with available := true })
      refine ⟨?_, fun w hw => ?_, fun hnone => ?_⟩
      · rw [State.answer_tr, Option.getD_some, htr]
        simpa using polls.poll
      · rw [State.answer_tr, Option.getD_some, htr]
        simpa using polls.locked w hw
      · obtain ⟨hstate, hsilence, horders⟩ := polls.silent hnone
        rw [State.answer_tr, Option.getD_some, htr]
        exact ⟨by simpa using hstate, by simpa using hsilence, hport.trans horders⟩

/-! ### SET_ANTENNA (R9-R11) -/

/-- The fields of SET_ANTENNA do not fit together (R9 test 2). -/
def ColDesc.illegal (c : Nat) (kind : ColKind) (bands : BitVec 16) : Bool :=
  decide (16383 < bands.toNat) || (!decide (32 ≤ c) && kind == .load) || (decide (32 ≤ c) && kind != .load) ||
    (decide (32 ≤ c) && bands != 16383)

theorem ColDesc.illegal_eq_false_iff (c : Nat) (kind : ColKind) (bands : BitVec 16) :
    ColDesc.illegal c kind bands = false ↔
      bands.toNat ≤ 16383 ∧ (c ≤ 31 → kind ≠ .load) ∧ (32 ≤ c → kind = .load ∧ bands = 16383) := by
  by_cases hc : 32 ≤ c
  · simp [ColDesc.illegal, hc, Nat.not_le.2 hc, and_assoc]
  · simp [ColDesc.illegal, hc, Nat.lt_succ_iff.1 (Nat.not_le.1 hc)]

/-- A column described anew, and the description change if its presence or its bands change (R10, R11). -/
def State.recolumned (s : State) (c : Col) (d : ColDesc) : State :=
  let u := { s with matrix := s.matrix.onColumn c fun k => { k with desc := d } }
  if (s.matrix.column c).desc.present = d.present ∧ (s.matrix.column c).desc.bands = d.bands then u else u.descriptionChange

theorem exec_setAntenna {s : State} (hs : Claims.serves s) {h : Head} (hsized : h.sized = true) (c : Nat)
    (present : Bool) (kind : ColKind) (bands : BitVec 16) :
    exec (.setAntenna h c present kind bands) s = .next
      (if 35 < c then Claims.refuse s 0x11 h .outOfRange
      else if ColDesc.illegal c kind bands then Claims.refuse s 0x11 h .badField
      else if s.matrix.use (col c) = .claimed ∨ s.matrix.use (col c) = .live then Claims.refuse s 0x11 h .inUse
      else
        let u := s.taken.recolumned (col c) { present := present, kind := kind, bands := bands.setWidth 14 }
        u.answer 0x11 h.tag (.accepted (.serial u.store.serial))) := by
  show execSetAntenna h c present kind bands s = _
  refine (State.host_sized hs hsized).trans ?_
  simp only [State.tested_cons, State.tested_nil]
  exact congrArg _ (if_congr (by simp) rfl (if_congr Iff.rfl rfl (if_congr (by simp) rfl rfl)))

/-- The reply to a request is no part of a description change. -/
theorem State.describedAnew_answer {s t : State} {es : List Event} (h : Claims.describedAnew s t es) (kind tag : Byte)
    (v : Verdict) : Claims.describedAnew s (t.answer kind tag v) es := h

/-- The reply with the serial number in force reads it from the answered state too. -/
theorem State.answer_serial_reply (s : State) (kind tag : Byte) (v : Verdict) :
    (s.answer kind tag (.accepted (.serial s.store.serial))).link.reply =
      some { kind := kind, tag := tag, verdict := .accepted (.serial (s.answer kind tag v).store.serial) } := rfl

/-- Settles O22: the tests decide in order; the column alone changes, and its presence and bands make a description change
(`State.descriptionChange_describes`). -/
theorem setAntennaDecided : Obligations.SetAntennaDecided := by
  intro h c present kind bands s hs i legal free new old
  have hlegal : ColDesc.illegal c kind bands = false ↔ legal := ColDesc.illegal_eq_false_iff ..
  have hfree : free ↔ ¬ (s.matrix.use (col c) = .claimed ∨ s.matrix.use (col c) = .live) := by
    show s.matrix.use (col c) = .free ∨ s.matrix.use (col c) = .idle ↔ _
    cases s.matrix.use (col c) <;> simp
  have hexec : h.sized = true → exec i s = _ := fun hsized => exec_setAntenna hs hsized c present kind bands
  have hshort : h.sized = false → exec i s = _ := fun hshort =>
    exec_short (c := .setAntenna h c present kind bands) hs rfl nofun hshort
  refine ⟨hshort, fun hsized hout => ?_, fun hsized hin hillegal => ?_, fun hsized hin hl hbusy => ?_,
    fun hsized hin hl hidle => ?_⟩
  · rw [hexec hsized, if_pos hout]
  · rw [hexec hsized, if_neg (Nat.not_lt.2 hin), if_pos (Bool.of_not_eq_false (mt hlegal.1 hillegal))]
  · rw [hexec hsized, if_neg (Nat.not_lt.2 hin), if_neg (by simp [hlegal.2 hl]), if_pos (by_contra (mt hfree.2 hbusy))]
  · have hdone := hexec hsized
    rw [if_neg (Nat.not_lt.2 hin), if_neg (by simp [hlegal.2 hl]), if_neg (hfree.1 hidle)] at hdone
    by_cases hsame : old.present = present ∧ old.bands = new.bands
    · have hkept : s.taken.recolumned (col c) new =
          { s.taken with matrix := s.matrix.onColumn (col c) fun k => { k with desc := new } } := if_pos hsame
      dsimp only at hdone
      rw [hkept] at hdone
      refine ⟨_, hdone, rfl, rfl, ?_, fun _ _ => ⟨rfl, rfl, raises_of_voice rfl⟩, fun hne => absurd hsame hne⟩
      rw [if_pos hsame]
      rfl
    · let u : State := { s.taken with matrix := s.matrix.onColumn (col c) fun k => { k with desc := new } }
      have hanew : s.taken.recolumned (col c) new = u.descriptionChange := if_neg hsame
      have hdescribed : Claims.describedAnew s u.descriptionChange [] :=
        State.descriptionChange_describes (s := s) (u := u) rfl rfl rfl
      dsimp only at hdone
      rw [hanew] at hdone
      have hmatrix := u.descriptionChange_matrix
      have hserial : u.descriptionChange.store.serial = s.store.serial + 1 := u.descriptionChange_serial
      refine ⟨_, hdone, (State.answer_matrix ..).trans hmatrix, State.answer_serial_reply u.descriptionChange _ _ _,
        by rw [State.answer_store, hserial, if_neg hsame],
        fun hp hb => absurd ⟨hp, hb⟩ hsame, fun _ => State.describedAnew_answer hdescribed _ _ _⟩

end Sys2Proof.Machine

/-! The check of a bank: its requests and its completion, and the tests of an entry's shape (R50-R57, R62, R63; part of
O26). -/

namespace Sys2Proof.Machine

/-! ### CHECK_BANK and CANCEL_CHECK (R50, R51, R63) -/

theorem checkRequestsDecided : Claims.CheckRequestsDecided := by
  refine ⟨fun h n s hs => ?_, fun h n s hs => ?_, fun h n s k hs hsized hn hstate hcheck hbank => ?_⟩
  · show execCheckBank h n s = _
    refine (State.host_decides hs).trans ?_
    simp only [State.tested_cons, State.tested_nil]
    exact congrArg _ (if_congr Iff.rfl rfl (if_congr decide_eq_true_iff rfl
      (if_congr (by simp [Option.isSome_iff_ne_none]) rfl (if_congr (by simp [and_assoc]) rfl (if_congr Iff.rfl rfl rfl)))))
  · have hexec : exec (.cancelCheck h n) s = .next _ := show execCancelCheck h n s = _ from State.host_decides hs
    simp only [State.tested_cons, State.tested_nil] at hexec
    refine ⟨fun hshort => ?_, fun hsized hn => ?_, fun hsized hn hstate => ?_⟩
    · rw [hexec, if_pos hshort]
    · rw [hexec, if_neg (by simp [hsized]), if_pos (decide_eq_true hn)]
    · rw [hexec, if_neg (by simp [hsized]), if_neg (by simpa using hn), if_pos (by simpa using hstate)]
  · have hexec : exec (.cancelCheck h n) s = .next _ := show execCancelCheck h n s = _ from State.host_decides hs
    simp only [State.tested_cons, State.tested_nil] at hexec
    intro b report cell
    have hcut : s.taken.cutCheck .cancelled = s.taken.endCheck k .closed .cancelled := by
      unfold State.cutCheck
      rw [show s.taken.check = some k from hcheck]
    rw [hexec, if_neg (by simp [hsized]), if_neg (by simpa using hn), if_neg (by simp [hstate]), hcut]
    unfold State.endCheck
    rw [hbank]
    rfl

/-! ### CHECK_COMPLETE (R62) -/

namespace CheckContext

variable (g : Hall) (used : List (Nat × Entry))

/-- Faults found change the count and the list alone (R61). -/
theorem foldl_fault_keeps (fs : List FaultRecord) (k : CheckContext) :
    ∃ n l, fs.foldl CheckContext.fault k = { k with total := n, faults := l } := by
  induction fs generalizing k with
  | nil => exact ⟨_, _, rfl⟩
  | cons f fs ih =>
    obtain ⟨n, l, h⟩ := ih (k.fault f)
    exact ⟨n, l, h.trans rfl⟩

/-- The faults that a visit finds (R52). -/
def visitFaults (k : CheckContext) : List FaultRecord :=
  let here := used.find? fun q => q.1 == k.place
  match k.pass with
  | .entry => match here with | some q => entryFaults g used q.1 q.2 | none => []
  | .pair => match here with | some q => pairFaults used q.1 q.2 | none => []
  | .horizon => if k.place = 0 then horizonFaults used else []

/-- Where the walk goes on after a visit (R52). -/
def moved (k : CheckContext) : CheckContext :=
  match k.pass with
  | .entry => if k.place < 511 then { k with place := k.place + 1 } else { k with pass := .pair, place := 0 }
  | .pair => if k.place < 511 then { k with place := k.place + 1 } else { k with pass := .horizon, place := 0 }
  | .horizon => if k.place = 0 then { k with place := 1 } else k

theorem moved_of_entry {k : CheckContext} (h : k.pass = .entry) :
    k.moved = if k.place < 511 then { k with place := k.place + 1 } else { k with pass := .pair, place := 0 } := by
  unfold moved
  rw [h]
theorem moved_of_pair {k : CheckContext} (h : k.pass = .pair) :
    k.moved = if k.place < 511 then { k with place := k.place + 1 } else { k with pass := .horizon, place := 0 } := by
  unfold moved
  rw [h]
theorem moved_of_horizon {k : CheckContext} (h : k.pass = .horizon) :
    k.moved = if k.place = 0 then { k with place := 1 } else k := by
  unfold moved
  rw [h]

theorem visit_eq (k : CheckContext) : k.visit g used = ((k.visitFaults g used).foldl CheckContext.fault k).moved := by
  have hpass : ∀ fs : List FaultRecord, (fs.foldl CheckContext.fault k).pass = k.pass := fun fs => by
    obtain ⟨n, l, h⟩ := foldl_fault_keeps fs k
    rw [h]
  have hplace : ∀ fs : List FaultRecord, (fs.foldl CheckContext.fault k).place = k.place := fun fs => by
    obtain ⟨n, l, h⟩ := foldl_fault_keeps fs k
    rw [h]
  unfold visit visitFaults
  cases h : k.pass
  case entry => exact (moved_of_entry ((hpass _).trans h)).symm
  case pair => exact (moved_of_pair ((hpass _).trans h)).symm
  case horizon =>
    dsimp only
    rw [moved_of_horizon ((hpass _).trans h), hplace]
    by_cases hzero : k.place = 0
    · rw [if_pos hzero, if_pos hzero, if_pos hzero]
    · rw [if_neg hzero, if_neg hzero, if_neg hzero]
      rfl

@[simp] theorem moved_serial (k : CheckContext) : k.moved.serial = k.serial := by
  unfold moved
  split <;> split <;> rfl
@[simp] theorem moved_total (k : CheckContext) : k.moved.total = k.total := by
  unfold moved
  split <;> split <;> rfl
@[simp] theorem moved_faults (k : CheckContext) : k.moved.faults = k.faults := by
  unfold moved
  split <;> split <;> rfl

theorem visit_serial (k : CheckContext) : (k.visit g used).serial = k.serial := by
  obtain ⟨n, l, h⟩ := foldl_fault_keeps (k.visitFaults g used) k
  rw [visit_eq, moved_serial, h]

theorem visits_serial (n : Nat) (k : CheckContext) : (k.visits g used n).serial = k.serial := by
  induction n generalizing k with
  | zero => rfl
  | succ n ih => exact (ih _).trans (k.visit_serial g used)

/-- Without a used slot no pass has anything to find. -/
theorem visitFaults_nil (k : CheckContext) : k.visitFaults g [] = [] := by
  unfold visitFaults
  cases k.pass
  case entry => rfl
  case pair => rfl
  case horizon => exact ite_self _

theorem visits_nil_total (n : Nat) (k : CheckContext) : (k.visits g [] n).total = k.total := by
  induction n generalizing k with
  | zero => rfl
  | succ n ih => exact (ih _).trans (by rw [visit_eq, visitFaults_nil, moved_total]; rfl)

end CheckContext

theorem exec_checkComplete {s : State} {k : CheckContext} (hlive : Claims.live s) (hcheck : s.check = some k) :
    let done := k.visits s.hall (s.store.bank k.bank).used k.left
    exec .checkComplete s = .next
      (if done.total = 0 then s.endCheck done .valid .valid else s.endCheck done .rejected .rejected) := by
  show execCheckComplete s = _
  rw [execCheckComplete, State.take_of_live hlive, hcheck]

theorem checkCompletes : Claims.CheckCompletes := by
  refine ⟨fun s k hlive hcheck => ?_, fun s k hlive hcheck _ _ htotal hused => ?_⟩
  · intro done
    have hbank : done.bank = k.bank := k.visits_bank ..
    have hserial : done.serial = k.serial := k.visits_serial ..
    have hexec : exec .checkComplete s = .next
      (if done.total = 0 then s.endCheck done .valid .valid else s.endCheck done .rejected .rejected) :=
      exec_checkComplete hlive hcheck
    have ends : ∀ (x : BankState) (o : CheckOutcome), (s.endCheck done x o).check = none ∧
        ((s.endCheck done x o).store.bank k.bank).state = x ∧
        ((s.endCheck done x o).store.bank k.bank).read.report = some (done.report o) ∧
        (s.endCheck done x o).store.bank (otherBank k.bank) = s.store.bank (otherBank k.bank) := fun x o => by
      have hself : (s.endCheck done x o).store.bank k.bank = (s.store.bank done.bank).change fun c =>
          { c with state := x, report := some (done.report o) } := by
        rw [← hbank]
        exact Store.bank_writeCell_self ..
      rw [hself]
      exact ⟨rfl, rfl, rfl, Store.bank_writeCell_ne _ _ (by rw [hbank]; exact otherBank_ne _)⟩
    by_cases hnone : done.total = 0
    · rw [if_pos hnone] at hexec
      obtain ⟨hc, hstate, hreport, hother⟩ := ends .valid .valid
      refine ⟨_, hexec, hc, hstate.trans (if_pos hnone).symm, hreport.trans ?_, hother, ?_⟩
      · rw [if_pos hnone, ← hserial]
        rfl
      · rw [if_pos hnone, ← hbank]
        rfl
    · rw [if_neg hnone] at hexec
      obtain ⟨hc, hstate, hreport, hother⟩ := ends .rejected .rejected
      refine ⟨_, hexec, hc, hstate.trans (if_neg hnone).symm, hreport.trans ?_, hother, ?_⟩
      · rw [if_neg hnone, ← hserial]
        rfl
      · rw [if_neg hnone, ← hbank]
        rfl
  · have hexec := exec_checkComplete hlive hcheck
    dsimp only at hexec
    rw [hused, if_pos ((CheckContext.visits_nil_total ..).trans htotal)] at hexec
    refine ⟨_, hexec, ?_⟩
    have hbank : (k.visits s.hall [] k.left).bank = k.bank := k.visits_bank ..
    rw [← hbank]
    exact congrArg SeasonBank.state (Store.bank_writeCell_self ..)

/-! ### The shape of an entry (R53, R54) -/

theorem entryShapeTests : Claims.EntryShapeTests := by
  intro e
  constructor
  · simp only [Entry.fieldRange, Bool.or_eq_true, Bool.and_eq_true, decide_eq_true_eq, bne_iff_ne, beq_iff_eq,
      Bool.not_eq_true', or_assoc]
  · unfold Entry.timeShape
    simp only [Bool.or_eq_true, decide_eq_true_eq, beq_iff_eq, or_assoc]
    cases dateBound e.validFrom <;> cases dateBound e.validTo <;> simp

/-! ### The faults of the ENTRY pass (R53-R57) -/

theorem bandIn_isNone_iff (n f : Nat) (bands : List (Nat × Nat)) :
    (bandIn n bands f).isNone = true ↔ ¬ ∃ b ∈ bands, b.1 ≤ f ∧ f ≤ b.2 := by
  induction bands generalizing n with
  | nil => simp [bandIn]
  | cons b bands ih =>
    unfold bandIn
    split
    next h => simp [h]
    next h => simp [ih, h]

theorem TxDesc.fits_eq_false_iff (d : TxDesc) (kHz programme : Nat) :
    d.fits kHz programme = false ↔ kHz < d.low ∨ d.high < kHz ∨ d.programmes ≤ programme := by
  rw [TxDesc.fits, Bool.and_eq_false_iff, Bool.and_eq_false_iff, decide_eq_false_iff_not, decide_eq_false_iff_not,
    decide_eq_false_iff_not, Nat.not_le, Nat.not_le, Nat.not_lt, or_assoc]

theorem Entry.sound_iff (e : Entry) : e.sound = true ↔ e.fieldRange = false ∧ e.timeShape = false := by
  simp [Entry.sound]

theorem Entry.mem_shapeFaults (e : Entry) (k : FaultKind) : k ∈ e.shapeFaults ↔
    (k = .fieldRange ∧ e.fieldRange = true) ∨ (k = .timeShape ∧ e.fieldRange = false ∧ e.timeShape = true) := by
  unfold Entry.shapeFaults
  cases e.fieldRange <;> cases e.timeShape <;> simp

/-- A fault listed where a test finds it. -/
theorem mem_ite_singleton {α : Type} {p : Prop} [Decidable p] {x y : α} : y ∈ (if p then [x] else []) ↔ p ∧ y = x := by
  split
  next h => simp [h]
  next h => simp [h]

theorem Entry.mem_hallFaults (g : Hall) (e : Entry) (k : FaultKind) :
    k ∈ e.hallFaults g ↔
      (e.kHz % 5 ≠ 0 ∧ k = .raster) ∨ ((¬ ∃ b ∈ bandTable, b.1 ≤ e.kHz ∧ e.kHz ≤ b.2) ∧ k = .outOfBand) ∨
      (((g.transmitters (tx e.transmitter)).present = false ∨ e.kHz < (g.transmitters (tx e.transmitter)).low ∨
        (g.transmitters (tx e.transmitter)).high < e.kHz ∨ (g.transmitters (tx e.transmitter)).programmes ≤ e.programme) ∧ k = .txRange) ∨
      (((g.transmitters (tx e.transmitter)).rated < e.kW ∨ e.kW < (g.transmitters (tx e.transmitter)).step) ∧ k = .powerRange) ∨
      ((g.columns (col e.primary)).permits e.kHz = false ∧ k = .antennaBand) ∨
      ((e.hasReserve = 1 ∧ (g.columns (col e.reserve)).permits e.kHz = false) ∧ k = .reserveBand) := by
  have hband : (bandOf e.kHz).isNone = true ↔ _ := bandIn_isNone_iff 0 e.kHz bandTable
  have hfits : (g.transmitters (tx e.transmitter)).fits e.kHz e.programme = false ↔ _ := TxDesc.fits_eq_false_iff ..
  unfold Entry.hallFaults
  simp only [List.mem_append, mem_ite_singleton, or_assoc, hband, onRaster, Bool.not_eq_true', beq_eq_false_iff_ne,
    Bool.or_eq_true, decide_eq_true_eq, Bool.and_eq_true, beq_iff_eq]
  rw [← hfits]

/-- An own fault of an entry names its slot alone. -/
def ownFault (place : Nat) (e : Entry) (k : FaultKind) : FaultRecord :=
  { kind := k, entry := slotName place e, other := none }

theorem duplicateOf_eq_some_iff (used : List (Nat × Entry)) (place : Nat) (e : Entry) (o : SlotName) :
    duplicateOf used place e = some o ↔ e.number ≤ 511 ∧ ∃ before q after, used = before ++ q :: after ∧
      (∀ p ∈ before, ¬ (p.1 < place ∧ p.2.number = e.number)) ∧ q.1 < place ∧ q.2.number = e.number ∧
      o = slotName q.1 q.2 := by
  unfold duplicateOf
  split
  next h => simp [h]
  next h =>
    rw [Option.map_eq_some_iff]
    have hnot : ∀ p : Nat × Entry, (!(decide (p.1 < place) && p.2.number == e.number)) = true ↔
        ¬ (p.1 < place ∧ p.2.number = e.number) := fun p => by
      rw [Bool.not_eq_true', Bool.and_eq_false_iff, decide_eq_false_iff_not, beq_eq_false_iff_ne, not_and_or]
    simp only [List.find?_eq_some_iff_append, hnot, Bool.and_eq_true, decide_eq_true_eq, beq_iff_eq]
    constructor
    · rintro ⟨q, ⟨⟨hplace, hnumber⟩, before, after, hused, hbefore⟩, ho⟩
      exact ⟨Nat.not_lt.1 h, before, q, after, hused, hbefore, hplace, hnumber, ho.symm⟩
    · rintro ⟨-, before, q, after, hused, hbefore, hplace, hnumber, ho⟩
      exact ⟨q, ⟨⟨hplace, hnumber⟩, before, after, hused, hbefore⟩, ho.symm⟩

theorem duplicateOf_isSome_iff (used : List (Nat × Entry)) (place : Nat) (e : Entry) :
    (∃ o, duplicateOf used place e = some o) ↔
      e.number ≤ 511 ∧ ∃ q ∈ used, q.1 < place ∧ q.2.number = e.number := by
  unfold duplicateOf
  split
  next h => simp [h]
  next h =>
    rw [and_iff_right (Nat.not_lt.1 h), ← Option.isSome_iff_exists, Option.isSome_map, List.find?_isSome]
    simp

theorem mem_entryFaults (g : Hall) (used : List (Nat × Entry)) (place : Nat) (e : Entry) (r : FaultRecord) :
    r ∈ entryFaults g used place e ↔
      (∃ k, (k ∈ e.shapeFaults ∨ (e.sound = true ∧ k ∈ e.hallFaults g)) ∧ r = ownFault place e k) ∨
      ∃ o, duplicateOf used place e = some o ∧
        r = { kind := .duplicateNumber, entry := slotName place e, other := some o } := by
  have hduplicate : r ∈ (match duplicateOf used place e with
      | some o => [({ kind := .duplicateNumber, entry := slotName place e, other := some o } : FaultRecord)]
      | none => []) ↔ ∃ o, duplicateOf used place e = some o ∧
        r = { kind := .duplicateNumber, entry := slotName place e, other := some o } := by
    cases duplicateOf used place e <;> simp
  have hall : r ∈ (if e.sound then (e.hallFaults g).map (ownFault place e) else []) ↔
      ∃ k, (e.sound = true ∧ k ∈ e.hallFaults g) ∧ r = ownFault place e k := by
    cases e.sound <;> simp [eq_comm]
  have hshape : r ∈ e.shapeFaults.map (ownFault place e) ↔ ∃ k, k ∈ e.shapeFaults ∧ r = ownFault place e k := by
    simp [eq_comm]
  have hlist : r ∈ entryFaults g used place e ↔ (r ∈ e.shapeFaults.map (ownFault place e) ∨ r ∈ (match duplicateOf used place e with
      | some o => [({ kind := .duplicateNumber, entry := slotName place e, other := some o } : FaultRecord)]
      | none => [])) ∨ r ∈ (if e.sound then (e.hallFaults g).map (ownFault place e) else []) := by
    rw [← List.mem_append, ← List.mem_append]
    rfl
  rw [hlist, hshape, hduplicate, hall]
  constructor
  · rintro ((⟨k, hk, hr⟩ | ho) | ⟨k, hk, hr⟩)
    · exact Or.inl ⟨k, Or.inl hk, hr⟩
    · exact Or.inr ho
    · exact Or.inl ⟨k, Or.inr hk, hr⟩
  · rintro (⟨k, hk | hk, hr⟩ | ho)
    · exact Or.inl (Or.inl ⟨k, hk, hr⟩)
    · exact Or.inr ⟨k, hk, hr⟩
    · exact Or.inl (Or.inr ho)

/-- An own fault of an entry is found by its test; none is DUPLICATE_NUMBER. -/
theorem found_own_iff (g : Hall) (used : List (Nat × Entry)) (place : Nat) (e : Entry) {k : FaultKind}
    (hk : k ≠ .duplicateNumber) : (∃ r ∈ entryFaults g used place e, r.kind = k) ↔
      k ∈ e.shapeFaults ∨ (e.sound = true ∧ k ∈ e.hallFaults g) := by
  simp only [mem_entryFaults]
  constructor
  · rintro ⟨r, ⟨j, hj, rfl⟩ | ⟨o, -, rfl⟩, rfl⟩
    · exact hj
    · exact absurd rfl hk
  · exact fun h => ⟨ownFault place e k, Or.inl ⟨k, h, rfl⟩, rfl⟩

theorem entryFaultsFound : Claims.EntryFaultsFound := by
  intro g used place e d found sound enclosed
  have hsound : e.sound = true ↔ sound := e.sound_iff
  have hown : ∀ {k : FaultKind}, k ≠ .duplicateNumber →
      (found k ↔ k ∈ e.shapeFaults ∨ (e.sound = true ∧ k ∈ e.hallFaults g)) := fun hk => found_own_iff g used place e hk
  have hnone : ∀ {k : FaultKind}, (k ∈ e.shapeFaults ∨ (e.sound = true ∧ k ∈ e.hallFaults g)) → k ≠ .duplicateNumber :=
    fun {k} hk hduplicate => by
      subst hduplicate
      simp [Entry.mem_shapeFaults, Entry.mem_hallFaults] at hk
  refine ⟨?_, ?_, ?_, ?_, ?_, ?_, ?_, ?_, ?_, fun r hr => ?_⟩
  case refine_3 =>
    rw [← duplicateOf_isSome_iff]
    constructor
    · rintro ⟨r, hr, hkind⟩
      rcases (mem_entryFaults ..).1 hr with ⟨k, hk, rfl⟩ | ⟨o, ho, -⟩
      · exact absurd hkind (hnone hk)
      · exact ⟨o, ho⟩
    · rintro ⟨o, ho⟩
      exact ⟨_, (mem_entryFaults ..).2 (Or.inr ⟨o, ho, rfl⟩), rfl⟩
  case refine_10 =>
    rcases (mem_entryFaults ..).1 hr with ⟨k, hk, rfl⟩ | ⟨o, ho, rfl⟩
    · exact ⟨rfl, fun _ => rfl, fun hkind => absurd hkind (hnone hk)⟩
    · obtain ⟨-, before, q, after, hused, hbefore, hplace, hnumber, rfl⟩ := (duplicateOf_eq_some_iff ..).1 ho
      exact ⟨rfl, fun hkind => absurd rfl hkind, fun _ => ⟨before, q, after, hused, hbefore, hplace, hnumber, rfl⟩⟩
  all_goals
    rw [hown (by decide), hsound, Entry.mem_shapeFaults, Entry.mem_hallFaults]
    simp [enclosed, d]

end Sys2Proof.Machine

/-! The parts and overlaps of entries, and the walk of a check over its bank (R52, R58, R59, R61; part of O26). -/

namespace Sys2Proof.Machine

/-! ### The parts of an entry (R58) -/

/-- Each day of a set is replaced by the following weekday, Sunday by Monday. -/
theorem testBit_nextDays (days w : Nat) :
    (nextDays days).testBit w = true ↔ w < 7 ∧ days.testBit ((w + 6) % 7) = true := by
  unfold nextDays
  cases w with
  | zero =>
    rw [Nat.testBit_zero, decide_eq_true_eq, Nat.testBit_eq_decide_div_mod_eq, decide_eq_true_eq]
    have hlow : days * 2 % 128 % 2 = 0 := by omega
    have hsix : days / 2 ^ ((0 + 6) % 7) = days / 64 := rfl
    rw [hsix]
    omega
  | succ w =>
    have hhalf : (days * 2 % 128 + days / 64 % 2) / 2 = days % 2 ^ 6 := by omega
    rw [Nat.testBit_succ, hhalf, Nat.testBit_mod_two_pow, Bool.and_eq_true, decide_eq_true_eq]
    constructor
    · rintro ⟨hw, hbit⟩
      exact ⟨by omega, by rwa [show (w + 1 + 6) % 7 = w by omega]⟩
    · rintro ⟨hw, hbit⟩
      rw [show (w + 1 + 6) % 7 = w by omega] at hbit
      exact ⟨by omega, hbit⟩

theorem entryParted : Claims.EntryParted := by
  intro e first last
  refine ⟨fun h => if_pos h, fun h => ⟨nextDays e.days, testBit_nextDays e.days, if_neg (Nat.not_le.2 h)⟩⟩

/-! ### Overlaps (R58, R59) -/

/-- Two day sets meet in a weekday. -/
theorem land_ne_zero_iff (a b : Nat) : Nat.land a b ≠ 0 ↔ ∃ w, a.testBit w = true ∧ b.testBit w = true := by
  have hbit : ∀ w, (Nat.land a b).testBit w = true ↔ a.testBit w = true ∧ b.testBit w = true := fun w =>
    (congrArg (· = true) (Nat.testBit_and a b w)).to_iff.trans Bool.and_eq_true_iff
  constructor
  · intro h
    by_contra hnone
    exact h (Nat.eq_of_testBit_eq fun w => by
      rw [Nat.zero_testBit]
      exact Bool.eq_false_iff.2 fun hw => hnone ⟨w, (hbit w).1 hw⟩)
  · rintro ⟨w, hw⟩ hzero
    have hset := (hbit w).2 hw
    rw [hzero, Nat.zero_testBit] at hset
    cases hset

theorem notAfter_iff (a b : Option Nat) : notAfter a b = true ↔ ∀ x y, a = some x → b = some y → x ≤ y := by
  cases a <;> cases b <;> simp [notAfter]

/-- Two date windows have a day in common exactly when no first date is after a last one. -/
theorem day_within_iff (f l g m : Option Nat) :
    (∃ day, (∀ a, f = some a → a ≤ day) ∧ (∀ a, l = some a → day ≤ a) ∧ (∀ a, g = some a → a ≤ day) ∧
      ∀ a, m = some a → day ≤ a) ↔
    notAfter f m = true ∧ notAfter g l = true ∧ notAfter f l = true ∧ notAfter g m = true := by
  simp only [notAfter_iff]
  constructor
  · rintro ⟨day, hf, hl, hg, hm⟩
    exact ⟨fun x y hx hy => (hf x hx).trans (hm y hy), fun x y hx hy => (hg x hx).trans (hl y hy),
      fun x y hx hy => (hf x hx).trans (hl y hy), fun x y hx hy => (hg x hx).trans (hm y hy)⟩
  · rintro ⟨hfm, hgl, hfl, hgm⟩
    refine ⟨max (f.getD 0) (g.getD 0), fun a ha => ?_, fun a ha => ?_, fun a ha => ?_, fun a ha => ?_⟩
    · simp [ha]
    · cases f <;> cases g <;> simp_all
    · simp [ha]
    · cases f <;> cases g <;> simp_all

theorem Part.meets_iff (p q : Part) : p.meets q = true ↔
    (∃ w, p.days.testBit w = true ∧ q.days.testBit w = true) ∧
    (∃ day, (∀ a, p.first = some a → a ≤ day) ∧ (∀ a, p.last = some a → day ≤ a) ∧
      (∀ a, q.first = some a → a ≤ day) ∧ ∀ a, q.last = some a → day ≤ a) ∧ p.lo < q.hi ∧ q.lo < p.hi := by
  rw [day_within_iff, ← land_ne_zero_iff]
  simp only [Part.meets, Bool.and_eq_true, decide_eq_true_eq, bne_iff_ne, and_assoc]

theorem Entry.overlaps_iff (e f : Entry) : e.overlaps f = true ↔ ∃ p ∈ e.parts, ∃ q ∈ f.parts, p.meets q = true := by
  simp [Entry.overlaps]

theorem pairFault_eq_some_iff (place : Nat) (e : Entry) (q : Nat × Entry) (r : FaultRecord) :
    pairFault place e q = some r ↔ e.overlaps q.2 = true ∧ (e.transmitter = q.2.transmitter ∨ e.primary = q.2.primary) ∧
      r = { kind := if e.transmitter = q.2.transmitter then .txOverlap else .antennaOverlap
            entry := slotName place e, other := some (slotName q.1 q.2) } := by
  unfold pairFault
  by_cases ho : e.overlaps q.2 = true
  · by_cases ht : e.transmitter = q.2.transmitter
    · simp [ho, ht, eq_comm]
    · by_cases hp : e.primary = q.2.primary
      · simp [ho, ht, hp, eq_comm]
      · simp [ho, ht, hp]
  · simp [ho]

theorem pairFaultsFound : Claims.PairFaultsFound := by
  refine ⟨fun used place e r => ?_, fun e f => ?_⟩
  · unfold pairFaults
    by_cases hsound : e.sound = true
    · simp only [hsound, if_true, List.mem_filterMap, List.mem_filter, Bool.and_eq_true, decide_eq_true_eq, true_and,
        pairFault_eq_some_iff, and_assoc]
      rfl
    · simp [hsound]
  · simp only [Entry.overlaps_iff, Part.meets_iff]

/-! ### The used slots of a bank (R52) -/

theorem usedFrom_place {n : Nat} {ws : List Slot} {q : Nat × Entry} (h : q ∈ usedFrom n ws) :
    n ≤ q.1 ∧ q.1 < n + ws.length := by
  induction ws generalizing n with
  | nil => cases h
  | cons w ws ih =>
    unfold usedFrom at h
    rw [List.length_cons]
    split at h
    · have := ih h
      omega
    · rcases List.mem_cons.1 h with rfl | h
      · exact ⟨le_rfl, by omega⟩
      · have := ih h
        omega

theorem usedFrom_pairwise (n : Nat) (ws : List Slot) : (usedFrom n ws).Pairwise fun p q => p.1 < q.1 := by
  induction ws generalizing n with
  | nil => exact List.Pairwise.nil
  | cons w ws ih =>
    unfold usedFrom
    split
    · exact ih _
    · exact List.pairwise_cons.2 ⟨fun q hq => (usedFrom_place hq).1, ih _⟩

theorem EntryPage.slots_length (p : EntryPage) : p.slots.length = 8 := by
  cases p <;> simp [EntryPage.slots]

theorem SeasonBank.slots_length (b : SeasonBank) : b.slots.length = 512 := by
  simp [SeasonBank.slots, List.length_flatMap, EntryPage.slots_length]

theorem SeasonBank.used_place {b : SeasonBank} {q : Nat × Entry} (h : q ∈ b.used) : q.1 < 512 := by
  have hplace := (usedFrom_place h).2
  rwa [b.slots_length, Nat.zero_add] at hplace

theorem SeasonBank.used_pairwise (b : SeasonBank) : b.used.Pairwise fun p q => p.1 < q.1 := usedFrom_pairwise ..

/-- What a pass finds at a place. -/
def atPlace (used : List (Nat × Entry)) (f : Nat × Entry → List FaultRecord) (i : Nat) : List FaultRecord :=
  match used.find? fun q => q.1 == i with
  | some q => f q
  | none => []

theorem atPlace_cons_ne {used : List (Nat × Entry)} {f : Nat × Entry → List FaultRecord} {p : Nat × Entry} {i : Nat}
    (h : p.1 ≠ i) : atPlace (p :: used) f i = atPlace used f i := by
  unfold atPlace
  rw [List.find?_cons_of_neg (by simpa using h)]

/-- A walk over all places finds what the used slots show, in their order. -/
theorem flatMap_atPlace (n : Nat) (ws : List Slot) (f : Nat × Entry → List FaultRecord) :
    (List.range' n ws.length).flatMap (atPlace (usedFrom n ws) f) = (usedFrom n ws).flatMap f := by
  induction ws generalizing n with
  | nil => rfl
  | cons w ws ih =>
    rw [List.length_cons, List.range'_succ, List.flatMap_cons]
    unfold usedFrom
    split
    · have hnone : (usedFrom (n + 1) ws).find? (fun q => q.1 == n) = none :=
        List.find?_eq_none.2 fun q hq => by
          have := (usedFrom_place hq).1
          simp only [beq_iff_eq]
          omega
      have hhere : atPlace (usedFrom (n + 1) ws) f n = [] := by
        unfold atPlace
        rw [hnone]
      rw [hhere, List.nil_append, ih]
    · have hhere : atPlace ((n, Slot.entry w) :: usedFrom (n + 1) ws) f n = f (n, Slot.entry w) := by
        unfold atPlace
        rw [List.find?_cons_of_pos (by simp)]
      have hrest : (List.range' (n + 1) ws.length).flatMap (atPlace ((n, Slot.entry w) :: usedFrom (n + 1) ws) f) =
          (List.range' (n + 1) ws.length).flatMap (atPlace (usedFrom (n + 1) ws) f) :=
        List.flatMap_congr fun i hi => atPlace_cons_ne (by
          have := (List.mem_range'_1.1 hi).1
          show n ≠ i
          omega)
      rw [hhere, hrest, ih, List.flatMap_cons]

/-! ### The walk of a check (R52, R61) -/

namespace CheckContext

variable (g : Hall) (used : List (Nat × Entry))

theorem visits_add (m n : Nat) (k : CheckContext) : k.visits g used (m + n) = (k.visits g used m).visits g used n := by
  induction m generalizing k with
  | zero => rw [Nat.zero_add]; rfl
  | succ m ih => rw [Nat.succ_add]; exact ih _

/-- The count and the list of the faults found, from a count and a list within their bounds (R61). -/
theorem foldl_fault_eq (fs : List FaultRecord) (k : CheckContext) (hfaults : k.faults.length ≤ 16)
    (htotal : k.total ≤ 65535) : fs.foldl CheckContext.fault k =
      { k with total := min (k.total + fs.length) 65535, faults := (k.faults ++ fs).take 16 } := by
  induction fs generalizing k with
  | nil =>
    rw [List.foldl_nil, List.append_nil, List.take_of_length_le hfaults, List.length_nil, Nat.add_zero, Nat.min_eq_left htotal]
  | cons f fs ih =>
    obtain ⟨hlength, hcount⟩ := k.fault_bounded f ⟨hfaults, htotal⟩
    have hlist : (k.fault f).faults ++ fs = if k.faults.length < 16 then k.faults ++ f :: fs else k.faults ++ fs := by
      show (if k.faults.length < 16 then k.faults ++ [f] else k.faults) ++ fs = _
      split <;> simp
    have htake : ((k.fault f).faults ++ fs).take 16 = (k.faults ++ f :: fs).take 16 := by
      rw [hlist]
      split
      · rfl
      next hfull => rw [List.take_append_of_le_length (by omega), List.take_append_of_le_length (by omega)]
    have htotals : min ((k.fault f).total + fs.length) 65535 = min (k.total + (f :: fs).length) 65535 := by
      show min (min (k.total + 1) 65535 + fs.length) 65535 = _
      rw [List.length_cons]
      omega
    rw [List.foldl_cons, ih _ hlength hcount, htake, htotals]
    rfl

/-- Where the walk stands does not touch what it finds. -/
theorem foldl_fault_at (fs : List FaultRecord) (k : CheckContext) (p : Pass) (i : Nat) :
    fs.foldl CheckContext.fault { k with pass := p, place := i } =
      { fs.foldl CheckContext.fault k with pass := p, place := i } := by
  induction fs generalizing k with
  | nil => rfl
  | cons f fs ih => exact ih (k.fault f)

/-- What the ENTRY pass finds at a place. -/
def entryAt (g : Hall) (used : List (Nat × Entry)) : Nat → List FaultRecord :=
  atPlace used fun q => entryFaults g used q.1 q.2

/-- What the PAIR pass finds at a place. -/
def pairAt (used : List (Nat × Entry)) : Nat → List FaultRecord := atPlace used fun q => pairFaults used q.1 q.2

theorem visitFaults_of_entry {k : CheckContext} (h : k.pass = .entry) : k.visitFaults g used = entryAt g used k.place := by
  unfold visitFaults
  rw [h]
  rfl
theorem visitFaults_of_pair {k : CheckContext} (h : k.pass = .pair) : k.visitFaults g used = pairAt used k.place := by
  unfold visitFaults
  rw [h]
  rfl

variable {g used}

/-- A pass over the slots: each visit finds what its place shows and goes on to the next, the last to the next pass. -/
theorem visits_pass {now next : Pass} {at_ : Nat → List FaultRecord}
    (hfaults : ∀ j : CheckContext, j.pass = now → j.visitFaults g used = at_ j.place)
    (hmoved : ∀ j : CheckContext, j.pass = now →
      j.moved = if j.place < 511 then { j with place := j.place + 1 } else { j with pass := next, place := 0 })
    (n : Nat) (k : CheckContext) (hpass : k.pass = now) (hplace : k.place + (n + 1) = 512) :
    k.visits g used (n + 1) =
      { ((List.range' k.place (n + 1)).flatMap at_).foldl CheckContext.fault k with pass := next, place := 0 } := by
  have hvisit : ∀ j : CheckContext, j.pass = now → j.visit g used =
      if j.place < 511 then { (at_ j.place).foldl CheckContext.fault j with place := j.place + 1 }
      else { (at_ j.place).foldl CheckContext.fault j with pass := next, place := 0 } := fun j hj => by
    obtain ⟨m, l, h⟩ := foldl_fault_keeps (at_ j.place) j
    rw [visit_eq, hfaults j hj, h]
    exact hmoved { j with total := m, faults := l } hj
  induction n generalizing k with
  | zero =>
    have hvisits : k.visits g used 1 = k.visit g used := rfl
    rw [hvisits, hvisit k hpass, if_neg (by omega), List.range'_one, List.flatMap_singleton]
  | succ n ih =>
    have hhere := hvisit k hpass
    rw [if_pos (by omega)] at hhere
    have hkeeps : ∃ m l, (at_ k.place).foldl CheckContext.fault k = { k with total := m, faults := l } :=
      foldl_fault_keeps ..
    obtain ⟨m, l, hkept⟩ := hkeeps
    have hpass' : (k.visit g used).pass = now := by rw [hhere, hkept]; exact hpass
    have hplace' : (k.visit g used).place = k.place + 1 := by rw [hhere]
    have hvisits : k.visits g used (n + 1 + 1) = (k.visit g used).visits g used (n + 1) := rfl
    have hrange : (List.range' k.place (n + 1 + 1)).flatMap at_ =
        at_ k.place ++ (List.range' (k.place + 1) (n + 1)).flatMap at_ := by rw [List.range'_succ, List.flatMap_cons]
    rw [hvisits, ih _ hpass' (by omega), hplace', hhere, hrange, List.foldl_append]
    exact congrArg (fun j : CheckContext => { j with pass := next, place := 0 }) (foldl_fault_at _
      ((at_ k.place).foldl CheckContext.fault k) ((at_ k.place).foldl CheckContext.fault k).pass (k.place + 1))

end CheckContext

theorem visitsFindEveryFault : Claims.VisitsFindEveryFault := by
  intro s k hpass hplace hfaults htotal used found
  have hleft : k.left = 511 + 1 + (511 + 1 + 1) := by
    unfold CheckContext.left
    rw [hpass, hplace]
  let entries := used.flatMap fun q => entryFaults s.hall used q.1 q.2
  let pairs := used.flatMap fun q => pairFaults used q.1 q.2
  have hwalk : ∀ f : Nat × Entry → List FaultRecord, (List.range' 0 (511 + 1)).flatMap (atPlace used f) = used.flatMap f :=
    fun f => by
      have h := flatMap_atPlace 0 (s.store.bank k.bank).slots f
      rwa [SeasonBank.slots_length] at h
  have hentry : k.visits s.hall used (511 + 1) =
      { entries.foldl CheckContext.fault k with pass := .pair, place := 0 } := by
    rw [CheckContext.visits_pass (fun j hj => CheckContext.visitFaults_of_entry _ _ hj)
      (fun j hj => CheckContext.moved_of_entry hj) 511 k hpass (by rw [hplace]), hplace]
    exact congrArg (fun fs : List FaultRecord => { fs.foldl CheckContext.fault k with pass := .pair, place := 0 }) (hwalk _)
  have hpair : ∀ j : CheckContext, j.pass = .pair → j.place = 0 → j.visits s.hall used (511 + 1) =
      { pairs.foldl CheckContext.fault j with pass := .horizon, place := 0 } := fun j hj hzero => by
    rw [CheckContext.visits_pass (fun j hj => CheckContext.visitFaults_of_pair _ _ hj)
      (fun j hj => CheckContext.moved_of_pair hj) 511 j hj (by rw [hzero]), hzero]
    exact congrArg (fun fs : List FaultRecord => { fs.foldl CheckContext.fault j with pass := .horizon, place := 0 })
      (hwalk _)
  have hhorizon : ∀ j : CheckContext, j.pass = .horizon → j.place = 0 →
      (j.visits s.hall used 1).total = ((horizonFaults used).foldl CheckContext.fault j).total ∧
      (j.visits s.hall used 1).faults = ((horizonFaults used).foldl CheckContext.fault j).faults := fun j hj hzero => by
    have hvisit : j.visits s.hall used 1 = j.visit s.hall used := rfl
    have hfound : j.visitFaults s.hall used = horizonFaults used := by
      unfold CheckContext.visitFaults
      rw [hj]
      exact if_pos hzero
    rw [hvisit, CheckContext.visit_eq, hfound]
    exact ⟨CheckContext.moved_total _, CheckContext.moved_faults _⟩
  let j : CheckContext := { entries.foldl CheckContext.fault k with pass := .pair, place := 0 }
  let i : CheckContext := { pairs.foldl CheckContext.fault j with pass := .horizon, place := 0 }
  have hvisits : k.visits s.hall used k.left = i.visits s.hall used 1 := by
    rw [hleft, CheckContext.visits_add, CheckContext.visits_add, hentry, hpair _ rfl rfl]
  have hfound : (horizonFaults used).foldl CheckContext.fault i =
      { found.foldl CheckContext.fault k with pass := .horizon, place := 0 } := by
    have hj : pairs.foldl CheckContext.fault j = _ := CheckContext.foldl_fault_at pairs _ .pair 0
    show (horizonFaults used).foldl CheckContext.fault { pairs.foldl CheckContext.fault j with
      pass := .horizon, place := 0 } = _
    rw [CheckContext.foldl_fault_at, hj]
    have hall : found.foldl CheckContext.fault k = (horizonFaults used).foldl CheckContext.fault
        (pairs.foldl CheckContext.fault (entries.foldl CheckContext.fault k)) := by
      rw [← List.foldl_append, ← List.foldl_append, ← List.append_assoc]
    rw [hall, CheckContext.foldl_fault_at]
  obtain ⟨htotals, hlists⟩ := hhorizon i rfl rfl
  have hall := CheckContext.foldl_fault_eq found k (by rw [hfaults]; decide) (by rw [htotal]; decide)
  rw [hvisits, htotals, hlists, hfound, hall, hfaults, htotal, Nat.zero_add]
  exact ⟨rfl, rfl⟩

end Sys2Proof.Machine

/-! The HORIZON pass: the firings of the week, their windows and their order (R60; O26). -/

namespace Sys2Proof.Machine

/-! ### The firings of an entry (R60) -/

/-- The START firing of an entry on a weekday. -/
def Entry.startFiring (place : Nat) (e : Entry) (w : Nat) : WeekFiring :=
  { minute := w * 1440 + e.start, start := true, t := e.transmitter, place := place, entry := e }

/-- The END firing of an entry on a weekday. -/
def Entry.endFiring (place : Nat) (e : Entry) (w : Nat) : WeekFiring :=
  { minute := (w * 1440 + e.start + e.duration) % 10080, start := false, t := e.transmitter, place := place, entry := e }

theorem Entry.weekFirings_eq (place : Nat) (e : Entry) : e.weekFirings place =
    ((List.range 7).filter fun w => e.days.testBit w).flatMap fun w => [e.startFiring place w, e.endFiring place w] := by
  unfold Entry.weekFirings
  rw [upTo_eq_range]
  rfl

theorem Entry.mem_weekFirings (place : Nat) (e : Entry) (f : WeekFiring) : f ∈ e.weekFirings place ↔
    ∃ w, w < 7 ∧ e.days.testBit w = true ∧ (f = e.startFiring place w ∨ f = e.endFiring place w) := by
  rw [Entry.weekFirings_eq]
  simp [and_assoc]

theorem Entry.startFiring_inj {place : Nat} {e : Entry} {v w : Nat} (h : e.startFiring place v = e.startFiring place w) :
    v = w := by
  have hminute : v * 1440 + e.start = w * 1440 + e.start := congrArg WeekFiring.minute h
  omega

theorem Entry.endFiring_inj {place : Nat} {e : Entry} {v w : Nat} (hv : v < 7) (hw : w < 7)
    (h : e.endFiring place v = e.endFiring place w) : v = w := by
  have hminute : (v * 1440 + e.start + e.duration) % 10080 = (w * 1440 + e.start + e.duration) % 10080 :=
    congrArg WeekFiring.minute h
  omega

theorem Entry.startFiring_ne_endFiring (place : Nat) (e : Entry) (v w : Nat) : e.startFiring place v ≠ e.endFiring place w :=
  fun h => Bool.noConfusion (congrArg WeekFiring.start h)

theorem Entry.weekFirings_nodup (place : Nat) (e : Entry) : (e.weekFirings place).Nodup := by
  rw [Entry.weekFirings_eq, List.nodup_flatMap]
  refine ⟨fun w _ => by simp [Entry.startFiring_ne_endFiring], ?_⟩
  have hdays : ((List.range 7).filter fun w => e.days.testBit w).Nodup := List.Nodup.filter _ List.nodup_range
  refine hdays.imp_of_mem fun {v w} hv hw hne => ?_
  have hv7 : v < 7 := List.mem_range.1 (List.mem_filter.1 hv).1
  have hw7 : w < 7 := List.mem_range.1 (List.mem_filter.1 hw).1
  intro f hfv hfw
  simp only [List.mem_cons, List.not_mem_nil, or_false] at hfv hfw
  rcases hfv with rfl | rfl <;> rcases hfw with hfw | hfw
  · exact hne (Entry.startFiring_inj hfw)
  · exact Entry.startFiring_ne_endFiring _ _ _ _ hfw
  · exact Entry.startFiring_ne_endFiring _ _ _ _ hfw.symm
  · exact hne (Entry.endFiring_inj hv7 hw7 hfw)

/-! ### Sorting by a key -/

section Sorting

variable {α : Type} (key : α → Nat)

/-- Sorted by a key that tells its elements apart, an element has as many before it as its place. -/
theorem length_filter_before {xs : List α} (hnodup : xs.Nodup) (hinj : ∀ a ∈ xs, ∀ b ∈ xs, key a = key b → a = b) {i : Nat}
    {x : α} (hx : (sortBy key xs)[i]? = some x) : (xs.filter fun a => decide (key a < key x)).length = i := by
  have hperm := sortBy_perm key xs
  have hstrict : (sortBy key xs).Pairwise fun a b => key a < key b := by
    refine ((sortBy_sorted key xs).and ((hperm.nodup_iff).2 hnodup)).imp_of_mem fun {a b} ha hb h => ?_
    exact lt_of_le_of_ne h.1 fun heq => h.2 (hinj a (hperm.mem_iff.1 ha) b (hperm.mem_iff.1 hb) heq)
  obtain ⟨hi, hget⟩ := List.getElem?_eq_some_iff.1 hx
  have hsplit : sortBy key xs = (sortBy key xs).take i ++ x :: (sortBy key xs).drop (i + 1) := by
    rw [← hget, List.getElem_cons_drop, List.take_append_drop]
  rw [← (hperm.filter fun a => decide (key a < key x)).length_eq, hsplit]
  rw [hsplit, List.pairwise_append, List.pairwise_cons] at hstrict
  obtain ⟨-, ⟨hafter, -⟩, hbefore⟩ := hstrict
  have htake : ((sortBy key xs).take i).filter (fun a => decide (key a < key x)) = (sortBy key xs).take i :=
    List.filter_eq_self.2 fun a ha => decide_eq_true (hbefore a ha x List.mem_cons_self)
  have hdrop : (x :: (sortBy key xs).drop (i + 1)).filter (fun a => decide (key a < key x)) = [] :=
    List.filter_eq_nil_iff.2 fun a ha => by
      rcases List.mem_cons.1 ha with rfl | ha
      · simp
      · simpa using (hafter a ha).le
  rw [List.filter_append, htake, hdrop, List.append_nil, List.length_take, Nat.min_eq_left hi.le]

end Sorting

/-! ### The crowded window (R60) -/

theorem crowdedFrom_eq_some {fs : List WeekFiring} {n b a : Nat} (h : crowdedFrom fs n b = some a) :
    b ≤ a ∧ a < b + n ∧ 128 < (inWindow fs a).length ∧ ∀ c, b ≤ c → c < a → (inWindow fs c).length ≤ 128 := by
  induction n generalizing b with
  | zero => cases h
  | succ n ih =>
    unfold crowdedFrom at h
    split at h
    next hcrowded =>
      cases h
      exact ⟨le_rfl, by omega, hcrowded, fun c hb hc => by omega⟩
    next hfree =>
      obtain ⟨hb, ha, hcrowded, hlowest⟩ := ih h
      refine ⟨by omega, by omega, hcrowded, fun c hc hca => ?_⟩
      rcases Nat.eq_or_lt_of_le hc with rfl | hc
      · exact Nat.not_lt.1 hfree
      · exact hlowest c hc hca

theorem crowdedFrom_eq_none {fs : List WeekFiring} {n b : Nat} (h : crowdedFrom fs n b = none) {c : Nat} (hb : b ≤ c)
    (hc : c < b + n) : (inWindow fs c).length ≤ 128 := by
  induction n generalizing b with
  | zero => omega
  | succ n ih =>
    unfold crowdedFrom at h
    split at h
    · cases h
    next hfree =>
      rcases Nat.eq_or_lt_of_le hb with rfl | hb
      · exact Nat.not_lt.1 hfree
      · exact ih h hb (by omega)

/-- The firings of the sound entries among the used slots (R60). -/
def firingsOf (used : List (Nat × Entry)) : List WeekFiring :=
  (used.filter fun q => q.2.sound).flatMap fun q => q.2.weekFirings q.1

/-- The pass finds nothing, or in the lowest crowded window the firing that 128 precede. -/
theorem horizonFaults_cases (used : List (Nat × Entry)) :
    (horizonFaults used = [] ∧ ∀ b, b < 10080 → (inWindow (firingsOf used) b).length ≤ 128) ∨
    ∃ b f, b < 10080 ∧ 128 < (inWindow (firingsOf used) b).length ∧
      (∀ a, a < b → (inWindow (firingsOf used) a).length ≤ 128) ∧
      (sortBy (WeekFiring.key b) (inWindow (firingsOf used) b))[128]? = some f ∧
      horizonFaults used = [{ kind := .horizonCrowded, entry := slotName f.place f.entry, other := none }] := by
  have hfaults : horizonFaults used =
      if (firingsOf used).length ≤ 128 then []
      else match crowdedFrom (firingsOf used) 10080 0 with
        | none => []
        | some b => match (sortBy (WeekFiring.key b) (inWindow (firingsOf used) b))[128]? with
          | some f => [{ kind := .horizonCrowded, entry := slotName f.place f.entry, other := none }]
          | none => [] := rfl
  rw [hfaults]
  split
  next hfew => exact Or.inl ⟨rfl, fun b _ => (List.length_filter_le ..).trans hfew⟩
  next =>
    split
    next hnone => exact Or.inl ⟨rfl, fun b hb => crowdedFrom_eq_none hnone (Nat.zero_le _) (by omega)⟩
    next b hb =>
      obtain ⟨-, hlt, hcrowded, hlowest⟩ := crowdedFrom_eq_some hb
      have hlength : 128 < (sortBy (WeekFiring.key b) (inWindow (firingsOf used) b)).length := by
        rwa [(sortBy_perm ..).length_eq]
      refine Or.inr ⟨b, _, by omega, hcrowded, fun a ha => hlowest a (Nat.zero_le _) ha, List.getElem?_eq_getElem hlength, ?_⟩
      rw [List.getElem?_eq_getElem hlength]

/-! ### The order of a window's firings (R60) -/

theorem WeekFiring.key_lt_iff {b : Nat} {g f : WeekFiring} (hg : g.t < 16 ∧ g.place < 512) (hf : f.t < 16 ∧ f.place < 512) :
    g.key b < f.key b ↔ Claims.firesBefore b g f = true := by
  obtain ⟨hgt, hgp⟩ := hg
  obtain ⟨hft, hfp⟩ := hf
  unfold WeekFiring.key Claims.firesBefore windowOffset
  simp only [Bool.or_eq_true, Bool.and_eq_true, decide_eq_true_eq, beq_iff_eq, Bool.not_eq_true']
  cases g.start <;> cases f.start <;> simp <;> omega

/-- What is known of a firing of a sound entry in a bank. -/
theorem mem_firingsOf {k : SeasonBank} {f : WeekFiring} (h : f ∈ firingsOf k.used) :
    ∃ q ∈ k.used, f ∈ q.2.weekFirings q.1 ∧ f.t < 16 ∧ f.place < 512 ∧ f.minute < 10080 ∧ f.place = q.1 ∧ f.entry = q.2 := by
  obtain ⟨q, hq, hf⟩ := List.mem_flatMap.1 h
  obtain ⟨hused, hsound⟩ := List.mem_filter.1 hq
  have hshape := (Entry.sound_iff q.2).1 hsound
  have hrange : ¬ q.2.fieldRange = true := by rw [hshape.1]; decide
  rw [(entryShapeTests q.2).1] at hrange
  have htime : q.2.transmitter < 16 ∧ q.2.start ≤ 1439 := by
    simp only [not_or, Nat.not_lt] at hrange
    obtain ⟨-, hstart, -, -, -, htransmitter, -⟩ := hrange
    exact ⟨by omega, hstart⟩
  have hplace := SeasonBank.used_place hused
  obtain ⟨w, hw, -, rfl | rfl⟩ := (Entry.mem_weekFirings ..).1 hf
  · refine ⟨q, hused, hf, htime.1, hplace, ?_, rfl, rfl⟩
    show w * 1440 + q.2.start < 10080
    omega
  · exact ⟨q, hused, hf, htime.1, hplace, Nat.mod_lt _ (by decide), rfl, rfl⟩

/-- The firings of one entry are told apart by their kind and their minute. -/
theorem Entry.weekFirings_inj {place : Nat} {e : Entry} {f g : WeekFiring} (hf : f ∈ e.weekFirings place)
    (hg : g ∈ e.weekFirings place) (hstart : f.start = g.start) (hminute : f.minute = g.minute) : f = g := by
  obtain ⟨v, -, -, hf⟩ := (Entry.mem_weekFirings ..).1 hf
  obtain ⟨w, -, -, hg⟩ := (Entry.mem_weekFirings ..).1 hg
  rcases hf with rfl | rfl <;> rcases hg with rfl | rfl
  · exact congrArg (fun m => ({ minute := m, start := true, t := e.transmitter, place := place, entry := e } : WeekFiring)) hminute
  · cases hstart
  · cases hstart
  · exact congrArg (fun m => ({ minute := m, start := false, t := e.transmitter, place := place, entry := e } : WeekFiring)) hminute

theorem SeasonBank.used_inj {k : SeasonBank} {p q : Nat × Entry} (hp : p ∈ k.used) (hq : q ∈ k.used) (h : p.1 = q.1) : p = q := by
  have hnodup : (k.used.map Prod.fst).Nodup :=
    List.pairwise_map.2 (k.used_pairwise.imp fun {a b} hab => Nat.ne_of_lt hab)
  exact List.inj_on_of_nodup_map hnodup hp hq h

theorem WeekFiring.key_inj {k : SeasonBank} {b : Nat} (hb : b < 10080) {f g : WeekFiring} (hf : f ∈ firingsOf k.used)
    (hg : g ∈ firingsOf k.used) (h : f.key b = g.key b) : f = g := by
  obtain ⟨p, hp, hfp, hft, hfplace, hfminute, hfp1, -⟩ := mem_firingsOf hf
  obtain ⟨q, hq, hgq, hgt, hgplace, hgminute, hgq1, -⟩ := mem_firingsOf hg
  have hkeys : windowOffset b f.minute = windowOffset b g.minute ∧ f.start.toNat = g.start.toNat ∧ f.place = g.place := by
    unfold WeekFiring.key at h
    have hfs := Bool.toNat_lt f.start
    have hgs := Bool.toNat_lt g.start
    omega
  obtain ⟨hoffset, hstart, hplace⟩ := hkeys
  obtain rfl : p = q := SeasonBank.used_inj hp hq (hfp1.symm.trans (hplace.trans hgq1))
  have hminute : f.minute = g.minute := by
    unfold windowOffset at hoffset
    omega
  refine Entry.weekFirings_inj hfp hgq ?_ hminute
  cases hf : f.start <;> cases hg : g.start <;> simp [hf, hg] at hstart ⊢

theorem firingsOf_nodup (k : SeasonBank) : (firingsOf k.used).Nodup := by
  unfold firingsOf
  rw [List.nodup_flatMap]
  refine ⟨fun q _ => Entry.weekFirings_nodup _ _, ?_⟩
  refine (k.used_pairwise.filter _).imp fun {p q} hlt f hfp hfq => ?_
  have hplace : ∀ {r : Nat × Entry}, f ∈ r.2.weekFirings r.1 → f.place = r.1 := fun hr => by
    obtain ⟨w, -, -, h | h⟩ := (Entry.mem_weekFirings ..).1 hr
    · rw [h]; rfl
    · rw [h]; rfl
  have hsame := (hplace hfp).symm.trans (hplace hfq)
  omega

theorem Entry.weekFirings_iff (place : Nat) (e : Entry) (f : WeekFiring) : f ∈ e.weekFirings place ↔
    f.t = e.transmitter ∧ f.place = place ∧ f.entry = e ∧ ∃ w, w < 7 ∧ e.days.testBit w = true ∧
      ((f.start = true ∧ f.minute = w * 1440 + e.start) ∨
        (f.start = false ∧ f.minute = (w * 1440 + e.start + e.duration) % 10080)) := by
  rw [Entry.mem_weekFirings]
  constructor
  · rintro ⟨w, hw, hday, rfl | rfl⟩
    · exact ⟨rfl, rfl, rfl, w, hw, hday, Or.inl ⟨rfl, rfl⟩⟩
    · exact ⟨rfl, rfl, rfl, w, hw, hday, Or.inr ⟨rfl, rfl⟩⟩
  · obtain ⟨minute, start, t, i, d⟩ := f
    rintro ⟨ht, hplace, he, w, hw, hday, h⟩
    dsimp only at ht hplace he h
    subst he hplace ht
    rcases h with ⟨rfl, rfl⟩ | ⟨rfl, rfl⟩
    · exact ⟨w, hw, hday, Or.inl rfl⟩
    · exact ⟨w, hw, hday, Or.inr rfl⟩

/-- The firings that precede one of a window are those before it in the window's order. -/
theorem filter_firesBefore {k : SeasonBank} {b : Nat} {f : WeekFiring} (hf : f ∈ inWindow (firingsOf k.used) b) :
    (firingsOf k.used).filter (fun g => Claims.firesBefore b g f) =
      (inWindow (firingsOf k.used) b).filter fun g => decide (g.key b < f.key b) := by
  obtain ⟨hmem, hwindow⟩ := List.mem_filter.1 hf
  obtain ⟨-, -, -, hft, hfplace, -⟩ := mem_firingsOf hmem
  unfold inWindow
  rw [List.filter_filter]
  refine List.filter_congr fun g hg => ?_
  obtain ⟨-, -, -, hgt, hgplace, -⟩ := mem_firingsOf hg
  rw [Bool.eq_iff_iff, Bool.and_eq_true, decide_eq_true_eq, WeekFiring.key_lt_iff ⟨hgt, hgplace⟩ ⟨hft, hfplace⟩]
  refine ⟨fun h => ⟨h, ?_⟩, fun h => h.1⟩
  have hlt := (WeekFiring.key_lt_iff ⟨hgt, hgplace⟩ ⟨hft, hfplace⟩).2 h
  unfold WeekFiring.key at hlt
  have hstart := Bool.toNat_lt g.start
  have hstart' := Bool.toNat_lt f.start
  simp only [decide_eq_true_eq] at hwindow ⊢
  omega

theorem horizonFaultFound : Claims.HorizonFaultFound := by
  intro used firings
  have hwindow : ∀ b, (firings.filter fun f => decide ((f.minute + 10080 - b) % 10080 < 60)) = inWindow (firingsOf used) b :=
    fun b => rfl
  have hfirings : ∀ (place : Nat) (e : Entry), (e.weekFirings place).Nodup ∧ ∀ f : WeekFiring, _ := fun place e =>
    ⟨Entry.weekFirings_nodup place e, Entry.weekFirings_iff place e⟩
  simp only [hwindow]
  rcases horizonFaults_cases used with ⟨hnone, hfree⟩ | ⟨b, f, hb, hcrowded, hlowest, hf, hfaults⟩
  · rw [hnone]
    exact ⟨⟨fun h => absurd rfl h, fun ⟨b, hb, hcrowded⟩ => absurd hcrowded (Nat.not_lt.2 (hfree b hb))⟩, by simp, nofun,
      hfirings, fun _ _ => nofun⟩
  · rw [hfaults]
    refine ⟨⟨fun _ => ⟨b, hb, hcrowded⟩, fun _ => List.cons_ne_nil _ _⟩, by simp, fun r hr => ?_, hfirings,
      fun k hused r hr => ?_⟩
    · rw [List.mem_singleton.1 hr]
      exact ⟨rfl, rfl⟩
    · subst hused
      have hmem : f ∈ inWindow (firingsOf k.used) b :=
        (sortBy_perm (WeekFiring.key b) (inWindow (firingsOf k.used) b)).mem_iff.1 (List.mem_of_getElem? hf)
      obtain ⟨hfiring, hin⟩ := List.mem_filter.1 hmem
      refine ⟨b, f, hb, hlowest, hfiring, decide_eq_true_eq.mp hin, ?_, ?_⟩
      · show ((firingsOf k.used).filter fun g => Claims.firesBefore b g f).length = 128
        rw [filter_firesBefore hmem]
        exact length_filter_before (WeekFiring.key b) ((firingsOf_nodup k).filter _) (fun x hx y hy h =>
          WeekFiring.key_inj hb (List.mem_filter.1 hx).1 (List.mem_filter.1 hy).1 h) hf
      · rw [List.mem_singleton.1 hr]
        rfl

/-- Settles O26: the requests decide in order; each pass finds exactly its faults; a check that makes all its visits walks
every used slot twice and the week once (`CheckContext.visits_pass`). -/
theorem checkDecided : Obligations.CheckDecided :=
  ⟨checkRequestsDecided, checkCompletes, entryShapeTests, entryFaultsFound, entryParted, pairFaultsFound, horizonFaultFound,
    visitsFindEveryFault⟩

end Sys2Proof.Machine

/-! An operation made of each transmitter in turn (log 54), and the requests that a HALT removes (R74, R76, R81). -/

namespace Sys2Proof.Machine

open Claims

/-! ### Each transmitter in turn -/

theorem allTx_nodup : allTx.Nodup := by decide

section Turns

variable {f : Env → Bench → Bench} (s : State)

theorem State.foldl_onStation_frame (ts : List Tx) : { ts.foldl (fun s t => s.onStation t f) s with
    stations := s.stations, out := s.out } = s := by
  induction ts generalizing s with
  | nil => rfl
  | cons t ts ih => exact congrArg (fun x : State => { x with stations := s.stations, out := s.out }) (ih (s.onStation t f))

theorem State.foldl_onStation_other {ts : List Tx} {u : Tx} (h : u ∉ ts) :
    (ts.foldl (fun s t => s.onStation t f) s).stations.get u = s.stations.get u := by
  induction ts generalizing s with
  | nil => rfl
  | cons t ts ih =>
    obtain ⟨hne, hrest⟩ := not_or.1 (List.mem_cons.not.1 h)
    exact (ih (s.onStation t f) hrest).trans (upd_get_other _ _ _ _ hne)

/-- Whatever an operation makes of a station, it has made of each one. -/
theorem State.onEach_station {R : Env → Station → Station → Prop} (hR : ∀ e b, R e b.u (f e b).u) (u : Tx) :
    R (s.env u) (s.stations.get u) ((s.onEach f).stations.get u) := by
  have hturns : ∀ (ts : List Tx) (s : State), ts.Nodup → u ∈ ts →
      R (s.env u) (s.stations.get u) ((ts.foldl (fun s t => s.onStation t f) s).stations.get u) := by
    intro ts
    induction ts with
    | nil => exact fun _ _ hu => absurd hu List.not_mem_nil
    | cons t ts ih =>
      intro s hnodup hu
      obtain ⟨hfresh, hnodup⟩ := List.nodup_cons.1 hnodup
      rcases List.mem_cons.1 hu with rfl | hu
      · have hturn : (s.onStation u f).stations.get u = (f (s.env u) (s.bench u)).u := upd_get_same ..
        rw [List.foldl_cons, State.foldl_onStation_other _ hfresh, hturn]
        exact hR (s.env u) (s.bench u)
      · have hother : (s.onStation t f).stations.get u = s.stations.get u :=
          upd_get_other _ _ _ _ fun h => hfresh (h ▸ hu)
        exact hother ▸ ih (s.onStation t f) hnodup hu
  exact hturns allTx s allTx_nodup (mem_allTx u)

/-- What the operation adds to a part of the outbox, it adds for each station in turn. -/
theorem State.onEach_out {β : Type} {φ : Outbox → β} {F : Env → Station → β → β}
    (hF : ∀ e b, φ (f e b).o = F e b.u (φ b.o)) :
    φ (s.onEach f).out = allTx.foldl (fun x t => F (s.env t) (s.stations.get t) x) (φ s.out) := by
  have hturns : ∀ (ts : List Tx) (s : State), ts.Nodup → φ (ts.foldl (fun s t => s.onStation t f) s).out =
      ts.foldl (fun x t => F (s.env t) (s.stations.get t) x) (φ s.out) := by
    intro ts
    induction ts with
    | nil => exact fun _ _ => rfl
    | cons t ts ih =>
      intro s hnodup
      obtain ⟨hfresh, hnodup⟩ := List.nodup_cons.1 hnodup
      have hout : φ (s.onStation t f).out = F (s.env t) (s.stations.get t) (φ s.out) := hF (s.env t) (s.bench t)
      rw [List.foldl_cons, List.foldl_cons, ih _ hnodup, hout]
      refine List.foldl_ext _ _ _ fun x v hv => ?_
      have hother : (s.onStation t f).stations.get v = s.stations.get v :=
        upd_get_other _ _ _ _ fun h => hfresh (h ▸ hv)
      exact congrArg (F (s.env v) · x) hother
  exact hturns allTx s allTx_nodup

theorem State.onEach_frame : { s.onEach f with stations := s.stations, out := s.out } = s :=
  State.foldl_onStation_frame s allTx

theorem State.onEach_engine : (s.onEach f).engine = s.engine := by
  have h := congrArg State.engine (s.onEach_frame (f := f))
  exact h

theorem State.onEach_link : (s.onEach f).link = s.link := by
  have h := congrArg State.link (s.onEach_frame (f := f))
  exact h

theorem State.onEach_store : (s.onEach f).store = s.store := by
  have h := congrArg State.store (s.onEach_frame (f := f))
  exact h

theorem State.onEach_matrix : (s.onEach f).matrix = s.matrix := by
  have h := congrArg State.matrix (s.onEach_frame (f := f))
  exact h


end Turns

/-! ### Removing a waiting request of the schedule (R81) -/

/-- The waiting request of the schedule whose work passes a test. -/
def TxRecord.missable (r : TxRecord) (p : SchedRef → Bool) : Option (StartRequest × SchedRef) :=
  r.slot.bind fun q => (q.work.filter p).map fun w => (q, w)

theorem TxRecord.missable_eq_some_iff {r : TxRecord} {p : SchedRef → Bool} {q : StartRequest} {w : SchedRef} :
    r.missable p = some (q, w) ↔ r.slot = some q ∧ q.work = some w ∧ p w = true := by
  simp only [TxRecord.missable, Option.bind_eq_some_iff, Option.map_eq_some_iff, Option.filter_eq_some_iff, Prod.mk.injEq]
  constructor
  · rintro ⟨_, hslot, _, ⟨hwork, hp⟩, rfl, rfl⟩
    exact ⟨hslot, hwork, hp⟩
  · rintro ⟨hslot, hwork, hp⟩
    exact ⟨q, hslot, w, ⟨hwork, hp⟩, rfl, rfl⟩

/-- The record of a request removed unserved. -/
def missedRecord (e : Env) (why : Detail) (x : StartRequest × SchedRef) : LogRecord :=
  { kind := .missed, date := e.reading.date, second := e.reading.minute * 60 + e.reading.second, t := e.t, manual := false
    work := some (x.2.bank, x.2.entry), column := some x.1.column, kHz := some x.1.kHz, kW := none, detail := why
    sequence := 0 }

namespace Bench

variable {e : Env} {b : Bench} {p : SchedRef → Bool} {why : Detail}

theorem slotWork_any : (b.u.tr.slot.any fun q => q.work.any p) = (b.u.tr.missable p).isSome := by
  unfold TxRecord.missable
  cases b.u.tr.slot with
  | none => rfl
  | some q => cases hwork : q.work with
    | none => simp [hwork]
    | some w => cases hp : p w <;> simp [hwork, hp, Option.filter]

theorem missIf_of_none (h : b.u.tr.missable p = none) : b.missIf p why e = b := by
  rw [missIf, slotWork_any, h]
  rfl

theorem missIf_of_some {q : StartRequest} {w : SchedRef} (h : b.u.tr.missable p = some (q, w)) :
    b.missIf p why e = (b.tr fun r => { r with slot := none }).out fun o =>
      o.missed e.reading e.t (some w) q.column q.kHz why := by
  obtain ⟨hslot, hwork, -⟩ := TxRecord.missable_eq_some_iff.1 h
  rw [missIf, slotWork_any, h, ← hwork]
  simp only [Option.isSome_some, if_true, missSlot, hslot]

/-- It empties the slot and leaves the station else. -/
theorem missIf_station : (b.missIf p why e).u =
    { b.u with tr := { b.u.tr with slot := if (b.u.tr.missable p).isSome then none else b.u.tr.slot } } := by
  cases h : b.u.tr.missable p with
  | none => rw [missIf_of_none h]; rfl
  | some x => rw [missIf_of_some h]; rfl

theorem missIf_voice : (b.missIf p why e).o.voice =
    ((b.u.tr.missable p).toList.map fun _ => missing e.t why).foldl Outbox.raise b.o.voice := by
  cases h : b.u.tr.missable p with
  | none => rw [missIf_of_none h]; rfl
  | some x => rw [missIf_of_some h]; rfl

theorem missIf_log : (b.missIf p why e).o.log =
    ((b.u.tr.missable p).toList.map (missedRecord e why)).foldl Log.write b.o.log := by
  cases h : b.u.tr.missable p with
  | none => rw [missIf_of_none h]; rfl
  | some x => rw [missIf_of_some h]; rfl

theorem missIf_port : (b.missIf p why e).o.port = b.o.port := by
  cases h : b.u.tr.missable p with
  | none => rw [missIf_of_none h]
  | some x => rw [missIf_of_some h]; rfl

end Bench

/-- Every waiting request whose work passes a test goes, each transmitter in turn. -/
def State.missEach (s : State) (p : SchedRef → Bool) (why : Detail) : State :=
  s.onEach fun e b => (Bench.missIf p why e b).reportRow e

namespace State

variable (s : State) (p : SchedRef → Bool) (why : Detail)

theorem missHalted_eq : s.missHalted = s.missEach (fun _ => true) .halted := rfl

theorem missEach_tr (u : Tx) : (s.missEach p why).tr u =
    { s.tr u with slot := if ((s.tr u).missable p).isSome then none else (s.tr u).slot
                  reported := (s.tr u).toldOf } :=
  s.onEach_station (R := fun _ v w => w.tr =
      { v.tr with slot := if (v.tr.missable p).isSome then none else v.tr.slot, reported := v.tr.toldOf })
    (fun e b => by rw [Bench.reportRow_record, Bench.missIf_station]; rfl) u

/-- The requests that go, in transmitter order. -/
def missables : List (Tx × StartRequest × SchedRef) :=
  allTx.filterMap fun u => ((s.tr u).missable p).map (Prod.mk u)

theorem missables_map {β : Type} (g : Tx × StartRequest × SchedRef → β) : (s.missables p).map g =
    allTx.flatMap fun u => ((s.tr u).missable p).toList.map fun x => g (u, x) := by
  rw [missables, List.filterMap_eq_flatMap_toList, List.map_flatMap]
  refine List.flatMap_congr fun u _ => ?_
  cases (s.tr u).missable p <;> rfl

theorem missEach_voice : (s.missEach p why).out.voice =
    ((s.missables p).map fun x => missing x.1 why).foldl Outbox.raise s.out.voice := by
  rw [missables_map, List.foldl_flatMap]
  exact s.onEach_out (φ := Outbox.voice)
    (F := fun e u x => ((u.tr.missable p).toList.map fun _ => missing e.t why).foldl Outbox.raise x)
    fun e b => by rw [Bench.reportRow_voice, Bench.missIf_voice]

theorem missEach_log : (s.missEach p why).out.log =
    ((s.missables p).map fun x => missedRecord (s.env x.1) why x.2).foldl Log.write s.out.log := by
  rw [missables_map, List.foldl_flatMap]
  exact s.onEach_out (φ := Outbox.log)
    (F := fun e u x => ((u.tr.missable p).toList.map (missedRecord e why)).foldl Log.write x)
    fun e b => by rw [Bench.reportRow_log, Bench.missIf_log]

theorem missEach_port : (s.missEach p why).out.port = s.out.port := by
  have hport := s.onEach_out (φ := Outbox.port) (F := fun _ _ x => x)
    (f := fun e b => (Bench.missIf p why e b).reportRow e) fun e b => by rw [Bench.reportRow_port, Bench.missIf_port]
  exact hport.trans (List.foldl_fixed _)

end State

end Sys2Proof.Machine

/-! HALT and the report of ended work (R74-R76, R81, R82, R89). -/

namespace Sys2Proof.Machine

open Claims

/-! ### Draining (R75) -/

theorem State.drainTest_eq (s : State) : s.drainTest =
    if s.engine.state = .draining ∧ ∀ v, (s.tr v).work = none then s.onEngine Engine.halt else s := by
  have hsilent : (allTx.all fun t => (s.tr t).work.isNone) = true ↔ ∀ v, (s.tr v).work = none := by
    simp only [List.all_eq_true, Option.isNone_iff_eq_none, mem_allTx, forall_const]
  unfold State.drainTest
  simp only [hsilent]

theorem workEndedReported : Claims.WorkEndedReported := by
  intro u w s hlive kept
  show execScheduleWorkEnded u w s = _
  rw [execScheduleWorkEnded, State.take_of_live hlive, State.drainTest_eq]
  rfl

/-! ### HALT (R74, R76) -/

/-- An engine that drains: no START is left in its list, and autorun is disarmed. -/
def Engine.drained (g : Engine) : Engine :=
  { g with state := .draining, armed := false, upcoming := g.upcoming.filter fun f => f.kind == .end_ }

/-- An engine that HALT with STOP has stopped. -/
def Engine.stopped (g : Engine) : Engine := { g.halt with armed := false }

/-- What a release leaves of a work: nothing, or with a bank named only a work of another bank. -/
def freeWork (only : Option Bank) (w : Option SchedRef) : Option SchedRef :=
  match w, only with
  | some w, some k => if w.bank = k then none else some w
  | _, _ => none

theorem freeWork_none (only : Option Bank) : freeWork only none = none := rfl

theorem freeWork_every (w : Option SchedRef) : freeWork none w = none := by cases w <;> rfl

theorem freeWork_bank {k : Bank} {w : Option SchedRef} {v : SchedRef} (h : freeWork (some k) w = some v) : v.bank ≠ k := by
  cases w with
  | none => cases h
  | some w =>
    simp only [freeWork, Option.ite_none_left_eq_some, Option.some.injEq] at h
    exact h.2 ▸ h.1

/-- The record that a release leaves of a transmitter's (R76, R88). -/
def TxRecord.freed (only : Option Bank) (r : TxRecord) : TxRecord :=
  { r with
    current := r.current.map fun x => { x with work := freeWork only x.work }
    context := r.context.map fun c =>
      { c with work := freeWork only c.work
               origin := if c.origin = .schedule ∧ (freeWork only c.work).isNone then .manual else c.origin } }

theorem Bench.release_eq (only : Option Bank) (e : Env) (b : Bench) : b.release only e = b.tr (TxRecord.freed only) := rfl

theorem TxRecord.freed_work (only : Option Bank) (r : TxRecord) : (r.freed only).work =
    match freeWork only (r.current.bind (·.work)) with
    | some w => some w
    | none => freeWork only (r.context.bind (·.work)) := by
  unfold TxRecord.work TxRecord.freed
  cases r.current <;> cases r.context <;> rfl

theorem TxRecord.freed_none_work (r : TxRecord) : (r.freed none).work = none := by
  rw [TxRecord.freed_work, freeWork_every, freeWork_every]

theorem State.releaseEach_tr (s : State) (only : Option Bank) (u : Tx) :
    (s.onEach (Bench.release only)).tr u = (s.tr u).freed only :=
  s.onEach_station (R := fun _ v w => w.tr = v.tr.freed only) (fun e b => by rw [Bench.release_eq]; rfl) u

theorem State.releaseEach_out (s : State) (only : Option Bank) : (s.onEach (Bench.release only)).out = s.out :=
  (s.onEach_out (φ := id) (F := fun _ _ x => x) fun e b => by rw [Bench.release_eq]; rfl).trans (List.foldl_fixed _)

theorem TxRecord.missable_true_isSome (r : TxRecord) :
    (if (r.missable fun _ => true).isSome then none else r.slot) =
      match r.slot with | some q => if q.work.isSome then none else some q | none => none := by
  unfold TxRecord.missable
  cases r.slot with
  | none => rfl
  | some q => cases hwork : q.work <;> simp [hwork, Option.filter]

section Halt

variable {h : Head} {s : State}

theorem exec_haltDrain (hs : Claims.serves s) (hsized : h.sized = true) (named : Bool) :
    exec (.haltDrain h named) s = .next
      (if !named then Claims.refuse s 0x41 h .badField
      else if s.engine.state != .running then Claims.refuse s 0x41 h .wrongState
      else ((s.taken.onEngine Engine.drained).missHalted.drainTest).answer 0x41 h.tag (.accepted .empty)) := by
  have hexec : exec (.haltDrain h named) s = .next _ := show execHaltDrain h named s = _ from State.host_sized hs hsized
  simp only [State.tested_cons, State.tested_nil] at hexec
  exact hexec

theorem exec_haltStop (hs : Claims.serves s) (hsized : h.sized = true) :
    exec (.haltStop h) s = .next
      (if s.engine.state == .halted then Claims.refuse s 0x41 h .wrongState
      else ((s.taken.onEngine Engine.stopped).missHalted.onEach (Bench.release none)).answer 0x41 h.tag
        (.accepted .empty)) := by
  have hexec : exec (.haltStop h) s = .next _ := show execHaltStop h s = _ from State.host_sized hs hsized
  simp only [State.tested_cons, State.tested_nil] at hexec
  exact hexec

end Halt

/-- The requests of the schedule are gone, and nothing else of a transmitter that the host reads has changed. -/
theorem State.missHalted_tr (s : State) (u : Tx) : s.missHalted.tr u =
    { s.tr u with
      slot := match (s.tr u).slot with | some q => if q.work.isSome then none else some q | none => none
      reported := (s.tr u).toldOf } := by
  rw [State.missHalted_eq, State.missEach_tr, TxRecord.missable_true_isSome]

theorem State.drainTest_tr (s : State) (u : Tx) : s.drainTest.tr u = s.tr u := by
  rw [State.drainTest_eq]
  split <;> rfl

theorem State.drainTest_out (s : State) : s.drainTest.out = s.out := by
  rw [State.drainTest_eq]
  split <;> rfl

theorem State.drainTest_of_work {s : State} (h : ¬ ∀ u, (s.tr u).work = none) : s.drainTest = s := by
  rw [State.drainTest_eq, if_neg fun hsilent => h hsilent.2]

theorem State.drainTest_of_silent {s : State} (hstate : s.engine.state = .draining) (h : ∀ u, (s.tr u).work = none) :
    s.drainTest = s.onEngine Engine.halt := by
  rw [State.drainTest_eq, if_pos ⟨hstate, h⟩]

theorem haltDecided : Claims.HaltDecided := by
  intro h s hs emptied silent
  refine ⟨fun hshort => ⟨exec_short hs rfl nofun hshort, exec_short hs rfl nofun hshort⟩, fun hsized => ?_,
    fun hsized hstate => ?_, fun hsized hstate => ?_, fun hsized hstate => ?_, fun hsized hstate => ?_⟩
  · rw [exec_haltDrain hs hsized]
    rfl
  · rw [exec_haltDrain hs hsized, if_neg (by simp), if_pos (by simpa using hstate)]
  · rw [exec_haltStop hs hsized, if_pos (by simpa using hstate)]
  · have hexec := exec_haltDrain hs hsized true
    rw [if_neg (by simp), if_neg (by simp [hstate])] at hexec
    have hengine : (s.taken.onEngine Engine.drained).missHalted.engine = s.engine.drained := State.onEach_engine _
    have hwork : ∀ u, (((s.taken.onEngine Engine.drained).missHalted).tr u).work = (s.tr u).work := fun u => by
      rw [State.missHalted_tr]
      rfl
    have htr : ∀ u, ((s.taken.onEngine Engine.drained).missHalted.drainTest).tr u =
        { s.tr u with
          slot := match (s.tr u).slot with | some q => if q.work.isSome then none else some q | none => none
          reported := (s.tr u).toldOf } := fun u => (State.drainTest_tr _ u).trans (State.missHalted_tr _ u)
    refine ⟨_, hexec, fun u => congrArg TxRecord.slot ((State.answer_tr ..).trans (htr u)), ?_, State.answer_reply _ _ _ _, fun hbusy => ?_, fun hsilent => ?_⟩
    · rw [State.answer_engine, State.drainTest_eq]
      split
      · exact congrArg Engine.armed hengine
      · exact congrArg Engine.armed hengine
    · rw [State.answer_engine, State.drainTest_of_work (by simpa only [hwork] using hbusy), hengine]
      exact ⟨rfl, rfl⟩
    · rw [State.answer_engine, State.drainTest_of_silent (congrArg Engine.state hengine) fun u => (hwork u).trans (hsilent u)]
      exact ⟨rfl, rfl, rfl, rfl⟩
  · have hexec := exec_haltStop hs hsized
    rw [if_neg (by simpa using hstate)] at hexec
    have hengine : ((s.taken.onEngine Engine.stopped).missHalted.onEach (Bench.release none)).engine = s.engine.stopped :=
      (State.onEach_engine _).trans (State.onEach_engine _)
    have htr : ∀ u, ((s.taken.onEngine Engine.stopped).missHalted.onEach (Bench.release none)).tr u =
        TxRecord.freed none { s.tr u with
          slot := match (s.tr u).slot with | some q => if q.work.isSome then none else some q | none => none
          reported := (s.tr u).toldOf } := fun u =>
      (State.releaseEach_tr _ none u).trans (congrArg (TxRecord.freed none) (State.missHalted_tr _ u))
    refine ⟨_, hexec, fun u => congrArg TxRecord.slot ((State.answer_tr ..).trans (htr u)), congrArg Engine.armed hengine, congrArg Engine.state hengine,
      congrArg Engine.upcoming hengine, congrArg Engine.carried hengine, congrArg Engine.fill hengine,
      State.answer_reply _ _ _ _, fun u => ?_⟩
    rw [State.answer_tr, htr]
    refine ⟨TxRecord.freed_none_work _, rfl, rfl, ?_⟩
    simp only [TxRecord.freed, Option.map_map]
    rfl

/-- The requests that a HALT removes, as the statement lists them. -/
theorem State.missables_true (s : State) : s.missables (fun _ => true) =
    allTx.filterMap fun u => (s.tr u).slot.bind fun q => q.work.map fun w => (u, q, w) := by
  refine List.filterMap_congr fun u _ => ?_
  unfold TxRecord.missable
  cases (s.tr u).slot with
  | none => rfl
  | some q => cases hwork : q.work <;> simp [hwork, Option.filter]

theorem logs_answer {s t : State} {rs : List LogRecord} (h : t.out.log = rs.foldl Log.write s.out.log) (kind tag : Byte)
    (v : Verdict) : logs s (t.answer kind tag v) rs := h

theorem raises_answer {s t : State} {es : List Event} (h : t.out.voice = es.foldl Outbox.raise s.out.voice)
    (kind tag : Byte) (v : Verdict) : raises s (t.answer kind tag v) es := raises_of_voice h

theorem haltRecordsMissed : Claims.HaltRecordsMissed := by
  intro h i s hs hsized hi waiting record
  have hwaiting : ∀ g : Engine → Engine, (s.taken.onEngine g).missables (fun _ => true) = waiting := fun g =>
    State.missables_true _
  have hlogs : ∀ g : Engine → Engine, (s.taken.onEngine g).missHalted.out.log = (waiting.map record).foldl Log.write s.out.log :=
    fun g => by rw [State.missHalted_eq, State.missEach_log, hwaiting]; rfl
  have hvoice : ∀ g : Engine → Engine, (s.taken.onEngine g).missHalted.out.voice =
      (waiting.map fun p => missing p.1 .halted).foldl Outbox.raise s.out.voice :=
    fun g => by rw [State.missHalted_eq, State.missEach_voice, hwaiting]; rfl
  rcases hi with ⟨rfl, hstate⟩ | ⟨rfl, hstate⟩
  · have hexec := exec_haltDrain hs hsized true
    rw [if_neg (by simp), if_neg (by simp [hstate])] at hexec
    have hout : ((s.taken.onEngine Engine.drained).missHalted.drainTest).out = _ := State.drainTest_out _
    exact ⟨_, hexec, logs_answer ((congrArg Outbox.log hout).trans (hlogs _)) _ _ _,
      raises_answer ((congrArg Outbox.voice hout).trans (hvoice _)) _ _ _⟩
  · have hexec := exec_haltStop hs hsized
    rw [if_neg (by simpa using hstate)] at hexec
    have hout : ((s.taken.onEngine Engine.stopped).missHalted.onEach (Bench.release none)).out = _ := State.releaseEach_out _ none
    exact ⟨_, hexec, logs_answer ((congrArg Outbox.log hout).trans (hlogs _)) _ _ _,
      raises_answer ((congrArg Outbox.voice hout).trans (hvoice _)) _ _ _⟩

end Sys2Proof.Machine

/-! The Upcoming List: the firings of a minute, and what a rebuild places (R68-R70). -/

namespace Sys2Proof.Machine

open Claims

/-! ### The firings of a minute (R68, R69) -/

theorem mem_day_pair {x d : Nat} : d ∈ [x, x - 1].eraseDups ↔ d = x ∨ d + 1 = x := by
  simp only [List.mem_eraseDups, List.mem_cons, List.not_mem_nil, or_false]
  omega

/-- A START of the entry's window that begins at the minute. -/
def Entry.startsAt (s : State) (k : Bank) (e : Entry) (x : Nat) (f : Firing) : Prop :=
  s.engine.state ≠ .draining ∧ e.begins (x / 1440) = x ∧ e.inEffect (x / 1440) = true ∧
    f = { time := x, kind := .start, bank := k, entry := e.number, day := x / 1440, t := tx e.transmitter }

/-- An END of one of the entry's windows that ends at the minute. -/
def Entry.endsAt (k : Bank) (e : Entry) (x : Nat) (f : Firing) : Prop :=
  ∃ day, (day = x / 1440 ∨ day + 1 = x / 1440) ∧ e.ends day = x ∧ e.inEffect day = true ∧
    f = { time := x, kind := .end_, bank := k, entry := e.number, day := day, t := tx e.transmitter }

theorem State.mem_gather {s : State} {x : Nat} {f : Firing} : f ∈ s.gather x ↔
    (∃ k e, s.store.active = some k ∧ e ∈ s.entries k ∧ (e.startsAt s k x f ∨ e.endsAt k x f)) ∨
    ∃ c ∈ s.engine.carried, c.endTime = x ∧
      f = { time := x, kind := .end_, bank := c.bank, entry := c.entry, day := c.day, t := c.t } := by
  unfold State.gather
  simp only [(sortBy_perm _ _).mem_iff, List.mem_eraseDups, List.mem_append]
  refine or_congr ?_ ?_
  · cases hactive : s.store.active with
    | none => simp
    | some k =>
      simp only [List.mem_flatMap, List.mem_append, List.mem_filterMap, mem_ite_singleton, mem_day_pair, Option.some.injEq,
        Option.ite_none_right_eq_some]
      constructor
      · rintro ⟨e, he, ⟨d, hd, ⟨hends, heffect⟩, rfl⟩ | ⟨⟨hstate, hbegins, heffect⟩, rfl⟩⟩
        · exact ⟨k, e, rfl, he, .inr ⟨d, hd, hends, heffect, rfl⟩⟩
        · exact ⟨k, e, rfl, he, .inl ⟨hstate, hbegins, heffect, rfl⟩⟩
      · rintro ⟨_, e, rfl, he, ⟨hstate, hbegins, heffect, rfl⟩ | ⟨d, hd, hends, heffect, rfl⟩⟩
        · exact ⟨e, he, .inr ⟨⟨hstate, hbegins, heffect⟩, rfl⟩⟩
        · exact ⟨e, he, .inl ⟨d, hd, ⟨hends, heffect⟩, rfl⟩⟩
  · simp only [List.mem_filterMap, Option.ite_none_right_eq_some, Option.some.injEq]
    exact exists_congr fun c => and_congr_right fun _ => and_congr_right fun _ => eq_comm

theorem State.gather_time {s : State} {x : Nat} {f : Firing} (h : f ∈ s.gather x) : f.time = x := by
  rcases State.mem_gather.1 h with ⟨k, e, -, -, ⟨-, -, -, rfl⟩ | ⟨d, -, -, -, rfl⟩⟩ | ⟨c, -, -, rfl⟩ <;> rfl

theorem Firing.key_le_iff (f g : Firing) : f.key ≤ g.key ↔
    (f.kind = .end_ ∧ g.kind = .start) ∨ (f.kind = g.kind ∧ f.t ≤ g.t) := by
  have hf := f.t.isLt
  have hg := g.t.isLt
  show f.key ≤ g.key ↔ _ ∨ (_ ∧ f.t.val ≤ g.t.val)
  cases hfk : f.kind <;> cases hgk : g.kind <;> simp [Firing.key, hfk, hgk] <;> omega

theorem firingsGathered : Claims.FiringsGathered :=
  ⟨fun s x => ⟨s.gather_nodup x, (s.gather_sorted x).imp fun h => (Firing.key_le_iff _ _).1 h⟩,
    fun _ _ _ => State.mem_gather⟩

/-! ### Filling the list (R70) -/

/-- The firing is one of those from minute `a` to before minute `b`. -/
def State.firesFrom (s : State) (a b : Nat) (f : Firing) : Prop := ∃ x, a ≤ x ∧ x < b ∧ f ∈ s.gather x

theorem State.firesFrom_succ {s : State} {a b : Nat} (h : a ≤ b) (f : Firing) :
    s.firesFrom a (b + 1) f ↔ s.firesFrom a b f ∨ f ∈ s.gather b := by
  constructor
  · rintro ⟨x, ha, hb, hf⟩
    rcases Nat.lt_succ_iff_lt_or_eq.1 hb with hb | rfl
    · exact .inl ⟨x, ha, hb, hf⟩
    · exact .inr hf
  · rintro (⟨x, ha, hb, hf⟩ | hf)
    · exact ⟨x, ha, Nat.lt_succ_of_lt hb, hf⟩
    · exact ⟨b, h, Nat.lt_succ_self b, hf⟩

theorem State.firesFrom_time {s : State} {a b : Nat} {f : Firing} (h : s.firesFrom a b f) : a ≤ f.time ∧ f.time < b := by
  obtain ⟨x, ha, hb, hf⟩ := h
  rw [State.gather_time hf]
  exact ⟨ha, hb⟩

/-- A list of firings from minute `a` to before minute `b`, in order of time and each once. -/
structure State.Lists (s : State) (a b : Nat) (fs : List Firing) : Prop where
  sorted : fs.Pairwise fun f g => f.time ≤ g.time
  nodup : fs.Nodup
  bounded : fs.length ≤ 128
  sound : ∀ f ∈ fs, s.firesFrom a b f

/-- The firings of the minute after those listed go to the end of the list. -/
theorem State.Lists.append {s : State} {a b : Nat} {fs gs : List Firing} (h : s.Lists a b fs) (hab : a ≤ b)
    (hgs : gs.Sublist (s.gather b)) (hroom : fs.length + gs.length ≤ 128) : s.Lists a (b + 1) (fs ++ gs) := by
  have htime : ∀ g ∈ gs, g.time = b := fun g hg => State.gather_time (hgs.subset hg)
  have hbefore : ∀ f ∈ fs, f.time < b := fun f hf => (State.firesFrom_time (h.sound f hf)).2
  refine ⟨List.pairwise_append.2 ⟨h.sorted, ?_, fun f hf g hg => ?_⟩, ?_, by simpa using hroom, fun f hf => ?_⟩
  · refine List.Pairwise.imp_of_mem (R := fun _ _ => True) (fun {f g} hf hg _ => ?_) (List.pairwise_of_forall fun _ _ => trivial)
    rw [htime f hf, htime g hg]
  · rw [htime g hg]
    exact (hbefore f hf).le
  · refine List.nodup_append.2 ⟨h.nodup, hgs.nodup (s.gather_nodup b), fun f hf g hg heq => ?_⟩
    have := hbefore f hf
    rw [heq, htime g hg] at this
    exact lt_irrefl _ this
  · rw [State.firesFrom_succ hab]
    exact (List.mem_append.1 hf).imp (h.sound f) fun hf => hgs.subset hf

theorem State.Lists.mono {s : State} {a b c : Nat} {fs : List Firing} (h : s.Lists a b fs) (hbc : b ≤ c) : s.Lists a c fs :=
  { h with sound := fun f hf => (h.sound f hf).imp fun _ ⟨ha, hb, hx⟩ => ⟨ha, hb.trans_le hbc, hx⟩ }

/-- What a fill of `n` minutes leaves: all their firings; or a full list. -/
theorem State.fillMinutes_lists (s : State) (a n : Nat) (k : Filling) (hk : s.Lists a k.next k.list) (ha : a ≤ k.next)
    (hall : ∀ f, s.firesFrom a k.next f → f ∈ k.list) (hplaced : k.placed = 0) (hleft : k.left = none) :
    s.Lists a (k.next + n) (s.fillMinutes n k).list ∧
    ((s.fillMinutes n k).left = none → (s.fillMinutes n k).next = k.next + n ∧ (s.fillMinutes n k).placed = 0 ∧
      ∀ f, s.firesFrom a (k.next + n) f → f ∈ (s.fillMinutes n k).list) ∧
    ((s.fillMinutes n k).left ≠ none → (s.fillMinutes n k).list.length = 128) := by
  induction n generalizing k with
  | zero => exact ⟨hk, fun _ => ⟨rfl, hplaced, hall⟩, fun h => absurd hleft h⟩
  | succ n ih =>
    have hnew : (s.gather k.next).filter (fun f => !k.list.contains f) = s.gather k.next :=
      List.filter_eq_self.2 fun f hf => by
        rw [Bool.not_eq_true', ← Bool.not_eq_true, List.contains_iff_mem]
        intro hmem
        have := (State.firesFrom_time (hk.sound f hmem)).2
        rw [State.gather_time hf] at this
        exact lt_irrefl _ this
    unfold State.fillMinutes Config.upcomingSize
    dsimp only
    rw [hnew]
    have hbounded := hk.bounded
    split
    next hroom =>
      have hstep := ih { list := k.list ++ s.gather k.next, next := k.next + 1, placed := 0, left := none }
        (hk.append ha (List.Sublist.refl _) (by omega)) (ha.trans (Nat.le_succ _))
        (fun f hf => List.mem_append.2 (((State.firesFrom_succ ha f).1 hf).imp (hall f) id)) rfl rfl
      rw [show k.next + (n + 1) = k.next + 1 + n by omega]
      exact hstep
    next hfull =>
      have hlength : ((s.gather k.next).take (128 - k.list.length)).length = 128 - k.list.length :=
        List.length_take_of_le (by omega)
      refine ⟨(hk.append ha (List.take_sublist _ _) (by omega)).mono (by omega), nofun, fun _ => ?_⟩
      rw [List.length_append, hlength]
      omega

/-! ### A rebuild (R70) -/

/-- What a refill's fill does from a fill point. -/
def State.refilling (s : State) (now : Nat) (f : FillPoint) : Filling :=
  s.fillMinutes (now + 60 - f.next) { list := s.engine.upcoming, next := f.next, placed := f.placed, left := none }

/-- The event of a fill that leaves a firing out. -/
def State.overflow (s : State) (minute : Nat) : Event :=
  { kind := .horizonOverflow, subject := match s.store.active with | some b => .bank b | none => .none
    detail := b2 (minute % 1440) }

/-- The state that a fill leaves. -/
def State.filled (s : State) (k : Filling) : State :=
  { s with
    engine := { s.engine with
      upcoming := k.list, fill := some { next := k.next, placed := k.placed }, leftOut := k.left.isSome }
    out := if k.left.isSome && !s.engine.leftOut then s.out.raise (s.overflow (k.left.getD 0)) else s.out }

/-- The engine that a fill leaves. -/
def Engine.filled (g : Engine) (k : Filling) : Engine :=
  { g with upcoming := k.list, fill := some { next := k.next, placed := k.placed }, leftOut := k.left.isSome }

theorem State.filled_of_over {s : State} {k : Filling} (h : (k.left.isSome && !s.engine.leftOut) = true) :
    s.filled k = { s with engine := s.engine.filled k, out := s.out.raise (s.overflow (k.left.getD 0)) } := by
  unfold State.filled
  rw [if_pos h]
  rfl

theorem State.filled_of_quiet {s : State} {k : Filling} (h : ¬ (k.left.isSome && !s.engine.leftOut) = true) :
    s.filled k = { s with engine := s.engine.filled k } := by
  unfold State.filled
  rw [if_neg h]
  rfl

theorem State.refill_of_point {s : State} {f : FillPoint} (h : s.engine.fill = some f) (now : Nat) :
    s.refill now = s.filled (s.refilling now f) := by
  unfold State.refill
  rw [h]
  dsimp only
  split
  next h => exact (State.filled_of_over h).symm
  next h => exact (State.filled_of_quiet h).symm

theorem State.refill_of_none {s : State} (h : s.engine.fill = none) (now : Nat) : s.refill now = s := by
  unfold State.refill
  rw [h]

/-- The state in which a rebuild begins to fill. -/
def State.emptied (s : State) (now : Nat) : State :=
  s.onEngine fun g => { g with upcoming := [], fill := some { next := now, placed := 0 } }

/-- What a rebuild's fill does. -/
def State.rebuilding (s : State) (now : Nat) : Filling :=
  s.fillMinutes 60 { list := [], next := now, placed := 0, left := none }

theorem State.gather_congr {s t : State} (hstore : t.store = s.store) (hstate : t.engine.state = s.engine.state)
    (hcarried : t.engine.carried = s.engine.carried) (x : Nat) : t.gather x = s.gather x := by
  unfold State.gather State.entries
  rw [hstore, hstate, hcarried]

theorem State.fillMinutes_congr {s t : State} (h : ∀ x, t.gather x = s.gather x) (n : Nat) (k : Filling) :
    t.fillMinutes n k = s.fillMinutes n k := by
  induction n generalizing k with
  | zero => rfl
  | succ n ih =>
    unfold State.fillMinutes
    simp only [h, ih]

theorem State.gather_emptied (s : State) (now x : Nat) : (s.emptied now).gather x = s.gather x :=
  State.gather_congr (s := s) (t := s.emptied now) rfl rfl rfl x

theorem State.rebuild_eq (s : State) (now : Nat) : s.rebuild now = s.filled (s.rebuilding now) := by
  have hfill : (s.emptied now).refilling now { next := now, placed := 0 } = s.rebuilding now := by
    unfold State.refilling State.rebuilding
    rw [State.fillMinutes_congr (s.gather_emptied now), Nat.add_sub_cancel_left]
    rfl
  have hrefill : (s.emptied now).refill now = _ := State.refill_of_point (f := { next := now, placed := 0 }) rfl now
  rw [hfill] at hrefill
  exact hrefill

theorem State.rebuilding_lists (s : State) (now : Nat) :
    s.Lists now (now + 60) (s.rebuilding now).list ∧
    ((s.rebuilding now).left = none → (s.rebuilding now).next = now + 60 ∧ (s.rebuilding now).placed = 0 ∧
      ∀ f, s.firesFrom now (now + 60) f → f ∈ (s.rebuilding now).list) ∧
    ((s.rebuilding now).left ≠ none → (s.rebuilding now).list.length = 128) := by
  refine s.fillMinutes_lists now 60 { list := [], next := now, placed := 0, left := none }
    ⟨.nil, List.nodup_nil, Nat.zero_le _, fun f hf => absurd hf List.not_mem_nil⟩ le_rfl ?_ rfl rfl
  rintro f ⟨x, ha, hb, -⟩
  exact absurd (ha.trans_lt hb) (lt_irrefl _)

theorem listRebuilt : Claims.ListRebuilt := by
  intro s now t hour
  obtain ⟨hlists, hcomplete, hfull⟩ := s.rebuilding_lists now
  have ht : t = _ := s.rebuild_eq now
  refine ⟨by rw [ht]; rfl, ht ▸ hlists.sorted, ht ▸ hlists.nodup, ht ▸ hlists.bounded, ht ▸ hlists.sound, fun hleft => ?_,
    fun hleft => ?_⟩
  · rw [ht] at hleft ⊢
    have hsome : (s.rebuilding now).left.isSome = false := hleft
    obtain ⟨hnext, hplaced, hall⟩ := hcomplete (Option.isSome_eq_false_iff.1 hsome |> Option.isNone_iff_eq_none.1)
    rw [State.filled_of_quiet (by simp [hsome])]
    exact ⟨by rw [← hnext, ← hplaced]; rfl, hall, rfl⟩
  · rw [ht] at hleft ⊢
    have hsome : (s.rebuilding now).left.isSome = true := hleft
    refine ⟨hfull (Option.isSome_iff_ne_none.1 hsome), fun hbefore => ?_, fun hbefore => ⟨s.overflow ((s.rebuilding now).left.getD 0), ?_, rfl⟩⟩
    · rw [State.filled_of_quiet (by simp [hbefore])]
    · rw [State.filled_of_over (by simp [hsome, hbefore])]
      exact raises_of_voice rfl

end Sys2Proof.Machine

/-! Taking firings (R71, R73, R77-R85): what it leaves of the engine and the Store, and which firings it takes. RUN and
AUTORUN. -/

namespace Sys2Proof.Machine

open Claims

/-! ### What taking a firing leaves -/

/-- What an operation leaves that takes firings but not from the list: the Store, the engine's state and list, and of the
Carried List nothing that was not there. -/
structure State.Takes (s t : State) : Prop where
  store : t.store = s.store
  state : t.engine.state = s.engine.state
  armed : t.engine.armed = s.engine.armed
  list : t.engine.upcoming = s.engine.upcoming
  fill : t.engine.fill = s.engine.fill
  leftOut : t.engine.leftOut = s.engine.leftOut
  carried : t.engine.carried ⊆ s.engine.carried

namespace State.Takes

variable {s t u : State}

theorem refl (s : State) : State.Takes s s := ⟨rfl, rfl, rfl, rfl, rfl, rfl, fun _ h => h⟩

theorem trans (h : State.Takes s t) (g : State.Takes t u) : State.Takes s u :=
  ⟨g.store.trans h.store, g.state.trans h.state, g.armed.trans h.armed, g.list.trans h.list, g.fill.trans h.fill,
    g.leftOut.trans h.leftOut, fun _ hc => h.carried (g.carried hc)⟩

theorem ite {p : Prop} [Decidable p] (h : State.Takes s t) (g : State.Takes s u) : State.Takes s (if p then t else u) := by
  split
  · exact h
  · exact g

theorem foldl {α : Type} {f : State → α → State} (hf : ∀ x a, State.Takes x (f x a)) (xs : List α) (s : State) :
    State.Takes s (xs.foldl f s) := by
  induction xs generalizing s with
  | nil => exact refl s
  | cons a xs ih => exact (hf s a).trans (ih (f s a))

theorem onOut (s : State) (f : Outbox → Outbox) : State.Takes s (s.onOut f) := 
  ⟨rfl, rfl, rfl, rfl, rfl, rfl, fun _ h => h⟩
theorem csq (s : State) (t : Tx) (f : Env → Bench → Bench) : State.Takes s (s.csq t f) := 
  ⟨rfl, rfl, rfl, rfl, rfl, rfl, fun _ h => h⟩
theorem fire (s : State) (entry day : Nat) : State.Takes s (s.onEngine fun g => g.fire entry day) := 
  ⟨rfl, rfl, rfl, rfl, rfl, rfl, fun _ h => h⟩

theorem uncarry (s : State) (t : Tx) (b : Bank) (entry day : Nat) :
    State.Takes s (s.onEngine fun g => g.uncarry t b entry day) :=
  ⟨rfl, rfl, rfl, rfl, rfl, rfl, List.filter_subset_self _⟩

theorem listed (h : State.Takes s t) (fs : List Firing) : State.Takes (s.listed fs) (t.listed fs) :=
  ⟨h.store, h.state, h.armed, rfl, h.fill, h.leftOut, h.carried⟩

theorem missStart (s : State) (b : Bank) (e : Entry) (day : Nat) (why : Detail) : State.Takes s (s.missStart b e day why) :=
  onOut s _

theorem closeReplaced (s : State) (t : Tx) (why : Detail) : State.Takes s (s.closeReplaced t why) := by
  unfold State.closeReplaced
  split
  · exact refl s
  · dsimp only
    split
    · exact (csq s ..).trans (uncarry _ ..)
    · exact csq s ..

theorem handStart (s : State) (t : Tx) (q : StartRequest) (followed : Bool) : State.Takes s (s.handStart t q followed) := by
  unfold State.handStart
  refine .trans ?_ (csq _ ..)
  have hlate : State.Takes s (if q.late then s.onOut fun o => o.event .lateStart (.transmitter t) [] else s) :=
    ite (onOut s _) (refl s)
  have hclose : ∀ x : State, State.Takes x (match (x.tr t).current with
      | some y => x.closeReplaced t (x.replaced y)
      | none => x) := by
    intro x
    split
    · exact closeReplaced ..
    · exact refl x
  exact hlate.trans (ite (refl _) (hclose _))

theorem takeStart (s : State) (b : Bank) (e : Entry) (day : Nat) (late followed : Bool) :
    State.Takes s (s.takeStart b e day late followed) := by
  unfold State.takeStart
  refine ite (refl s) ((fire s e.number day).trans (ite (missStart ..) ?_))
  split
  · exact missStart ..
  · exact csq ..
  · exact handStart ..

theorem fireStart (s : State) (f : Firing) (followed : Bool) : State.Takes s (s.fireStart f followed) := by
  unfold State.fireStart
  split
  · exact takeStart ..
  · exact refl s

theorem fireEnd (s : State) (f : Firing) : State.Takes s (s.fireEnd f) := by
  unfold State.fireEnd
  exact ((ite (csq s ..) (refl s)).trans (csq ..)).trans (uncarry ..)

theorem firePair (s : State) (f g : Firing) : State.Takes s (s.firePair f g) := by
  unfold State.firePair
  exact ite ((closeReplaced s ..).trans (fireStart ..)) ((fireEnd s f).trans (fireStart ..))

theorem endPassed (now : Nat) (s : State) (t : Tx) : State.Takes s (State.endPassed now s t) := by
  unfold State.endPassed
  split
  · exact ite ((csq s ..).trans (uncarry ..)) (refl s)
  · exact refl s

theorem scanWindow (b : Bank) (e : Entry) (now day : Nat) (s : State) : State.Takes s (State.scanWindow b e now day s) := by
  unfold State.scanWindow
  exact ite (ite (takeStart ..) ((fire s e.number day).trans (missStart ..))) (refl s)

theorem lateScan (s : State) (now : Nat) : State.Takes s (s.lateScan now) := by
  unfold State.lateScan
  split
  · exact refl s
  · exact foldl (fun x e => ite (scanWindow ..) ((scanWindow ..).trans (scanWindow ..))) _ s

end State.Takes

/-- The firings of a minute come from the same windows and from no more carried records. -/
theorem State.Takes.gather_subset {s t : State} (h : State.Takes s t) (x : Nat) : t.gather x ⊆ s.gather x := by
  intro f hf
  rw [State.mem_gather] at hf ⊢
  refine hf.imp ?_ ?_
  · rintro ⟨k, e, hactive, he, hfires⟩
    rw [h.store] at hactive
    rw [State.entries, h.store] at he
    refine ⟨k, e, hactive, he, hfires.imp_left ?_⟩
    rintro ⟨hstate, hbegins⟩
    exact ⟨h.state ▸ hstate, hbegins⟩
  · rintro ⟨c, hc, hends, hf⟩
    exact ⟨c, h.carried hc, hends, hf⟩

/-! ### Which firings a boundary takes (R71 step 4) -/

/-- The firings of a list that are not due. -/
def later (now : Nat) (fs : List Firing) : List Firing := fs.filter fun f => decide (now < f.time)

theorem later_cons_of_due {now : Nat} {f : Firing} (h : f.time ≤ now) (fs : List Firing) : later now (f :: fs) = later now fs :=
  List.filter_cons_of_neg (by simpa using h)

theorem later_erase_of_due {now : Nat} {f : Firing} (h : f.time ≤ now) (fs : List Firing) :
    later now (fs.erase f) = later now fs := by
  induction fs with
  | nil => rfl
  | cons g fs ih =>
    by_cases hfg : g = f
    · rw [hfg, List.erase_cons_head, later_cons_of_due h]
    · rw [List.erase_cons_tail (by simpa using hfg)]
      simp only [later, List.filter_cons] at ih ⊢
      rw [ih]

theorem later_of_first {now : Nat} {f : Firing} {fs : List Firing} (h : now < f.time)
    (hsorted : (f :: fs).Pairwise fun f g => f.time ≤ g.time) : later now (f :: fs) = f :: fs := by
  refine List.filter_eq_self.2 fun g hg => decide_eq_true ?_
  rcases List.mem_cons.1 hg with rfl | hg
  · exact h
  · exact h.trans_le ((List.pairwise_cons.1 hsorted).1 g hg)

theorem dueOf_eq_some {now : Nat} {kind : FiringKind} {t : Tx} {fs : List Firing} {f : Firing}
    (h : dueOf now kind t fs = some f) : f ∈ fs ∧ f.time ≤ now ∧ f.kind = kind ∧ f.t = t := by
  have htest := List.find?_some h
  simp only [Bool.and_eq_true, decide_eq_true_eq, beq_iff_eq, and_assoc] at htest
  exact ⟨List.mem_of_find?_eq_some h, htest⟩

/-- One firing, or a pair, taken from a list leaves a shorter one with the firings that are not due. -/
theorem State.takeDue_step {now n : Nat} {s x : State} {fs rest : List Firing} (htakes : State.Takes (s.listed rest) x)
    (hlater : later now rest = later now fs) (hih : State.Takes (x.listed (later now x.engine.upcoming)) (State.takeDue now n x)) :
    State.Takes (s.listed (later now fs)) (State.takeDue now n x) := by
  have hlist : x.engine.upcoming = rest := htakes.list
  rw [hlist, hlater] at hih
  exact (htakes.listed _).trans hih

/-- Taking the due firings of a list in order of time leaves those that are not due. -/
theorem State.takeDue_takes (now n : Nat) (s : State) (hsorted : s.engine.upcoming.Pairwise fun f g => f.time ≤ g.time)
    (hlength : s.engine.upcoming.length ≤ n) :
    State.Takes (s.listed (later now s.engine.upcoming)) (State.takeDue now n s) := by
  have hself : ∀ {fs : List Firing}, s.engine.upcoming = fs → s.listed fs = s := by rintro _ rfl; rfl
  induction n generalizing s with
  | zero =>
    have hnil : s.engine.upcoming = [] := List.eq_nil_of_length_eq_zero (Nat.le_zero.1 hlength)
    rw [State.takeDue, hself (by rw [hnil]; rfl)]
    exact .refl s
  | succ n ih =>
    have hstep : ∀ {rest : List Firing} {x : State}, State.Takes (s.listed rest) x → rest.Pairwise (fun f g => f.time ≤ g.time) →
        rest.length ≤ n → later now rest = later now s.engine.upcoming →
        State.Takes (s.listed (later now s.engine.upcoming)) (State.takeDue now n x) := by
      intro rest x htakes hrest hn hlater
      have hlist : x.engine.upcoming = rest := htakes.list
      exact State.takeDue_step htakes hlater (ih x (hlist ▸ hrest) (hlist ▸ hn) fun h => by rw [← h]; rfl)
    unfold State.takeDue
    cases hfs : s.engine.upcoming with
    | nil =>
      dsimp only
      rw [hself (by rw [hfs]; rfl)]
      exact .refl s
    | cons f rest =>
      rw [hfs] at hsorted hlength hstep
      dsimp only
      obtain ⟨hfirst, hrest⟩ := List.pairwise_cons.1 hsorted
      have hn : rest.length ≤ n := by simpa using hlength
      have hshort : ∀ g, (rest.erase g).length ≤ n := fun g => (List.length_erase_le).trans hn
      split
      next hlater =>
        rw [later_of_first hlater hsorted, hself hfs]
        exact .refl s
      next hdue =>
        rw [not_lt] at hdue
        have hdrop : later now rest = later now (f :: rest) := (later_cons_of_due hdue rest).symm
        split
        · exact hstep (.fireStart ..) hrest hn hdrop
        · split
          next g h hg hh =>
            obtain ⟨hmem, hhdue, -⟩ := dueOf_eq_some hh
            split
            · refine hstep (.fireEnd ..) ?_ ?_ ?_
              · exact List.pairwise_cons.2 ⟨fun g hg => hfirst g (List.mem_of_mem_erase hg), hrest.sublist List.erase_sublist⟩
              · rw [List.length_cons, List.length_erase_of_mem hmem]
                have := List.length_pos_of_mem hmem
                omega
              · rw [later_cons_of_due hdue, later_cons_of_due hdue, later_erase_of_due hhdue]
            · exact hstep (.fireEnd ..) hrest hn hdrop
          next g hg hh =>
            refine hstep (.firePair ..) (hrest.sublist List.erase_sublist) (hshort g) ?_
            rw [later_erase_of_due (dueOf_eq_some hg).2.1, hdrop]
          next => exact hstep (.fireEnd ..) hrest hn hdrop

theorem State.takeAllDue_takes (s : State) (now : Nat) (hsorted : s.engine.upcoming.Pairwise fun f g => f.time ≤ g.time) :
    State.Takes (s.listed (later now s.engine.upcoming)) (s.takeAllDue now) :=
  State.takeDue_takes now _ s hsorted le_rfl

end Sys2Proof.Machine

/-! RUN, AUTORUN and READ_UPCOMING (R73, R77, R91). -/

namespace Sys2Proof.Machine

open Claims

/-! ### Starting the engine (R73) -/

/-- The state in which a start begins: RUNNING, with autorun disarmed. -/
def State.starting (s : State) : State := s.onEngine fun g => { g with state := .running, armed := false }

/-- A start ends the passed work, rebuilds the list and takes what is due. -/
theorem State.startEngine_takes (s : State) (now : Nat) : ∃ x, State.Takes s.starting x ∧
    State.Takes ((x.rebuild now).listed (later now (x.rebuild now).engine.upcoming)) (s.startEngine now) := by
  refine ⟨allTx.foldl (State.endPassed now) s.starting, .foldl (State.Takes.endPassed now) _ _, ?_⟩
  obtain ⟨-, hsorted, -⟩ := listRebuilt (allTx.foldl (State.endPassed now) s.starting) now
  exact (State.takeAllDue_takes _ now hsorted).trans (.lateScan ..)

/-- What the engine of a started state holds: RUNNING, the firings of the hour to come, every one unless one is left
out. -/
theorem State.startEngine_lists (s : State) (now : Nat) :
    let t := s.startEngine now
    t.engine.state = .running ∧ t.engine.armed = false ∧ t.engine.fill.isSome ∧
    (∀ f ∈ t.engine.upcoming, now < f.time ∧ f.time < now + 60) ∧
    (t.engine.leftOut = false → t.engine.fill = some { next := now + 60, placed := 0 } ∧
      ∀ x, now < x → x < now + 60 → ∀ f ∈ t.gather x, f ∈ t.engine.upcoming) := by
  intro t
  obtain ⟨x, hends, htakes⟩ := s.startEngine_takes now
  obtain ⟨-, -, -, -, hsound, hcomplete, -⟩ := listRebuilt x now
  have hrebuild := x.rebuild_eq now
  have hstate : (x.rebuild now).engine.state = x.engine.state := by rw [hrebuild]; rfl
  have harmed : (x.rebuild now).engine.armed = x.engine.armed := by rw [hrebuild]; rfl
  have hfill : (x.rebuild now).engine.fill.isSome := by rw [hrebuild]; rfl
  have hlist : t.engine.upcoming = later now (x.rebuild now).engine.upcoming := htakes.list
  have hgather : ∀ y, ((x.rebuild now).listed (later now (x.rebuild now).engine.upcoming)).gather y = x.gather y := fun y =>
    State.gather_congr (s := x) (by rw [hrebuild]; rfl) hstate (by rw [hrebuild]; rfl) y
  refine ⟨htakes.state.trans (hstate.trans hends.state), htakes.armed.trans (harmed.trans hends.armed), ?_, fun f hf => ?_,
    fun hleft => ?_⟩
  · rw [htakes.fill]
    exact hfill
  · rw [hlist, later, List.mem_filter, decide_eq_true_eq] at hf
    obtain ⟨hmem, htime⟩ := hf
    exact ⟨htime, (State.firesFrom_time (hsound f hmem)).2⟩
  · obtain ⟨hpoint, hall, -⟩ := hcomplete (htakes.leftOut.symm.trans hleft)
    refine ⟨htakes.fill.trans hpoint, fun y hnow hhour f hf => ?_⟩
    have hmem := htakes.gather_subset y hf
    rw [hgather] at hmem
    rw [hlist, later, List.mem_filter, decide_eq_true_eq]
    exact ⟨hall f ⟨y, hnow.le, hhour, hmem⟩, (State.gather_time hmem).symm ▸ hnow⟩

theorem State.gather_answer (s : State) (kind tag : Byte) (v : Verdict) (x : Nat) :
    (s.answer kind tag v).gather x = s.gather x := rfl

section Requests

variable {h : Head} {s : State}

theorem exec_run (hs : Claims.serves s) (hsized : h.sized = true) :
    exec (.run h) s = .next
      (if s.engine.state == .running then Claims.refuse s 0x40 h .wrongState
      else if !s.clock.isSet then Claims.refuse s 0x40 h .clockNotSet
      else if s.store.active.isNone then Claims.refuse s 0x40 h .noSeason
      else (s.taken.startEngine s.now).answer 0x40 h.tag (.accepted .empty)) := by
  have hexec : exec (.run h) s = .next _ := show execRun h s = _ from State.host_sized hs hsized
  simp only [State.tested_cons, State.tested_nil] at hexec
  exact hexec

end Requests

theorem runDecided : Claims.RunDecided := by
  refine ⟨fun h s hs => ⟨fun hshort => exec_short (c := .run h) hs rfl nofun hshort, fun hsized hstate => ?_,
    fun hsized hstate hset => ?_, fun hsized hstate hset hactive => ?_, fun hsized hstate hset hactive => ?_⟩,
    fun h index s hs => ?_⟩
  · rw [exec_run hs hsized, if_pos (by simpa using hstate)]
  · rw [exec_run hs hsized, if_neg (by simpa using hstate), if_pos (by simp [hset])]
  · rw [exec_run hs hsized, if_neg (by simpa using hstate), if_neg (by simp [hset]), if_pos (by simp [hactive])]
  · have hexec := exec_run hs hsized
    rw [if_neg (by simpa using hstate), if_neg (by simp [hset]), if_neg (by simpa using hactive)] at hexec
    obtain ⟨hrunning, harmed, hfill, hlist, hall⟩ := s.taken.startEngine_lists s.now
    have hgather : ∀ x, ((s.taken.startEngine s.now).answer 0x40 h.tag (.accepted .empty)).gather x =
        (s.taken.startEngine s.now).gather x := fun x => State.gather_answer ..
    refine ⟨_, hexec, ?_⟩
    rw [State.answer_engine, State.answer_reply]
    simp only [hgather]
    exact ⟨hrunning, harmed, hfill, hlist, hall, trivial⟩
  · show execReadUpcoming h index s = _
    refine (State.host_decides hs).trans ?_
    simp only [State.tested_cons, State.tested_nil, decide_eq_true_eq]
    rfl

/-! ### AUTORUN (R77) -/

theorem State.switchTo_of_no_valid {s : State} {now : Nat} (h : ∀ k, s.eligible now k = false) : s.switchTo now = none := by
  unfold State.switchTo
  simp [h]

theorem State.eligible_iff (s : State) (now : Nat) (k : Bank) : s.eligible now k = true ↔
    (s.store.bank k).state = .valid ∧ ∃ x, (s.store.bank k).effective = some x ∧ x ≤ now := by
  simp [State.eligible, Option.any_eq_true]

/-- A bank raises SEASON_MISSED only while it is OPEN, CLOSED, CHECKING or REJECTED and its effective start passes. -/
theorem State.missSeason_of_kept {s : State} {previous now : Nat} {k : Bank}
    (h : ∀ x, (s.store.bank k).effective = some x → ((s.store.bank k).state = .opened ∨ (s.store.bank k).state = .closed ∨
      (s.store.bank k).state = .checking ∨ (s.store.bank k).state = .rejected) → ¬ (previous < x ∧ x ≤ now)) :
    State.missSeason previous now s k = s := by
  unfold State.missSeason
  refine if_neg fun hpasses => ?_
  simp only [Bool.and_eq_true, Option.any_eq_true, decide_eq_true_eq, Bool.or_eq_true, beq_iff_eq, or_assoc] at hpasses
  obtain ⟨⟨x, hx, hpass⟩, hstate⟩ := hpasses
  exact h x hx hstate hpass

/-- A boundary with nothing to do about the season leaves the season. -/
theorem State.seasonStep_of_kept {s : State} {previous now : Nat} (hswitch : s.switchTo now = none)
    (h : ∀ k x, (s.store.bank k).effective = some x → ((s.store.bank k).state = .opened ∨
      (s.store.bank k).state = .closed ∨ (s.store.bank k).state = .checking ∨ (s.store.bank k).state = .rejected) →
      ¬ (previous < x ∧ x ≤ now)) : s.seasonStep previous now = s := by
  unfold State.seasonStep
  rw [hswitch]
  dsimp only [List.foldl_cons, List.foldl_nil]
  rw [State.missSeason_of_kept (h 0), State.missSeason_of_kept (h 1)]

theorem exec_minuteBoundary {s : State} (hlive : Claims.live s) (hdone : s.boot.phase = .done) (b : Boundary) :
    exec (.minuteBoundary b) s = .next (s.boundary b) := by
  show execMinuteBoundary b s = _
  rw [execMinuteBoundary, State.take_of_live hlive, if_pos hdone]

theorem phase_of_serves {s : State} (hs : Claims.serves s) : s.boot.phase = .done := by
  obtain ⟨-, hserves⟩ := hs
  simp only [State.serves, State.mayTake, Bool.and_eq_true, beq_iff_eq] at hserves
  exact hserves.1.1

theorem autorunStartsAsRunDoes : Claims.AutorunStartsAsRunDoes := by
  intro h b s hs hstate hset hnow hbanks untaken start
  refine ⟨fun hsized hclock hactive => ?_, ?_⟩
  · rw [exec_run hs hsized, if_neg (by simp [hstate]), if_neg (by simp [hclock]), if_neg (by simpa using hactive)]
    rfl
  · have hkept : s.seasonStep (b.previous.getD (b.now - 1)) b.now = s := by
      refine State.seasonStep_of_kept (State.switchTo_of_no_valid fun k => Bool.eq_false_iff.2 fun heligible => ?_)
        fun k x _ hmissed => ?_
      · have hvalid := ((s.eligible_iff b.now k).1 heligible).1
        rcases hbanks k with hk | hk | hk | hk <;> rw [hk] at hvalid <;> cases hvalid
      · rcases hbanks k with hk | hk | hk | hk <;> simp [hk] at hmissed
    have hdone : s.boot.phase = .done := phase_of_serves hs
    rw [exec_minuteBoundary hs.1 hdone, State.boundary]
    simp only [hset, if_true, hkept, if_pos hstate, true_and, Option.isSome_iff_ne_none]
    rw [hnow]

/-- Settles O38. -/
theorem runAndHaltDecided : Obligations.RunAndHaltDecided :=
  ⟨runDecided, haltDecided, haltRecordsMissed, autorunStartsAsRunDoes, firingsGathered, listRebuilt, workEndedReported⟩

end Sys2Proof.Machine

/-! The host's orders on a transmitter (R138-R140). -/

namespace Sys2Proof.Machine

open Claims

/-! ### A request that works on one transmitter -/

section Worked

variable (s : State) (u : Tx) (f : Env → Bench → Bench) (kind tag : Byte) (v : Verdict)

theorem State.answer_csq_station : ((s.taken.csq u f).answer kind tag v).stations.get u =
    ((f (s.env u) (s.bench u)).reportRow (s.env u)).u := upd_get_same ..

theorem State.answer_csq_tr : ((s.taken.csq u f).answer kind tag v).tr u =
    ((f (s.env u) (s.bench u)).reportRow (s.env u)).u.tr := congrArg Station.tr (s.answer_csq_station u f kind tag v)

theorem State.answer_csq_out : ((s.taken.csq u f).answer kind tag v).out =
    ((f (s.env u) (s.bench u)).reportRow (s.env u)).o := rfl

end Worked

section Requests

variable {h : Head} {s : State}

theorem exec_manualEnd (hs : Claims.serves s) (hsized : h.sized = true) (n : Nat) :
    exec (.manualEnd h n) s = .next
      (if 11 < n then Claims.refuse s 0x51 h .outOfRange
      else if (s.tr (tx n)).state.idle then Claims.refuse s 0x51 h .wrongState
      else (s.taken.csq (tx n) fun e b => b.endWork e .manual .abandoned).answer 0x51 h.tag (.accepted .empty)) := by
  have hexec : exec (.manualEnd h n) s = .next _ := show execManualEnd h n s = _ from State.host_sized hs hsized
  simp only [State.tested_cons, State.tested_nil, decide_eq_true_eq] at hexec
  exact hexec

theorem exec_resumeSchedule (hs : Claims.serves s) (hsized : h.sized = true) (n : Nat) :
    exec (.resumeSchedule h n) s = .next
      (if 11 < n then Claims.refuse s 0x52 h .outOfRange
      else if !(s.tr (tx n)).manualHold then Claims.refuse s 0x52 h .wrongState
      else (s.taken.csq (tx n) fun _ b => b.tr fun r => { r with manualHold := false }).answer 0x52 h.tag
        (.accepted .empty)) := by
  have hexec : exec (.resumeSchedule h n) s = .next _ := show execResumeSchedule h n s = _ from State.host_sized hs hsized
  simp only [State.tested_cons, State.tested_nil, decide_eq_true_eq] at hexec
  exact hexec

theorem exec_releaseTransmitter (hs : Claims.serves s) (hsized : h.sized = true) (n : Nat) :
    exec (.releaseTransmitter h n) s = .next
      (if 11 < n then Claims.refuse s 0x53 h .outOfRange
      else if !(s.tr (tx n)).state.isLocked then Claims.refuse s 0x53 h .wrongState
      else (s.taken.csq (tx n) fun e b => (b.tr fun r => { r with state := .ready, lock := none }).sendMute e).answer 0x53
        h.tag (.accepted .empty)) := by
  have hexec : exec (.releaseTransmitter h n) s = .next _ :=
    show execReleaseTransmitter h n s = _ from State.host_sized hs hsized
  simp only [State.tested_cons, State.tested_nil, decide_eq_true_eq] at hexec
  exact hexec

theorem exec_readTransmitter (hs : Claims.serves s) (hsized : h.sized = true) (n : Nat) :
    exec (.readTransmitter h n) s = .next
      (if 11 < n then Claims.refuse s 0x61 h .outOfRange
      else Claims.accept s 0x61 h (.transmitter (s.stations.get (tx n)) s.mains.state)) := by
  have hexec : exec (.readTransmitter h n) s = .next _ := show execReadTransmitter h n s = _ from State.host_sized hs hsized
  simp only [State.tested_cons, State.tested_nil, decide_eq_true_eq] at hexec
  exact hexec

end Requests

theorem TxState.isLocked_iff (x : TxState) : x.isLocked = true ↔ ∃ w, x = .locked w := by
  cases x <;> simp [TxState.isLocked]

theorem TxState.idle_of_off {x : TxState} (h : x = .ready ∨ x.off = true) : x.idle = true := by
  rcases h with rfl | h
  · rfl
  · cases x <;> simp_all [TxState.off, TxState.idle]

theorem transmitterRequestsDecided : Claims.TransmitterRequestsDecided := by
  intro h n s hs u r
  refine ⟨fun hshort => ⟨exec_short hs rfl nofun hshort, exec_short hs rfl nofun hshort, exec_short hs rfl nofun hshort,
    exec_short hs rfl nofun hshort⟩, fun hsized hout => ?_, fun hsized hin => ?_⟩
  · rw [exec_manualEnd hs hsized, exec_resumeSchedule hs hsized, exec_releaseTransmitter hs hsized,
      exec_readTransmitter hs hsized]
    simp only [if_pos hout, and_self]
  have hin : ¬ 11 < n := Nat.not_lt.2 hin
  have hend := exec_manualEnd hs hsized n
  have hresume := exec_resumeSchedule hs hsized n
  have hrelease := exec_releaseTransmitter hs hsized n
  have hread := exec_readTransmitter hs hsized n
  rw [if_neg hin] at hend hresume hrelease hread
  refine ⟨fun hidle => ?_, fun x hstate hcurrent hrf => ?_, fun hhold => ?_, fun hhold => ?_, fun hlocked => ?_,
    fun w hlocked => ?_, hread⟩
  · rw [hend, if_pos (TxState.idle_of_off hidle)]
  · have hcarries : (s.tr u).state.carries = true := (TxState.carries_iff _).2 (by tauto)
    have hbusy : (s.tr u).state.idle = false := (TxState.busy_iff _).2 (by tauto)
    rw [if_neg (by simpa using hbusy)] at hend
    have hending : (s.bench u).endWork (s.env u) .manual .abandoned = (s.bench u).ending (s.env u) x .manual :=
      (if_pos hcarries).trans (Bench.createEnd_of_carrier (b := s.bench u) hcurrent (by simp [show (s.tr u).rf = some true from hrf]) _)
    refine ⟨_, Bench.endContext (s.env u) x .manual, hend, State.answer_reply .., ?_⟩
    rw [State.answer_csq_tr, State.answer_csq_out, hending]
    simp [Bench.ending_tr, Bench.endContext, Transmission.context]
  · have hfree : (s.tr (tx n)).manualHold = false := hhold
    rw [hresume, if_pos (by simp [hfree])]
  · have hheld : (s.tr (tx n)).manualHold = true := hhold
    rw [if_neg (by simp [hheld])] at hresume
    refine ⟨_, hresume, ?_⟩
    rw [State.answer_csq_tr, State.answer_reply]
    simp [r, u]
  · rw [hrelease, if_pos (by simpa [Bool.eq_false_iff, TxState.isLocked_iff] using hlocked)]
  · rw [if_neg (by simpa [TxState.isLocked_iff] using ⟨w, hlocked⟩)] at hrelease
    refine ⟨_, hrelease, ?_⟩
    rw [State.answer_csq_tr, State.answer_csq_out, State.answer_reply]
    simp [Bench.sendMute_tr, u]

theorem manualEndAbandons : Claims.ManualEndAbandons := by
  intro h n k s hs hsized hin u r hstate hcontext hslot moving closes
  have hend := exec_manualEnd hs hsized n
  rw [if_neg (Nat.not_lt.2 hin), if_neg (by rw [show (s.tr (tx n)).state = .changing from hstate]; decide)] at hend
  have hout := fun v => s.answer_csq_out (tx n) (fun e b => b.endWork e .manual .abandoned) 0x51 h.tag v
  have htr := fun v => s.answer_csq_tr (tx n) (fun e b => b.endWork e .manual .abandoned) 0x51 h.tag v
  rw [Bench.endWork_of_changing (b := s.bench u) hstate] at hout htr
  refine ⟨_, hend, State.answer_reply .., ?_⟩
  rw [htr, hout]
  refine ⟨fun hruns => ?_, fun horigin hphase => ?_⟩
  · rw [Bench.abandon_of_ended (b := s.bench u) hcontext hruns]
    exact ⟨by simpa using hcontext, by simp, by simp⟩
  · obtain ⟨hcancels, hwaits, hreleases, hmutes, hends⟩ :=
      Bench.abandon_abandons (e := s.env u) (b := s.bench u) (why := .abandoned) (closing := .manual) hcontext horigin hphase rfl
    refine ⟨hcancels, hwaits, hreleases, hmutes, fun hstill hunmuted hconfirmed hrf hstarted => ?_⟩
    obtain ⟨hready, hnone, hport, htold⟩ := hends hstill hunmuted hconfirmed hrf hslot
    obtain ⟨hvoice, m, hlog, hkind, hdetail, ht⟩ := htold hstarted
    exact ⟨hready, hnone, hport, raises_of_voice ((congrArg Outbox.voice (hout _)).trans hvoice), m,
      (congrArg Outbox.log (hout _)).trans hlog, hkind, hdetail, ht⟩

/-- Settles O42. -/
theorem transmitterOrdersDecided : Obligations.TransmitterOrdersDecided := ⟨transmitterRequestsDecided, manualEndAbandons⟩

end Sys2Proof.Machine

/-! Starts newly handed to a transmitter: a context, or a continuation (R121, R122). -/

namespace Sys2Proof.Machine

open Claims

/-- The start goes on with the transmission on air (R122). -/
theorem isContinuation_iff {e : Env} {q : StartRequest} {r : TxRecord} : isContinuation e q r = true ↔
    r.state = .onAir ∧ ∃ x, r.current = some x ∧ x.column = q.column ∧ x.kHz = q.kHz ∧
      (e.matrix.column x.column).inService = true := by
  simp only [isContinuation, Bool.and_eq_true, beq_iff_eq, Option.any_eq_true, and_assoc]
  exact and_congr_right fun _ => exists_congr fun x => and_congr_right fun _ => and_congr_right fun _ => and_comm

namespace Bench

variable {e : Env} {b : Bench} {q : StartRequest} {x : Transmission}

/-! ### A context (R121) -/

/-- The record whose transmission a start has closed (R121, R152). -/
def closed (r : TxRecord) : TxRecord :=
  match r.current with
  | some x => { r.stopRestrike with
      current := none, openTune := none, radiated := some { column := x.column, kHz := x.kHz, kW := x.kW } }
  | none => r

@[simp] theorem closed_current (r : TxRecord) : (closed r).current = none := by
  unfold closed
  split
  · rfl
  next h => exact h
@[simp] theorem closed_slot (r : TxRecord) : (closed r).slot = r.slot := by unfold closed; split <;> rfl
@[simp] theorem closed_unmuted (r : TxRecord) : (closed r).unmuted = r.unmuted := by unfold closed; split <;> rfl
@[simp] theorem closed_manualHold (r : TxRecord) : (closed r).manualHold = r.manualHold := by unfold closed; split <;> rfl
@[simp] theorem closed_muteConfirmed (r : TxRecord) : (closed r).muteConfirmed = r.muteConfirmed := by
  unfold closed; split <;> rfl
@[simp] theorem closed_reported (r : TxRecord) : (closed r).reported = r.reported := by unfold closed; split <;> rfl

theorem closed_radiated {r : TxRecord} (h : r.current = some x) :
    (closed r).radiated = some { column := x.column, kHz := x.kHz, kW := x.kW } := by
  unfold closed
  rw [h]

theorem createStart_tr : (b.createStart e q).u.tr =
    { closed b.u.tr with state := .changing, context := some (q.context q.origin) } := by
  unfold createStart closed
  cases b.u.tr.current <;> rfl

@[simp] theorem createStart_port : (b.createStart e q).o.port = b.o.port := by
  unfold createStart
  cases b.u.tr.current <;> rfl
@[simp] theorem createStart_log : (b.createStart e q).o.log = b.o.log := by
  unfold createStart
  cases b.u.tr.current <;> rfl
@[simp] theorem createStart_voice : (b.createStart e q).o.voice = b.o.voice := by
  unfold createStart
  cases b.u.tr.current <;> rfl
@[simp] theorem createStart_handed : (b.createStart e q).o.handed = b.o.handed ++ [.claim e.t q.column] := by
  unfold createStart
  cases b.u.tr.current <;> rfl
@[simp] theorem createStart_refl : (b.createStart e q).u.refl = b.u.refl := by
  unfold createStart
  cases b.u.tr.current <;> rfl
theorem createStart_fwd (h : b.u.tr.current = some x) : (b.createStart e q).u.fwd.state = .off := by
  unfold createStart
  rw [h]
  rfl

/-! ### A continuation (R122) -/

/-- The orders of a continuation: the power and the programme as they differ. -/
def continueOrders (e : Env) (q : StartRequest) (x : Transmission) (kW : Nat) : List (Tx × PortOrder) :=
  (if kW = x.kW then [] else [(e.t, .pwr kW)]) ++ if q.programme = x.programme then [] else [(e.t, .tune q.kHz q.programme)]

/-- The transmission that a continuation makes the current one. -/
def continued (e : Env) (q : StartRequest) (kW : Nat) : Transmission :=
  { work := q.work, start := e.reading, column := q.column, kHz := q.kHz, kW := kW, programme := q.programme
    priority := q.priority, reserve := q.reserve, reserveUsed := false, late := false }

/-- The START record of a continuation. -/
def continueEntry (e : Env) (q : StartRequest) (kW : Nat) : LogRecord :=
  logEntry e.reading .start e.t q.work.isNone q.work (some q.column) (some q.kHz) (some kW) .continued

theorem continueOrders_not_mute {kW : Nat} : ∀ o ∈ continueOrders e q x kW, o.2 ≠ .mute := by
  intro o ho
  unfold continueOrders at ho
  rcases List.mem_append.1 ho with ho | ho
  · split at ho
    · exact absurd ho List.not_mem_nil
    · rw [List.mem_singleton.1 ho]; nofun
  · split at ho
    · exact absurd ho List.not_mem_nil
    · rw [List.mem_singleton.1 ho]; nofun

/-- What a continuation leaves of the transmitter and puts out. -/
structure Continues (e : Env) (q : StartRequest) (x : Transmission) (b c : Bench) : Prop where
  record : ∃ open_, c.u.tr = { b.u.tr with
    current := some (continued e q (b.u.tr.desc.powerSent q.kW)), openTune := open_ }
  port : c.o.port = b.o.port ++ continueOrders e q x (b.u.tr.desc.powerSent q.kW)
  log : c.o.log = b.o.log.write (continueEntry e q (b.u.tr.desc.powerSent q.kW))
  voice : c.o.voice = b.o.voice.raise (success e.t q.origin q.column q.kHz)
  handed : c.o.handed = b.o.handed

theorem continue_continues : Continues e q x b (b.continue_ e q x) := by
  unfold continue_
  by_cases hpower : b.u.tr.desc.powerSent q.kW = x.kW
  · by_cases hprogramme : q.programme = x.programme
    · simp only [if_pos hpower, if_pos hprogramme]
      exact ⟨⟨_, rfl⟩, by simp [continueOrders, hpower, hprogramme, changeoverDone], rfl, rfl, rfl⟩
    · simp only [if_pos hpower, if_neg hprogramme]
      exact ⟨⟨_, rfl⟩, by simp [continueOrders, hpower, hprogramme, changeoverDone, order], rfl, rfl, rfl⟩
  · by_cases hprogramme : q.programme = x.programme
    · simp only [if_neg hpower, if_pos hprogramme]
      exact ⟨⟨_, rfl⟩, by simp [continueOrders, hpower, hprogramme, changeoverDone, order], rfl, rfl, rfl⟩
    · simp only [if_neg hpower, if_neg hprogramme]
      exact ⟨⟨_, rfl⟩, by simp [continueOrders, hpower, hprogramme, changeoverDone, order], rfl, rfl, rfl⟩

/-! ### A start newly handed -/

theorem begin_of_continuation (hcurrent : b.u.tr.current = some x) (h : isContinuation e q b.u.tr = true) :
    b.begin_ e q = b.continue_ e q x := by
  unfold begin_
  rw [hcurrent]
  exact if_pos h

theorem begin_of_changeover (h : isContinuation e q b.u.tr = false) : b.begin_ e q = b.createStart e q := by
  unfold begin_
  split
  · exact if_neg (by simp [h])
  · rfl

/-- The transmission that a start replaces is written ended, and its work reported. -/
def replace (e : Env) (why : Detail) (b : Bench) : Bench :=
  match b.u.tr.current with
  | some x => (b.endRecord e why).workEnded e x.work
  | none => b

theorem replace_of_none (h : b.u.tr.current = none) (why : Detail) : b.replace e why = b := by
  unfold replace
  rw [h]

@[simp] theorem replace_u (why : Detail) : (b.replace e why).u = b.u := by
  unfold replace
  split <;> simp
@[simp] theorem replace_port (why : Detail) : (b.replace e why).o.port = b.o.port := by
  unfold replace
  split <;> simp
@[simp] theorem replace_voice (why : Detail) : (b.replace e why).o.voice = b.o.voice := by
  unfold replace
  split <;> simp
theorem replace_log (h : b.u.tr.current = some x) (why : Detail) :
    (b.replace e why).o.log = b.o.log.write (endEntry e x why) := by
  unfold replace
  rw [h]
  exact (workEnded_log ..).trans (endRecord_log _ _ h why)
theorem replace_work (h : b.u.tr.current = some x) {w : SchedRef} (hw : x.work = some w) (why : Detail) :
    .scheduleWorkEnded e.t w ∈ (b.replace e why).o.handed := by
  unfold replace
  rw [h]
  exact (mem_workEnded_iff ..).2 (.inr ⟨w, hw, rfl⟩)

theorem manualStart_eq : b.manualStart q e = ((b.tr fun r => { r with manualHold := true }).replace e .superseded).begin_ e q := rfl

end Bench

end Sys2Proof.Machine

/-! MANUAL_TUNE (R137): its tests, the changeover that it begins and its continuation of a transmission. -/

namespace Sys2Proof.Machine

open Claims

/-! ### The tests (R137) -/

/-- The start that MANUAL_TUNE asks for. -/
def TuneOrder.request (o : TuneOrder) : StartRequest :=
  { work := none, late := false, column := col o.column, reserve := none, kHz := o.kHz, kW := o.kW
    programme := o.programme, priority := 3 }

/-- The tests of MANUAL_TUNE after its length, each with the reason it refuses with. -/
def State.tuneTests (s : State) (o : TuneOrder) : List (Bool × Reason) :=
  let r := s.tr (tx o.transmitter)
  [(decide (11 < o.transmitter) || decide (35 < o.column), .outOfRange), (o.override.isNone, .badField),
    (!onRaster o.kHz || !r.desc.fits o.kHz o.programme || !(s.matrix.column (col o.column)).desc.permits o.kHz, .badField),
    (decide (o.kW < r.desc.step) || decide (r.desc.rated < o.kW), .outOfRange),
    (r.state != .ready && r.state != .onAir, .wrongState),
    ((r.current.any fun x => x.work.isSome) && o.override == some false, .scheduleOwned),
    (staleColumn o.expected (s.matrix.closedIn (tx o.transmitter)).head?, .stale)]

/-- The state that an accepted MANUAL_TUNE leaves. -/
def State.tuned (s : State) (h : Head) (o : TuneOrder) : State :=
  (s.taken.csq (tx o.transmitter) (Bench.manualStart o.request)).answer 0x50 h.tag (.accepted .empty)

section Requests

variable {h : Head} {s : State} {o : TuneOrder}

theorem exec_manualTune (hs : Claims.serves s) (hsized : h.sized = true) :
    exec (.manualTune h o) s = .next (s.tested 0x50 h (s.tuneTests o) (s.tuned h o)) :=
  show execManualTune h o s = _ from State.host_sized hs hsized

/-- A request whose reply is an acceptance has passed its tests. -/
theorem State.tested_of_accepted {kind : Byte} {ts : List (Bool × Reason)} {t : State} {a : Answer}
    (hreply : (s.tested kind h ts t).link.reply = some { kind := kind, tag := h.tag, verdict := .accepted a }) :
    s.tested kind h ts t = t ∧ ∀ p ∈ ts, p.1 = false := by
  induction ts with
  | nil => exact ⟨rfl, fun p hp => absurd hp List.not_mem_nil⟩
  | cons p ts ih =>
    obtain ⟨fails, r⟩ := p
    cases fails with
    | true => cases hreply
    | false =>
      obtain ⟨heq, hpass⟩ := ih hreply
      exact ⟨heq, List.forall_mem_cons.2 ⟨rfl, hpass⟩⟩

theorem manualTune_accepted {t : State} (hs : Claims.serves s) (hexec : exec (.manualTune h o) s = .next t)
    (hreply : t.link.reply = some { kind := 0x50, tag := h.tag, verdict := .accepted .empty }) : t = s.tuned h o := by
  cases hsized : h.sized with
  | false =>
    rw [exec_short (c := .manualTune h o) hs rfl nofun hsized] at hexec
    cases hexec
    cases hreply
  | true =>
    rw [exec_manualTune hs hsized] at hexec
    cases hexec
    exact (State.tested_of_accepted hreply).1

end Requests

theorem staleColumn_iff (x : Expected) (closed : Option Col) : staleColumn x closed = true ↔
    (x = .noColumn ∧ closed ≠ none) ∨ ∃ c, x = .column c ∧ ∀ d, closed = some d → d.val ≠ c := by
  cases x <;> cases closed <;> simp [staleColumn]

theorem manualTuneDecided : Claims.ManualTuneDecided := by
  intro h o s hs i u r inRange fits power state owned closed stale
  have hrange : (decide (11 < o.transmitter) || decide (35 < o.column)) = false ↔ inRange := by
    simp [inRange]
  have hfits : (!onRaster o.kHz || !r.desc.fits o.kHz o.programme || !(s.matrix.column (col o.column)).desc.permits o.kHz) =
      false ↔ fits := by
    simp [fits, onRaster, TxDesc.fits, and_assoc]
  have hpower : (decide (o.kW < r.desc.step) || decide (r.desc.rated < o.kW)) = false ↔ power := by
    simp [power]
  have hstate : (r.state != .ready && r.state != .onAir) = false ↔ state := by
    simp [state, or_iff_not_imp_left]
  have howned : ((r.current.any fun x => x.work.isSome) && o.override == some false) = true ↔ owned := by
    simp [owned, Option.any_eq_true]
  have hstale : staleColumn o.expected closed = true ↔ stale := staleColumn_iff ..
  have hexec : h.sized = true → exec i s = _ := fun hsized => exec_manualTune (o := o) hs hsized
  simp only [State.tuneTests, State.tested_cons, State.tested_nil] at hexec
  have hover : o.override.isSome = true → o.override.isNone = false := fun h => by simpa using h
  have passed : ∀ {b : Bool}, b = false → ¬ b = true := ne_true_of_eq_false
  have failed : ∀ {b : Bool} {p : Prop}, (b = false ↔ p) → ¬ p → b = true := fun hb hp => Bool.of_not_eq_false (mt hb.1 hp)
  have idle : ∀ {b : Bool} {p : Prop}, (b = true ↔ p) → ¬ p → ¬ b = true := fun hb hp => mt hb.1 hp
  refine ⟨fun hshort => exec_short (c := i) hs rfl nofun hshort, fun hsized hout => ?_, fun hsized hin hbad => ?_,
    fun hsized hin ho hf hp => ?_, fun hsized hin ho hf hp hst => ?_, fun hsized hin ho hf hp hst hown => ?_,
    fun hsized hin ho hf hp hst hown hold => ?_, fun hsized hin ho hf hp hready hnone hold => ?_⟩
  · rw [hexec hsized, if_pos (failed hrange hout)]
  · rw [hexec hsized, if_neg (passed (hrange.2 hin))]
    by_cases hnone : o.override = none
    · rw [if_pos (by rw [hnone]; rfl)]
    · rw [if_neg (by simpa using hnone), if_pos (failed hfits (hbad.resolve_left hnone))]
  · rw [hexec hsized, if_neg (passed (hrange.2 hin)), if_neg (passed (hover ho)), if_neg (passed (hfits.2 hf)),
      if_pos (failed hpower hp)]
  · rw [hexec hsized, if_neg (passed (hrange.2 hin)), if_neg (passed (hover ho)), if_neg (passed (hfits.2 hf)),
      if_neg (passed (hpower.2 hp)), if_pos (failed hstate hst)]
  · rw [hexec hsized, if_neg (passed (hrange.2 hin)), if_neg (passed (hover ho)), if_neg (passed (hfits.2 hf)),
      if_neg (passed (hpower.2 hp)), if_neg (passed (hstate.2 hst)), if_pos (howned.2 hown)]
  · rw [hexec hsized, if_neg (passed (hrange.2 hin)), if_neg (passed (hover ho)), if_neg (passed (hfits.2 hf)),
      if_neg (passed (hpower.2 hp)), if_neg (passed (hstate.2 hst)), if_neg (idle howned hown), if_pos (hstale.2 hold)]
  · have hown : ¬ owned := fun ⟨⟨x, hx, _⟩, _⟩ => nomatch hnone.symm.trans hx
    have hdone := hexec hsized
    rw [if_neg (passed (hrange.2 hin)), if_neg (passed (hover ho)), if_neg (passed (hfits.2 hf)),
      if_neg (passed (hpower.2 hp)), if_neg (passed (hstate.2 (.inl hready))), if_neg (idle howned hown),
      if_neg (idle hstale hold)] at hdone
    have hready : (s.tr u).state = .ready := hready
    have hnone : (s.tr u).current = none := hnone
    have hstart : (s.bench u).manualStart o.request (s.env u) =
        ((s.bench u).tr fun r => { r with manualHold := true }).createStart (s.env u) o.request := by
      rw [Bench.manualStart_eq, Bench.replace_of_none (by simpa using hnone), Bench.begin_of_changeover]
      simp [isContinuation, hready]
    refine ⟨_, o.request.context .manual, hdone, State.answer_reply .., ?_⟩
    rw [State.tuned, State.answer_csq_tr, State.answer_csq_out, hstart]
    refine ⟨by simp [Bench.createStart_tr], by simp [Bench.createStart_tr], by simp [Bench.createStart_tr]; rfl, rfl, rfl, rfl,
      rfl, rfl, rfl, rfl, ?_⟩
    simp only [Bench.mem_reportRow_iff _ _ (reporting_claim ..), Bench.createStart_handed]
    exact List.mem_append_right _ (List.mem_singleton.2 rfl)

/-! ### A transmission on the air (R121, R122) -/

theorem continuationKeepsTheCarrier : Claims.ContinuationKeepsTheCarrier := by
  intro h o x s t hs u r hstate hcurrent hcolumn hkHz hservice hexec hreply kW orders
  obtain rfl := manualTune_accepted hs hexec hreply
  let b := (s.bench u).tr fun r => { r with manualHold := true }
  have hb : b.u.tr.current = some x := hcurrent
  have hcontinues : isContinuation (s.env u) o.request (b.replace (s.env u) .superseded).u.tr = true := by
    rw [Bench.replace_u]
    exact isContinuation_iff.2 ⟨hstate, x, hb, hcolumn, hkHz, hservice⟩
  have hstart : (s.bench u).manualStart o.request (s.env u) =
      (b.replace (s.env u) .superseded).continue_ (s.env u) o.request x := by
    rw [Bench.manualStart_eq, Bench.begin_of_continuation (by rw [Bench.replace_u]; exact hb) hcontinues]
  obtain ⟨⟨tune, htr⟩, hport, hlog, hvoice, hhanded⟩ :=
    Bench.continue_continues (e := s.env u) (q := o.request) (x := x) (b := b.replace (s.env u) .superseded)
  rw [Bench.replace_u] at htr hport hlog
  have hout : (s.tuned h o).out = _ := State.answer_csq_out ..
  rw [hstart] at hout
  have htuned : (s.tuned h o).tr u = _ := State.answer_csq_tr ..
  rw [hstart] at htuned
  refine ⟨?_, ?_, ?_, ?_, ⟨Bench.continued (s.env u) o.request kW, ?_, rfl, hcolumn.symm, hkHz.symm, rfl, rfl⟩,
    raises_of_voice ?_, fun w hw => ?_, Bench.endEntry (s.env u) x .superseded, Bench.continueEntry (s.env u) o.request kW,
    ?_, rfl, rfl, rfl, rfl, rfl, rfl, rfl, rfl, rfl, rfl⟩
  · simp [htuned, htr, b, r, hstate]
  · simp [htuned, htr, b, r]
  · simp [htuned, htr, b, r]
  · simp [hout, hport, b]; rfl
  · simp [htuned, htr]; rfl
  · simp [hout, hvoice, b]; rfl
  · rw [hout, Bench.mem_reportRow_iff _ _ (reporting_scheduleWorkEnded ..), hhanded]
    exact Bench.replace_work hb hw _
  · simp [Claims.logs, hout, hlog, Bench.replace_log hb, b]; rfl

theorem changeoverReplacesTheTransmission : Claims.ChangeoverReplacesTheTransmission := by
  intro h o x s t hs u r hstate hcurrent hother hexec hreply
  obtain rfl := manualTune_accepted hs hexec hreply
  let b := (s.bench u).tr fun r => { r with manualHold := true }
  have hb : b.u.tr.current = some x := hcurrent
  have hchanges : isContinuation (s.env u) o.request (b.replace (s.env u) .superseded).u.tr = false := by
    rw [Bench.replace_u, ← Bool.not_eq_true, isContinuation_iff]
    rintro ⟨-, y, hy, hgoes⟩
    cases hb.symm.trans hy
    exact hother hgoes
  have hstart : (s.bench u).manualStart o.request (s.env u) =
      (b.replace (s.env u) .superseded).createStart (s.env u) o.request := by
    rw [Bench.manualStart_eq, Bench.begin_of_changeover hchanges]
  have hout : (s.tuned h o).out = _ := State.answer_csq_out ..
  rw [hstart] at hout
  have htuned : (s.tuned h o).stations.get u = _ := State.answer_csq_station ..
  rw [hstart] at htuned
  have htr : (s.tuned h o).tr u = _ := congrArg Station.tr htuned
  refine ⟨?_, ?_, ?_, ?_, ?_, ?_, ?_, ?_, ?_, fun hconfirmed => ?_, raises_of_voice ?_, fun w hw => ?_,
    ⟨o.request.context .manual, ?_, rfl, rfl, rfl, rfl, rfl, rfl, rfl, rfl⟩, Bench.endEntry (s.env u) x .superseded,
    ?_, rfl, rfl, rfl, rfl⟩
  · simp [htr, Bench.createStart_tr]
  · simp [htr, Bench.createStart_tr]
  · simp [htr, Bench.createStart_tr, b, r]
  · simp [htr, Bench.createStart_tr, b]
  · simp [hout, b]
  · rw [hout, Bench.mem_reportRow_iff _ _ (reporting_claim ..), Bench.createStart_handed]
    exact List.mem_append_right _ (List.mem_singleton.2 rfl)
  · rw [htuned, Bench.reportRow_fwd]
    exact Bench.createStart_fwd (by rw [Bench.replace_u]; exact hb)
  · simp [htuned, b]
  · simp [htr, Bench.createStart_tr, Bench.closed_radiated hb]
  · have hquiet : (s.tr u).muteConfirmed = false := hconfirmed
    rw [htr, Bench.reportRow_record, Bench.createStart_tr]
    simp [TxRecord.toldOf, TxRecord.condition, StartRequest.context, TxState.off, hquiet, b, r]
  · simp [hout, b]
  · rw [hout, Bench.mem_reportRow_iff _ _ (reporting_scheduleWorkEnded ..), Bench.createStart_handed]
    exact List.mem_append_left _ (Bench.replace_work hb hw _)
  · simp [htr, Bench.createStart_tr]; rfl
  · simp [Claims.logs, hout, Bench.replace_log hb, b]

/-- Settles O41. -/
theorem manualTuneTaken : Obligations.ManualTuneTaken :=
  ⟨manualTuneDecided, continuationKeepsTheCarrier, changeoverReplacesTheTransmission⟩

end Sys2Proof.Machine

/-! The season switch and the missed switch (R88-R90). -/

namespace Sys2Proof.Machine

open Claims

/-! ### Making a bank ACTIVE (R34, R88) -/

theorem Store.activate_activation (k : Store) (b : Bank) (retire : Bool) :
    ((k.activate b retire).bank b).read.activation = (k.bank (otherBank b)).read.activation + 1 := by
  unfold Store.activate
  dsimp only
  split
  · rw [Store.bank_writeCell, if_neg (otherBank_ne b).symm, Store.bank_writeCell, if_pos rfl]
    rfl
  · rw [Store.bank_writeCell, if_pos rfl]
    rfl

/-- The bank that a switch takes the place of is retired: it was ACTIVE, or its own effective start has come. -/
def State.retires (s : State) (now : Nat) (o : Bank) : Bool := (s.store.bank o).state == .active || s.eligible now o

/-- The state in which a switch has made its bank ACTIVE, with nothing done yet about the schedule's work. -/
def State.activated (s : State) (now : Nat) (b : Bank) : State :=
  { s with
    store := s.store.activate b (s.retires now (otherBank b))
    out := s.out.raise (seasonSwitched s b)
    engine := { s.engine with fired := Vector.replicate 512 none } }

theorem State.makeSwitch_of_halted {s : State} (h : s.engine.state = .halted) (now : Nat) (b : Bank) :
    s.makeSwitch now b = (s.activated now b).onEach (Bench.release (some (otherBank b))) := if_pos h

theorem State.makeSwitch_of_running {s : State} (h : s.engine.state ≠ .halted) (now : Nat) (b : Bank) :
    s.makeSwitch now b =
      (allTx.foldl (State.carry (otherBank b)) (s.activated now b)).missEach (fun w => w.bank == otherBank b) .season :=
  if_neg h

theorem State.activated_active (s : State) (now : Nat) (b : Bank) :
    ((s.activated now b).store.bank b).state = .active := Store.activate_bank ..

theorem State.activated_other (s : State) (now : Nat) (b : Bank) : ((s.activated now b).store.bank (otherBank b)).state =
    if s.retires now (otherBank b) then .retired else (s.store.bank (otherBank b)).state := Store.activate_other ..

theorem State.activated_fired (s : State) (now : Nat) (b : Bank) (n : Fin 512) :
    (s.activated now b).engine.fired.get n = none := Vector.getElem_replicate _

/-! ### Which bank a boundary makes ACTIVE (R88) -/

theorem seasonChosen : Claims.SeasonChosen := by
  intro s now comes
  have heligible : ∀ k, s.eligible now k = true ↔ ∃ x, comes k x := fun k => by
    rw [State.eligible_iff, ← exists_and_left]
  refine ⟨fun x y hx hy => ?_, fun k x hk hother => ?_, fun hnone => ?_⟩
  · unfold State.switchTo
    rw [if_pos ⟨(heligible 0).2 ⟨x, hx⟩, (heligible 1).2 ⟨y, hy⟩⟩, hx.2.1, hy.2.1]
    show (if y < x then some 0 else some 1) = some (if y < x then 0 else 1)
    split <;> rfl
  · have hk : s.eligible now k = true := (heligible k).2 ⟨x, hk⟩
    have hother : ¬ s.eligible now (otherBank k) = true := fun h => by
      obtain ⟨y, hy⟩ := (heligible _).1 h
      exact hother y hy
    unfold State.switchTo
    by_cases h0 : k = 0
    · subst h0
      rw [if_neg fun h => hother h.2, if_pos hk]
    · obtain rfl : k = 1 := eq_otherBank (b := 0) h0
      have hfirst : ¬ s.eligible now 0 = true := hother
      rw [if_neg fun h => hfirst h.1, if_neg hfirst, if_pos hk]
  · exact State.switchTo_of_no_valid fun k => Bool.eq_false_iff.2 fun h => by
      obtain ⟨x, hx⟩ := (heligible k).1 h
      exact hnone k x hx

/-! ### The missed switch (R90) -/

/-- The bank's effective start passes while it is on its way to VALID, or rejected. -/
def State.missesSeason (s : State) (previous now : Nat) (k : Bank) : Prop :=
  (∃ x, (s.store.bank k).effective = some x ∧ previous < x ∧ x ≤ now) ∧
    ((s.store.bank k).state = .opened ∨ (s.store.bank k).state = .closed ∨ (s.store.bank k).state = .checking ∨
      (s.store.bank k).state = .rejected)

theorem State.missSeason_of_missed {s : State} {previous now : Nat} {k : Bank} (h : s.missesSeason previous now k) :
    State.missSeason previous now s k = event s .seasonMissed (.bank k) (b1 (s.store.bank k).state.code) := by
  unfold State.missSeason
  refine if_pos ?_
  obtain ⟨⟨x, hx, hpass⟩, hstate⟩ := h
  simp only [Bool.and_eq_true, Option.any_eq_true, decide_eq_true_eq, Bool.or_eq_true, beq_iff_eq, or_assoc]
  exact ⟨⟨x, hx, hpass⟩, hstate⟩

theorem State.missSeason_of_not {s : State} {previous now : Nat} {k : Bank} (h : ¬ s.missesSeason previous now k) :
    State.missSeason previous now s k = s :=
  State.missSeason_of_kept fun x hx hstate hpass => h ⟨⟨x, hx, hpass⟩, hstate⟩

/-- The missed switch raises its event and changes nothing else. -/
theorem State.missSeason_frame (previous now : Nat) (s : State) (k : Bank) :
    { State.missSeason previous now s k with out := s.out } = s := by
  by_cases h : s.missesSeason previous now k
  · rw [State.missSeason_of_missed h]
    rfl
  · rw [State.missSeason_of_not h]

theorem State.missSeason_store (previous now : Nat) (s : State) (k : Bank) :
    (State.missSeason previous now s k).store = s.store := by
  have h := congrArg State.store (State.missSeason_frame previous now s k)
  exact h

theorem State.missSeason_engine (previous now : Nat) (s : State) (k : Bank) :
    (State.missSeason previous now s k).engine = s.engine := by
  have h := congrArg State.engine (State.missSeason_frame previous now s k)
  exact h

theorem State.missSeason_stations (previous now : Nat) (s : State) (k : Bank) :
    (State.missSeason previous now s k).stations = s.stations := by
  have h := congrArg State.stations (State.missSeason_frame previous now s k)
  exact h

/-- An ACTIVE bank misses nothing; any other bank raises at most SEASON_MISSED. -/
theorem State.missSeason_voice (previous now : Nat) (s : State) (k : Bank) : ∃ es : List Event,
    (State.missSeason previous now s k).out.voice = es.foldl Outbox.raise s.out.voice ∧
    ∀ e ∈ es, e.kind = .seasonMissed ∧ e.subject = .bank k ∧ (s.store.bank k).state ≠ .active := by
  by_cases h : s.missesSeason previous now k
  · refine ⟨[{ kind := .seasonMissed, subject := .bank k, detail := b1 (s.store.bank k).state.code }],
      congrArg (fun x : State => x.out.voice) (State.missSeason_of_missed h), fun e he => ?_⟩
    cases List.mem_singleton.1 he
    refine ⟨rfl, rfl, fun hactive => ?_⟩
    obtain ⟨-, hstate⟩ := h
    simp [hactive] at hstate
  · exact ⟨[], congrArg (fun x : State => x.out.voice) (State.missSeason_of_not h), fun e he => absurd he List.not_mem_nil⟩

theorem State.seasonStep_of_switch {s : State} {previous now : Nat} {k : Bank} (h : s.switchTo now = some k) :
    s.seasonStep previous now =
      State.missSeason previous now (State.missSeason previous now (s.makeSwitch now k) 0) 1 := by
  unfold State.seasonStep
  rw [h]
  rfl

theorem State.seasonStep_of_none {s : State} {previous now : Nat} (h : s.switchTo now = none) :
    s.seasonStep previous now = State.missSeason previous now (State.missSeason previous now s 0) 1 := by
  unfold State.seasonStep
  rw [h]
  rfl

/-- A boundary that serves a running engine serves it after the season's step. -/
theorem State.boundary_of_running {s : State} {b : Boundary} {t : State}
    (ht : (if b.clockSet then s.seasonStep (b.previous.getD (b.now - 1)) b.now else s) = t) (h : t.engine.state ≠ .halted) :
    s.boundary b = t.serveBoundary b (b.clockSet && (s.switchTo b.now).isSome) := by
  unfold State.boundary
  dsimp only
  rw [ht, if_neg h]

theorem State.boundary_of_halted {s : State} {b : Boundary} {t : State}
    (ht : (if b.clockSet then s.seasonStep (b.previous.getD (b.now - 1)) b.now else s) = t) (h : t.engine.state = .halted)
    (hidle : t.engine.armed = false ∨ b.clockSet = false) : s.boundary b = t := by
  unfold State.boundary
  dsimp only
  rw [ht, if_pos h, if_neg]
  rintro ⟨harmed, hset, -⟩
  rcases hidle with hidle | hidle
  · rw [hidle] at harmed; cases harmed
  · rw [hidle] at hset; cases hset

/-! ### A halted engine (R88, R90) -/

theorem halted_switches (b : Boundary) (k : Bank) (x : Nat) (s : State) (hlive : live s) (hdone : s.boot.phase = .done)
    (hset : b.clockSet = true) (hhalted : s.engine.state = .halted) (harmed : s.engine.armed = false)
    (hvalid : (s.store.bank k).state = .valid) (hx : (s.store.bank k).effective = some x) (hnow : x ≤ b.now)
    (hother : (s.store.bank (otherBank k)).state ≠ .valid) :
    ∃ t, exec (.minuteBoundary b) s = .next t ∧ (t.store.bank k).state = .active ∧
      (t.store.bank k).read.activation = (s.store.bank (otherBank k)).read.activation + 1 ∧
      (t.store.bank (otherBank k)).state =
        (if (s.store.bank (otherBank k)).state = .active then .retired else (s.store.bank (otherBank k)).state) ∧
      (∀ n, t.engine.fired.get n = none) ∧
      (∃ es, raises s t (seasonSwitched s k :: es) ∧
        ∀ e ∈ es, e.kind = .seasonMissed ∧ e.subject = .bank (otherBank k)) ∧
      ∀ u w, (t.tr u).work = some w → w.bank ≠ otherBank k := by
  let previous := b.previous.getD (b.now - 1)
  let m := s.makeSwitch b.now k
  let t := State.missSeason previous b.now (State.missSeason previous b.now m 0) 1
  have hswitch : s.switchTo b.now = some k :=
    (seasonChosen s b.now).2.1 k x ⟨hvalid, hx, hnow⟩ fun y hy => hother hy.1
  have hm : m = (s.activated b.now k).onEach (Bench.release (some (otherBank k))) := State.makeSwitch_of_halted hhalted ..
  have hstore : t.store = (s.activated b.now k).store := by
    rw [State.missSeason_store, State.missSeason_store, hm, State.onEach_store]
  have hengine : t.engine = (s.activated b.now k).engine := by
    rw [State.missSeason_engine, State.missSeason_engine, hm, State.onEach_engine]
  have htr : ∀ u, t.tr u = (s.tr u).freed (some (otherBank k)) := fun u => by
    have hstations : t.stations = m.stations := by rw [State.missSeason_stations, State.missSeason_stations]
    have hu : t.tr u = m.tr u := congrArg (fun v => (v.get u).tr) hstations
    rw [hu, hm]
    exact State.releaseEach_tr (s.activated b.now k) _ u
  have hboundary : s.boundary b = t := State.boundary_of_halted (by rw [if_pos hset, State.seasonStep_of_switch hswitch])
    (by rw [hengine]; exact hhalted) (.inl (by rw [hengine]; exact harmed))
  have hretires : s.retires b.now (otherBank k) = ((s.store.bank (otherBank k)).state == .active) := by
    have hnot : s.eligible b.now (otherBank k) = false :=
      Bool.eq_false_iff.2 fun h => hother ((s.eligible_iff ..).1 h).1
    rw [State.retires, hnot, Bool.or_false]
  obtain ⟨es, hes, hall⟩ := State.missSeason_voice previous b.now m 0
  obtain ⟨es', hes', hall'⟩ := State.missSeason_voice previous b.now (State.missSeason previous b.now m 0) 1
  refine ⟨t, (exec_minuteBoundary hlive hdone b).trans (congrArg _ hboundary), ?_, ?_, ?_, fun n => ?_,
    ⟨es ++ es', raises_of_voice ?_, fun e he => ?_⟩, fun u w hw => ?_⟩
  · rw [hstore]
    exact s.activated_active b.now k
  · rw [hstore]
    exact Store.activate_activation ..
  · rw [hstore, State.activated_other, hretires]
    simp only [beq_iff_eq]
  · rw [hengine]
    exact s.activated_fired b.now k n
  · have hout : m.out.voice = s.out.voice.raise (seasonSwitched s k) := by
      rw [hm, State.releaseEach_out]
      rfl
    rw [hes', hes, hout, List.foldl_cons, List.foldl_append]
  · have hactive : (m.store.bank k).state = .active := by
      rw [hm, State.onEach_store]
      exact s.activated_active b.now k
    rcases List.mem_append.1 he with he | he
    · obtain ⟨hkind, hsubject, hstate⟩ := hall e he
      exact ⟨hkind, hsubject.trans (congrArg _ (eq_otherBank fun h => hstate (h ▸ hactive)))⟩
    · obtain ⟨hkind, hsubject, hstate⟩ := hall' e he
      rw [State.missSeason_store] at hstate
      exact ⟨hkind, hsubject.trans (congrArg _ (eq_otherBank fun h => hstate (h ▸ hactive)))⟩
  · rw [htr, TxRecord.freed_work] at hw
    split at hw
    next hv =>
      cases hw
      exact freeWork_bank hv
    · exact freeWork_bank hw

theorem haltedEngineSwitches : Claims.HaltedEngineSwitches := by
  refine ⟨halted_switches, fun b s hlive hdone hset hhalted => ?_, fun b s hlive hphase => ?_⟩
  · rw [exec_minuteBoundary hlive hdone, State.boundary_of_halted (t := s) (by rw [hset]; rfl) hhalted (.inr hset)]
  · show execMinuteBoundary b s = _
    rw [execMinuteBoundary, State.take_of_live hlive, if_neg hphase]

theorem seasonMissed : Claims.SeasonMissed := by
  intro b k x s hlive hdone hset hhalted harmed hx hvalid herased state
  have hswitch : s.switchTo b.now = none := State.switchTo_of_no_valid fun j => Bool.eq_false_iff.2 fun h => by
    have hj := ((s.eligible_iff ..).1 h).1
    by_cases hjk : j = k
    · exact hvalid (hjk ▸ hj)
    · rw [eq_otherBank hjk, herased] at hj
      cases hj
  let previous := b.previous.getD (b.now - 1)
  have hquiet : ∀ t : State, t.store = s.store → State.missSeason previous b.now t (otherBank k) = t := fun t ht =>
    State.missSeason_of_not fun hmiss => by
      obtain ⟨-, hstate⟩ := hmiss
      rw [ht, herased] at hstate
      simp at hstate
  have hstep : s.seasonStep previous b.now = State.missSeason previous b.now s k := by
    rw [State.seasonStep_of_none hswitch]
    by_cases h0 : k = 0
    · subst h0
      exact hquiet _ (State.missSeason_store ..)
    · obtain rfl : k = 1 := eq_otherBank (b := 0) h0
      exact congrArg (State.missSeason previous b.now · 1) (hquiet s rfl)
  have hboundary : s.boundary b = State.missSeason previous b.now s k :=
    State.boundary_of_halted (by rw [if_pos hset]; exact hstep) (by rw [State.missSeason_engine]; exact hhalted)
      (.inl (by rw [State.missSeason_engine]; exact harmed))
  rw [exec_minuteBoundary hlive hdone, hboundary]
  refine congrArg _ ?_
  split
  next h => exact State.missSeason_of_missed ⟨⟨x, hx, h.1, h.2.1⟩, h.2.2⟩
  next h =>
    refine State.missSeason_of_not fun hmiss => h ?_
    obtain ⟨⟨y, hy, hlow, hhigh⟩, hstate⟩ := hmiss
    cases hx.symm.trans hy
    exact ⟨hlow, hhigh, hstate⟩

end Sys2Proof.Machine

/-! The season switch of a running engine: the schedule work of the retired bank is carried (R89). -/

namespace Sys2Proof.Machine

open Claims

/-! ### Carrying work (R89) -/

/-- The carried record of a transmitter's work. -/
def carriedRecord (u : Tx) (w : SchedRef) : Carried :=
  { t := u, bank := w.bank, entry := w.entry, day := w.day, endTime := w.windowEnd }

/-- The work of each transmitter named is carried, in turn. -/
def Engine.carryAll (work : Tx → Option SchedRef) (ts : List Tx) (g : Engine) : Engine :=
  ts.foldl (fun g t => match work t with | some w => g.carry t w | none => g) g

namespace Engine

variable {work : Tx → Option SchedRef} {g : Engine} {c : Carried}

theorem carry_frame (g : Engine) (t : Tx) (w : SchedRef) : { g.carry t w with carried := g.carried } = g := by
  unfold carry
  dsimp only
  split <;> rfl

theorem mem_of_carry {t : Tx} {w : SchedRef} (h : c ∈ (g.carry t w).carried) : c ∈ g.carried ∨ c = carriedRecord t w := by
  unfold carry at h
  dsimp only at h
  split at h
  · exact .inl h
  · rcases List.mem_append.1 h with h | h
    · exact .inl (List.mem_of_mem_filter h)
    · exact .inr (List.mem_singleton.1 h)

/-- A record stays when the work of its transmitter is its own. -/
theorem carry_keeps {t : Tx} {w : SchedRef} (h : c ∈ g.carried) (hown : c.t = t → c = carriedRecord t w) :
    c ∈ (g.carry t w).carried := by
  by_cases hct : c.t = t
  · rw [hown hct]
    exact g.carry_record t w
  · exact (g.mem_carry t w c hct).2 h

theorem carryAll_cons (t : Tx) (ts : List Tx) : g.carryAll work (t :: ts) =
    (match work t with | some w => g.carry t w | none => g).carryAll work ts := rfl

theorem carryAll_frame (ts : List Tx) (g : Engine) : { g.carryAll work ts with carried := g.carried } = g := by
  induction ts generalizing g with
  | nil => rfl
  | cons t ts ih =>
    rw [carryAll_cons]
    cases work t with
    | none => exact ih g
    | some w =>
      have hrest := congrArg (fun x : Engine => { x with carried := g.carried }) (ih (g.carry t w))
      exact hrest.trans (g.carry_frame t w)

/-- The records that stay are those of other transmitters, and those of the work carried. -/
theorem carryAll_keeps (ts : List Tx) (h : c ∈ g.carried) (hown : ∀ w, work c.t = some w → c = carriedRecord c.t w) :
    c ∈ (g.carryAll work ts).carried := by
  induction ts generalizing g with
  | nil => exact h
  | cons t ts ih =>
    rw [carryAll_cons]
    cases ht : work t with
    | none => exact ih h
    | some w =>
      refine ih (carry_keeps h ?_)
      rintro rfl
      exact hown w ht

theorem carryAll_records {ts : List Tx} {u : Tx} {w : SchedRef} (hu : u ∈ ts) (hw : work u = some w) :
    carriedRecord u w ∈ (g.carryAll work ts).carried := by
  induction ts generalizing g with
  | nil => exact absurd hu List.not_mem_nil
  | cons t ts ih =>
    rw [carryAll_cons]
    rcases List.mem_cons.1 hu with rfl | hu
    · rw [hw]
      refine carryAll_keeps ts (g.carry_record u w) fun v hv => ?_
      cases hw.symm.trans hv
      rfl
    · exact ih hu

theorem carryAll_nodup (ts : List Tx) (h : (g.carried.map (·.t)).Nodup) :
    ((g.carryAll work ts).carried.map (·.t)).Nodup := by
  induction ts generalizing g with
  | nil => exact h
  | cons t ts ih =>
    rw [carryAll_cons]
    cases work t with
    | none => exact ih h
    | some w => exact ih (g.carry_nodup t w h)

theorem mem_of_carryAll (ts : List Tx) (h : c ∈ (g.carryAll work ts).carried) :
    c ∈ g.carried ∨ ∃ w, work c.t = some w ∧ c = carriedRecord c.t w := by
  induction ts generalizing g with
  | nil => exact .inl h
  | cons t ts ih =>
    rw [carryAll_cons] at h
    cases ht : work t with
    | none => exact ih (by rwa [ht] at h)
    | some w =>
      rw [ht] at h
      rcases ih h with h | h
      · rcases mem_of_carry h with h | rfl
        · exact .inl h
        · exact .inr ⟨w, ht, rfl⟩
      · exact .inr h

end Engine

/-- A transmitter's work of a bank. -/
def State.workOf (s : State) (o : Bank) (u : Tx) : Option SchedRef := (s.tr u).work.filter fun w => w.bank == o

theorem State.workOf_eq_some {s : State} {o : Bank} {u : Tx} {w : SchedRef} :
    s.workOf o u = some w ↔ (s.tr u).work = some w ∧ w.bank = o := by
  simp [State.workOf, Option.filter_eq_some_iff]

theorem State.carry_eq (o : Bank) (s : State) (t : Tx) : State.carry o s t =
    s.onEngine fun g => match s.workOf o t with | some w => g.carry t w | none => g := by
  unfold State.carry State.workOf
  cases hwork : (s.tr t).work with
  | none => rfl
  | some w =>
    by_cases hbank : w.bank = o
    · simp [hbank, Option.filter]
    · simp [hbank, Option.filter]
      rfl

theorem State.foldl_carry (o : Bank) (ts : List Tx) (s : State) :
    ts.foldl (State.carry o) s = s.onEngine (Engine.carryAll (s.workOf o) ts) := by
  induction ts generalizing s with
  | nil => rfl
  | cons t ts ih =>
    rw [List.foldl_cons, ih, State.carry_eq]
    rfl

/-! ### The switch of a running engine (R89) -/

/-- The state after the work of the retired bank is carried. -/
def State.carriedOver (s : State) (now : Nat) (k : Bank) : State :=
  (s.activated now k).onEngine (Engine.carryAll (s.workOf (otherBank k)) allTx)

theorem State.makeSwitch_running {s : State} (h : s.engine.state ≠ .halted) (now : Nat) (k : Bank) :
    s.makeSwitch now k = (s.carriedOver now k).missEach (fun w => w.bank == otherBank k) .season := by
  rw [State.makeSwitch_of_running h, State.foldl_carry]
  rfl

/-- A switch of a running engine leaves the engine but for its Carried List and the Fired Table. -/
theorem State.carriedOver_engine (s : State) (now : Nat) (k : Bank) :
    { (s.carriedOver now k).engine with carried := s.engine.carried, fired := s.engine.fired } = s.engine := by
  have h := Engine.carryAll_frame (work := s.workOf (otherBank k)) allTx (s.activated now k).engine
  exact congrArg (fun g : Engine => { g with fired := s.engine.fired }) h

theorem State.carriedOver_state (s : State) (now : Nat) (k : Bank) :
    (s.carriedOver now k).engine.state = s.engine.state := by
  have h := congrArg Engine.state (s.carriedOver_engine now k)
  exact h

theorem State.carriedOver_fired (s : State) (now : Nat) (k : Bank) (n : Fin 512) :
    (s.carriedOver now k).engine.fired.get n = none := by
  have h := congrArg Engine.fired (Engine.carryAll_frame (work := s.workOf (otherBank k)) allTx (s.activated now k).engine)
  exact (congrArg (·.get n) h).trans (s.activated_fired now k n)

theorem mem_missables {s : State} {p : SchedRef → Bool} {u : Tx} {q : StartRequest} {w : SchedRef} :
    (u, q, w) ∈ s.missables p ↔ (s.tr u).missable p = some (q, w) := by
  simp only [State.missables, List.mem_filterMap, mem_allTx, true_and, Option.map_eq_some_iff, Prod.mk.injEq]
  constructor
  · rintro ⟨v, x, hx, rfl, rfl⟩
    exact hx
  · intro h
    exact ⟨u, (q, w), h, rfl, rfl⟩

theorem switchCarries : Claims.SwitchCarries := by
  intro s now k hruns o t evicted record
  let c := s.carriedOver now k
  have ht : t = c.missEach (fun w => w.bank == o) .season := State.makeSwitch_running hruns now k
  have hstore : t.store = (s.activated now k).store := by rw [ht]; exact State.onEach_store c
  have hengine : t.engine = c.engine := by rw [ht]; exact State.onEach_engine c
  have htr : ∀ u, t.tr u = _ := fun u => (congrArg (fun x : State => x.tr u) ht).trans (c.missEach_tr _ _ u)
  have hmissed : ∀ u q w, (c.tr u).missable (fun w => w.bank == o) = some (q, w) ↔
      (s.tr u).slot = some q ∧ q.work = some w ∧ w.bank = o := fun u q w => by
    rw [TxRecord.missable_eq_some_iff, beq_iff_eq]
    rfl
  have hevicted : ∀ u, ((c.tr u).missable fun w => w.bank == o).isSome = true ↔ evicted u := fun u => by
    simp only [Option.isSome_iff_exists, Prod.exists, hmissed, evicted]
  refine ⟨?_, ?_, ?_, fun n => ?_, fun x hx hown => ?_, fun u w hw hbank => ?_, fun hnodup => ?_, fun x hx => ?_,
    fun u => ⟨?_, ?_, ?_, fun hout => ?_, fun hstays => ?_⟩, ?_,
    (c.missables fun w => w.bank == o).map fun x => missing x.1 .season, raises_of_voice ?_, fun e he => ?_, fun u => ?_⟩
  · rw [hstore]
    exact s.activated_active now k
  · rw [hstore, State.activated_other]
    exact if_congr (by rw [State.retires, Bool.or_eq_true, beq_iff_eq]) rfl rfl
  · rw [hengine]
    exact s.carriedOver_state now k
  · rw [hengine]
    exact s.carriedOver_fired now k n
  · rw [hengine]
    refine Engine.carryAll_keeps allTx hx fun w hw => ?_
    obtain ⟨hwork, hbank⟩ := State.workOf_eq_some.1 hw
    exact hown w hwork hbank
  · rw [hengine]
    exact Engine.carryAll_records (mem_allTx u) (State.workOf_eq_some.2 ⟨hw, hbank⟩)
  · rw [hengine]
    exact Engine.carryAll_nodup allTx hnodup
  · rw [hengine] at hx
    refine (Engine.mem_of_carryAll allTx hx).imp_right ?_
    rintro ⟨w, hw, hrecord⟩
    obtain ⟨hwork, hbank⟩ := State.workOf_eq_some.1 hw
    exact ⟨w, hwork, hbank, hrecord⟩
  · rw [htr]; rfl
  · rw [htr]; rfl
  · rw [htr]; rfl
  · rw [htr]
    exact if_pos ((hevicted u).2 hout)
  · rw [htr]
    exact if_neg (mt (hevicted u).1 hstays)
  · rw [ht]
    exact c.missEach_port _ _
  · rw [ht, State.missEach_voice]
    rfl
  · obtain ⟨x, -, rfl⟩ := List.mem_map.1 he
    exact ⟨rfl, rfl⟩
  · rw [← hevicted u, Option.isSome_iff_exists]
    constructor
    · rintro ⟨⟨q, w⟩, hx⟩
      exact ⟨_, List.mem_map.2 ⟨(u, q, w), mem_missables.2 hx, rfl⟩, rfl⟩
    · rintro ⟨e, he, hsubject⟩
      obtain ⟨⟨v, q, w⟩, hx, rfl⟩ := List.mem_map.1 he
      cases hsubject
      exact ⟨(q, w), mem_missables.1 hx⟩

theorem switchIsServed : Claims.SwitchIsServed := by
  intro b k s hlive hdone hset hruns hswitch previous switched ruled served
  have hstep : (if b.clockSet then s.seasonStep (b.previous.getD (b.now - 1)) b.now else s) = switched := by
    rw [if_pos hset, State.seasonStep_of_switch hswitch]
  have hstate : switched.engine.state ≠ .halted := by
    rw [State.missSeason_engine, State.missSeason_engine, State.makeSwitch_running hruns, State.missEach, State.onEach_engine,
      State.carriedOver_state]
    exact hruns
  rw [exec_minuteBoundary hlive hdone, State.boundary_of_running hstep hstate, hset, hswitch]
  refine congrArg _ ?_
  unfold State.serveBoundary
  cases hkind : b.kind <;> simp only [served, ruled, hkind, Option.isSome_some, Bool.and_self, if_true, reduceCtorEq, or_true,
    and_true]

/-- Settles O39. -/
theorem boundarySwitchesSeason : Obligations.BoundarySwitchesSeason :=
  ⟨haltedEngineSwitches, seasonChosen, seasonMissed, switchCarries, switchIsServed⟩

end Sys2Proof.Machine

/-! The three kinds of reset, and what start-up's first two steps leave (R28, R204-R207). -/

namespace Sys2Proof.Machine

open Claims

/-! ### Events alone -/

/-- Nothing is put out but events. -/
def Outbox.Says (o p : Outbox) : Prop := ∃ es : List Event, p = es.foldl Outbox.raise o

namespace Outbox.Says

variable {o p q : Outbox}

theorem refl (o : Outbox) : Outbox.Says o o := ⟨[], rfl⟩
theorem event (k : EventKind) (x : Subject) (d : List Byte) : Outbox.Says o (o.event k x d) := ⟨[_], rfl⟩

theorem trans (h : Outbox.Says o p) (g : Outbox.Says p q) : Outbox.Says o q := by
  obtain ⟨es, rfl⟩ := h
  obtain ⟨es', rfl⟩ := g
  exact ⟨es ++ es', (List.foldl_append ..).symm⟩

/-- What events leave of the outbox. -/
theorem keeps (h : Outbox.Says o p) : p.handed = o.handed ∧ p.enables = o.enables ∧ p.log = o.log ∧ p.port = o.port ∧
    p.link = o.link := by
  obtain ⟨es, rfl⟩ := h
  induction es generalizing o with
  | nil => exact ⟨rfl, rfl, rfl, rfl, rfl⟩
  | cons e es ih => exact ih (o := o.raise e)

/-- The flags and notices that stood before stand after. -/
theorem grows (h : Outbox.Says o p) :
    (∀ n, n < 8 → o.sources.getLsbD n = true → p.sources.getLsbD n = true) ∧ ∃ es, p.notices = o.notices ++ es := by
  obtain ⟨es, rfl⟩ := h
  induction es generalizing o with
  | nil => exact ⟨fun _ _ hn => hn, [], (List.append_nil _).symm⟩
  | cons e es ih =>
    obtain ⟨hflags, es', hnotices⟩ := ih (o := o.raise e)
    refine ⟨fun n hn hset => hflags n hn ?_, ?_⟩
    · rw [Outbox.raise_sources, setBit]
      simp [hset, hn]
    · have hfirst : ∃ fs, (o.raise e).notices = o.notices ++ fs := by
        unfold Outbox.raise
        dsimp only
        split
        · exact ⟨[e], rfl⟩
        · exact ⟨[], (List.append_nil _).symm⟩
      obtain ⟨fs, hfs⟩ := hfirst
      exact ⟨fs ++ es', by rw [List.foldl_cons, hnotices, hfs, List.append_assoc]⟩

end Outbox.Says

/-! ### The tests of the banks (R46-R48, R16) -/

/-- What the tests of the banks change: the store, with the free values used, and the events raised. -/
structure State.TestsBanks (s t : State) : Prop where
  frame : { t with store := s.store, out := s.out, freeCount := s.freeCount } = s
  events : Outbox.Says s.out t.out

namespace State.TestsBanks

variable {s t u : State}

theorem refl (s : State) : State.TestsBanks s s := ⟨rfl, .refl _⟩

theorem trans (h : State.TestsBanks s t) (g : State.TestsBanks t u) : State.TestsBanks s u :=
  ⟨(congrArg (fun x : State => { x with store := s.store, out := s.out, freeCount := s.freeCount }) g.frame).trans h.frame,
    h.events.trans g.events⟩

theorem mains (h : State.TestsBanks s t) : t.mains = s.mains := by
  have hframe := congrArg State.mains h.frame
  exact hframe

theorem stations (h : State.TestsBanks s t) : t.stations = s.stations := by
  have hframe := congrArg State.stations h.frame
  exact hframe

theorem limits (h : State.TestsBanks s t) : t.limits = s.limits := by
  have hframe := congrArg State.limits h.frame
  exact hframe

theorem protection (h : State.TestsBanks s t) : t.protection = s.protection := by
  have hframe := congrArg State.protection h.frame
  exact hframe

theorem ilu (h : State.TestsBanks s t) : t.ilu = s.ilu := by
  have hframe := congrArg State.ilu h.frame
  exact hframe

theorem onStore (s : State) (f : Store → Store) : State.TestsBanks s (s.onStore f) := ⟨rfl, .refl _⟩

theorem testBank (s : State) (b : Bank) : State.TestsBanks s (s.testBank b) := by
  unfold State.testBank
  dsimp only
  split
  · exact ⟨rfl, .event ..⟩
  · split
    · exact ⟨rfl, .refl _⟩
    · exact ⟨rfl, .refl _⟩

theorem closeValid (s : State) (b : Bank) : State.TestsBanks s (s.closeValid b) := by
  unfold State.closeValid
  split
  · exact ⟨rfl, .event ..⟩
  · exact refl s

theorem compareSerial (s : State) (b : Bank) : State.TestsBanks s (s.compareSerial b) := by
  unfold State.compareSerial
  split
  · exact refl s
  · exact closeValid s b

theorem checkBanks (s : State) : State.TestsBanks s s.checkBanks :=
  ((((testBank s 0).trans (testBank _ 1)).trans (onStore _ _)).trans (compareSerial _ 0)).trans (compareSerial _ 1)

end State.TestsBanks

/-! ### Start-up's first steps (R204, R207) -/

/-- The settings that start-up loads. -/
def State.block (s : State) : Settings := s.store.settings.getD Settings.default

/-- What the loading of the settings leaves, block by block (R204). -/
structure State.Loads (s t : State) : Prop where
  pending : t.pending = s.pending
  link : t.link = s.link
  check : t.check = s.check
  engine : t.engine = s.engine
  mains : t.mains = s.mains
  boot : t.boot = s.boot
  freeCount : t.freeCount = s.freeCount
  matrix : t.matrix = Matrix.reset s.block
  stations : t.stations = stationsReset s.block
  limits : t.limits = s.block.limits
  protection : t.protection = s.block.protection
  ilu : t.ilu = Interlocks.reset s.block
  store : t.store = { s.store with serial := s.block.serial, autorun := s.block.autorun, warmAdopt := s.block.warmAdopt }
  clock : { t.clock with pulse := s.clock.pulse, watch := s.clock.watch } = s.clock
  events : Outbox.Says { s.out with enables := s.block.enables } t.out

theorem State.loadSettings_loads (s : State) : State.Loads s s.loadSettings := by
  unfold State.loadSettings
  dsimp only
  split
  · split
    · exact ⟨rfl, rfl, rfl, rfl, rfl, rfl, rfl, rfl, rfl, rfl, rfl, rfl, rfl, rfl, .event ..⟩
    · exact ⟨rfl, rfl, rfl, rfl, rfl, rfl, rfl, rfl, rfl, rfl, rfl, rfl, rfl, rfl, .refl _⟩
  · split
    · exact ⟨rfl, rfl, rfl, rfl, rfl, rfl, rfl, rfl, rfl, rfl, rfl, rfl, rfl, rfl, .event ..⟩
    · exact ⟨rfl, rfl, rfl, rfl, rfl, rfl, rfl, rfl, rfl, rfl, rfl, rfl, rfl, rfl, .refl _⟩

/-- What start-up begins with: the settings in force, and the modules polled (R204, R207). -/
structure State.Begins (s t : State) : Prop where
  pending : t.pending = s.pending
  link : t.link = s.link
  check : t.check = s.check
  engine : t.engine = s.engine
  mains : t.mains = s.mains
  boot : t.boot = { s.boot with phase := .table, poll := some (Timer.start 100) }
  matrix : t.matrix = Matrix.reset s.block
  stations : t.stations = stationsReset s.block
  limits : t.limits = s.block.limits
  protection : t.protection = s.block.protection
  ilu : t.ilu = Interlocks.reset s.block
  op : t.store.op = s.store.op
  clock : { t.clock with pulse := s.clock.pulse, watch := s.clock.watch } = s.clock
  events : Outbox.Says { s.out with enables := s.block.enables } { t.out with link := s.out.link }
  polls : t.out.link = s.out.link ++ [.poll 0, .poll 1, .poll 2, .poll 3, .poll 4, .poll 5]

theorem State.beginStartup_begins (s : State) : State.Begins s s.beginStartup := by
  have hload := s.loadSettings_loads
  have htests := State.TestsBanks.checkBanks s.loadSettings
  have hkeeps := State.Tests.checkBanks (.refl s.loadSettings)
  have hop : s.loadSettings.store.op = s.store.op := by rw [hload.store]
  rw [s.beginStartup_eq]
  generalize s.loadSettings.checkBanks = t at htests hkeeps
  have hevents := hload.events.trans htests.events
  obtain ⟨-, -, -, -, hlink⟩ := hevents.keeps
  have hlink : t.out.link = s.out.link := hlink
  have hout : { t.pollsTable.out with link := s.out.link } = t.out := by
    rw [← hlink]
    rfl
  refine ⟨hkeeps.pending.trans hload.pending, hkeeps.link.trans hload.link, hkeeps.check.trans hload.check,
    hkeeps.engine.trans hload.engine, htests.mains.trans hload.mains, ?_, hkeeps.matrix.trans hload.matrix,
    htests.stations.trans hload.stations, htests.limits.trans hload.limits, htests.protection.trans hload.protection,
    htests.ilu.trans hload.ilu, hkeeps.op.trans hop, ?_, hout ▸ hevents, ?_⟩
  · show { t.boot with phase := .table, poll := some (Timer.start Config.startupPollTicks) } = _
    rw [hkeeps.boot, hload.boot]
    rfl
  · show { t.clock with pulse := s.clock.pulse, watch := s.clock.watch } = _
    rw [hkeeps.clock]
    exact hload.clock
  · show t.out.link ++ pollAll = _
    rw [hlink]
    rfl

end Sys2Proof.Machine

/-! POWER_ON, the reset line and RESTART (R205, R206, R28). -/

namespace Sys2Proof.Machine

open Claims

/-! ### What a reset leaves of the settings block (R46) -/

theorem Store.cutCells_settings (begun : Bool) (done : Nat) (ws : List (Bank × StateCell)) (k : Store) :
    (Store.cutCells begun done ws k).settings = k.settings ∧ (Store.cutCells begun done ws k).op = k.op := by
  have hfold : ∀ (vs : List (Bank × StateCell)) (k : Store),
      (vs.foldl (fun k w => k.onBank w.1 fun q => { q with cell := w.2 }) k).settings = k.settings ∧
      (vs.foldl (fun k w => k.onBank w.1 fun q => { q with cell := w.2 }) k).op = k.op := by
    intro vs
    induction vs with
    | nil => exact fun _ => ⟨rfl, rfl⟩
    | cons v vs ih => exact fun k => ih (k.onBank v.1 fun q => { q with cell := v.2 })
  induction ws generalizing done with
  | nil => cases done <;> exact ⟨rfl, rfl⟩
  | cons w ws ih =>
    cases done with
    | zero => exact hfold ws.reverse k
    | succ done => exact ih done

/-- The settings block that start-up reads after a reset: none after a write of it that was cut (R46). -/
def Store.cutSettings (k : Store) : Option Settings :=
  match k.op with
  | some (.settings _) => none
  | _ => k.settings

theorem Store.cut_settings (k : Store) (n : Nat) : (k.cut n).settings = k.cutSettings := by
  obtain ⟨hsettings, hop⟩ := Store.cutCells_settings (Config.cellCut (n + 66)) (Config.cellsDone (n + 65)) k.cellWrites k
  show ((Store.cutCells (Config.cellCut (n + 66)) (Config.cellsDone (n + 65)) k.cellWrites k).cutOp n).settings = _
  unfold Store.cutOp Store.cutSettings
  rw [hop]
  generalize Store.cutCells (Config.cellCut (n + 66)) (Config.cellsDone (n + 65)) k.cellWrites k = c at hsettings
  match k.op with
  | none => exact hsettings
  | some (.header b) =>
    dsimp only
    split
    · exact hsettings
    · exact hsettings
  | some (.page ..) => exact hsettings
  | some (.erase b) =>
    dsimp only
    split
    · exact hsettings
    · exact hsettings
  | some (.settings _) => rfl

theorem State.resetFor_block (cause : ResetCause) (s : State) : (s.resetFor cause).block =
    match s.store.op with
    | some (.settings _) => Settings.default
    | _ => s.store.settings.getD Settings.default := by
  show (s.store.cut s.freeCount).settings.getD Settings.default = _
  rw [Store.cut_settings, Store.cutSettings]
  match s.store.op with
  | none => rfl
  | some (.header _) => rfl
  | some (.page ..) => rfl
  | some (.erase _) => rfl
  | some (.settings _) => rfl

theorem stationsReset_get (g : Settings) (u : Tx) :
    (stationsReset g).get u = Station.reset (g.transmitters.get u) (g.reflected.get u) (g.forward.get u) :=
  txVector_get _ u

/-- The part of `ResetsBeginStartup` that every reset leaves alike: `x` is the state just reset. -/
theorem begins_fresh {s x t : State} {g : Settings} (hbegins : State.Begins x t) (hout : x.out = s.out.reset)
    (hlink : x.link = HostLink.reset) (hcheck : x.check = none) (hengine : x.engine = Engine.reset)
    (hmains : x.mains.state = .normal) (hasserted : x.boot.asserted = false) (hop : x.store.op = none) (hblock : x.block = g) :
    t.boot.phase = .table ∧ t.boot.asserted = false ∧
    t.boot.poll = some { count := 0, limit := 100 } ∧
    (∃ polls, t.out.link = s.out.link ++ polls ∧ polls = [.poll 0, .poll 1, .poll 2, .poll 3, .poll 4, .poll 5]) ∧
    t.out.port = s.out.port ∧ t.link.receiver = .hunting ∧ t.link.queue = [] ∧ t.link.refusal = none ∧
    t.link.reply = none ∧ t.link.line = none ∧ t.out.log = { records := [], unread := 0, overrun := false, next := 0 } ∧
    t.check = none ∧ t.store.op = none ∧ t.engine.state = .halted ∧ t.engine.upcoming = [] ∧ t.engine.fill = none ∧
    t.engine.armed = false ∧ t.matrix.claims = [] ∧ t.matrix.queue = [] ∧ t.matrix.free = 3 ∧
    t.matrix.granting = false ∧ (∀ u c, t.matrix.xstate u c = .unknown) ∧
    t.limits = g.limits ∧ t.protection = g.protection ∧ t.out.enables = g.enables ∧
    (∀ u, (t.tr u).desc = g.transmitters.get u ∧ (t.tr u).state = startState (g.transmitters.get u) ∧
      (t.tr u).current = none ∧ (t.tr u).context = none) ∧
    t.ilu.firstOut = none ∧ t.ilu.emergency = false ∧ t.mains.state = .normal := by
  subst hblock
  obtain ⟨-, henables, hlog, hport, -⟩ := hbegins.events.keeps
  have hport : t.out.port = x.out.port := hport
  have hlog : t.out.log = x.out.log := hlog
  have hboot := hbegins.boot
  have hlink := hbegins.link.trans hlink
  have hengine := hbegins.engine.trans hengine
  have hmatrix := hbegins.matrix
  have htr : ∀ u, t.tr u = TxRecord.reset (x.block.transmitters.get u) := fun u => by
    show (t.stations.get u).tr = _
    rw [hbegins.stations, stationsReset_get]
    rfl
  refine ⟨by rw [hboot], by rw [hboot]; exact hasserted, by rw [hboot]; rfl, ⟨_, ?_, rfl⟩, ?_, by rw [hlink]; rfl,
    by rw [hlink]; rfl, by rw [hlink]; rfl, by rw [hlink]; rfl, by rw [hlink]; rfl, ?_, hbegins.check.trans hcheck,
    hbegins.op.trans hop, by rw [hengine]; rfl, by rw [hengine]; rfl, by rw [hengine]; rfl, by rw [hengine]; rfl,
    by rw [hmatrix]; rfl, by rw [hmatrix]; rfl, by rw [hmatrix]; rfl, by rw [hmatrix]; rfl,
    fun u c => by rw [hmatrix]; exact Matrix.reset_xstate .., hbegins.limits, hbegins.protection, henables, fun u => ?_,
    by rw [hbegins.ilu]; rfl, by rw [hbegins.ilu]; rfl, by rw [hbegins.mains]; exact hmains⟩
  · rw [hbegins.polls, hout]
    rfl
  · rw [hport, hout]
    rfl
  · rw [hlog, hout]
    rfl
  · rw [htr]
    exact ⟨rfl, rfl, rfl, rfl⟩

/-- Start-up keeps the clock that it finds, but for its pulse watch. -/
theorem begins_clock {x t : State} (h : State.Begins x t) : t.clock.reading = x.clock.reading ∧
    t.clock.divider = x.clock.divider ∧ t.clock.isSet = x.clock.isSet ∧ t.clock.source = x.clock.source ∧
    t.clock.present = x.clock.present ∧ t.clock.seen = x.clock.seen := by
  have hclock := h.clock
  refine ⟨?_, ?_, ?_, ?_, ?_, ?_⟩
  · have h := congrArg Clock.reading hclock; exact h
  · have h := congrArg Clock.divider hclock; exact h
  · have h := congrArg Clock.isSet hclock; exact h
  · have h := congrArg Clock.source hclock; exact h
  · have h := congrArg Clock.present hclock; exact h
  · have h := congrArg Clock.seen hclock; exact h

/-- The state in which the release of the reset line begins start-up: the one that its assertion left. -/
def State.released (s : State) : State := ({ s with boot := { s.boot with asserted := false } } : State).settled

theorem exec_resetLineRelease_of_asserted {s : State} (h : s.boot.asserted = true) :
    exec .resetLineRelease s = .next s.released.beginStartup := congrArg Host.Outcome.next (if_pos h)

/-- Before start-up has ended no request is taken from the queue (R189). -/
theorem State.serveHead_of_starting {s : State} (h : s.boot.phase ≠ .done) : s.serveHead = .next s := by
  have hmay : s.mayTake = false := by simp [State.mayTake, h]
  unfold State.serveHead
  rw [hmay]

theorem resetsBeginStartup : Claims.ResetsBeginStartup := by
  intro s block fresh kept
  have hblock : ∀ cause, (s.resetFor cause).block = block := fun cause => State.resetFor_block cause s
  refine ⟨⟨_, rfl, ?_⟩, ⟨{ s.resetFor .resetLine with boot := { (s.resetFor .resetLine).boot with asserted := true } }, _, rfl,
    exec_resetLineRelease_of_asserted rfl, ?_⟩, fun r a hasserted hline hkind haccepted => ?_⟩
  · have hbegins := (s.resetFor .powerOn).beginStartup_begins
    obtain ⟨hreading, hdivider, hset, hsource, hpresent, hseen⟩ := begins_clock hbegins
    exact ⟨begins_fresh hbegins rfl rfl rfl rfl rfl rfl rfl (hblock _), by rw [hbegins.boot]; rfl, by rw [hbegins.boot]; rfl,
      hreading, hdivider, hset, hsource, hpresent, hseen⟩
  · have hbegins := State.beginStartup_begins (State.released
      { s.resetFor .resetLine with boot := { (s.resetFor .resetLine).boot with asserted := true } })
    obtain ⟨hreading, hdivider, hset, hsource, hpresent, hseen⟩ := begins_clock hbegins
    exact ⟨begins_fresh hbegins rfl rfl rfl rfl rfl rfl rfl (hblock .resetLine), by rw [hbegins.boot]; rfl,
      hreading, hdivider, hset, hsource, hpresent, hseen, by rw [hbegins.boot]; rfl⟩
  · let x := ((s.settled.onLink fun k => { k with line := none, reply := none }).resetFor .restart)
    have hbegins := x.beginStartup_begins
    have hframe : s.settled.endFrame = x.beginStartup := by
      unfold State.endFrame
      rw [show s.settled.link.line = some (.reply r) from hline]
      dsimp only
      rw [haccepted]
      exact if_pos hkind
    have hexec : exec .outgoingFrameEnd s = .next x.beginStartup := by
      show s.takeAndServe State.endFrame = _
      rw [State.takeAndServe_live _ _ hasserted, hframe]
      exact State.serveHead_of_starting (by rw [hbegins.boot]; nofun)
    obtain ⟨hreading, hdivider, hset, hsource, hpresent, hseen⟩ := begins_clock hbegins
    exact ⟨_, hexec, begins_fresh hbegins rfl rfl rfl rfl rfl rfl rfl (State.resetFor_block .restart _),
      by rw [hbegins.boot]; rfl, hreading, hdivider, hset, hsource, hpresent, hseen, by rw [hbegins.boot]; rfl⟩

/-! ### The reset line asserted (R205) -/

theorem exec_held {c : Instr} {s : State} (h : s.boot.asserted = true)
    (hc : c ∉ ([.clockTenthAdvance, .referenceJudgedPresent, .referenceInputFailure, .powerOn, .resetLineAssert,
      .resetLineRelease] : List Instr)) : exec c s = .next s := by
  cases c
  case clockTenthAdvance | referenceJudgedPresent | referenceInputFailure | powerOn | resetLineAssert | resetLineRelease =>
    simp at hc
  case outgoingFrameEnd | startupEnd | frameReceived => exact State.takeAndServe_held s _ h
  all_goals exact congrArg Host.Outcome.next (if_pos h)

theorem resetLineHoldsThePart : Claims.ResetLineHoldsThePart := by
  refine ⟨fun s => ⟨_, rfl, rfl, rfl, rfl, rfl, rfl, rfl, rfl, rfl, rfl⟩, fun c s h hc => exec_held h hc, fun s h => ?_,
    fun s hlive => ?_⟩
  · rw [exec_resetLineRelease_of_asserted h]
    have hbegins := s.released.beginStartup_begins
    obtain ⟨hreading, -, hset, hsource, hpresent, hseen⟩ := begins_clock hbegins
    obtain ⟨hflags, es, hnotices⟩ := hbegins.events.grows
    generalize s.released.beginStartup = t at hbegins hreading hset hsource hpresent hseen hflags hnotices
    exact ⟨t, rfl, by rw [hbegins.boot]; rfl, by rw [hbegins.boot], hreading, hset, hsource, hpresent, hseen, hflags, es, hnotices⟩
  · have hidle : s.boot.asserted = false := hlive.1
    show execResetLineRelease s = _
    unfold execResetLineRelease
    rw [if_neg (by simp [hidle]), State.settled_of_none s hlive.2]

/-- Settles O59. -/
theorem resetsTaken : Obligations.ResetsTaken := ⟨resetsBeginStartup, resetLineHoldsThePart⟩

end Sys2Proof.Machine

/-! A boundary that keeps the season (R71): what it serves, and what a refill leaves. -/

namespace Sys2Proof.Machine

open Claims

/-! ### The season kept -/

theorem State.season_of_kept {s : State} {b : Boundary} (h : keepsSeason b s) :
    (if b.clockSet then s.seasonStep (b.previous.getD (b.now - 1)) b.now else s) = s ∧
      (b.clockSet && (s.switchTo b.now).isSome) = false := by
  rcases h with hset | ⟨hswitch, hpasses⟩
  · rw [hset]
    exact ⟨rfl, rfl⟩
  · rw [State.seasonStep_of_kept hswitch hpasses, hswitch]
    exact ⟨ite_self _, Bool.and_false _⟩

theorem boundaryServedInOrder : Claims.BoundaryServedInOrder := by
  intro b s hlive hdone hkept hruns ruled served
  obtain ⟨hseason, hswitched⟩ := State.season_of_kept hkept
  rw [exec_minuteBoundary hlive hdone, State.boundary_of_running hseason hruns, hswitched]
  refine congrArg _ ?_
  unfold State.serveBoundary
  cases hkind : b.kind <;> simp only [served, ruled, hkind, Bool.false_eq_true, if_false, reduceCtorEq, or_false]

/-- An ADVANCE boundary takes what is due and refills the list. -/
theorem exec_advance {b : Boundary} {s : State} (hlive : live s) (hdone : s.boot.phase = .done) (hkept : keepsSeason b s)
    (hkind : b.kind = .advance) (hrunning : s.engine.state = .running) :
    exec (.minuteBoundary b) s = .next ((s.takeAllDue b.now).refill b.now) := by
  rw [boundaryServedInOrder b s hlive hdone hkept (by rw [hrunning]; decide)]
  simp only [hkind, reduceCtorEq, and_false, if_false]

/-! ### What a refill leaves (R70) -/

/-- A refill changes the list, and raises at most HORIZON_OVERFLOW. -/
structure State.Refills (s t : State) : Prop where
  stations : t.stations = s.stations
  fired : t.engine.fired = s.engine.fired
  carried : t.engine.carried = s.engine.carried
  engine : t.engine.state = s.engine.state
  store : t.store = s.store
  matrix : t.matrix = s.matrix
  clock : t.clock = s.clock
  port : t.out.port = s.out.port
  log : t.out.log = s.out.log
  handed : t.out.handed = s.out.handed
  events : ∃ es : List Event, t.out.voice = es.foldl Outbox.raise s.out.voice ∧ ∀ e ∈ es, e.kind = .horizonOverflow

namespace State.Refills

variable {s t : State}

theorem refl (s : State) : State.Refills s s :=
  ⟨rfl, rfl, rfl, rfl, rfl, rfl, rfl, rfl, rfl, rfl, [], rfl, fun _ h => absurd h List.not_mem_nil⟩

theorem filled (s : State) (k : Filling) : State.Refills s (s.filled k) := by
  by_cases h : (k.left.isSome && !s.engine.leftOut) = true
  · rw [State.filled_of_over h]
    refine ⟨rfl, rfl, rfl, rfl, rfl, rfl, rfl, rfl, rfl, rfl, [s.overflow (k.left.getD 0)], rfl, fun e he => ?_⟩
    rw [List.mem_singleton.1 he]
    rfl
  · rw [State.filled_of_quiet h]
    exact ⟨rfl, rfl, rfl, rfl, rfl, rfl, rfl, rfl, rfl, rfl, [], rfl, fun _ h => absurd h List.not_mem_nil⟩

theorem refill (s : State) (now : Nat) : State.Refills s (s.refill now) := by
  cases h : s.engine.fill with
  | none =>
    rw [State.refill_of_none h]
    exact refl s
  | some f =>
    rw [State.refill_of_point h]
    exact filled s _

theorem rebuild (s : State) (now : Nat) : State.Refills s (s.rebuild now) := by
  rw [State.rebuild_eq]
  exact filled s _

theorem tr (h : State.Refills s t) (u : Tx) : t.tr u = s.tr u := congrArg (fun v => (v.get u).tr) h.stations

theorem firedOn (h : State.Refills s t) (n : Nat) : t.engine.firedOn n = s.engine.firedOn n :=
  congrArg (·.get (Fin.ofNat 512 n)) h.fired

end State.Refills

/-! ### Taking the firings of a short list -/

section Due

variable {s : State} {now : Nat} {f g : Firing}

theorem State.takeAllDue_start (hlist : s.engine.upcoming = [f]) (hkind : f.kind = .start) (hdue : f.time ≤ now) :
    s.takeAllDue now = (s.listed []).fireStart f false := by
  unfold State.takeAllDue
  rw [hlist]
  show State.takeDue now 1 s = _
  unfold State.takeDue
  rw [hlist]
  dsimp only
  rw [if_neg (Nat.not_lt.2 hdue), hkind]
  rfl

theorem State.takeAllDue_end (hlist : s.engine.upcoming = [f]) (hkind : f.kind = .end_) (hdue : f.time ≤ now) :
    s.takeAllDue now = (s.listed []).fireEnd f := by
  unfold State.takeAllDue
  rw [hlist]
  show State.takeDue now 1 s = _
  unfold State.takeDue
  rw [hlist]
  dsimp only
  rw [if_neg (Nat.not_lt.2 hdue), hkind]
  rfl

theorem State.takeAllDue_pair (hlist : s.engine.upcoming = [f, g]) (hf : f.kind = .end_) (hg : g.kind = .start)
    (hfdue : f.time ≤ now) (hgdue : g.time ≤ now) (ht : g.t = f.t) : s.takeAllDue now = (s.listed []).firePair f g := by
  have hstart : dueOf now .start f.t [g] = some g := by simp [dueOf, hg, hgdue, ht]
  have hend : dueOf now .end_ f.t [g] = none := by simp [dueOf, hg]
  have hlast : ∀ x : State, x.engine.upcoming = [] → State.takeDue now 1 x = x := fun x hx => by
    unfold State.takeDue
    rw [hx]
  unfold State.takeAllDue
  rw [hlist]
  show State.takeDue now 2 s = _
  unfold State.takeDue
  rw [hlist]
  dsimp only
  rw [if_neg (Nat.not_lt.2 hfdue), hf]
  dsimp only
  rw [hstart, hend]
  dsimp only
  rw [List.erase_cons_head, hlast _ (State.Takes.firePair (s.listed []) f g).list]

theorem State.takeAllDue_later (h : ∀ f ∈ s.engine.upcoming, now < f.time) : s.takeAllDue now = s := by
  unfold State.takeAllDue
  cases hlist : s.engine.upcoming with
  | nil => rfl
  | cons f rest =>
    rw [List.length_cons, State.takeDue, hlist]
    exact if_pos (h f (hlist ▸ List.mem_cons_self ..))

end Due

/-! ### Taking a START (R78, R79) -/

theorem TxRecord.decision_dark {r : TxRecord} {w : DarkReason} (h : r.state = .dark w) :
    r.decision = .missed .transmitterDark := by
  unfold TxRecord.decision
  rw [h]

theorem TxRecord.decision_locked {r : TxRecord} {w : LockReason} (h : r.state = .locked w) :
    r.decision = .missed .transmitterLocked := by
  unfold TxRecord.decision
  rw [h]

theorem TxRecord.decision_of_on {r : TxRecord} (h : r.state.off = false) : r.decision =
    if r.manualHold then .missed .manualHold
    else if r.state = .changing ∨ r.state = .held then .waits else .handed := by
  unfold TxRecord.decision
  cases hstate : r.state <;> simp_all [TxState.off]

theorem TxRecord.decision_manualHold {r : TxRecord} (h : r.state.off = false) (hhold : r.manualHold = true) :
    r.decision = .missed .manualHold := by rw [TxRecord.decision_of_on h, if_pos hhold]

theorem TxRecord.decision_waits {r : TxRecord} (hhold : r.manualHold = false) (h : r.state = .changing ∨ r.state = .held) :
    r.decision = .waits := by
  have hon : r.state.off = false := by rcases h with h | h <;> rw [h] <;> rfl
  rw [TxRecord.decision_of_on hon, if_neg (by simp [hhold]), if_pos h]

theorem TxRecord.decision_handed {r : TxRecord} (hhold : r.manualHold = false)
    (h : r.state = .ready ∨ r.state = .onAir ∨ r.state = .tripped) : r.decision = .handed := by
  have hon : r.state.off = false := by rcases h with h | h | h <;> rw [h] <;> rfl
  rw [TxRecord.decision_of_on hon, if_neg (by simp [hhold]), if_neg (by rcases h with h | h | h <;> simp [h])]

/-- The state with a window date in the Fired Table. -/
def State.fires (s : State) (e : Entry) (day : Nat) : State := s.onEngine fun g => g.fire e.number day

theorem State.fires_firedOn (s : State) (e : Entry) (day : Nat) : (s.fires e day).engine.firedOn e.number = some day :=
  upd_get_same ..

section TakeStart

variable {s : State} {b : Bank} {e : Entry} {day : Nat} {late followed : Bool}

theorem State.takeStart_of_fired (h : s.engine.firedOn e.number = some day) : s.takeStart b e day late followed = s := if_pos h

theorem State.takeStart_of_unfit (hfired : s.engine.firedOn e.number ≠ some day) (h : s.retest e = false) :
    s.takeStart b e day late followed = (s.fires e day).missStart b e day .description := by
  have hretest : ¬ (s.fires e day).retest e = true := by
    show ¬ s.retest e = true
    rw [h]
    decide
  unfold State.takeStart
  rw [if_neg hfired]
  exact if_pos hretest

/-- What the transmitter's state makes of a window that passes the re-test. -/
def State.decided (s : State) (b : Bank) (e : Entry) (day : Nat) (late followed : Bool) : StartDecision → State
  | .missed why => s.missStart b e day why
  | .waits => s.csq (tx e.transmitter) (Bench.place (s.startRequest b e day late))
  | .handed => s.handStart (tx e.transmitter) (s.startRequest b e day late) followed

theorem State.takeStart_of_fit (hfired : s.engine.firedOn e.number ≠ some day) (h : s.retest e = true) :
    s.takeStart b e day late followed = (s.fires e day).decided b e day late followed (s.tr (tx e.transmitter)).decision := by
  have hretest : ¬ ¬ (s.fires e day).retest e = true := not_not.2 h
  unfold State.takeStart
  rw [if_neg hfired]
  dsimp only
  refine (if_neg hretest).trans ?_
  show (match (s.tr (tx e.transmitter)).decision with
    | .missed why => _
    | .waits => _
    | .handed => _) = _
  cases (s.tr (tx e.transmitter)).decision <;> rfl

theorem State.fireStart_of_entry {f : Firing} (h : s.entryOf f.bank f.entry = some e) (followed : Bool) :
    s.fireStart f followed = s.takeStart f.bank e f.day false followed := by
  unfold State.fireStart
  rw [h]

end TakeStart

end Sys2Proof.Machine

/-! A START that takes a transmission over (R80, R121, R122, R132). -/

namespace Sys2Proof.Machine

open Claims

namespace Bench

variable {e : Env} {b c : Bench} {q : StartRequest} {x : Transmission} {why : Detail}

/-- The transmission is written ended and its work reported; the transmitter is as it was but for the condition that it
has reported. -/
structure Replaced (e : Env) (x : Transmission) (why : Detail) (b c : Bench) : Prop where
  record : ∃ told, c.u.tr = { b.u.tr with reported := told }
  port : c.o.port = b.o.port
  log : c.o.log = b.o.log.write (endEntry e x why)
  voice : c.o.voice = b.o.voice
  work : ∀ w, x.work = some w → .scheduleWorkEnded e.t w ∈ c.o.handed

theorem replace_replaced (h : b.u.tr.current = some x) (why : Detail) : Replaced e x why b (b.replace e why) :=
  ⟨⟨b.u.tr.reported, by rw [replace_u]⟩, replace_port _, replace_log h why, replace_voice _, fun _ hw => replace_work h hw why⟩

theorem Replaced.reportRow (h : Replaced e x why b c) : Replaced e x why b (c.reportRow e) := by
  obtain ⟨⟨told, hrecord⟩, hport, hlog, hvoice, hwork⟩ := h
  refine ⟨⟨c.u.tr.toldOf, by rw [reportRow_record, hrecord]⟩, ?_, ?_, ?_, fun w hw => mem_reportRow _ _ (hwork w hw)⟩
  · rw [reportRow_port, hport]
  · rw [reportRow_log, hlog]
  · rw [reportRow_voice, hvoice]

/-- What a START makes of the transmission that it replaces: it goes on with it, or begins a changeover. -/
structure TakenOver (e : Env) (q : StartRequest) (x : Transmission) (why : Detail) (b c : Bench) : Prop where
  goesOn : isContinuation e q b.u.tr = true →
    (∃ told tune, c.u.tr = { b.u.tr with
      current := some (continued e q (b.u.tr.desc.powerSent q.kW)), openTune := tune, reported := told }) ∧
    c.o.port = b.o.port ++ continueOrders e q x (b.u.tr.desc.powerSent q.kW) ∧
    c.o.log = (b.o.log.write (endEntry e x why)).write (continueEntry e q (b.u.tr.desc.powerSent q.kW))
  changes : isContinuation e q b.u.tr = false →
    (c.u.tr.state = .changing ∧ c.u.tr.current = none ∧ c.u.tr.slot = b.u.tr.slot ∧
      c.u.tr.context = some (q.context q.origin)) ∧
    c.o.port = b.o.port ∧ c.o.log = b.o.log.write (endEntry e x why) ∧ .claim e.t q.column ∈ c.o.handed
  work : ∀ w, x.work = some w → .scheduleWorkEnded e.t w ∈ c.o.handed

/-- A continuation is decided by the transmitter's state and its transmission alone. -/
theorem isContinuation_congr {r v : TxRecord} (hstate : r.state = v.state) (hcurrent : r.current = v.current) :
    isContinuation e q r = isContinuation e q v := by
  unfold isContinuation
  rw [hstate, hcurrent]

theorem Replaced.takenOver (h : Replaced e x why b c) (hcurrent : b.u.tr.current = some x) :
    TakenOver e q x why b ((c.begin_ e q).reportRow e) := by
  obtain ⟨⟨told, hrecord⟩, hport, hlog, -, hwork⟩ := h
  have hsame : isContinuation e q c.u.tr = isContinuation e q b.u.tr := by
    rw [hrecord]
    exact isContinuation_congr rfl rfl
  have hdesc : c.u.tr.desc = b.u.tr.desc := by rw [hrecord]
  have hc : c.u.tr.current = some x := by rw [hrecord]; exact hcurrent
  have hcontinues := continue_continues (e := e) (q := q) (x := x) (b := c)
  refine ⟨fun hgoes => ?_, fun hchanges => ?_, fun w hw => mem_reportRow _ _ ?_⟩
  · rw [begin_of_continuation hc (hsame.trans hgoes)]
    obtain ⟨⟨tune, htr⟩, hsent, hwritten, -, -⟩ := hcontinues
    refine ⟨⟨(c.continue_ e q x).u.tr.toldOf, tune, ?_⟩, ?_, ?_⟩
    · rw [reportRow_record, htr, hrecord]
    · rw [reportRow_port, hsent, hport, hdesc]
    · rw [reportRow_log, hwritten, hlog, hdesc]
  · rw [begin_of_changeover (hsame.trans hchanges)]
    refine ⟨⟨?_, ?_, ?_, ?_⟩, ?_, ?_, mem_reportRow _ _ ?_⟩
    · simp [createStart_tr]
    · simp [createStart_tr]
    · simp [createStart_tr, hrecord]
    · simp [createStart_tr]
    · rw [reportRow_port, createStart_port, hport]
    · rw [reportRow_log, createStart_log, hlog]
    · rw [createStart_handed]
      exact List.mem_append_right _ (List.mem_singleton.2 rfl)
  · cases hgoes : isContinuation e q c.u.tr with
    | true =>
      rw [begin_of_continuation hc hgoes, hcontinues.handed]
      exact hwork w hw
    | false =>
      rw [begin_of_changeover hgoes, createStart_handed]
      exact List.mem_append_left _ (hwork w hw)

/-! ### A request placed (R81, R132) -/

/-- A request placed where none is taken up: it waits in the slot, and the one that waited there is MISSED. -/
theorem place_of_waiting (h : b.u.tr.state = .held → b.u.tr.holds.empty = false) (q : StartRequest) :
    b.place q e = (b.missSlot e .superseded).tr fun r => { r with slot := some q } := by
  unfold place
  refine if_neg fun htakes => ?_
  simp only [tr_tr, missSlot_tr] at htakes
  obtain ⟨hstate, hempty⟩ := htakes
  rw [h hstate] at hempty
  cases hempty

/-- A HELD transmitter without a hold takes the request up at once. -/
theorem place_of_free (hstate : b.u.tr.state = .held) (hempty : b.u.tr.holds.empty = true) (hslot : b.u.tr.slot = none)
    (hcurrent : b.u.tr.current = some x) (hlate : q.late = false) :
    b.place q e = (b.replace e (replacedDetail e x)).begin_ e q := by
  unfold place
  rw [missSlot_of_empty e b hslot]
  refine (if_pos ⟨hstate, hempty⟩).trans ?_
  have hcleared : (b.tr fun r => { r with slot := some q }).tr (fun r => { r with slot := none }) = b := by
    have htr : { b.u.tr with slot := none } = b.u.tr := by rw [← hslot]
    show { b with u := { b.u with tr := { b.u.tr with slot := none } } } = b
    rw [htr]
  unfold takeUp replace
  show (if q.late then _ else _ : Bench).begin_ e q = _
  rw [hcleared, hcurrent, hlate]
  rfl

end Bench

end Sys2Proof.Machine

/-! A due START at a boundary (R78-R81). -/

namespace Sys2Proof.Machine

open Claims

/-! ### Handing a START (R80) -/

theorem State.putBench_same (s : State) (t : Tx) (b : Bench) : (s.putBench t b).bench t = b := by
  show ({ u := (upd s.stations t b.u).get t, o := b.o } : Bench) = b
  rw [upd_get_same]

/-- The engine when the work of a replaced transmission is no longer carried. -/
def Engine.uncarries (g : Engine) (t : Tx) (x : Transmission) : Engine :=
  match x.work with
  | some w => g.uncarry t w.bank w.entry w.day
  | none => g

theorem Engine.uncarries_fired (g : Engine) (t : Tx) (x : Transmission) : (g.uncarries t x).fired = g.fired := by
  unfold uncarries
  split <;> rfl

theorem Engine.uncarries_gone (g : Engine) (t : Tx) {x : Transmission} {w : SchedRef} (hw : x.work = some w) :
    ∀ c ∈ (g.uncarries t x).carried, ¬ (c.t = t ∧ c.bank = w.bank ∧ c.entry = w.entry ∧ c.day = w.day) := by
  intro c hc
  unfold uncarries at hc
  rw [hw] at hc
  exact ((g.mem_uncarry ..).1 hc).2

section Replace

variable {s : State} {t : Tx} {x : Transmission}

theorem State.closeReplaced_eq (h : (s.tr t).current = some x) (why : Detail) : s.closeReplaced t why =
    { s.putBench t (((s.bench t).replace (s.env t) why).reportRow (s.env t)) with engine := s.engine.uncarries t x } := by
  have hreplace : (s.bench t).replace (s.env t) why = ((s.bench t).endRecord (s.env t) why).workEnded (s.env t) x.work := by
    unfold Bench.replace
    rw [show (s.bench t).u.tr.current = some x from h]
  unfold State.closeReplaced Engine.uncarries
  rw [h, hreplace]
  dsimp only
  cases x.work <;> rfl

/-- A START that takes over a transmission closed for it. -/
theorem State.replaced_begins (h : (s.tr t).current = some x) (why : Detail) (q : StartRequest) :
    let z := (s.closeReplaced t why).csq t fun e b => b.begin_ e q
    Bench.TakenOver (s.env t) q x why (s.bench t) (z.bench t) ∧ z.engine = s.engine.uncarries t x := by
  intro z
  let c := ((s.bench t).replace (s.env t) why).reportRow (s.env t)
  have hbench : z.bench t = (c.begin_ (s.env t) q).reportRow (s.env t) := by
    have hclosed : (s.closeReplaced t why).bench t = c := by
      rw [State.closeReplaced_eq h]
      exact State.putBench_same s t c
    have henv : (s.closeReplaced t why).env t = s.env t := by rw [State.closeReplaced_eq h]; rfl
    have hz : z = _ := State.csq_eq (s.closeReplaced t why) t fun e b => b.begin_ e q
    rw [hclosed, henv] at hz
    rw [hz, State.putBench_same]
  refine ⟨?_, ?_⟩
  · rw [hbench]
    exact (Bench.replace_replaced (b := s.bench t) h why).reportRow.takenOver h
  · show (s.closeReplaced t why).engine = _
    rw [State.closeReplaced_eq h]

theorem State.handStart_of_current {q : StartRequest} (h : (s.tr t).current = some x) (hlate : q.late = false) :
    s.handStart t q false = (s.closeReplaced t (s.replaced x)).csq t fun e b => b.begin_ e q := by
  unfold State.handStart
  rw [hlate]
  dsimp only
  rw [if_neg Bool.false_ne_true, if_neg Bool.false_ne_true, h]

theorem State.handStart_of_none {q : StartRequest} (h : (s.tr t).current = none) (hlate : q.late = false) :
    s.handStart t q false = s.csq t fun e b => b.begin_ e q := by
  unfold State.handStart
  rw [hlate]
  dsimp only
  rw [if_neg Bool.false_ne_true, if_neg Bool.false_ne_true, h]

theorem State.handStart_followed {q : StartRequest} (hlate : q.late = false) :
    s.handStart t q true = s.csq t fun e b => b.begin_ e q := by
  unfold State.handStart
  rw [hlate]
  rfl

end Replace

theorem State.closeReplaced_fired (s : State) (t : Tx) (why : Detail) : (s.closeReplaced t why).engine.fired = s.engine.fired := by
  cases h : (s.tr t).current with
  | none =>
    unfold State.closeReplaced
    rw [h]
  | some x =>
    rw [State.closeReplaced_eq h]
    exact Engine.uncarries_fired ..

theorem State.handStart_fired (s : State) (t : Tx) (q : StartRequest) (followed : Bool) :
    (s.handStart t q followed).engine.fired = s.engine.fired := by
  have hclose : ∀ x : State, (match (x.tr t).current with
      | some y => x.closeReplaced t (x.replaced y)
      | none => x).engine.fired = x.engine.fired := by
    intro x
    split
    · exact State.closeReplaced_fired ..
    · rfl
  have hlate : (if q.late then s.onOut fun o => o.event .lateStart (.transmitter t) [] else s).engine.fired =
      s.engine.fired := by split <;> rfl
  unfold State.handStart
  rw [State.csq_engine]
  cases followed with
  | true => exact hlate
  | false => exact (hclose _).trans hlate

theorem State.decided_fired (s : State) (b : Bank) (e : Entry) (day : Nat) (late followed : Bool) (d : StartDecision) :
    (s.decided b e day late followed d).engine.fired = s.engine.fired := by
  cases d with
  | missed why => rfl
  | waits => rfl
  | handed => exact State.handStart_fired ..

/-! ### A boundary's one START -/

/-- The record of a START decided MISSED (R82). -/
def missedEntry (s : State) (b : Bank) (e : Entry) (day : Nat) (why : Detail) : LogRecord :=
  logEntry s.clock.reading .missed (tx e.transmitter) false (some (e.work b day)) (some (col e.primary)) (some e.kHz) none why

theorem State.missStart_log (s : State) (b : Bank) (e : Entry) (day : Nat) (why : Detail) :
    (s.missStart b e day why).out.log = s.out.log.write (missedEntry s b e day why) := rfl

theorem State.missStart_voice (s : State) (b : Bank) (e : Entry) (day : Nat) (why : Detail) :
    (s.missStart b e day why).out.voice = s.out.voice.raise (missing (tx e.transmitter) why) := rfl

theorem startTurnedAway : Claims.StartTurnedAway := by
  intro b f e s hlive hdone hkept hkind hrunning hlist hstart hdue hentry haway
  have hexec := exec_advance hlive hdone hkept hkind hrunning
  have hentry : (s.listed []).entryOf f.bank f.entry = some e := hentry
  rw [State.takeAllDue_start hlist hstart hdue, State.fireStart_of_entry hentry] at hexec
  by_cases hfired : s.engine.firedOn e.number = some f.day
  · rw [State.takeStart_of_fired (s := s.listed []) hfired] at hexec
    have hr := State.Refills.refill (s.listed []) b.now
    obtain ⟨es, hes, hoverflow⟩ := hr.events
    exact ⟨_, es, hexec, hr.stations, (hr.firedOn _).trans hfired, hoverflow, fun _ => ⟨hr.log, raises_of_voice hes⟩,
      fun h => absurd hfired h⟩
  · have hunfit : (s.listed []).retest e = false := haway.resolve_left hfired
    rw [State.takeStart_of_unfit (s := s.listed []) hfired hunfit] at hexec
    let y := (s.listed []).fires e f.day
    have hr := State.Refills.refill (y.missStart f.bank e f.day .description) b.now
    obtain ⟨es, hes, hoverflow⟩ := hr.events
    exact ⟨_, es, hexec, hr.stations, (hr.firedOn _).trans (State.fires_firedOn (s.listed []) e f.day), hoverflow,
      fun h => absurd h hfired, fun _ => ⟨raises_of_voice hes, missedEntry y f.bank e f.day .description, hr.log, rfl, rfl, rfl,
        rfl, rfl, rfl, rfl, rfl⟩⟩

/-- A due START that passes the re-test is decided by its transmitter's state (R79). -/
theorem exec_boundary_start {b : Boundary} {f : Firing} {e : Entry} {s : State} (hlive : live s) (hdone : s.boot.phase = .done)
    (hkept : keepsSeason b s) (hkind : b.kind = .advance) (hrunning : s.engine.state = .running)
    (hlist : s.engine.upcoming = [f]) (hstart : f.kind = .start) (hdue : f.time ≤ b.now)
    (hentry : s.entryOf f.bank f.entry = some e) (hfired : s.engine.firedOn e.number ≠ some f.day)
    (hfit : s.retest e = true) : exec (.minuteBoundary b) s = .next
      ((((s.listed []).fires e f.day).decided f.bank e f.day false false (s.tr (tx e.transmitter)).decision).refill b.now) := by
  have hentry : (s.listed []).entryOf f.bank f.entry = some e := hentry
  rw [exec_advance hlive hdone hkept hkind hrunning, State.takeAllDue_start hlist hstart hdue,
    State.fireStart_of_entry hentry, State.takeStart_of_fit (s := s.listed []) hfired hfit]
  rfl

end Sys2Proof.Machine

/-! A due START at a boundary, by the transmitter's state (R79-R81, R122, R132; part of O40). -/

namespace Sys2Proof.Machine

open Claims

/-! ### The cases of R79 -/

theorem State.csq_bench (s : State) (t : Tx) (f : Env → Bench → Bench) :
    (s.csq t f).bench t = (f (s.env t) (s.bench t)).reportRow (s.env t) := State.putBench_same ..

section Start

variable {y : State} {k : Bank} {e : Entry} {day : Nat}

/-- The request that a START firing makes. -/
def State.firingRequest (y : State) (k : Bank) (e : Entry) (day : Nat) : StartRequest := y.startRequest k e day false

theorem State.firingRequest_origin : (y.firingRequest k e day).origin = .schedule := rfl

/-- A START on a READY transmitter begins a changeover. -/
theorem State.decided_ready (hhold : (y.tr (tx e.transmitter)).manualHold = false)
    (hready : (y.tr (tx e.transmitter)).state = .ready) (hnone : (y.tr (tx e.transmitter)).current = none) :
    let z := y.decided k e day false false (y.tr (tx e.transmitter)).decision
    (z.tr (tx e.transmitter)).state = .changing ∧ .claim (tx e.transmitter) (col e.primary) ∈ z.out.handed ∧
      (z.tr (tx e.transmitter)).context = some ((y.firingRequest k e day).context .schedule) := by
  intro z
  have hz : z = y.csq (tx e.transmitter) fun d b => b.begin_ d (y.firingRequest k e day) := by
    show y.decided k e day false false (y.tr (tx e.transmitter)).decision = _
    rw [TxRecord.decision_handed hhold (.inl hready)]
    exact State.handStart_of_none hnone rfl
  have hbench := y.csq_bench (tx e.transmitter) fun d b => b.begin_ d (y.firingRequest k e day)
  rw [← hz, Bench.begin_of_changeover (by simp [isContinuation, hready])] at hbench
  have htr : z.tr (tx e.transmitter) = _ := congrArg (fun b : Bench => b.u.tr) hbench
  have hout : z.out = _ := congrArg Bench.o hbench
  refine ⟨?_, ?_, ?_⟩
  · simp [htr, Bench.createStart_tr]
  · rw [hout]
    refine Bench.mem_reportRow _ _ ?_
    rw [Bench.createStart_handed]
    exact List.mem_append_right _ (List.mem_singleton.2 rfl)
  · simp [htr, Bench.createStart_tr]
    rfl

/-- A START on a transmitter that cannot take it now waits in the Pending slot (R81). -/
theorem State.decided_waiting (hhold : (y.tr (tx e.transmitter)).manualHold = false)
    (hwaits : (y.tr (tx e.transmitter)).state = .changing ∨
      ((y.tr (tx e.transmitter)).state = .held ∧ (y.tr (tx e.transmitter)).holds.empty = false)) :
    let z := y.decided k e day false false (y.tr (tx e.transmitter)).decision
    let b := (y.bench (tx e.transmitter)).missSlot (y.env (tx e.transmitter)) .superseded
    (z.tr (tx e.transmitter)).slot = some (y.firingRequest k e day) ∧
      (z.tr (tx e.transmitter)).state = (y.tr (tx e.transmitter)).state ∧
      z.out.log = b.o.log ∧ z.out.voice = b.o.voice := by
  intro z b
  have hz : z = y.csq (tx e.transmitter) (Bench.place (y.firingRequest k e day)) := by
    show y.decided k e day false false (y.tr (tx e.transmitter)).decision = _
    rw [TxRecord.decision_waits hhold (hwaits.imp_right And.left)]
    rfl
  have hbench := y.csq_bench (tx e.transmitter) (Bench.place (y.firingRequest k e day))
  rw [← hz, Bench.place_of_waiting fun hheld => ?_] at hbench
  · have htr : z.tr (tx e.transmitter) = _ := congrArg (fun b : Bench => b.u.tr) hbench
    have hout : z.out = _ := congrArg Bench.o hbench
    refine ⟨by simp [htr], by simp [htr], ?_, ?_⟩
    · rw [hout, Bench.reportRow_log]
      rfl
    · rw [hout, Bench.reportRow_voice]
      rfl
  · have hheld : (y.tr (tx e.transmitter)).state = .held := hheld
    rcases hwaits with hchanging | ⟨-, hempty⟩
    · rw [hheld] at hchanging
      cases hchanging
    · exact hempty

/-- A START on a transmitter that carries a transmission takes it over (R80, R132). -/
theorem State.decided_takesOver {x : Transmission} (hhold : (y.tr (tx e.transmitter)).manualHold = false)
    (hcurrent : (y.tr (tx e.transmitter)).current = some x)
    (hstate : (y.tr (tx e.transmitter)).state = .onAir ∨ (y.tr (tx e.transmitter)).state = .tripped ∨
      ((y.tr (tx e.transmitter)).state = .held ∧ (y.tr (tx e.transmitter)).holds.empty = true ∧
        (y.tr (tx e.transmitter)).slot = none)) :
    let z := y.decided k e day false false (y.tr (tx e.transmitter)).decision
    Bench.TakenOver (y.env (tx e.transmitter)) (y.firingRequest k e day) x (y.replaced x) (y.bench (tx e.transmitter))
      (z.bench (tx e.transmitter)) ∧
    ((y.tr (tx e.transmitter)).state ≠ .held → z.engine = y.engine.uncarries (tx e.transmitter) x) := by
  intro z
  by_cases hheld : (y.tr (tx e.transmitter)).state = .held
  · obtain ⟨-, hempty, hslot⟩ := (hstate.resolve_left (by rw [hheld]; decide)).resolve_left (by rw [hheld]; decide)
    have hz : z = y.csq (tx e.transmitter) (Bench.place (y.firingRequest k e day)) := by
      show y.decided k e day false false (y.tr (tx e.transmitter)).decision = _
      rw [TxRecord.decision_waits hhold (.inr hheld)]
      rfl
    have hbench := y.csq_bench (tx e.transmitter) (Bench.place (y.firingRequest k e day))
    rw [← hz, Bench.place_of_free (b := y.bench (tx e.transmitter)) hheld hempty hslot hcurrent rfl] at hbench
    refine ⟨?_, fun h => absurd hheld h⟩
    rw [hbench]
    exact (Bench.replace_replaced (b := y.bench (tx e.transmitter)) hcurrent _).takenOver hcurrent
  · have hz : z = (y.closeReplaced (tx e.transmitter) (y.replaced x)).csq (tx e.transmitter)
        fun d b => b.begin_ d (y.firingRequest k e day) := by
      show y.decided k e day false false (y.tr (tx e.transmitter)).decision = _
      rw [TxRecord.decision_handed hhold (.inr (hstate.imp_right fun h => h.resolve_right fun h => hheld h.1))]
      exact State.handStart_of_current hcurrent rfl
    obtain ⟨htaken, hengine⟩ := State.replaced_begins hcurrent (y.replaced x) (y.firingRequest k e day)
    rw [← hz] at htaken hengine
    exact ⟨htaken, fun _ => hengine⟩

end Start

theorem Bench.missSlot_of_some {e : Env} {b : Bench} {q : StartRequest} (h : b.u.tr.slot = some q) (why : Detail) :
    b.missSlot e why = (b.tr fun r => { r with slot := none }).out fun o =>
      o.missed e.reading e.t q.work q.column q.kHz why := by
  unfold missSlot
  rw [h]

theorem boundaryTakesAStart : Claims.BoundaryTakesAStart := by
  intro b f e s hlive hdone hkept hkind hrunning hlist hstart hdue hentry hfired hfit u r missed
  have hexec := exec_boundary_start hlive hdone hkept hkind hrunning hlist hstart hdue hentry hfired hfit
  let y := (s.listed []).fires e f.day
  let z := y.decided f.bank e f.day false false (y.tr u).decision
  have hexec : exec (.minuteBoundary b) s = .next (z.refill b.now) := hexec
  have hr := State.Refills.refill z b.now
  generalize z.refill b.now = t at hexec hr
  obtain ⟨es, hes, hoverflow⟩ := hr.events
  have hmissed : ∀ why, (y.tr u).decision = .missed why → missed t why := fun why hwhy => by
    have hz : z = y.missStart f.bank e f.day why := congrArg (y.decided f.bank e f.day false false) hwhy
    refine ⟨(hr.tr u).trans (by rw [hz]; rfl), { missedEntry y f.bank e f.day why with sequence := y.out.log.next }, ?_, rfl, rfl,
      rfl⟩
    rw [hr.log, hz, State.missStart_log]
    exact Log.write_last ..
  refine ⟨t, hexec, ?_, fun w hw => hmissed _ (TxRecord.decision_dark hw), fun w hw => hmissed _ (TxRecord.decision_locked hw),
    fun hon hhold => hmissed _ (TxRecord.decision_manualHold hon hhold), fun hhold hwaits => ?_,
    fun x hhold hcurrent hstate => ?_, fun hhold hready hnone => ?_⟩
  · rw [hr.firedOn]
    have hdecided : z.engine.firedOn e.number = y.engine.firedOn e.number :=
      congrArg (fun m => m.get (Fin.ofNat 512 e.number)) (State.decided_fired ..)
    exact hdecided.trans (State.fires_firedOn ..)
  · obtain ⟨hslot, hstate, hlog, hvoice⟩ := State.decided_waiting (y := y) (k := f.bank) (e := e) (day := f.day) hhold hwaits
    refine ⟨y.firingRequest f.bank e f.day, (congrArg TxRecord.slot (hr.tr u)).trans hslot, rfl, rfl, rfl, rfl,
      (congrArg TxRecord.state (hr.tr u)).trans hstate, fun hempty => ?_, fun p hp => ?_⟩
    · rw [hr.log, hlog, Bench.missSlot_of_empty _ (y.bench (tx e.transmitter)) hempty]
      rfl
    · rw [Bench.missSlot_of_some (b := y.bench (tx e.transmitter)) hp] at hlog hvoice
      refine ⟨logEntry s.clock.reading .missed u p.work.isNone p.work (some p.column) (some p.kHz) none .superseded, es,
        hr.log.trans hlog, rfl, rfl, rfl, rfl, rfl, rfl, raises_of_voice ?_, hoverflow⟩
      rw [hes, hvoice]
      rfl
  · let goesOn : Prop := r.state = .onAir ∧ x.column = col e.primary ∧ x.kHz = e.kHz ∧
      (s.matrix.column x.column).inService = true
    obtain ⟨⟨hgoes, hchanges, hwork⟩, hengine⟩ := State.decided_takesOver (y := y) (k := f.bank) (e := e) (day := f.day) hhold
      hcurrent hstate
    have hiff : isContinuation (y.env u) (y.firingRequest f.bank e f.day) (y.tr u) = true ↔ goesOn := by
      rw [isContinuation_iff]
      constructor
      · rintro ⟨hair, x', hx', hcolumn, hkHz, hservice⟩
        cases hcurrent.symm.trans hx'
        exact ⟨hair, hcolumn, hkHz, hservice⟩
      · rintro ⟨hair, hcolumn, hkHz, hservice⟩
        exact ⟨hair, x, hcurrent, hcolumn, hkHz, hservice⟩
    have hdetail : ∀ w, x.work = some w → y.replaced x = if s.store.active = some w.bank then .superseded else .season :=
      fun w hw => by
        unfold State.replaced
        rw [hw]
        rfl
    have hmanual : x.work = none → y.replaced x = .superseded := fun hw => by
      unfold State.replaced
      rw [hw]
    have hends : ∀ w, x.work = some w →
        y.replaced x = (if s.store.active = some w.bank then .superseded else .season) ∧
        Instr.scheduleWorkEnded u w ∈ t.out.handed ∧ (r.state ≠ .held →
          ∀ c ∈ t.engine.carried, ¬ (c.t = u ∧ c.bank = w.bank ∧ c.entry = w.entry ∧ c.day = w.day)) := fun w hw => by
      refine ⟨hdetail w hw, ?_, fun hheld => ?_⟩
      · rw [hr.handed]
        exact hwork w hw
      · rw [hr.carried, show z.engine = y.engine.uncarries u x from hengine hheld]
        exact Engine.uncarries_gone _ _ hw
    by_cases hgo : goesOn
    · obtain ⟨⟨told, tune, htr⟩, hport, hlog⟩ := hgoes (hiff.2 hgo)
      have htr : t.tr u = _ := (hr.tr u).trans htr
      refine ⟨Bench.endEntry (y.env u) x (y.replaced x),
        [Bench.continueEntry (y.env u) (y.firingRequest f.bank e f.day) (r.desc.powerSent e.kW)],
        Bench.continueOrders (y.env u) (y.firingRequest f.bank e f.day) x (r.desc.powerSent e.kW), hr.log.trans hlog, rfl, rfl,
        rfl, rfl, rfl, rfl, hmanual, hends, hr.port.trans hport, Bench.continueOrders_not_mute, fun _ => ⟨?_,
          ⟨_, rfl, rfl, rfl, rfl⟩, Bench.continued (y.env u) (y.firingRequest f.bank e f.day) (r.desc.powerSent e.kW), ?_, rfl,
          hgo.2.1.symm, hgo.2.2.1.symm⟩, fun h => absurd hgo h⟩
      · rw [htr]
        exact hgo.1
      · rw [htr]
        rfl
    · obtain ⟨⟨hstate, hnone, hslot, hcontext⟩, hport, hlog, hclaim⟩ := hchanges (Bool.eq_false_iff.2 (mt hiff.1 hgo))
      refine ⟨Bench.endEntry (y.env u) x (y.replaced x), [], [], hr.log.trans hlog, rfl, rfl, rfl, rfl, rfl, rfl, hmanual, hends,
        (hr.port.trans hport).trans (List.append_nil _).symm, fun o ho => absurd ho List.not_mem_nil, fun h => absurd h hgo,
        fun _ => ⟨rfl, rfl, (congrArg TxRecord.state (hr.tr u)).trans hstate, (congrArg TxRecord.current (hr.tr u)).trans hnone,
          (congrArg TxRecord.slot (hr.tr u)).trans hslot, ?_, _, (congrArg TxRecord.context (hr.tr u)).trans hcontext, rfl, rfl,
          rfl, rfl, rfl, rfl⟩⟩
      rw [hr.handed]
      exact hclaim
  · obtain ⟨hstate, hclaim, hcontext⟩ := State.decided_ready (y := y) (k := f.bank) (e := e) (day := f.day) hhold hready hnone
    refine ⟨(congrArg TxRecord.state (hr.tr u)).trans hstate, ?_, _, (congrArg TxRecord.context (hr.tr u)).trans hcontext, rfl,
      rfl, rfl, rfl, rfl, rfl⟩
    rw [hr.handed]
    exact hclaim

end Sys2Proof.Machine

/-! A due END at a boundary (R81, R84, R133, R140). -/

namespace Sys2Proof.Machine

open Claims

/-! ### A transmission ended at once over a waiting request (R132, R133) -/

namespace Bench

variable {e : Env} {b : Bench} {x : Transmission} {q : StartRequest}

/-- A transmitter that carries nothing takes a waiting request up as a changeover. -/
theorem takeUp_of_waiting (hcurrent : b.u.tr.current = none) (hslot : b.u.tr.slot = some q) : (b.takeUp e).u.tr =
    { b.u.tr with slot := none, state := .changing, context := some (q.context q.origin) } := by
  have hbegun : ∀ c : Bench, c.u.tr = { b.u.tr with slot := none } → (c.begin_ e q).u.tr =
      { b.u.tr with slot := none, current := none, state := .changing, context := some (q.context q.origin) } := fun c hc => by
    rw [begin_of_changeover (by simp [hc, isContinuation, hcurrent]), createStart_tr, hc]
    simp [closed, hcurrent]
  unfold takeUp
  rw [hslot]
  simp only [tr_tr, hcurrent]
  cases q.late
  · refine hbegun _ ?_
    rfl
  · refine hbegun _ ?_
    rfl

/-- With RF ABSENT an END context is over at once, and the request that waits is taken up. -/
theorem createEnd_of_waiting (hcurrent : b.u.tr.current = some x) (hrf : b.u.tr.rf = some false)
    (hslot : b.u.tr.slot = some q) (cause : Detail) :
    ((b.createEnd e cause).u.tr.unmuted = false ∧ (b.createEnd e cause).u.tr.slot = none) ∧
      (b.createEnd e cause).u.tr.state = .changing ∧ (b.createEnd e cause).u.tr.current = none ∧
      (b.createEnd e cause).u.tr.context = some (q.context q.origin) := by
  have hcontext : (b.ending e x cause).u.tr.context = some (endContext e x cause) := by rw [ending_tr]
  rw [createEnd_eq hcurrent, if_pos (by simp [ending_tr, hrf]), finishEnd_eq hcontext]
  dsimp only
  rw [takeUp_of_waiting (q := q) (by split <;> simp) (by split <;> simp [ending_tr, hslot])]
  split <;> simp [ending_tr]

/-- An END context begun over an empty Pending slot leaves it empty. -/
theorem createEnd_empty (hcurrent : b.u.tr.current = some x) (hslot : b.u.tr.slot = none) (cause : Detail) :
    (b.createEnd e cause).u.tr.slot = none := by
  have hcontext : (b.ending e x cause).u.tr.context = some (endContext e x cause) := by rw [ending_tr]
  have hending : (b.ending e x cause).u.tr.slot = none := by rw [ending_tr]; exact hslot
  rw [createEnd_eq hcurrent]
  split
  · rw [finishEnd_eq hcontext]
    dsimp only
    rw [takeUp_of_empty _ _ (by split <;> simp [hending])]
    split <;> simp [hending]
  · exact hending

/-- Whatever RF is, the transmission that an END context ends is muted. -/
theorem createEnd_mutes (hcurrent : b.u.tr.current = some x) (cause : Detail) :
    (b.createEnd e cause).u.tr.unmuted = false ∧ (b.createEnd e cause).o.port = b.o.port ++ [(e.t, .mute)] := by
  by_cases hrf : b.u.tr.rf = some false
  · refine ⟨?_, (createEnd_silent hcurrent hrf cause).1⟩
    cases hslot : b.u.tr.slot with
    | some q => exact (createEnd_of_waiting hcurrent hrf hslot cause).1.1
    | none =>
      have hcontext : (b.ending e x cause).u.tr.context = some (endContext e x cause) := by rw [ending_tr]
      rw [createEnd_eq hcurrent, if_pos (by simp [ending_tr, hrf]), finishEnd_eq hcontext]
      dsimp only
      rw [takeUp_of_empty _ _ (by split <;> simp [ending_tr, hslot])]
      split <;> simp [ending_tr]
  · rw [createEnd_of_carrier hcurrent hrf]
    exact ⟨by rw [ending_tr], ending_port cause⟩

end Bench

/-! ### Taking an END firing (R84) -/

/-- The work whose window an END firing ends. -/
def Firing.ends (f : Firing) (w : SchedRef) : Bool := w.is f.bank f.entry f.day

theorem Firing.ends_iff {f : Firing} {w : SchedRef} :
    f.ends w = true ↔ w.bank = f.bank ∧ w.entry = f.entry ∧ w.day = f.day := by
  simp [Firing.ends, SchedRef.is, and_assoc]

/-- The transmitter's transmission or its changeover is of the firing's window. -/
def TxRecord.doesWork (r : TxRecord) (f : Firing) : Prop :=
  ∃ w, (r.current.bind (·.work) = some w ∨ r.context.bind (·.work) = some w) ∧ f.ends w = true

theorem TxRecord.doesWork_iff {r : TxRecord} {f : Firing} :
    (r.current.any (fun x => x.work.any f.ends) || r.context.any fun c => c.work.any f.ends) = true ↔ r.doesWork f := by
  simp only [TxRecord.doesWork, Bool.or_eq_true, Option.any_eq_true, Option.bind_eq_some_iff]
  constructor
  · rintro (⟨x, hx, w, hw, h⟩ | ⟨x, hx, w, hw, h⟩)
    · exact ⟨w, .inl ⟨x, hx, hw⟩, h⟩
    · exact ⟨w, .inr ⟨x, hx, hw⟩, h⟩
  · rintro ⟨w, ⟨x, hx, hw⟩ | ⟨x, hx, hw⟩, h⟩
    · exact .inl ⟨x, hx, w, hw, h⟩
    · exact .inr ⟨x, hx, w, hw, h⟩

/-- What taking an END firing leaves of the station that its work has been ended at, with the events that follow. -/
structure State.EndTaken (s : State) (f : Firing) (c : Bench) (es : List Event) (t : State) : Prop where
  record : t.tr f.t = { c.u.tr with
    slot := if (c.u.tr.missable f.ends).isSome then none else c.u.tr.slot, reported := c.u.tr.toldOf }
  port : t.out.port = c.o.port
  log : t.out.log = ((c.u.tr.missable f.ends).toList.map (missedRecord (s.env f.t) .tooLate)).foldl Log.write c.o.log
  voice : t.out.voice =
    (((c.u.tr.missable f.ends).toList.map fun _ => missing f.t .tooLate) ++ es).foldl Outbox.raise c.o.voice
  handed : ∀ i ∈ c.o.handed, i ∈ t.out.handed
  carried : t.engine.carried = s.engine.carried.filter fun k =>
    !(k.t == f.t && k.bank == f.bank && k.entry == f.entry && k.day == f.day)
  fired : t.engine.fired = s.engine.fired

theorem Bench.missIf_handed {e : Env} {b : Bench} {p : SchedRef → Bool} {why : Detail} :
    (b.missIf p why e).o.handed = b.o.handed := by
  cases h : b.u.tr.missable p with
  | none => rw [missIf_of_none h]
  | some x => rw [missIf_of_some h]; rfl

theorem State.EndTaken.of_missIf {s : State} {f : Firing} {c : Bench} {y : State} (hbench : y.bench f.t = c)
    (henv : y.env f.t = s.env f.t) (hengine : y.engine = s.engine) :
    s.EndTaken f c [] ((y.csq f.t (Bench.missIf f.ends .tooLate)).onEngine fun g => g.uncarry f.t f.bank f.entry f.day) := by
  let t := (y.csq f.t (Bench.missIf f.ends .tooLate)).onEngine fun g => g.uncarry f.t f.bank f.entry f.day
  have ht : t.bench f.t = (Bench.missIf f.ends .tooLate (s.env f.t) c).reportRow (s.env f.t) := by
    have h : t.bench f.t = _ := State.csq_bench y f.t (Bench.missIf f.ends .tooLate)
    rwa [henv, hbench] at h
  have htr : t.tr f.t = ((Bench.missIf f.ends .tooLate (s.env f.t) c).reportRow (s.env f.t)).u.tr :=
    congrArg (fun b : Bench => b.u.tr) ht
  have hout : t.out = ((Bench.missIf f.ends .tooLate (s.env f.t) c).reportRow (s.env f.t)).o := by
    have h := congrArg Bench.o ht
    exact h
  show s.EndTaken f c [] t
  refine ⟨htr.trans ?_, ?_, ?_, ?_, fun i hi => ?_, ?_, ?_⟩
  · rw [Bench.reportRow_record, Bench.missIf_station]
    rfl
  · rw [hout, Bench.reportRow_port, Bench.missIf_port]
  · rw [hout, Bench.reportRow_log, Bench.missIf_log]
  · rw [hout, Bench.reportRow_voice, Bench.missIf_voice, List.append_nil]
    rfl
  · rw [hout]
    refine Bench.mem_reportRow _ _ ?_
    rw [Bench.missIf_handed]
    exact hi
  · exact congrArg (fun g : Engine => (g.uncarry f.t f.bank f.entry f.day).carried) hengine
  · exact congrArg (fun g : Engine => (g.uncarry f.t f.bank f.entry f.day).fired) hengine

section FireEnd

variable {s : State} {f : Firing}

theorem State.fireEnd_of_work (h : (s.tr f.t).doesWork f) :
    s.EndTaken f (((s.bench f.t).endWork (s.env f.t) .window .abandoned).reportRow (s.env f.t)) [] (s.fireEnd f) := by
  have hcsq : s.fireEnd f = ((s.csq f.t fun e b => b.endWork e .window .abandoned).csq f.t
      (Bench.missIf f.ends .tooLate)).onEngine fun g => g.uncarry f.t f.bank f.entry f.day := by
    unfold State.fireEnd
    exact congrArg (fun x : State => (x.csq f.t (Bench.missIf f.ends .tooLate)).onEngine _) (if_pos (TxRecord.doesWork_iff.2 h))
  rw [hcsq]
  exact .of_missIf (State.csq_bench ..) rfl rfl

theorem State.fireEnd_of_idle (h : ¬ (s.tr f.t).doesWork f) : s.EndTaken f (s.bench f.t) [] (s.fireEnd f) := by
  have hcsq : s.fireEnd f = (s.csq f.t (Bench.missIf f.ends .tooLate)).onEngine
      fun g => g.uncarry f.t f.bank f.entry f.day := by
    unfold State.fireEnd
    exact congrArg (fun x : State => (x.csq f.t (Bench.missIf f.ends .tooLate)).onEngine _)
      (if_neg (mt TxRecord.doesWork_iff.1 h))
  rw [hcsq]
  exact .of_missIf rfl rfl rfl

end FireEnd

end Sys2Proof.Machine

/-! A boundary's one END (R84). -/

namespace Sys2Proof.Machine

open Claims

namespace State.EndTaken

variable {s x t : State} {f : Firing} {c : Bench} {es : List Event}

/-- A refill after the END adds at most its events. -/
theorem refilled (h : s.EndTaken f c [] x) (hr : State.Refills x t) :
    ∃ es, s.EndTaken f c es t ∧ ∀ v ∈ es, v.kind = .horizonOverflow := by
  obtain ⟨hrecord, hport, hlog, hvoice, hhanded, hcarried, hfired⟩ := h
  obtain ⟨es, hes, hoverflow⟩ := hr.events
  refine ⟨es, ⟨(hr.tr _).trans hrecord, hr.port.trans hport, hr.log.trans hlog, ?_, fun i hi => hr.handed ▸ hhanded i hi,
    hr.carried.trans hcarried, hr.fired.trans hfired⟩, hoverflow⟩
  rw [hes, hvoice, List.append_nil, List.foldl_append]

/-- With nothing of the window waiting, an END leaves the transmitter as its work ended left it. -/
theorem of_kept (h : s.EndTaken f c es t) (hkept : c.u.tr.missable f.ends = none) :
    t.tr f.t = { c.u.tr with reported := c.u.tr.toldOf } ∧ t.out.log = c.o.log ∧
      t.out.voice = es.foldl Outbox.raise c.o.voice := by
  obtain ⟨hrecord, -, hlog, hvoice, -, -, -⟩ := h
  rw [hkept] at hrecord hlog hvoice
  exact ⟨hrecord, hlog, hvoice⟩

end State.EndTaken

theorem TxRecord.missable_of_empty {r : TxRecord} (h : r.slot = none) (p : SchedRef → Bool) : r.missable p = none := by
  unfold TxRecord.missable
  rw [h]
  rfl

/-- A due END, taken alone, is followed by the refill. -/
theorem exec_boundary_end {b : Boundary} {f : Firing} {c : Bench} {s : State} (hlive : live s)
    (hdone : s.boot.phase = .done) (hkept : keepsSeason b s) (hkind : b.kind = .advance)
    (hrunning : s.engine.state = .running) (hlist : s.engine.upcoming = [f]) (hend : f.kind = .end_) (hdue : f.time ≤ b.now)
    (htaken : (s.listed []).EndTaken f c [] ((s.listed []).fireEnd f)) :
    ∃ t es, exec (.minuteBoundary b) s = .next t ∧ s.EndTaken f c es t ∧ ∀ v ∈ es, v.kind = .horizonOverflow := by
  have hexec : exec (.minuteBoundary b) s = .next (((s.listed []).fireEnd f).refill b.now) := by
    rw [exec_advance hlive hdone hkept hkind hrunning, State.takeAllDue_end hlist hend hdue]
  have htaken : s.EndTaken f c [] ((s.listed []).fireEnd f) := ⟨htaken.record, htaken.port, htaken.log, htaken.voice,
    htaken.handed, htaken.carried, htaken.fired⟩
  obtain ⟨es, ht, hes⟩ := htaken.refilled (State.Refills.refill _ b.now)
  exact ⟨_, es, hexec, ht, hes⟩

theorem boundaryTakesAnEnd : Claims.BoundaryTakesAnEnd := by
  intro b f s hlive hdone hkept hkind hrunning hlist hend hdue r
  have taken {c : Bench} := exec_boundary_end (c := c) hlive hdone hkept hkind hrunning hlist hend hdue
  have ofWork (h : r.doesWork f) : ∃ t es, exec (.minuteBoundary b) s = .next t ∧ s.EndTaken f
      (((s.bench f.t).endWork (s.env f.t) .window .abandoned).reportRow (s.env f.t)) es t ∧
      ∀ v ∈ es, v.kind = .horizonOverflow := taken (State.fireEnd_of_work (s := s.listed []) h)
  have ofIdle (h : ¬ r.doesWork f) : ∃ t es, exec (.minuteBoundary b) s = .next t ∧ s.EndTaken f (s.bench f.t) es t ∧
      ∀ v ∈ es, v.kind = .horizonOverflow := taken (State.fireEnd_of_idle (s := s.listed []) h)
  refine ⟨fun x w hstate hcurrent hwork hbank hentry hday => ?_,
    fun k w hstate hcurrent hcontext hwork hbank hentry hday horigin hphase => ?_,
    fun q w hslot hwork hbank hentry hday hother => ?_, fun hslot hcurrent hcontext hreported => ?_⟩
  · have hcarries : (s.bench f.t).u.tr.state.carries = true := (TxState.carries_iff _).2 (by tauto)
    have hcurrent : (s.bench f.t).u.tr.current = some x := hcurrent
    obtain ⟨t, es, hexec, ht, hes⟩ := ofWork ⟨w, .inl (by simp [show r.current = some x from hcurrent, hwork]),
      Firing.ends_iff.2 ⟨hbank, hentry, hday⟩⟩
    let c := ((s.bench f.t).createEnd (s.env f.t) .window).reportRow (s.env f.t)
    have ht : s.EndTaken f c es t := by
      rw [Bench.endWork_of_carries hcarries] at ht
      exact ht
    obtain ⟨hunmuted, hport⟩ := Bench.createEnd_mutes (e := s.env f.t) hcurrent .window
    refine ⟨t, hexec, ?_, ?_, fun hrf => ?_, fun hrf hslot => ?_⟩
    · rw [ht.record]
      simp [c, hunmuted]
    · rw [ht.port]
      simp [c, hport]
    · have hc : c = ((s.bench f.t).ending (s.env f.t) x .window).reportRow (s.env f.t) := by
        rw [← Bench.createEnd_of_carrier hcurrent (by rw [show (s.bench f.t).u.tr.rf = some true from hrf]; decide)]
      rw [ht.record, hc]
      refine ⟨by simp [Bench.ending_tr], by simpa [Bench.ending_tr] using hcurrent, Bench.endContext (s.env f.t) x .window,
        by simp [Bench.ending_tr], rfl, rfl, rfl⟩
    · have hended := Bench.createEnd_of_silence (e := s.env f.t) hcurrent hrf hslot .window
      obtain ⟨htr, hlog, hvoice⟩ := ht.of_kept (TxRecord.missable_of_empty (by
        simpa [c] using Bench.createEnd_empty hcurrent hslot .window) _)
      refine ⟨?_, ?_, ?_, ht.handed _ ?_, ⟨es, raises_of_voice ?_, hes⟩, Bench.endEntry (s.env f.t) x .window, ?_, rfl, rfl,
        rfl, ?_⟩
      · rw [htr]
        simp [c, hended.state]
      · rw [htr]
        simp [c, hended.current]
      · rw [htr]
        simp [c, hended.context]
      · exact Bench.mem_reportRow _ _ (hended.work w hwork)
      · rw [hvoice]
        simp [c, hended.voice, Bench.endEvent, Detail.failureCause]
      · simp [Claims.logs, hlog, c, hended.log]
      · simp [Bench.endEntry, hwork, hbank, hentry]
  · obtain ⟨t, es, hexec, ht, hes⟩ := ofWork ⟨w, .inr (by simp [show r.context = some k from hcontext, hwork]),
      Firing.ends_iff.2 ⟨hbank, hentry, hday⟩⟩
    rw [Bench.endWork_of_changing (b := s.bench f.t) hstate] at ht
    obtain ⟨-, hwaits, -, hmutes, hends⟩ := Bench.abandon_abandons (e := s.env f.t) (b := s.bench f.t)
      (why := .abandoned) (closing := .window) hcontext horigin hphase rfl
    refine ⟨t, hexec, fun hbusy => ?_, fun hstill hunmuted hconfirmed hrf hslot => ?_⟩
    · have hwound : ∃ c, (t.tr f.t).context = some c ∧ c.phase = .windUp ∧ c.outcome = some .abandoned ∧ c.closing = .window := by
        rw [ht.record]
        by_cases hmoving : ∃ p ∈ k.plan, p.status = .moving
        · obtain ⟨-, c, hc, hwound, -⟩ := hwaits hmoving
          exact ⟨c, hc, hwound⟩
        · obtain ⟨-, c, hc, hwound, -⟩ := hmutes hmoving (hbusy.resolve_left hmoving)
          exact ⟨c, hc, hwound⟩
      exact hwound
    · obtain ⟨hready, hnone, -, -⟩ := hends hstill hunmuted hconfirmed hrf hslot
      rw [ht.record]
      exact ⟨hready, hnone⟩
  · have hidle : ¬ r.doesWork f := fun ⟨v, hv, hends⟩ => hother v hv (Firing.ends_iff.1 hends)
    obtain ⟨t, es, hexec, ht, hes⟩ := ofIdle hidle
    have hmissable : (s.bench f.t).u.tr.missable f.ends = some (q, w) :=
      TxRecord.missable_eq_some_iff.2 ⟨hslot, hwork, Firing.ends_iff.2 ⟨hbank, hentry, hday⟩⟩
    obtain ⟨hrecord, hport, hlog, hvoice, -, -, -⟩ := ht
    refine ⟨t, missedRecord (s.env f.t) .tooLate (q, w), es, hexec, ?_, ?_, ?_, ?_, hport, ?_, rfl, rfl, rfl, ?_, rfl, rfl,
      raises_of_voice ?_, hes⟩
    · rw [hrecord]
      exact if_pos (congrArg Option.isSome hmissable)
    · rw [hrecord]
      rfl
    · rw [hrecord]
      rfl
    · rw [hrecord]
      rfl
    · rw [Claims.logs, hlog]
      exact congrArg (fun x : Option (StartRequest × SchedRef) =>
        (x.toList.map (missedRecord (s.env f.t) .tooLate)).foldl Log.write s.out.log) hmissable
    · simp [missedRecord, hbank, hentry]
    · rw [hvoice]
      exact congrArg (fun x : Option (StartRequest × SchedRef) =>
        ((x.toList.map fun _ => missing f.t .tooLate) ++ es).foldl Outbox.raise s.out.voice) hmissable
  · have hidle : ¬ r.doesWork f := fun ⟨v, hv, _⟩ => by
      rw [hcurrent, hcontext] at hv
      rcases hv with hv | hv <;> cases hv
    obtain ⟨t, es, hexec, ht, hes⟩ := ofIdle hidle
    obtain ⟨htr, -, -⟩ := ht.of_kept (TxRecord.missable_of_empty hslot _)
    refine ⟨t, hexec, htr.trans ?_, ht.port, ht.carried⟩
    have htold : r.toldOf = r.reported := if_pos (.inl hreported.symm)
    show { r with reported := r.toldOf } = r
    rw [htold]

end Sys2Proof.Machine

/-! An END and a START of one transmitter due together (R83). -/

namespace Sys2Proof.Machine

open Claims

theorem State.fireEnd_matrix (s : State) (f : Firing) : (s.fireEnd f).matrix = s.matrix := by
  unfold State.fireEnd
  dsimp only
  split <;> rfl

theorem State.fireEnd_store (s : State) (f : Firing) : (s.fireEnd f).store = s.store := by
  unfold State.fireEnd
  dsimp only
  split <;> rfl

theorem State.retest_congr {s t : State} {e : Entry} (hmatrix : t.matrix = s.matrix)
    (hdesc : (t.tr (tx e.transmitter)).desc = (s.tr (tx e.transmitter)).desc) : t.retest e = s.retest e := by
  unfold State.retest
  rw [hmatrix, hdesc]

theorem State.entryOf_congr {s t : State} (hstore : t.store = s.store) (b : Bank) (n : Nat) :
    t.entryOf b n = s.entryOf b n := by
  unfold State.entryOf State.entries
  rw [hstore]

section Pair

variable {s : State} {f g : Firing} {e : Entry} {x : Transmission} {w : SchedRef}

theorem State.matchesCurrent_of_work (hcurrent : (s.tr f.t).current = some x) (hwork : x.work = some w)
    (hends : f.ends w = true) : s.matchesCurrent f = true := by
  unfold State.matchesCurrent
  rw [hcurrent]
  show x.work.any f.ends = true
  rw [hwork]
  exact hends

theorem State.wouldHand_iff {day : Nat} (hfired : s.engine.firedOn e.number ≠ some day) (hfit : s.retest e = true) :
    s.wouldHand e day = true ↔ (s.tr (tx e.transmitter)).decision = .handed := by
  simp [State.wouldHand, hfired, hfit]

/-- A START handed for the transmission that its END matches takes that transmission over, its END written FOLLOWED. -/
theorem State.firePair_follows (hrunning : s.engine.state = .running) (hcurrent : (s.tr f.t).current = some x)
    (hwork : x.work = some w) (hends : f.ends w = true) (hentry : s.entryOf g.bank g.entry = some e)
    (htx : tx e.transmitter = f.t) (hfired : s.engine.firedOn e.number ≠ some g.day) (hfit : s.retest e = true)
    (hhanded : (s.tr f.t).decision = .handed) : s.firePair f g =
      ((s.closeReplaced f.t .followed).csq f.t fun d b => b.begin_ d (s.firingRequest g.bank e g.day)).fires e g.day := by
  have hwould : s.wouldHand e g.day = true := (State.wouldHand_iff hfired hfit).2 (by rw [htx]; exact hhanded)
  let y := s.closeReplaced f.t .followed
  have hy : y = _ := State.closeReplaced_eq hcurrent .followed
  have hystore : y.store = s.store := by rw [hy]; rfl
  have hymatrix : y.matrix = s.matrix := by rw [hy]; rfl
  obtain ⟨⟨told, hrecord⟩, -, -, -, -⟩ :=
    (Bench.replace_replaced (e := s.env f.t) (b := s.bench f.t) hcurrent .followed).reportRow
  have hytr : y.tr f.t = { s.tr f.t with reported := told } := by
    refine Eq.trans ?_ hrecord
    rw [hy]
    exact State.putBench_tr ..
  have hstart : y.fireStart g true = (y.fires e g.day).decided g.bank e g.day false true (y.tr (tx e.transmitter)).decision := by
    rw [State.fireStart_of_entry ((State.entryOf_congr hystore _ _).trans hentry), State.takeStart_of_fit]
    · have hyfired : y.engine.firedOn e.number = s.engine.firedOn e.number :=
        congrArg (fun m => m.get (Fin.ofNat 512 e.number)) (State.closeReplaced_fired ..)
      rwa [hyfired]
    · rw [State.retest_congr hymatrix (by rw [htx, hytr]), hfit]
  have hdecision : (y.tr (tx e.transmitter)).decision = .handed := by
    rw [htx, hytr]
    exact hhanded
  have hrequest : (y.fires e g.day).startRequest g.bank e g.day false = s.firingRequest g.bank e g.day := by
    unfold State.firingRequest State.startRequest
    rw [show (y.fires e g.day).matrix = s.matrix from hymatrix]
  rw [hdecision] at hstart
  have hfollows : s.firePair f g = y.fireStart g true := by
    unfold State.firePair
    rw [hentry, State.matchesCurrent_of_work hcurrent hwork hends, hrunning, Option.any_some, hwould]
    rfl
  rw [hfollows, hstart]
  show (y.fires e g.day).handStart _ ((y.fires e g.day).startRequest g.bank e g.day false) true = _
  rw [State.handStart_followed rfl, htx, hrequest]
  rfl

/-- Where the START would not be handed, its END is taken alone before it. -/
theorem State.firePair_apart (hentry : s.entryOf g.bank g.entry = some e)
    (hnot : s.wouldHand e g.day = false) : s.firePair f g = (s.fireEnd f).fireStart g false := by
  unfold State.firePair
  rw [hentry, Option.any_some, hnot, Bool.and_false]
  rfl

end Pair

theorem pairTakenTogether : Claims.PairTakenTogether := by
  intro b f g e x w s hlive hdone hkept hkind hrunning hlist hf hg hfdue hgdue ht hentry htx hfired hfit hcurrent hwork hbank
    hentry' hday hcontext hslot r goesOn followed
  have hends : f.ends w = true := Firing.ends_iff.2 ⟨hbank, hentry', hday⟩
  let y := s.listed []
  have hycurrent : (y.tr f.t).current = some x := hcurrent
  have hexec : exec (.minuteBoundary b) s = .next ((y.firePair f g).refill b.now) := by
    rw [exec_advance hlive hdone hkept hkind hrunning, State.takeAllDue_pair hlist hf hg hfdue hgdue ht]
  refine ⟨fun hhold hstate => ?_, fun hhold hstate hrf => ?_⟩
  · have hfollows := State.firePair_follows (s := y) hrunning hycurrent hwork hends hentry htx hfired hfit
      (TxRecord.decision_handed hhold (.inr hstate))
    let q := y.firingRequest g.bank e g.day
    let z := (y.closeReplaced f.t .followed).csq f.t fun d b => b.begin_ d q
    obtain ⟨⟨hgoes, hchanges, hended⟩, hengine⟩ := State.replaced_begins hycurrent .followed q
    have hengine : z.engine = y.engine.uncarries f.t x := hengine
    rw [hfollows] at hexec
    have hr := State.Refills.refill (z.fires e g.day) b.now
    generalize hn : (z.fires e g.day).refill b.now = t at hr
    have hexec : exec (.minuteBoundary b) s = .next t := hexec.trans (congrArg _ hn)
    have hiff : isContinuation (y.env f.t) q (y.tr f.t) = true ↔ goesOn := by
      rw [isContinuation_iff]
      constructor
      · rintro ⟨hair, x', hx', hcolumn, hkHz, hservice⟩
        cases hcurrent.symm.trans hx'
        exact ⟨hair, hcolumn, hkHz, hservice⟩
      · rintro ⟨hair, hcolumn, hkHz, hservice⟩
        exact ⟨hair, x, hcurrent, hcolumn, hkHz, hservice⟩
    have hfiredOn : t.engine.firedOn e.number = some g.day := by rw [hr.firedOn, State.fires_firedOn]
    have hcarried : ∀ c ∈ t.engine.carried, ¬ (c.t = f.t ∧ c.bank = w.bank ∧ c.entry = w.entry ∧ c.day = w.day) := by
      rw [hr.carried, show (z.fires e g.day).engine.carried = (y.engine.uncarries f.t x).carried from
        congrArg (fun k : Engine => (k.fire e.number g.day).carried) hengine]
      exact Engine.uncarries_gone _ _ hwork
    have hreported : Instr.scheduleWorkEnded f.t w ∈ t.out.handed := by
      rw [hr.handed]
      exact hended w hwork
    have hfollowed : followed (Bench.endEntry (y.env f.t) x .followed) := by
      refine ⟨rfl, rfl, rfl, ?_, rfl⟩
      simp [Bench.endEntry, hwork]
    by_cases hgo : goesOn
    · obtain ⟨⟨told, tune, htr⟩, hport, hlog⟩ := hgoes (hiff.2 hgo)
      have htr : t.tr f.t = _ := (hr.tr _).trans htr
      refine ⟨t, Bench.continueOrders (y.env f.t) q x (r.desc.powerSent q.kW), hexec, hr.port.trans hport,
        Bench.continueOrders_not_mute, hfiredOn, hcarried, hreported, fun _ => ?_, fun h => absurd hgo h⟩
      rw [htr]
      exact ⟨hgo.1, hcontext, ⟨_, _, hr.log.trans hlog, hfollowed, rfl, rfl, rfl⟩,
        Bench.continued (y.env f.t) q (r.desc.powerSent q.kW), rfl, rfl, hgo.2.1.symm⟩
    · obtain ⟨⟨hstate, hnone, hslot, hcontext⟩, hport, hlog, hclaim⟩ := hchanges (Bool.eq_false_iff.2 (mt hiff.1 hgo))
      refine ⟨t, [], hexec, (hr.port.trans hport).trans (List.append_nil _).symm, fun o ho => absurd ho List.not_mem_nil,
        hfiredOn, hcarried, hreported, fun h => absurd h hgo, fun _ => ⟨?_, ?_, ⟨_, hr.log.trans hlog, hfollowed⟩,
        q.context q.origin, ?_, rfl, rfl, rfl, rfl⟩⟩
      · exact (congrArg TxRecord.state (hr.tr _)).trans hstate
      · exact (congrArg TxRecord.current (hr.tr _)).trans hnone
      · exact (congrArg TxRecord.context (hr.tr _)).trans hcontext
  · have hdecision : (y.tr (tx e.transmitter)).decision = .missed .manualHold := by
      rw [htx]
      exact TxRecord.decision_manualHold (by rw [show (y.tr f.t).state = .onAir from hstate]; rfl) hhold
    have hnot : y.wouldHand e g.day = false := by
      rw [Bool.eq_false_iff, ne_eq, State.wouldHand_iff (s := y) hfired hfit, hdecision]
      nofun
    rw [State.firePair_apart (s := y) hentry hnot] at hexec
    let c := ((y.bench f.t).ending (y.env f.t) x .window).reportRow (y.env f.t)
    have hended : y.EndTaken f c [] (y.fireEnd f) := by
      have h := State.fireEnd_of_work (s := y) (f := f) ⟨w, .inl (by rw [hycurrent]; exact hwork), hends⟩
      rwa [Bench.endWork_of_carries ((TxState.carries_iff _).2 (.inl hstate)),
        Bench.createEnd_of_carrier hycurrent (by rw [show (y.bench f.t).u.tr.rf = some true from hrf]; decide)] at h
    have hyslot : (y.tr f.t).slot = none := hslot
    have hyhold : (y.tr f.t).manualHold = true := hhold
    have hcslot : c.u.tr.slot = none := by simpa [c, Bench.ending_tr] using hyslot
    obtain ⟨htr, hlog, -⟩ := hended.of_kept (TxRecord.missable_of_empty hcslot _)
    let v := y.fireEnd f
    have hvmatrix : v.matrix = y.matrix := State.fireEnd_matrix y f
    have hvstore : v.store = y.store := State.fireEnd_store y f
    have hvdesc : (v.tr f.t).desc = (y.tr f.t).desc := by
      rw [htr]
      simp [c, Bench.ending_tr]
    have hvdecision : (v.tr (tx e.transmitter)).decision = .missed .manualHold := by
      rw [htx, htr]
      exact TxRecord.decision_manualHold (by simp [c, Bench.ending_tr, TxState.off]) (by simpa [c, Bench.ending_tr] using hyhold)
    have hvfired : v.engine.firedOn e.number ≠ some g.day := by
      rwa [show v.engine.firedOn e.number = y.engine.firedOn e.number from
        congrArg (fun m => m.get (Fin.ofNat 512 e.number)) hended.fired]
    have hstart : v.fireStart g false = (v.fires e g.day).missStart g.bank e g.day .manualHold := by
      rw [State.fireStart_of_entry ((State.entryOf_congr hvstore _ _).trans hentry),
        State.takeStart_of_fit hvfired ((State.retest_congr hvmatrix (by rw [htx, hvdesc])).trans hfit), hvdecision]
      rfl
    rw [hstart] at hexec
    have hr := State.Refills.refill ((v.fires e g.day).missStart g.bank e g.day .manualHold) b.now
    have hport : c.o.port = s.out.port ++ [(f.t, .mute)] := by
      simp only [c, Bench.reportRow_port, Bench.ending_port]
      rfl
    have hquiet : c.o.log = s.out.log := by
      simp only [c, Bench.reportRow_log, Bench.ending_log]
      rfl
    refine ⟨_, Bench.endContext (y.env f.t) x .window, missedEntry (v.fires e g.day) g.bank e g.day .manualHold, hexec,
      hr.port.trans (hended.port.trans hport), ?_, ?_, rfl, rfl, (hr.firedOn _).trans (State.fires_firedOn v e g.day), ?_, rfl, rfl⟩
    · rw [hr.tr]
      refine (congrArg TxRecord.state htr).trans ?_
      simp [c, Bench.ending_tr]
    · rw [hr.tr]
      refine (congrArg TxRecord.context htr).trans ?_
      simp [c, Bench.ending_tr]
    · refine hr.log.trans ((State.missStart_log ..).trans ?_)
      exact congrArg (fun l : Log => l.write _) (hlog.trans hquiet)

end Sys2Proof.Machine

/-! The windows that a forward step passes over (R86), and the late-start scan (R85). -/

namespace Sys2Proof.Machine

open Claims

theorem passedWindowsFound : Claims.PassedWindowsFound := by
  intro s k h previous now e day hheader hstart
  have hnear : e.ends day ≤ now → now ≤ e.begins day + 1440 →
      day = now / 1440 - 2 ∨ day = now / 1440 - 1 ∨ day = now / 1440 := fun hends hbegins => by
    unfold Entry.ends at hends
    unfold Entry.begins at hbegins
    omega
  unfold State.passedWindows
  rw [hheader]
  simp only [(sortBy_perm _ _).mem_iff, List.mem_flatMap, List.mem_filterMap, List.mem_eraseDups, List.mem_cons,
    List.not_mem_nil, or_false, Option.ite_none_right_eq_some, Option.some.injEq, Prod.mk.injEq]
  constructor
  · rintro ⟨e, he, d, -, hpassed, rfl, rfl⟩
    exact ⟨he, hpassed⟩
  · rintro ⟨he, heffect, hbegun, hended, heffective, hlate⟩
    exact ⟨e, he, day, hnear hended hlate, ⟨heffect, hbegun, hended, heffective, hlate⟩, rfl, rfl⟩

namespace State.Refills

theorem trans {s t u : State} (h : State.Refills s t) (g : State.Refills t u) : State.Refills s u := by
  obtain ⟨es, hes, hoverflow⟩ := h.events
  obtain ⟨fs, hfs, hoverflow'⟩ := g.events
  refine ⟨g.stations.trans h.stations, g.fired.trans h.fired, g.carried.trans h.carried, g.engine.trans h.engine,
    g.store.trans h.store, g.matrix.trans h.matrix, g.clock.trans h.clock, g.port.trans h.port, g.log.trans h.log,
    g.handed.trans h.handed, es ++ fs, ?_, fun v hv => (List.mem_append.1 hv).elim (hoverflow v) (hoverflow' v)⟩
  rw [hfs, hes, List.foldl_append]

end State.Refills

/-! ### A window under way (R85) -/

section Window

variable {e : Entry} {now day : Nat}

/-- The date's window of the entry is under way at the minute. -/
def Entry.underWay (e : Entry) (now day : Nat) : Prop := e.begins day < now ∧ now < e.ends day

theorem Entry.begins_succ (e : Entry) (day : Nat) : e.begins (day + 1) = e.begins day + 1440 := by
  unfold Entry.begins
  omega

theorem Entry.ends_eq (e : Entry) (day : Nat) : e.ends day = e.begins day + e.duration := rfl

theorem Entry.ends_succ (e : Entry) (day : Nat) : e.ends (day + 1) = e.ends day + 1440 := by
  rw [Entry.ends_eq, Entry.begins_succ, Entry.ends_eq]
  omega

/-- While a window no longer than a day is under way, no other date's window begins, runs or ends. -/
theorem Entry.underWay.alone {d : Nat} (h : e.underWay now day) (hday : e.duration ≤ 1440) (hd : d = day + 1 ∨ d + 1 = day) :
    (now < e.begins d ∨ e.ends d ≤ now) ∧ e.begins d ≠ now ∧ e.ends d ≠ now := by
  obtain ⟨hbegun, hends⟩ := h
  rw [Entry.ends_eq] at hends
  rcases hd with rfl | rfl
  · rw [Entry.ends_succ, Entry.begins_succ, Entry.ends_eq]
    omega
  · rw [Entry.begins_succ] at hbegun hends
    rw [Entry.ends_eq]
    omega

variable {s : State} {k : Bank}

theorem State.scanWindow_of_not (h : ¬ (e.begins day ≤ now ∧ now < e.ends day)) : State.scanWindow k e now day s = s :=
  if_neg fun ⟨_, hbegins, hends, _⟩ => h ⟨hbegins, hends⟩

theorem State.scanWindow_of_underWay (h : e.underWay now day) (heffect : e.inEffect day = true)
    (hfired : s.engine.firedOn e.number ≠ some day) : State.scanWindow k e now day s =
      if now + 2 ≤ e.ends day then s.takeStart k e day true false else (s.fires e day).missStart k e day .tooLate :=
  if_pos ⟨heffect, h.1.le, h.2, hfired⟩

/-- The scan of a bank of one entry takes the one window that is under way. -/
theorem State.lateScan_of_one (hactive : s.store.active = some k) (hentries : s.entries k = [e]) (h : e.underWay now day)
    (hlength : e.duration ≤ 1440) (hday : day = now / 1440 ∨ day + 1 = now / 1440) :
    s.lateScan now = State.scanWindow k e now day s := by
  have hother : ∀ d, d = day + 1 ∨ d + 1 = day → ∀ x : State, State.scanWindow k e now d x = x := fun d hd x =>
    State.scanWindow_of_not fun ⟨hbegins, hends⟩ => by
      obtain ⟨hout | hout, -, -⟩ := h.alone hlength hd
      · exact absurd hbegins (Nat.not_le.2 hout)
      · exact absurd hends (Nat.not_lt.2 hout)
  unfold State.lateScan
  rw [hactive]
  dsimp only
  rw [hentries, List.foldl_cons, List.foldl_nil]
  rcases hday with rfl | hday
  · split
    · rfl
    next hzero => exact hother _ (.inr (by omega)) _
  · rw [← hday, hother _ (.inl rfl), if_neg (Nat.succ_ne_zero day), Nat.add_sub_cancel]

/-- No firing of the entry falls on a minute at which one of its windows is under way. -/
theorem State.gather_of_underWay (hactive : s.store.active = some k) (hentries : s.entries k = [e])
    (hcarried : s.engine.carried = []) (h : e.underWay now day) (hlength : e.duration ≤ 1440)
    (hday : day = now / 1440 ∨ day + 1 = now / 1440) : ∀ f, f ∉ s.gather now := by
  have hnear : ∀ d, d = now / 1440 ∨ d + 1 = now / 1440 → e.begins d ≠ now ∧ e.ends d ≠ now := fun d hd => by
    by_cases hsame : d = day
    · rw [hsame]
      exact ⟨h.1.ne, h.2.ne'⟩
    · exact (h.alone hlength (by omega)).2
  intro f hf
  rcases State.mem_gather.1 hf with ⟨k', e', hk, he, hfires⟩ | ⟨c, hc, -⟩
  · cases hactive.symm.trans hk
    rw [hentries, List.mem_singleton] at he
    subst he
    rcases hfires with ⟨-, hbegins, -⟩ | ⟨d, hd, hends, -⟩
    · exact (hnear _ (.inl rfl)).1 hbegins
    · exact (hnear d hd).2 hends
  · rw [hcarried] at hc
    exact absurd hc List.not_mem_nil

end Window

end Sys2Proof.Machine

/-! The late-start scan after a zero step (R85). -/

namespace Sys2Proof.Machine

open Claims

/-- A step that is not forward only rebuilds the list (R87). -/
theorem State.clockStepRules_of_back (s : State) {previous now : Nat} (h : now ≤ previous) :
    s.clockStepRules previous now = s.rebuild now := by
  unfold State.clockStepRules
  rw [if_neg (Nat.not_lt.2 h)]

section Late

variable {y : State} {k : Bank} {e : Entry} {day : Nat}

/-- The request that a window found late makes. -/
def State.lateRequest (y : State) (k : Bank) (e : Entry) (day : Nat) : StartRequest := y.startRequest k e day true

/-- The event of a start handed late (R85). -/
def latePassed (t : Tx) : Event := { kind := .lateStart, subject := .transmitter t, detail := [] }

theorem State.handStart_late {s : State} {t : Tx} {q : StartRequest} (h : (s.tr t).current = none) (hlate : q.late = true) :
    s.handStart t q false = (s.onOut fun o => o.event .lateStart (.transmitter t) []).csq t fun e b => b.begin_ e q := by
  have hnone : ((s.onOut fun o => o.event .lateStart (.transmitter t) []).tr t).current = none := h
  unfold State.handStart
  rw [hlate]
  dsimp only
  rw [if_pos rfl, if_neg Bool.false_ne_true, hnone]

/-- A START handed late to a transmitter that carries nothing begins a changeover, and LATE_START is raised. -/
theorem State.decided_late (hhold : (y.tr (tx e.transmitter)).manualHold = false)
    (hready : (y.tr (tx e.transmitter)).state = .ready) (hnone : (y.tr (tx e.transmitter)).current = none) :
    let z := y.decided k e day true false (y.tr (tx e.transmitter)).decision
    (z.tr (tx e.transmitter)).state = .changing ∧
      (z.tr (tx e.transmitter)).context = some ((y.lateRequest k e day).context .schedule) ∧
      z.out.voice = y.out.voice.raise (latePassed (tx e.transmitter)) ∧ z.out.log = y.out.log ∧
      z.engine = y.engine := by
  intro z
  let x := y.onOut fun o => o.event .lateStart (.transmitter (tx e.transmitter)) []
  have hz : z = x.csq (tx e.transmitter) fun d b => b.begin_ d (y.lateRequest k e day) := by
    show y.decided k e day true false (y.tr (tx e.transmitter)).decision = _
    rw [TxRecord.decision_handed hhold (.inl hready)]
    exact State.handStart_late hnone rfl
  have hengine : z.engine = y.engine := by rw [hz]; rfl
  have hbench := x.csq_bench (tx e.transmitter) fun d b => b.begin_ d (y.lateRequest k e day)
  have hxready : (x.tr (tx e.transmitter)).state = .ready := hready
  rw [← hz, Bench.begin_of_changeover (by simp [isContinuation, hxready])] at hbench
  have htr : z.tr (tx e.transmitter) = _ := congrArg (fun b : Bench => b.u.tr) hbench
  have hout : z.out = _ := congrArg Bench.o hbench
  refine ⟨?_, ?_, ?_, ?_, hengine⟩
  · simp [htr, Bench.createStart_tr]
  · simp [htr, Bench.createStart_tr]
    rfl
  · rw [hout, Bench.reportRow_voice, Bench.createStart_voice]
    rfl
  · rw [hout, Bench.reportRow_log, Bench.createStart_log]
    rfl

end Late

theorem lateWindowsFound : Claims.LateWindowsFound := by
  intro b k e day s hlive hdone hkept hkind hprevious hrunning hcarried hactive hentries hlength hday heffect hbegun hending
    hfired hfit u hready hnone hhold
  have hway : e.underWay b.now day := ⟨hbegun, hending⟩
  let x := s.rebuild b.now
  let y := x.refill b.now
  have hrebuild : State.Refills s x := .rebuild s b.now
  have htaken : x.takeAllDue b.now = x := State.takeAllDue_later fun f hf => by
    have hlist : x.engine.upcoming = (s.rebuilding b.now).list := by
      show (s.rebuild b.now).engine.upcoming = _
      rw [State.rebuild_eq]
      rfl
    rw [hlist] at hf
    obtain ⟨m, hfrom, -, hm⟩ := (s.rebuilding_lists b.now).1.sound f hf
    rw [State.gather_time hm]
    refine Nat.lt_of_le_of_ne hfrom fun heq => ?_
    rw [← heq] at hm
    exact State.gather_of_underWay hactive hentries hcarried hway hlength hday f hm
  have hy : State.Refills s y := hrebuild.trans (.refill x b.now)
  obtain ⟨es, hes, hoverflow⟩ := hy.events
  have hentries' : y.entries k = [e] := by
    rw [State.entries, hy.store]
    exact hentries
  have hfired' : y.engine.firedOn e.number ≠ some day := by rwa [hy.firedOn]
  have hfit' : y.retest e = true := (State.retest_congr hy.matrix (by rw [hy.tr])).trans hfit
  have htr : y.tr u = s.tr u := hy.tr u
  have hexec : exec (.minuteBoundary b) s = .next (State.scanWindow k e b.now day y) := by
    have hserved := boundaryServedInOrder b s hlive hdone hkept (by rw [hrunning]; decide)
    simp only [hkind, hprevious, Option.getD_some, s.clockStepRules_of_back le_rfl, and_true] at hserved
    have hdone : (x.takeAllDue b.now).refill b.now = y := congrArg (·.refill b.now) htaken
    rw [hserved, hdone, if_pos (hy.engine.trans hrunning),
      State.lateScan_of_one (hy.store ▸ hactive) hentries' hway hlength hday]
  have hscan := State.scanWindow_of_underWay (k := k) hway heffect hfired'
  by_cases htime : b.now + 2 ≤ e.ends day
  · rw [if_pos htime, State.takeStart_of_fit hfired' hfit'] at hscan
    have hstart := State.decided_late (y := y.fires e day) (k := k) (day := day) (by exact htr ▸ hhold) (by exact htr ▸ hready)
      (by exact htr ▸ hnone)
    let z := (y.fires e day).decided k e day true false ((y.fires e day).tr u).decision
    have hscan : State.scanWindow k e b.now day y = z := hscan
    obtain ⟨hstate, hcontext, hvoice, hlog, hengine⟩ := hstart
    have hengine : z.engine = (y.fires e day).engine := hengine
    have hvoice : z.out.voice = y.out.voice.raise (latePassed u) := hvoice
    refine ⟨z, es, hexec.trans (congrArg _ hscan), ?_, hoverflow, fun _ => ⟨hstate, raises_of_voice ?_, hlog.trans hy.log,
      _, hcontext, rfl, rfl, rfl, rfl, rfl⟩, fun h => absurd htime (Nat.not_le.2 h)⟩
    · rw [hengine]
      exact State.fires_firedOn ..
    · rw [hvoice, hes, List.foldl_append]
      rfl
  · rw [if_neg htime] at hscan
    refine ⟨_, es, hexec.trans (congrArg _ hscan), State.fires_firedOn y e day, hoverflow, fun h => absurd h htime,
      fun _ => ⟨htr, raises_of_voice ?_, missedEntry (y.fires e day) k e day .tooLate, ?_, rfl, rfl, rfl, rfl⟩⟩
    · rw [State.missStart_voice, List.foldl_append, ← hes]
      rfl
    · refine (State.missStart_log ..).trans ?_
      exact congrArg (fun l : Log => l.write _) hy.log

end Sys2Proof.Machine

/-! The passed work that a forward step ends, each transmitter in turn (R86 step 2). -/

namespace Sys2Proof.Machine

open Claims

/-! ### What ending a work makes of the Pending slot -/

namespace Bench

variable {e : Env} {b : Bench} {k : Context} {x : Transmission}

/-- The Pending slot is as it was, or empty. -/
def Empties (b c : Bench) : Prop := c.u.tr.slot = none ∨ c.u.tr.slot = b.u.tr.slot

theorem takeUp_slot (hcurrent : b.u.tr.current = none) : (b.takeUp e).u.tr.slot = none := by
  cases hslot : b.u.tr.slot with
  | none => rw [takeUp_of_empty _ _ hslot, hslot]
  | some q => rw [takeUp_of_waiting hcurrent hslot]

theorem createEnd_of_none (hcurrent : b.u.tr.current = none) (cause : Detail) : b.createEnd e cause = b := by
  unfold createEnd
  rw [hcurrent]

theorem createEnd_empties (cause : Detail) : Empties b (b.createEnd e cause) := by
  cases hcurrent : b.u.tr.current with
  | none => exact .inr (by rw [createEnd_of_none hcurrent])
  | some x =>
    by_cases hrf : b.u.tr.rf = some false
    · left
      cases hslot : b.u.tr.slot with
      | none => exact createEnd_empty hcurrent hslot cause
      | some q => exact (createEnd_of_waiting hcurrent hrf hslot cause).1.2
    · exact .inr (by rw [createEnd_of_carrier hcurrent hrf, ending_tr])

/-- An outcome that leaves READY takes up whatever waits. -/
theorem applyOutcome_slot (hcontext : b.u.tr.context = some k) (hready : (k.outcome.getD .abandoned).leavesReady = true) :
    (b.applyOutcome e).u.tr.slot = none := by
  have houtcome : ∀ (c : Bench) (why : Detail) (code : Option Nat), why.leavesReady = true →
      (c.outcomeState e why code).u.tr.current = c.u.tr.current := fun c why code h => by
    unfold outcomeState
    split
    · cases h
    · cases h
    · cases h
    · cases h
    · rfl
  rw [applyOutcome_eq hcontext]
  dsimp only
  rw [if_pos hready]
  refine takeUp_slot ?_
  rw [reportRow_record, houtcome _ _ _ hready, concluded_tr]

theorem unclaimed_context (hcontext : b.u.tr.context = some k) :
    (b.unclaimed e k).u.tr.context = some { k with claim := none } := by
  unfold unclaimed
  split <;> simp [sendMute_tr, hcontext]

theorem proceed_empties (hcontext : b.u.tr.context = some k) (hready : (k.outcome.getD .abandoned).leavesReady = true) :
    Empties b (b.proceed e) := by
  cases hmoving : k.stepMoving with
  | true => exact .inr (by rw [proceed_of_moving hcontext hmoving])
  | false =>
    rw [proceed_eq hcontext hmoving]
    split
    · right
      split
      · exact unclaimed_slot k
      · exact unclaimed_slot k
    · exact .inl (applyOutcome_slot (unclaimed_context hcontext) hready)

theorem abandon_empties {why : Detail} (hready : why.leavesReady = true) (closing : Detail) :
    Empties b (b.abandon e why closing) := by
  cases hcontext : b.u.tr.context with
  | none =>
    right
    unfold abandon
    rw [hcontext]
  | some k =>
    by_cases hruns : k.origin = .end_ ∨ k.phase = .windUp
    · exact .inr (by rw [abandon_of_ended hcontext hruns])
    · obtain ⟨horigin, hphase⟩ := not_or.1 hruns
      let c := b.windingUp why closing none k
      have hc : c.u.tr.context = some (Context.windUp why closing none k) := by simp [c, hcontext]
      have hcancel := cancelWaiting_context (e := e) hc
      have hslot : (c.cancelWaiting e).u.tr.slot = b.u.tr.slot := by
        rw [hcancel]
        simp [c]
      rw [abandon_eq hcontext horigin hphase]
      exact (proceed_empties (b := c.cancelWaiting e) (k := (Context.windUp why closing none k).cancel) (by rw [hcancel])
        hready).imp_right fun h => h.trans hslot

theorem endWork_empties {why : Detail} (hready : why.leavesReady = true) (cause : Detail) :
    Empties b (b.endWork e cause why) := by
  unfold endWork
  split
  · exact createEnd_empties cause
  · exact abandon_empties hready cause

end Bench

/-! ### Each transmitter in turn (log 54) -/

/-- The transmitter does work of the schedule whose window has ended. -/
def TxRecord.passed (r : TxRecord) (now : Nat) : Bool := r.work.any fun w => decide (w.windowEnd ≤ now)

theorem TxRecord.passed_of_work {r : TxRecord} {now : Nat} {w : SchedRef} (hwork : r.work = some w) (h : w.windowEnd ≤ now) :
    r.passed now = true := by
  simp [TxRecord.passed, hwork, h]

theorem TxRecord.passed_eq_false {r : TxRecord} {now : Nat} (h : ∀ w, r.work = some w → now < w.windowEnd) :
    r.passed now = false := by
  cases hwork : r.work with
  | none => simp [TxRecord.passed, hwork]
  | some w => simp [TxRecord.passed, hwork, h w hwork]

/-- What a forward step makes of a transmitter's passed work. -/
def Bench.endPassed (now : Nat) (e : Env) (b : Bench) : Bench :=
  if b.u.tr.passed now then (b.endWork e .window .abandoned).reportRow e else b

theorem Bench.endPassed_of_passed {now : Nat} {e : Env} {b : Bench} (h : b.u.tr.passed now = true) :
    b.endPassed now e = (b.endWork e .window .abandoned).reportRow e := if_pos h

theorem Bench.endPassed_serves (now : Nat) (e : Env) (b : Bench) : Bench.Puts e Set.univ b (b.endPassed now e) :=
  .when (.refl b) (.reportRow (.endWork (.refl b)))

section Turns

variable {now : Nat}

/-- A transmitter's turn is an operation on its station, beside the Carried List. -/
theorem State.endPassed_eq (now : Nat) (s : State) (t : Tx) : ∃ g : Engine, g.fired = s.engine.fired ∧
    State.endPassed now s t = { s.onStation t (Bench.endPassed now) with engine := g } := by
  have hturn : s.onStation t (Bench.endPassed now) = s.putBench t ((s.bench t).endPassed now (s.env t)) := rfl
  have hidle : ∀ h : (s.tr t).passed now = false, s.onStation t (Bench.endPassed now) = s := fun h => by
    rw [hturn]
    exact (congrArg (s.putBench t) (if_neg (by rw [show (s.bench t).u.tr.passed now = false from h]; decide))).trans
      (s.putBench_bench t)
  unfold State.endPassed
  cases hwork : (s.tr t).work with
  | none =>
    refine ⟨s.engine, rfl, ?_⟩
    rw [hidle (by simp [TxRecord.passed, hwork])]
  | some w =>
    by_cases h : w.windowEnd ≤ now
    · refine ⟨s.engine.uncarry t w.bank w.entry w.day, rfl, ?_⟩
      dsimp only
      rw [if_pos h, hturn, Bench.endPassed_of_passed (b := s.bench t) (TxRecord.passed_of_work hwork h)]
      rfl
    · refine ⟨s.engine, rfl, ?_⟩
      dsimp only
      rw [if_neg h, hidle (by simp [TxRecord.passed, hwork, h])]

theorem State.foldl_onStation_engine {f : Env → Bench → Bench} (ts : List Tx) (s : State) (g : Engine) :
    ts.foldl (fun s t => s.onStation t f) { s with engine := g } =
      { ts.foldl (fun s t => s.onStation t f) s with engine := g } := by
  induction ts generalizing s with
  | nil => rfl
  | cons t ts ih => exact ih (s.onStation t f)

theorem State.foldl_endPassed (s : State) : ∃ g : Engine, g.fired = s.engine.fired ∧
    allTx.foldl (State.endPassed now) s = { s.onEach (Bench.endPassed now) with engine := g } := by
  have hturns : ∀ (ts : List Tx) (s : State), ∃ g : Engine, g.fired = s.engine.fired ∧
      ts.foldl (State.endPassed now) s = { ts.foldl (fun s t => s.onStation t (Bench.endPassed now)) s with engine := g } := by
    intro ts
    induction ts with
    | nil => exact fun s => ⟨s.engine, rfl, rfl⟩
    | cons t ts ih =>
      intro s
      obtain ⟨g, hg, hturn⟩ := State.endPassed_eq now s t
      obtain ⟨k, hk, hrest⟩ := ih (State.endPassed now s t)
      rw [hturn] at hk
      refine ⟨k, hk.trans hg, ?_⟩
      rw [List.foldl_cons, List.foldl_cons, hrest, hturn, State.foldl_onStation_engine]
  exact hturns allTx s

end Turns

end Sys2Proof.Machine

/-! The clock-step rules (R86, R87). -/

namespace Sys2Proof.Machine

open Claims

/-! ### Each transmitter in turn: where a part of the outbox grows -/

/-- What every turn keeps and one transmitter's turn brings about holds when all have had their turns. -/
theorem State.onEach_adds {f : Env → Bench → Bench} {P : Outbox → Prop} (s : State) (u : Tx)
    (hkeep : ∀ e b, P b.o → P (f e b).o) (hadd : ∀ o, P (f (s.env u) { u := s.stations.get u, o := o }).o) :
    P (s.onEach f).out := by
  have hrest : ∀ (ts : List Tx) (s : State), P s.out → P (ts.foldl (fun s t => s.onStation t f) s).out := by
    intro ts
    induction ts with
    | nil => exact fun _ h => h
    | cons t ts ih => exact fun s h => ih _ (hkeep (s.env t) (s.bench t) h)
  have hturns : ∀ (ts : List Tx) (s : State), u ∈ ts → (∀ o, P (f (s.env u) { u := s.stations.get u, o := o }).o) →
      P (ts.foldl (fun s t => s.onStation t f) s).out := by
    intro ts
    induction ts with
    | nil => exact fun _ hu => absurd hu List.not_mem_nil
    | cons t ts ih =>
      intro s hu hadd
      by_cases h : u = t
      · subst h
        exact hrest ts _ (hadd s.out)
      · refine ih _ ((List.mem_cons.1 hu).resolve_left h) ?_
        have hother : (s.onStation t f).stations.get u = s.stations.get u := upd_get_other _ _ _ _ h
        rw [hother]
        exact hadd
  exact hturns allTx s (mem_allTx u) hadd

/-- The log only grows while each transmitter has its turn. -/
theorem State.onEach_records {f : Env → Bench → Bench} (hf : ∀ e b, Bench.Puts e Set.univ b (f e b)) (s : State) :
    ∃ rs : List LogRecord, (s.onEach f).out.log = rs.foldl Log.write s.out.log := by
  have hturns : ∀ (ts : List Tx) (s : State),
      ∃ rs : List LogRecord, (ts.foldl (fun s t => s.onStation t f) s).out.log = rs.foldl Log.write s.out.log := by
    intro ts
    induction ts with
    | nil => exact fun s => ⟨[], rfl⟩
    | cons t ts ih =>
      intro s
      obtain ⟨rs, hrs⟩ := (hf (s.env t) (s.bench t)).records
      obtain ⟨vs, hvs⟩ := ih (s.onStation t f)
      refine ⟨rs ++ vs, ?_⟩
      have hturn : (s.onStation t f).out.log = rs.foldl Log.write s.out.log := hrs
      rw [List.foldl_cons, hvs, hturn, List.foldl_append]
  exact hturns allTx s

/-- A list without repetition in which only one item gives anything gives what that item does. -/
theorem filterMap_of_only {α β : Type} {g : α → Option β} {u : α} {xs : List α} (hnodup : xs.Nodup) (hu : u ∈ xs)
    (h : ∀ v, v ≠ u → g v = none) : xs.filterMap g = (g u).toList := by
  induction xs with
  | nil => exact absurd hu List.not_mem_nil
  | cons v xs ih =>
    obtain ⟨hfresh, hnodup⟩ := List.nodup_cons.1 hnodup
    by_cases hv : v = u
    · subst hv
      have hrest : xs.filterMap g = [] := List.filterMap_eq_nil_iff.2 fun w hw => h w fun heq => hfresh (heq ▸ hw)
      rw [List.filterMap_cons, hrest]
      cases g v <;> rfl
    · rw [List.filterMap_cons_none (h v hv)]
      exact ih hnodup ((List.mem_cons.1 hu).resolve_left (Ne.symm hv))

/-! ### The passed windows recorded (R86 step 1) -/

/-- A step that changes the Fired Table and writes records. -/
structure State.Notes (s t : State) : Prop where
  frame : { t with engine := s.engine, out := s.out } = s
  records : ∃ rs : List LogRecord, t.out.log = rs.foldl Log.write s.out.log

namespace State.Notes

variable {s t u : State}

theorem refl (s : State) : State.Notes s s := ⟨rfl, [], rfl⟩

theorem trans (h : State.Notes s t) (g : State.Notes t u) : State.Notes s u := by
  obtain ⟨rs, hrs⟩ := h.records
  obtain ⟨vs, hvs⟩ := g.records
  refine ⟨?_, rs ++ vs, by rw [hvs, hrs, List.foldl_append]⟩
  have hframe := congrArg (fun x : State => { x with engine := s.engine, out := s.out }) g.frame
  exact hframe.trans h.frame

theorem missPassed (b : Bank) (s : State) (q : Entry × Nat) : State.Notes s (State.missPassed b s q) := by
  unfold State.missPassed
  split
  · exact refl s
  · exact ⟨rfl, [_], rfl⟩

theorem stations (h : State.Notes s t) : t.stations = s.stations := by
  have hframe := congrArg State.stations h.frame
  exact hframe

theorem env (h : State.Notes s t) (u : Tx) : t.env u = s.env u := by
  have hframe := congrArg (fun x : State => x.env u) h.frame
  exact hframe

end State.Notes

/-- The passed windows recorded. -/
def State.passesMissed (s : State) (previous now : Nat) : State :=
  match s.store.active with
  | some b => (s.passedWindows b previous now).foldl (State.missPassed b) s
  | none => s

theorem State.passesMissed_notes (s : State) (previous now : Nat) : State.Notes s (s.passesMissed previous now) := by
  unfold State.passesMissed
  split
  next b hactive =>
    generalize s.passedWindows b previous now = qs
    clear * -
    induction qs generalizing s with
    | nil => exact .refl s
    | cons q qs ih => exact (State.Notes.missPassed b s q).trans (ih _)
  · exact .refl s

/-- The passed work ended. -/
def State.passesEnded (s : State) (previous now : Nat) : State := allTx.foldl (State.endPassed now) (s.passesMissed previous now)

/-- The work's window has ended by the minute. -/
def SchedRef.over (now : Nat) (w : SchedRef) : Bool := decide (w.windowEnd ≤ now)

theorem State.clockStepRules_of_forward (s : State) {previous now : Nat} (h : previous < now) :
    s.clockStepRules previous now = ((s.passesEnded previous now).missEach (SchedRef.over now) .clockStep).rebuild now := by
  unfold State.clockStepRules
  rw [if_pos h]
  rfl

section Step

variable {s : State} {previous now : Nat}

/-- What a forward step makes of a transmitter: its passed work ended, then its passed request removed. -/
theorem State.stepped_tr (h : previous < now) (u : Tx) : ∃ o : Outbox,
    let r := (Bench.endPassed now (s.env u) { u := s.stations.get u, o := o }).u.tr
    (s.clockStepRules previous now).tr u = { r with
      slot := if (r.missable (SchedRef.over now)).isSome then none else r.slot, reported := r.toldOf } := by
  obtain ⟨g, -, hended⟩ := State.foldl_endPassed (now := now) (s.passesMissed previous now)
  have hnotes := s.passesMissed_notes previous now
  obtain ⟨o, ho⟩ := (s.passesMissed previous now).onEach_station (f := Bench.endPassed now)
    (R := fun e v w => ∃ o, w = (Bench.endPassed now e { u := v, o := o }).u) (fun e b => ⟨b.o, rfl⟩) u
  rw [hnotes.env, hnotes.stations] at ho
  have htr : (s.passesEnded previous now).tr u = (Bench.endPassed now (s.env u) { u := s.stations.get u, o := o }).u.tr := by
    unfold State.passesEnded
    rw [hended]
    exact congrArg Station.tr ho
  refine ⟨o, ?_⟩
  dsimp only
  rw [State.clockStepRules_of_forward s h, (State.Refills.rebuild _ now).tr, State.missEach_tr, htr]

theorem State.passesEnded_out (s : State) (previous now : Nat) :
    (s.passesEnded previous now).out = ((s.passesMissed previous now).onEach (Bench.endPassed now)).out := by
  obtain ⟨g, -, hended⟩ := State.foldl_endPassed (now := now) (s.passesMissed previous now)
  unfold State.passesEnded
  rw [hended]

theorem State.stepped_port (h : previous < now) :
    (s.clockStepRules previous now).out.port = (s.passesEnded previous now).out.port := by
  rw [State.clockStepRules_of_forward s h, (State.Refills.rebuild _ now).port, State.missEach_port]

end Step

end Sys2Proof.Machine

/-! What a clock step does to one transmitter, and the settling of O40. -/

namespace Sys2Proof.Machine

open Claims

theorem TxRecord.work_of_current {r : TxRecord} {x : Transmission} {w : SchedRef} (hcurrent : r.current = some x)
    (hwork : x.work = some w) : r.work = some w := by
  simp [TxRecord.work, hcurrent, hwork]

theorem TxRecord.work_of_context {r : TxRecord} {k : Context} {w : SchedRef} (hcurrent : r.current = none)
    (hcontext : r.context = some k) (hwork : k.work = some w) : r.work = some w := by
  simp [TxRecord.work, hcurrent, hcontext, hwork]

section Step

variable {s : State} {previous now : Nat} {u : Tx}

/-- A forward step leaves what its end of the passed work leaves, when nothing passed waits then. -/
theorem State.stepped_of_passed (h : previous < now) (hpassed : (s.tr u).passed now = true) : ∃ o : Outbox,
    let c := Bench.endWork (s.env u) .window .abandoned { u := s.stations.get u, o := o }
    ((s.clockStepRules previous now).tr u).state = c.u.tr.state ∧
      ((s.clockStepRules previous now).tr u).current = c.u.tr.current ∧
      ((s.clockStepRules previous now).tr u).context = c.u.tr.context ∧
      (((s.clockStepRules previous now).tr u).slot = none ∨ ((s.clockStepRules previous now).tr u).slot = c.u.tr.slot) := by
  obtain ⟨o, ho⟩ := State.stepped_tr (s := s) h u
  dsimp only at ho
  rw [Bench.endPassed_of_passed (b := { u := s.stations.get u, o := o }) hpassed, Bench.reportRow_record] at ho
  refine ⟨o, ?_⟩
  rw [ho]
  refine ⟨rfl, rfl, rfl, ?_⟩
  dsimp only
  split
  · exact .inl rfl
  · exact .inr rfl

/-- No request whose window has ended waits after a forward step. -/
theorem State.stepped_slot (h : previous < now) {q : StartRequest} {w : SchedRef} (hslot : (s.tr u).slot = some q)
    (hwork : q.work = some w) (hover : w.windowEnd ≤ now) : ((s.clockStepRules previous now).tr u).slot = none := by
  obtain ⟨o, ho⟩ := State.stepped_tr (s := s) h u
  let b : Bench := { u := s.stations.get u, o := o }
  have hkept : (b.endPassed now (s.env u)).u.tr.slot = none ∨ (b.endPassed now (s.env u)).u.tr.slot = some q := by
    cases hpassed : b.u.tr.passed now with
    | true =>
      rw [Bench.endPassed_of_passed hpassed, Bench.reportRow_record]
      exact (Bench.endWork_empties (b := b) rfl .window).imp_right fun h => h.trans hslot
    | false =>
      right
      rw [show b.endPassed now (s.env u) = b from if_neg (by rw [hpassed]; decide)]
      exact hslot
  rw [ho]
  rcases hkept with hkept | hkept
  · dsimp only
    split
    · rfl
    · exact hkept
  · exact if_pos (congrArg Option.isSome (TxRecord.missable_eq_some_iff.2 ⟨hkept, hwork, decide_eq_true hover⟩))

/-- The MUTE of a passed transmission is sent. -/
theorem State.stepped_mutes (h : previous < now) {x : Transmission} (hcurrent : (s.tr u).current = some x)
    (hcarries : (s.tr u).state.carries = true) (hpassed : (s.tr u).passed now = true) :
    (u, .mute) ∈ (s.clockStepRules previous now).out.port := by
  have hnotes := s.passesMissed_notes previous now
  have hkeep : ∀ e b, (u, PortOrder.mute) ∈ b.o.port → (u, PortOrder.mute) ∈ (Bench.endPassed now e b).o.port := by
    intro e b hb
    obtain ⟨orders, horders, -⟩ := (Bench.endPassed_serves now e b).own
    rw [horders]
    exact List.mem_append_left _ hb
  have hadd : ∀ o, (u, PortOrder.mute) ∈ (Bench.endPassed now ((s.passesMissed previous now).env u)
      { u := (s.passesMissed previous now).stations.get u, o := o }).o.port := by
    intro o
    rw [hnotes.env, hnotes.stations, Bench.endPassed_of_passed (b := { u := s.stations.get u, o := o }) hpassed,
      Bench.reportRow_port, Bench.endWork_of_carries (b := { u := s.stations.get u, o := o }) hcarries,
      (Bench.createEnd_mutes (b := { u := s.stations.get u, o := o }) hcurrent .window).2]
    exact List.mem_append_right _ (List.mem_singleton.2 rfl)
  have hmem := State.onEach_adds (f := Bench.endPassed now) (P := fun o => (u, PortOrder.mute) ∈ o.port)
    (s.passesMissed previous now) u hkeep hadd
  rw [State.stepped_port h, State.passesEnded_out]
  exact hmem

/-- The one passed window is recorded first, and its date joins the Fired Table. -/
theorem State.stepped_missed (h : previous < now) {k : Bank} {q : Entry × Nat} (hactive : s.store.active = some k)
    (hpassed : s.passedWindows k previous now = [q]) (hfired : s.engine.firedOn q.1.number ≠ some q.2) :
    (s.clockStepRules previous now).engine.firedOn q.1.number = some q.2 ∧ ∃ rest,
      (s.clockStepRules previous now).out.log =
        (missedEntry (s.fires q.1 q.2) k q.1 q.2 .clockStep :: rest).foldl Log.write s.out.log := by
  let x := (s.fires q.1 q.2).missStart k q.1 q.2 .clockStep
  have hmissed : s.passesMissed previous now = x := by
    unfold State.passesMissed
    rw [hactive]
    dsimp only
    rw [hpassed]
    exact if_neg hfired
  obtain ⟨g, hg, hended⟩ := State.foldl_endPassed (now := now) x
  obtain ⟨rs, hrs⟩ := State.onEach_records (Bench.endPassed_serves now) x
  have hr := State.Refills.rebuild ((s.passesEnded previous now).missEach (SchedRef.over now) .clockStep) now
  have hpassesEnded : s.passesEnded previous now = { x.onEach (Bench.endPassed now) with engine := g } := by
    unfold State.passesEnded
    rw [hmissed, hended]
  rw [State.clockStepRules_of_forward s h]
  constructor
  · rw [hr.firedOn]
    have hengine : ((s.passesEnded previous now).missEach (SchedRef.over now) .clockStep).engine = g := by
      rw [State.missEach, State.onEach_engine, hpassesEnded]
    rw [hengine]
    exact (congrArg (fun m => m.get (Fin.ofNat 512 q.1.number)) hg).trans (State.fires_firedOn s q.1 q.2)
  · have hlog : (s.passesEnded previous now).out.log = rs.foldl Log.write x.out.log := by
      rw [hpassesEnded]
      exact hrs
    refine ⟨rs ++ ((s.passesEnded previous now).missables (SchedRef.over now)).map fun x =>
      missedRecord ((s.passesEnded previous now).env x.1) .clockStep x.2, ?_⟩
    rw [hr.log, State.missEach_log, hlog, List.foldl_cons, List.foldl_append]
    rfl

/-- With nothing else passed, the one passed request is recorded. -/
theorem State.stepped_request (h : previous < now) {q : StartRequest} {w : SchedRef}
    (hwindows : ∀ k, s.store.active = some k → s.passedWindows k previous now = [])
    (hworks : ∀ v x, (s.tr v).work = some x → now < x.windowEnd) (hslots : ∀ v, v ≠ u → (s.tr v).slot = none)
    (hslot : (s.tr u).slot = some q) (hwork : q.work = some w) (hover : w.windowEnd ≤ now) :
    logs s (s.clockStepRules previous now) [missedRecord (s.env u) .clockStep (q, w)] ∧
      ∃ es, raises s (s.clockStepRules previous now) (missing u .clockStep :: es) ∧ ∀ v ∈ es, v.kind = .horizonOverflow := by
  have hmissed : s.passesMissed previous now = s := by
    unfold State.passesMissed
    split
    next k hactive =>
      rw [hwindows k hactive]
      rfl
    · rfl
  have hended : s.passesEnded previous now = s := by
    have hturns : ∀ ts : List Tx, ts.foldl (State.endPassed now) s = s := fun ts => by
      refine List.foldl_fixed' (fun t => ?_) ts
      unfold State.endPassed
      split
      next x hx => exact if_neg (Nat.not_le.2 (hworks t x hx))
      · rfl
    unfold State.passesEnded
    rw [hmissed]
    exact hturns allTx
  have hmissables : s.missables (SchedRef.over now) = [(u, q, w)] := by
    have hu : (s.tr u).missable (SchedRef.over now) = some (q, w) :=
      TxRecord.missable_eq_some_iff.2 ⟨hslot, hwork, decide_eq_true hover⟩
    unfold State.missables
    rw [filterMap_of_only allTx_nodup (mem_allTx u) fun v hv => ?_]
    · rw [hu]
      rfl
    · rw [TxRecord.missable_of_empty (hslots v hv)]
      rfl
  have hr := State.Refills.rebuild (s.missEach (SchedRef.over now) .clockStep) now
  obtain ⟨es, hes, hoverflow⟩ := hr.events
  rw [State.clockStepRules_of_forward s h, hended]
  refine ⟨?_, es, raises_of_voice ?_, hoverflow⟩
  · unfold logs
    rw [hr.log, State.missEach_log, hmissables]
    rfl
  · rw [hes, State.missEach_voice, hmissables]
    rfl

end Step

theorem clockStepsRuled : Claims.ClockStepsRuled := by
  intro s previous now t carries
  have hcarries : ∀ {u}, carries u → (s.tr u).state.carries = true := fun h => (TxState.carries_iff _).2 (by tauto)
  refine ⟨fun hback => s.clockStepRules_of_back hback, fun k q hforward hactive hpassed hfired => ?_,
    fun u x w hforward hstate hcurrent hwork hover hrf => ?_,
    fun u x w q v hforward hstate hcurrent hwork hover hrf hslot hv => ?_,
    fun u k w hforward hstate hcurrent hcontext hwork hover horigin hphase => ?_,
    fun u q w hforward hslot hwork hover => State.stepped_slot hforward hslot hwork hover,
    fun u q w hforward hwindows hworks hslots hslot hwork hover => ?_⟩
  · obtain ⟨hfiredOn, rest, hlog⟩ := State.stepped_missed hforward hactive hpassed hfired
    exact ⟨hfiredOn, _, rest, hlog, rfl, rfl, rfl, rfl⟩
  · have hpassed := TxRecord.passed_of_work (TxRecord.work_of_current hcurrent hwork) hover
    have hcarrier : (s.tr u).rf ≠ some false := by rw [hrf]; decide
    obtain ⟨o, hstate', -, hcontext', -⟩ := State.stepped_of_passed (s := s) hforward hpassed
    rw [Bench.endWork_of_carries (b := { u := s.stations.get u, o := o }) (hcarries hstate), Bench.createEnd_of_carrier
      (b := { u := s.stations.get u, o := o }) hcurrent hcarrier,
      Bench.ending_tr] at hstate' hcontext'
    exact ⟨hstate', State.stepped_mutes hforward hcurrent (hcarries hstate) hpassed, _, hcontext', rfl, rfl, rfl⟩
  · have hpassed := TxRecord.passed_of_work (TxRecord.work_of_current hcurrent hwork) hover
    obtain ⟨o, hstate', -, hcontext', hslot'⟩ := State.stepped_of_passed (s := s) hforward hpassed
    obtain ⟨⟨-, hempty⟩, hchanging, -, hcontext⟩ := Bench.createEnd_of_waiting (e := s.env u)
      (b := { u := s.stations.get u, o := o }) hcurrent hrf hslot .window
    rw [Bench.endWork_of_carries (b := { u := s.stations.get u, o := o }) (hcarries hstate)] at hstate' hcontext' hslot'
    rw [hempty, or_self] at hslot'
    exact ⟨hslot', hstate'.trans hchanging, _, hcontext'.trans hcontext, hv, rfl⟩
  · have hpassed := TxRecord.passed_of_work (TxRecord.work_of_context hcurrent hcontext hwork) hover
    obtain ⟨o, hstate', -, hcontext', -⟩ := State.stepped_of_passed (s := s) hforward hpassed
    obtain ⟨-, hwaits, -, hmutes, hends⟩ := Bench.abandon_abandons (e := s.env u)
      (b := { u := s.stations.get u, o := o }) (why := .abandoned) (closing := .window) hcontext horigin hphase rfl
    rw [Bench.endWork_of_changing (b := { u := s.stations.get u, o := o }) hstate] at hstate' hcontext'
    simp only [Bench.reportRow_record] at hwaits hmutes hends
    refine ⟨fun hbusy => ?_, fun hstill hunmuted hconfirmed hrf hslot => ?_⟩
    · have hwound : ∃ c, (t.tr u).context = some c ∧ c.phase = .windUp ∧ c.outcome = some .abandoned ∧ c.closing = .window := by
        rw [hcontext']
        by_cases hmoving : ∃ p ∈ k.plan, p.status = .moving
        · obtain ⟨-, c, hc, hwound, -⟩ := hwaits hmoving
          exact ⟨c, hc, hwound⟩
        · obtain ⟨-, c, hc, hwound, -⟩ := hmutes hmoving (hbusy.resolve_left hmoving)
          exact ⟨c, hc, hwound⟩
      exact hwound
    · obtain ⟨hready, hnone, -, -⟩ := hends hstill hunmuted hconfirmed hrf hslot
      exact ⟨hstate'.trans hready, hcontext'.trans hnone⟩
  · obtain ⟨hlogs, es, hraises, hoverflow⟩ := State.stepped_request hforward hwindows hworks hslots hslot hwork hover
    exact ⟨_, es, hlogs, rfl, rfl, rfl, rfl, hraises, hoverflow⟩

/-- Settles O40. -/
theorem boundaryTakesFirings : Obligations.BoundaryTakesFirings :=
  ⟨boundaryServedInOrder, boundaryTakesAStart, startTurnedAway, boundaryTakesAnEnd, workEndedReported, pairTakenTogether,
    lateWindowsFound, passedWindowsFound, clockStepsRuled⟩

end Sys2Proof.Machine

/-! The state cells as a reset leaves them (R34, R46). -/

namespace Sys2Proof.Machine

open Claims

/-! ### One cell -/

section Cell

variable {c : StateCell} {new : Cell}

/-- What start-up reads of a cell. -/
def StateCell.found (c : StateCell) : Cell := c.recover.latest.contents

theorem StateCell.recover_of_good (h : c.latest.good = true) : c.recover = c := if_pos h

theorem StateCell.found_of_good (h : c.latest.good = true) : c.found = c.latest.contents := by
  unfold found
  rw [recover_of_good h]

theorem StateCell.found_write (c : StateCell) (new : Cell) : (c.write new).found = new := StateCell.found_of_good rfl

/-- A write that was cut leaves what stood before. -/
theorem StateCell.found_spoil (c : StateCell) (new : Cell) : (c.write new).spoil.found = c.latest.contents := by
  unfold found recover
  rw [if_neg (by simp [spoil])]
  rfl

end Cell

/-! ### What a cut leaves of the cells -/

theorem Store.cell_onBank {k : Store} {b c : Bank} {f : SeasonBank → SeasonBank} (hf : ∀ q, (f q).cell = q.cell) :
    ((k.onBank b f).bank c).cell = (k.bank c).cell := by
  rw [Store.bank_onBank]
  split
  next h => rw [hf, h]
  · rfl

theorem Store.cutOp_cell (k : Store) (n : Nat) (b : Bank) : ((k.cutOp n).bank b).cell = (k.bank b).cell := by
  unfold Store.cutOp
  match k.op with
  | none => rfl
  | some (.header _) =>
    dsimp only
    split
    · exact Store.cell_onBank fun _ => rfl
    · rfl
  | some (.page ..) => exact Store.cell_onBank fun _ => rfl
  | some (.erase _) =>
    dsimp only
    split
    · exact Store.cell_onBank fun _ => rfl
    · rfl
  | some (.settings _) => rfl

/-- The cells that a reset leaves are those that the cut of the event's writes leaves. -/
theorem Store.cut_cell (k : Store) (n : Nat) : ∃ begun done, ∀ b,
    ((k.cut n).bank b).cell = ((Store.cutCells begun done k.cellWrites k).bank b).cell :=
  ⟨Config.cellCut (n + 66), Config.cellsDone (n + 65), fun b => Store.cutOp_cell _ n b⟩

/-- The cell being written when a cut falls on its write, or before it. -/
def StateCell.cut (begun : Bool) (before now : StateCell) : StateCell := if begun then now.spoil else before

theorem StateCell.found_cut {begun : Bool} {old : StateCell} {new : Cell} (h : old.latest.good = true) :
    (StateCell.cut begun old (old.write new)).found = old.latest.contents := by
  cases begun with
  | true => exact StateCell.found_spoil old new
  | false => exact StateCell.found_of_good h

section Cut

variable {k : Store} {begun : Bool} {b : Bank} {old : StateCell}

theorem Store.cutCells_first (ws : List (Bank × StateCell)) : Store.cutCells begun 0 ((b, old) :: ws) k =
    (ws.reverse.foldl (fun k w => k.onBank w.1 fun q => { q with cell := w.2 }) k).onBank b fun q =>
      { q with cell := StateCell.cut begun old q.cell } := rfl

/-- A cut of one cell's write. -/
theorem Store.cutCells_one (done : Nat) :
    ((Store.cutCells begun done [(b, old)] k).bank b).cell = (k.bank b).cell ∨
    ((Store.cutCells begun done [(b, old)] k).bank b).cell = StateCell.cut begun old (k.bank b).cell := by
  cases done with
  | succ done => cases done <;> exact .inl rfl
  | zero =>
    right
    rw [Store.cutCells_first, Store.bank_onBank, if_pos rfl]
    rfl

/-- A cut of the writes of both cells: the first is whole before the second begins. -/
theorem Store.cutCells_two {c : Bank} {old' : StateCell} (hc : c ≠ b) (done : Nat) :
    let x := Store.cutCells begun done [(b, old), (c, old')] k
    ((x.bank b).cell = (k.bank b).cell ∧ (x.bank c).cell = (k.bank c).cell) ∨
    ((x.bank b).cell = (k.bank b).cell ∧ (x.bank c).cell = StateCell.cut begun old' (k.bank c).cell) ∨
    ((x.bank b).cell = StateCell.cut begun old (k.bank b).cell ∧ (x.bank c).cell = old') := by
  match done with
  | 0 =>
    intro x
    right; right
    refine ⟨?_, ?_⟩
    · show ((Store.cutCells begun 0 _ k).bank b).cell = _
      rw [Store.cutCells_first, Store.bank_onBank, if_pos rfl]
      show StateCell.cut begun old ((k.onBank c fun q => { q with cell := old' }).bank b).cell = _
      rw [Store.bank_onBank, if_neg hc.symm]
    · show ((Store.cutCells begun 0 _ k).bank c).cell = _
      rw [Store.cutCells_first, Store.bank_onBank, if_neg hc]
      show ((k.onBank c fun q => { q with cell := old' }).bank c).cell = _
      rw [Store.bank_onBank, if_pos rfl]
  | 1 =>
    intro x
    right; left
    refine ⟨?_, ?_⟩
    · show ((Store.cutCells begun 0 [(c, old')] k).bank b).cell = _
      rw [Store.cutCells_first, Store.bank_onBank, if_neg hc.symm]
      rfl
    · show ((Store.cutCells begun 0 [(c, old')] k).bank c).cell = _
      rw [Store.cutCells_first, Store.bank_onBank, if_pos rfl]
      rfl
  | n + 2 =>
    exact .inl (by cases n <;> exact ⟨rfl, rfl⟩)

end Cut

theorem cellWritesCut : Claims.CellWritesCut := by
  intro k n reads stands
  obtain ⟨begun, done, hcell⟩ := k.cut_cell n
  have hreads : ∀ b, reads b = ((Store.cutCells begun done k.cellWrites k).bank b).cell.found := fun b =>
    congrArg StateCell.found (hcell b)
  refine ⟨fun b old new hwrites hgood hnow => ?_, fun b old old' new new' hwrites hgood hgood' hnow hnow' => ?_,
    fun hwrites b hgood => ?_, rfl, rfl⟩
  · rw [hreads, hwrites]
    rcases Store.cutCells_one (k := k) (begun := begun) (b := b) (old := old) done with h | h
    · rw [h, hnow]
      exact .inl (StateCell.found_write ..)
    · rw [h, hnow]
      exact .inr (StateCell.found_cut hgood)
  · rw [hreads, hreads, hwrites]
    rcases Store.cutCells_two (k := k) (begun := begun) (b := b) (old := old) (old' := old') (otherBank_ne b) done with
      ⟨h, h'⟩ | ⟨h, h'⟩ | ⟨h, h'⟩
    · rw [h, h', hnow, hnow']
      exact .inl ⟨StateCell.found_write .., StateCell.found_write ..⟩
    · rw [h, h', hnow, hnow']
      exact .inr (.inl ⟨StateCell.found_write .., StateCell.found_cut hgood'⟩)
    · rw [h, h', hnow]
      exact .inr (.inr ⟨StateCell.found_cut hgood, StateCell.found_of_good hgood'⟩)
  · rw [hreads, hwrites]
    have hkept : Store.cutCells begun done [] k = k := by cases done <;> rfl
    rw [hkept]
    exact StateCell.found_of_good hgood

end Sys2Proof.Machine

/-! Start-up's tests of the banks, bank by bank (R46, R47, R16). -/

namespace Sys2Proof.Machine

open Claims

/-! ### One bank -/

namespace SeasonBank

/-- The bank fails a test of R47. -/
def damaged (b : SeasonBank) : Prop :=
  b.read.erasePending = true ∨ (b.state ≠ .erased ∧ (b.headerPage = .erased ∨ b.headerPage = .failing ∨
    ∃ p, b.pages.get p = .failing))

/-- A bank whose cell is good, tested (R46, R47). -/
def tested (b : SeasonBank) : SeasonBank :=
  match b.damage with
  | some _ => (b.change fun c => { c with state := .damaged, report := none }).rebuildSet
  | none =>
    if b.state = .checking then (b.change fun c => { c with state := .closed, report := none }).rebuildSet
    else b.rebuildSet

theorem rebuildSet_eq (b : SeasonBank) :
    { b.rebuildSet with headerWritten := b.headerWritten, written := b.written } = b := by
  unfold rebuildSet
  split <;> rfl

@[simp] theorem rebuildSet_cell (b : SeasonBank) : b.rebuildSet.cell = b.cell := by
  unfold rebuildSet
  split <;> rfl

@[simp] theorem rebuildSet_header (b : SeasonBank) : b.rebuildSet.header = b.header := by
  unfold rebuildSet
  split <;> rfl

theorem failingPage_isSome {n : Nat} {ps : List EntryPage} : (failingPage n ps).isSome = true ↔ .failing ∈ ps := by
  induction ps generalizing n with
  | nil => simp [failingPage]
  | cons p ps ih => cases p <;> simp [failingPage, ih]

theorem failing_mem {b : SeasonBank} : .failing ∈ b.pages.toArray.toList ↔ ∃ p, b.pages.get p = .failing := by
  rw [Array.mem_toList_iff, Vector.mem_toArray_iff, Vector.mem_iff_getElem]
  constructor
  · rintro ⟨i, hi, h⟩
    exact ⟨⟨i, hi⟩, h⟩
  · rintro ⟨p, h⟩
    exact ⟨p.val, p.isLt, h⟩

theorem damage_isSome {b : SeasonBank} (hgood : b.cell.latest.good = true) : b.damage.isSome = true ↔ b.damaged := by
  unfold damage damaged
  rw [if_neg (by simp [hgood])]
  by_cases herase : b.read.erasePending = true
  · simp [herase]
  · rw [if_neg herase]
    by_cases hstate : b.state = .erased
    · simp [herase, hstate]
    · rw [if_neg hstate]
      cases hpage : b.headerPage <;> simp [herase, hstate, failingPage_isSome, ← failing_mem]

variable {b : SeasonBank}

theorem tested_of_damaged (hgood : b.cell.latest.good = true) (h : b.damaged) :
    b.tested = (b.change fun c => { c with state := .damaged, report := none }).rebuildSet := by
  obtain ⟨d, hd⟩ := Option.isSome_iff_exists.1 ((damage_isSome hgood).2 h)
  unfold tested
  rw [hd]

theorem damage_of_sound (hgood : b.cell.latest.good = true) (h : ¬ b.damaged) : b.damage = none :=
  Option.not_isSome_iff_eq_none.1 (mt (damage_isSome hgood).1 h)

theorem tested_of_sound (hgood : b.cell.latest.good = true) (h : ¬ b.damaged) : b.tested =
    if b.state = .checking then (b.change fun c => { c with state := .closed, report := none }).rebuildSet
    else b.rebuildSet := by
  unfold tested
  rw [damage_of_sound hgood h]

/-- A VALID bank checked under another serial number closed (R16). -/
def compared (serial : BitVec 32) (b : SeasonBank) : SeasonBank :=
  if b.read.report.any fun r => r.serial == serial then b else if b.state = .valid then b.goto .closed else b

end SeasonBank

/-! ### The tests of one bank -/

theorem Store.onBank_of_same {k : Store} {b : Bank} {f : SeasonBank → SeasonBank} (h : f (k.bank b) = k.bank b) :
    k.onBank b f = k := by
  unfold Store.onBank
  rw [h]
  show { k with banks := upd k.banks b (k.banks.get b) } = k
  rw [upd_self]

section Tests

variable {s : State} {b : Bank}

theorem State.recovers (hgood : (s.store.bank b).cell.latest.good = true) :
    (s.onStore fun k => k.onBank b fun q => { q with cell := q.cell.recover }) = s := by
  show { s with store := s.store.onBank b fun q => { q with cell := q.cell.recover } } = s
  rw [Store.onBank_of_same]
  rw [StateCell.recover_of_good hgood]

/-- A bank that fails a test becomes DAMAGED, and BANK_DAMAGED is raised. -/
theorem State.testBank_of_damaged (hgood : (s.store.bank b).cell.latest.good = true) (h : (s.store.bank b).damaged) :
    ∃ n d, s.testBank b = { s with
      store := s.store.writeCell b fun q => (q.change fun c => q.lostCell n { c with state := .damaged, report := none }).rebuildSet
      freeCount := n + 1, out := s.out.event .bankDamaged (.bank b) d } := by
  obtain ⟨d, hd⟩ := Option.isSome_iff_exists.1 ((SeasonBank.damage_isSome hgood).2 h)
  refine ⟨s.freeCount, d, ?_⟩
  unfold State.testBank
  rw [State.recovers hgood]
  dsimp only
  rw [hd]
  rfl

theorem State.testBank_of_sound (hgood : (s.store.bank b).cell.latest.good = true) (h : ¬ (s.store.bank b).damaged) :
    s.testBank b = s.onStore fun k => if (k.bank b).state = .checking then
        k.writeCell b fun q => (q.change fun c => { c with state := .closed, report := none }).rebuildSet
      else k.onBank b SeasonBank.rebuildSet := by
  unfold State.testBank
  rw [State.recovers hgood]
  dsimp only
  rw [SeasonBank.damage_of_sound hgood h]
  dsimp only
  split
  next hstate => exact congrArg (fun x : Store => { s with store := x }) (if_pos hstate).symm
  next hstate => exact congrArg (fun x : Store => { s with store := x }) (if_neg hstate).symm

/-- The test of a bank leaves the other, and the serial number. -/
theorem State.testBank_bank (hgood : (s.store.bank b).cell.latest.good = true) (c : Bank) :
    ((s.testBank b).store.bank c) = if c = b then (s.store.bank b).tested else s.store.bank c := by
  by_cases h : (s.store.bank b).damaged
  · obtain ⟨n, d, ht⟩ := State.testBank_of_damaged hgood h
    have hlost : ∀ x, (s.store.bank b).lostCell n x = x := fun x => if_pos hgood
    rw [ht, SeasonBank.tested_of_damaged hgood h]
    refine (Store.bank_writeCell ..).trans ?_
    simp only [hlost]
  · rw [State.testBank_of_sound hgood h, SeasonBank.tested_of_sound hgood h, State.onStore_store]
    split
    · exact Store.bank_writeCell ..
    · exact Store.bank_onBank ..

theorem State.testBank_serial (s : State) (b : Bank) : (s.testBank b).store.serial = s.store.serial := by
  unfold State.testBank
  dsimp only
  split
  · rfl
  · split <;> rfl

theorem State.testBank_out_of_sound (hgood : (s.store.bank b).cell.latest.good = true) (h : ¬ (s.store.bank b).damaged) :
    (s.testBank b).out = s.out := by
  rw [State.testBank_of_sound hgood h]
  rfl

theorem State.testBank_flags (hgood : (s.store.bank b).cell.latest.good = true) (h : (s.store.bank b).damaged) :
    (s.testBank b).out.sources.getLsbD 5 = true := by
  obtain ⟨n, d, ht⟩ := State.testBank_of_damaged hgood h
  rw [ht]
  show (s.out.raise _).sources.getLsbD 5 = true
  rw [Outbox.raise_sources]
  exact (setBit_getLsbD _ _ _ (by decide)).trans (by simp [EventKind.class, EventKind.code])

/-- The comparison of a bank's serial number leaves the other bank. -/
theorem State.compareSerial_bank (s : State) (b c : Bank) : ((s.compareSerial b).store.bank c) =
    if c = b then (s.store.bank b).compared s.store.serial else s.store.bank c := by
  unfold State.compareSerial SeasonBank.compared State.closeValid
  split
  · split
    next h => rw [h]
    · rfl
  · split
    · exact Store.bank_writeCell ..
    · split
      next h => rw [h]
      · rfl

theorem State.compareSerial_serial (s : State) (b : Bank) : (s.compareSerial b).store.serial = s.store.serial := by
  unfold State.compareSerial State.closeValid
  split
  · rfl
  · split <;> rfl

theorem State.compareSerial_of_other (h : (s.store.bank b).state ≠ .valid) : s.compareSerial b = s := by
  unfold State.compareSerial State.closeValid
  rw [if_neg h]
  exact ite_self _

end Tests

end Sys2Proof.Machine

/-! The banks that start-up finds (R16, R46-R48). -/

namespace Sys2Proof.Machine

open Claims

/-! ### What the tests make of a bank -/

namespace SeasonBank

variable {b : SeasonBank}

@[simp] theorem rebuildSet_read (b : SeasonBank) : b.rebuildSet.read = b.read := congrArg (·.latest.contents) b.rebuildSet_cell

@[simp] theorem rebuildSet_state (b : SeasonBank) : b.rebuildSet.state = b.state := congrArg Cell.state b.rebuildSet_read

@[simp] theorem rebuildSet_effective (b : SeasonBank) : b.rebuildSet.effective = b.effective :=
  congrArg (Option.map fun h : Header => h.date.number * 1440 + h.minute) b.rebuildSet_header

theorem tested_read_of_damaged (hgood : b.cell.latest.good = true) (h : b.damaged) :
    b.tested.read = { b.read with state := .damaged, report := none } := by
  rw [tested_of_damaged hgood h, rebuildSet_read]
  rfl

theorem tested_read_of_checking (hgood : b.cell.latest.good = true) (h : ¬ b.damaged) (hstate : b.state = .checking) :
    b.tested.read = { b.read with state := .closed, report := none } := by
  rw [tested_of_sound hgood h, if_pos hstate, rebuildSet_read]
  rfl

theorem tested_of_kept (hgood : b.cell.latest.good = true) (h : ¬ b.damaged) (hstate : b.state ≠ .checking) :
    b.tested = b.rebuildSet := by
  rw [tested_of_sound hgood h, if_neg hstate]

theorem tested_read_of_kept (hgood : b.cell.latest.good = true) (h : ¬ b.damaged) (hstate : b.state ≠ .checking) :
    b.tested.read = b.read := by
  rw [tested_of_kept hgood h hstate, rebuildSet_read]

/-- Only an ACTIVE bank is found ACTIVE. -/
theorem active_of_tested (hgood : b.cell.latest.good = true) (h : b.tested.state = .active) : b.state = .active := by
  by_cases hdamaged : b.damaged
  · have hread := congrArg Cell.state (tested_read_of_damaged hgood hdamaged)
    cases h.symm.trans hread
  · by_cases hstate : b.state = .checking
    · have hread := congrArg Cell.state (tested_read_of_checking hgood hdamaged hstate)
      cases h.symm.trans hread
    · have hread := congrArg Cell.state (tested_read_of_kept hgood hdamaged hstate)
      exact hread.symm.trans h

theorem compared_of_other {serial : BitVec 32} (h : b.state ≠ .valid) : b.compared serial = b := by
  unfold compared
  rw [if_neg h]
  exact ite_self _

theorem compared_of_valid {serial : BitVec 32} (h : b.state = .valid) : (b.compared serial).state =
    if ∃ r, b.read.report = some r ∧ r.serial = serial then .valid else .closed := by
  have hany : (b.read.report.any fun r => r.serial == serial) = true ↔ ∃ r, b.read.report = some r ∧ r.serial = serial := by
    simp [Option.any_eq_true]
  unfold compared
  by_cases hserial : (b.read.report.any fun r => r.serial == serial) = true
  · rw [if_pos hserial, if_pos (hany.1 hserial)]
    exact h
  · rw [if_neg hserial, if_neg (mt hany.2 hserial), if_pos h]
    rfl

end SeasonBank

/-! ### Both banks (R48) -/

section Banks

variable {s : State}

/-- The state with both banks tested. -/
def State.bothTested (s : State) : State := (s.testBank 0).testBank 1

theorem bank_cases (c : Bank) : c = 0 ∨ c = 1 := by
  revert c
  decide

theorem State.bothTested_bank (hgood : ∀ b, (s.store.bank b).cell.latest.good = true) (c : Bank) :
    s.bothTested.store.bank c = (s.store.bank c).tested := by
  have hfirst := State.testBank_bank (hgood 0)
  have hone : (s.testBank 0).store.bank 1 = s.store.bank 1 := (hfirst 1).trans (if_neg (by decide))
  have hsecond := State.testBank_bank (s := s.testBank 0) (b := 1) (by rw [hone]; exact hgood 1)
  rcases bank_cases c with rfl | rfl
  · exact (hsecond 0).trans ((if_neg (by decide)).trans ((hfirst 0).trans (if_pos rfl)))
  · exact (hsecond 1).trans ((if_pos rfl).trans (by rw [hone]))

theorem State.bothTested_serial (s : State) : s.bothTested.store.serial = s.store.serial :=
  (State.testBank_serial _ 1).trans (State.testBank_serial s 0)

theorem State.checkBanks_eq (s : State) :
    s.checkBanks = ((s.bothTested.onStore Store.settleActive).compareSerial 0).compareSerial 1 := rfl

/-- The comparisons of the serial numbers, of two banks as they were settled. -/
theorem State.compared_bank (s : State) (c : Bank) :
    ((s.compareSerial 0).compareSerial 1).store.bank c = (s.store.bank c).compared s.store.serial := by
  have hfirst := State.compareSerial_bank s 0
  have hone : (s.compareSerial 0).store.bank 1 = s.store.bank 1 := (hfirst 1).trans (if_neg (by decide))
  have hsecond := State.compareSerial_bank (s.compareSerial 0) 1
  rw [State.compareSerial_serial] at hsecond
  rcases bank_cases c with rfl | rfl
  · exact (hsecond 0).trans ((if_neg (by decide)).trans ((hfirst 0).trans (if_pos rfl)))
  · exact (hsecond 1).trans ((if_pos rfl).trans (by rw [hone]))

theorem Store.settleActive_of_one {k : Store} (h : oneActive k) : k.settleActive = k := if_neg h

theorem State.checkBanks_of_one (hgood : ∀ b, (s.store.bank b).cell.latest.good = true) (hone : oneActive s.store) (c : Bank) :
    s.checkBanks.store.bank c = (s.store.bank c).tested.compared s.store.serial := by
  have hsettled : s.bothTested.onStore Store.settleActive = s.bothTested := by
    refine (congrArg (fun x : Store => { s.bothTested with store := x }) (Store.settleActive_of_one ?_)).trans rfl
    rintro ⟨h0, h1⟩
    rw [State.bothTested_bank hgood] at h0 h1
    exact hone ⟨SeasonBank.active_of_tested (hgood 0) h0, SeasonBank.active_of_tested (hgood 1) h1⟩
  rw [State.checkBanks_eq, hsettled, State.compared_bank, State.bothTested_bank hgood, State.bothTested_serial]

/-- Whatever is raised by a bank's damage stays raised (R193). -/
theorem State.checkBanks_flags (hgood : ∀ b, (s.store.bank b).cell.latest.good = true) {k : Bank}
    (h : (s.store.bank k).damaged) : s.checkBanks.out.sources.getLsbD 5 = true := by
  have hfirst := State.testBank_bank (hgood 0)
  have hone : (s.testBank 0).store.bank 1 = s.store.bank 1 := (hfirst 1).trans (if_neg (by decide))
  have hboth : s.bothTested.out.sources.getLsbD 5 = true := by
    rcases bank_cases k with rfl | rfl
    · exact (State.TestsBanks.testBank _ 1).events.grows.1 5 (by decide) (State.testBank_flags (hgood 0) h)
    · exact State.testBank_flags (by rw [hone]; exact hgood 1) (by rw [hone]; exact h)
  have hrest : State.TestsBanks s.bothTested s.checkBanks :=
    ((State.TestsBanks.onStore _ _).trans (.compareSerial _ 0)).trans (.compareSerial _ 1)
  exact hrest.events.grows.1 5 (by decide) hboth

end Banks

/-! ### At POWER_ON -/

theorem State.pollsTable_store (s : State) : s.pollsTable.store = s.store := rfl

theorem State.pollsTable_sources (s : State) : s.pollsTable.out.sources = s.out.sources := rfl

theorem State.pollsTable_notices (s : State) : s.pollsTable.out.notices = s.out.notices := rfl

/-- With its settings found a start-up begins without an event (R204). -/
theorem State.loadSettings_quiet {s : State} (h : s.store.settings.isSome = true) :
    s.loadSettings.out = { s.out with enables := s.block.enables } := by
  have hnone : ¬ s.store.settings.isNone = true := by simpa [Option.isSome_iff_ne_none] using h
  unfold State.loadSettings
  dsimp only
  split
  · split
    next h => exact absurd h hnone
    · rfl
  · rfl

/-- The state in which POWER_ON tests the banks, with nothing in flight at the reset. -/
theorem exec_powerOn {s : State} (hop : s.store.op = none) (hwrites : s.store.cellWrites = []) : ∃ y : State,
    exec .powerOn s = .next y.checkBanks.pollsTable ∧ (∀ b, y.store.bank b = s.store.bank b) ∧
    y.store.serial = (s.store.settings.getD Settings.default).serial ∧
    (s.store.settings.isSome = true → y.out.sources = 0 ∧ y.out.notices = []) := by
  obtain ⟨x, hx⟩ : ∃ x, x = s.resetFor .powerOn := ⟨_, rfl⟩
  have hblock : x.block = s.store.settings.getD Settings.default := by
    have h := State.resetFor_block .powerOn s
    rw [hop, ← hx] at h
    exact h
  have hstore : x.store = s.store.idle := by
    rw [hx]
    exact Store.cut_nothing _ _ hwrites hop
  have hout : x.out = s.out.reset := by rw [hx]; rfl
  have hexec : exec .powerOn s = .next x.loadSettings.checkBanks.pollsTable := by rw [hx]; rfl
  clear hx
  have hload := x.loadSettings_loads.store
  refine ⟨x.loadSettings, hexec, fun b => ?_, ?_, fun hsettings => ?_⟩
  · have hbanks : x.loadSettings.store.banks = s.store.banks := by rw [hload, hstore]; rfl
    exact congrArg (fun v => v.get b) hbanks
  · rw [hload, hblock]
  · rw [State.loadSettings_quiet (by rw [hstore]; exact hsettings), hout]
    exact ⟨rfl, rfl⟩

theorem startupTestsTheBanks : Claims.StartupTestsTheBanks := by
  intro k s hop hwrites hgood hone b serial failing damaged
  obtain ⟨y, hexec, hbank, hserial, -⟩ := exec_powerOn hop hwrites
  have hgood' : ∀ b, (y.store.bank b).cell.latest.good = true := fun b => by rw [hbank]; exact hgood b
  have hone' : oneActive y.store := by
    unfold oneActive
    rw [hbank, hbank]
    exact hone
  have hk : y.checkBanks.store.bank k = b.tested.compared serial := by
    rw [State.checkBanks_of_one hgood' hone', hbank, hserial]
  have hkept : ∀ x : Cell, b.tested.read = x → x.state ≠ .valid →
      (y.checkBanks.store.bank k).read = x := fun x hx hstate => by
    have hother : b.tested.state ≠ .valid := by
      rw [SeasonBank.state, hx]
      exact hstate
    rw [hk, SeasonBank.compared_of_other hother, hx]
  refine ⟨_, hexec, ?_⟩
  rw [State.pollsTable_store, State.pollsTable_sources]
  refine ⟨fun hdamaged => ?_, fun hsound hstate => ?_, fun hsound hstate => ?_,
    fun hsound hchecking hvalid => ?_⟩
  · have hread := hkept _ (SeasonBank.tested_read_of_damaged (hgood k) hdamaged) (show BankState.damaged ≠ .valid from nofun)
    refine ⟨congrArg Cell.state hread, congrArg Cell.report hread, ?_⟩
    exact State.checkBanks_flags hgood' (k := k) (by rw [hbank]; exact hdamaged)
  · have hread := hkept _ (SeasonBank.tested_read_of_checking (hgood k) hsound hstate) (show BankState.closed ≠ .valid from nofun)
    exact ⟨congrArg Cell.state hread, congrArg Cell.report hread⟩
  · have hread : b.tested.read = b.read := SeasonBank.tested_read_of_kept (hgood k) hsound (by rw [hstate]; decide)
    have hvalid : b.tested.state = .valid := (congrArg Cell.state hread).trans hstate
    rw [hk, SeasonBank.compared_of_valid hvalid, hread]
  · have hread := hkept _ (SeasonBank.tested_read_of_kept (hgood k) hsound hchecking) hvalid
    exact congrArg Cell.state hread

/-! ### Two ACTIVE banks (R48) -/

theorem oneActiveBankKept : Claims.OneActiveBankKept := by
  intro x y s hop hwrites hbanks hx hy number start kept
  obtain ⟨w, hexec, hbank, -, hquiet⟩ := exec_powerOn hop hwrites
  have hgood : ∀ b, (w.store.bank b).cell.latest.good = true := fun b => by rw [hbank]; exact (hbanks b).1
  have hsound : ∀ b, ¬ (s.store.bank b).damaged := fun b => by
    obtain ⟨-, -, herase, hpage, hpages⟩ := hbanks b
    rintro (h | ⟨-, h | h | ⟨p, h⟩⟩)
    · rw [herase] at h
      cases h
    · rw [hpage] at h
      cases h
    · rw [hpage] at h
      cases h
    · exact hpages p h
  let z := w.bothTested
  have htested : ∀ b, z.store.bank b = (s.store.bank b).rebuildSet := fun b => by
    show w.bothTested.store.bank b = _
    rw [State.bothTested_bank hgood, hbank, SeasonBank.tested_of_kept (hbanks b).1 (hsound b) (by rw [(hbanks b).2.1]; decide)]
  have hactive : ∀ b, (z.store.bank b).state = .active := fun b => by
    rw [htested, SeasonBank.rebuildSet_state]
    exact (hbanks b).2.1
  have hkept : z.store.keptActive = kept := by
    unfold Store.keptActive
    rw [htested, htested]
    simp only [SeasonBank.rebuildSet_read, SeasonBank.rebuildSet_effective]
    unfold SeasonBank.effective
    rw [hx, hy]
    rfl
  have hsettled : z.store.settleActive = z.store.writeCell (otherBank kept) fun q => q.goto .retired := by
    unfold Store.settleActive
    rw [if_pos ⟨hactive 0, hactive 1⟩, hkept]
  let v := z.onStore Store.settleActive
  have hv : ∀ c, v.store.bank c = if c = otherBank kept then ((s.store.bank (otherBank kept)).rebuildSet).goto .retired
      else (s.store.bank c).rebuildSet := fun c => by
    show z.store.settleActive.bank c = _
    rw [hsettled, Store.bank_writeCell, htested, htested]
  have hvkept : v.store.bank kept = (s.store.bank kept).rebuildSet := (hv kept).trans (if_neg (otherBank_ne kept).symm)
  have hvother : v.store.bank (otherBank kept) = ((s.store.bank (otherBank kept)).rebuildSet).goto .retired :=
    (hv _).trans (if_pos rfl)
  have hvstate : ∀ c, (v.store.bank c).state ≠ .valid := fun c => by
    rw [hv]
    split
    · exact nofun
    · rw [SeasonBank.rebuildSet_state, (hbanks c).2.1]
      exact nofun
  have hchecked : w.checkBanks = v := by
    have hzero : v.compareSerial 0 = v := State.compareSerial_of_other (hvstate 0)
    rw [State.checkBanks_eq]
    show (v.compareSerial 0).compareSerial 1 = v
    rw [hzero, State.compareSerial_of_other (hvstate 1)]
  refine ⟨_, hexec, ?_⟩
  rw [State.pollsTable_store, State.pollsTable_sources, State.pollsTable_notices]
  refine ⟨?_, ?_, ?_, fun hsettings => ?_⟩
  · rw [hchecked, hvkept, SeasonBank.rebuildSet_read]
  · rw [hchecked, hvother]
    rfl
  · rw [hchecked, hvother]
    show ((s.store.bank (otherBank kept)).rebuildSet).read.report = _
    rw [SeasonBank.rebuildSet_read]
  · have hfirst : (w.testBank 0).store.bank 1 = w.store.bank 1 := (State.testBank_bank (hgood 0) 1).trans (if_neg (by decide))
    have hout : w.checkBanks.out = w.out := by
      rw [hchecked]
      show ((w.testBank 0).testBank 1).out = _
      rw [State.testBank_out_of_sound (by rw [hfirst]; exact hgood 1) (by rw [hfirst, hbank]; exact hsound 1),
        State.testBank_out_of_sound (hgood 0) (by rw [hbank]; exact hsound 0)]
    rw [hout]
    exact hquiet hsettings

end Sys2Proof.Machine

/-! What a candidate must be to be adopted (R208). -/

namespace Sys2Proof.Machine

open Claims

theorem Matrix.soleRoute_eq_some_iff {m : Matrix} {t : Tx} {c : Col} : m.soleRoute t = some c ↔
    m.xstate t c = .closed ∧ ∀ d, d ≠ c → m.xstate t d = .opened := by
  have hmem : ∀ d, d ∈ m.closedIn t ↔ m.xstate t d = .closed := fun d => by
    simp [Matrix.closedIn, List.mem_filter, mem_allCols]
  have hsole : m.soleRoute t = some c ↔ m.closedIn t = [c] ∧ m.restOfRow t c (· == .opened) = true := by
    unfold Matrix.soleRoute
    split
    next d hd =>
      rw [hd, List.singleton_inj]
      constructor
      · intro h
        obtain ⟨hrest, heq⟩ := Option.ite_none_right_eq_some.1 h
        cases heq
        exact ⟨rfl, hrest⟩
      · rintro ⟨rfl, hrest⟩
        exact if_pos hrest
    next hnone => exact ⟨nofun, fun h => absurd h.1 (hnone c)⟩
  rw [hsole, Matrix.restOfRow_iff]
  refine and_congr_left fun hopened => ⟨fun h => ?_, fun h => ?_⟩
  · rw [← hmem, h]
    exact List.mem_singleton.2 rfl
  · have hnodup : (m.closedIn t).Nodup := List.Nodup.filter _ (by decide : allCols.Nodup)
    refine List.perm_singleton.1 ((List.perm_ext_iff_of_nodup hnodup (List.nodup_singleton c)).2 fun d => ?_)
    rw [hmem, List.mem_singleton]
    refine ⟨fun hd => by_contra fun hne => ?_, fun hd => hd ▸ h⟩
    cases hd.symm.trans (hopened d hne)

/-- The entry's window on the date contains the minute. -/
def Entry.contains (e : Entry) (now day : Nat) : Prop :=
  (day = now / 1440 ∨ day = now / 1440 - 1) ∧ e.inEffect day = true ∧ e.begins day ≤ now ∧ now < e.ends day

theorem Entry.windowAt_some {e : Entry} {now day : Nat} (h : e.windowAt now = some day) : e.contains now day := by
  have hmem := List.mem_of_find?_eq_some h
  have htest := List.find?_some h
  simp only [Bool.and_eq_true, decide_eq_true_eq, and_assoc] at htest
  simp only [List.mem_cons, List.not_mem_nil, or_false] at hmem
  exact ⟨hmem, htest⟩

theorem Entry.windowAt_none {e : Entry} {now : Nat} (h : e.windowAt now = none) (day : Nat) : ¬ e.contains now day := by
  rintro ⟨hday, heffect, hbegins, hends⟩
  refine List.find?_eq_none.1 h day ?_ ?_
  · simpa using hday
  · simp [heffect, hbegins, hends]

/-- The entry is one that the candidate's route may be adopted for. -/
def State.routes (s : State) (t : Tx) (c : Col) (x : Entry) : Prop :=
  tx x.transmitter = t ∧ x.names c = true ∧ (s.tr t).desc.fits x.kHz x.programme = true ∧
    (s.matrix.column c).desc.permits x.kHz = true

section Adoption

variable {s : State} {b : Bank} {t : Tx} {c : Col} {x : Entry} {day : Nat}

theorem State.adoptable_some (h : s.adoptable b t c = some (x, day)) :
    x ∈ s.entries b ∧ s.routes t c x ∧ x.contains s.now day := by
  obtain ⟨e, he, hx⟩ := List.exists_of_findSome?_eq_some h
  split at hx
  next hroutes =>
    obtain ⟨d, hd, heq⟩ := Option.map_eq_some_iff.1 hx
    cases heq
    exact ⟨he, hroutes, Entry.windowAt_some hd⟩
  next => cases hx

theorem State.adoptable_none (h : s.adoptable b t c = none) (hx : x ∈ s.entries b) (hroutes : s.routes t c x) :
    ¬ x.contains s.now day := by
  have hnone := List.findSome?_eq_none_iff.1 h x hx
  have hwindow : (x.windowAt s.now).map (fun d => (x, d)) = none := (if_pos hroutes).symm.trans hnone
  exact Entry.windowAt_none (Option.map_eq_none_iff.1 hwindow) day

/-- The tests of R208 but for the entry. -/
def State.eligibleFor (s : State) (t : Tx) (b : Bank) (c : Col) : Prop :=
  s.store.active = some b ∧ s.matrix.soleRoute t = some c ∧ s.boot.kind = .warm ∧ s.store.warmAdopt = true ∧
    s.clock.isSet = true ∧ (s.tr t).rf = some true ∧ (s.matrix.column c).inService = true ∧ (s.tr t).holds.empty = true

theorem State.adoption_of_eligible (h : s.eligibleFor t b c) :
    s.adoption t = (s.adoptable b t c).map fun q => (b, c, q.1, q.2) := by
  obtain ⟨hactive, hroute, htests⟩ := h
  unfold State.adoption
  rw [hactive, hroute]
  exact if_pos htests

theorem State.eligible_of_adoption (h : s.adoption t = some (b, c, x, day)) : s.eligibleFor t b c := by
  unfold State.adoption at h
  dsimp only at h
  split at h
  next b' c' hactive hroute =>
    split at h
    next htests =>
      obtain ⟨q, -, heq⟩ := Option.map_eq_some_iff.1 h
      cases heq
      exact ⟨hactive, hroute, htests⟩
    next => cases h
  next => cases h

end Adoption

theorem adoptionTested : Claims.AdoptionTested := by
  intro s u tests
  have hnames : ∀ {x : Entry} {c : Col}, x.names c = true ↔ x.primary = c.val ∨ x.reserveCol = some c := by
    intro x c
    simp [Entry.names]
  refine ⟨fun b c x day h => ?_, fun h b c x day htests => ?_⟩
  · have heligible := State.eligible_of_adoption h
    rw [State.adoption_of_eligible heligible] at h
    obtain ⟨⟨x', day'⟩, hq, heq⟩ := Option.map_eq_some_iff.1 h
    cases heq
    obtain ⟨hx, ⟨htx, hname, hfits, hpermits⟩, hday, heffect, hbegins, hends⟩ := State.adoptable_some hq
    obtain ⟨hactive, hroute, hwarm, hoption, hset, hrf, hservice, hempty⟩ := heligible
    obtain ⟨hclosed, hopened⟩ := Matrix.soleRoute_eq_some_iff.1 hroute
    exact ⟨hactive, hwarm, hoption, hset, hrf, hempty, hservice, hclosed, hopened, hx, htx, hnames.1 hname, hfits, hpermits,
      hday, heffect, hbegins, hends⟩
  · obtain ⟨hactive, hwarm, hoption, hset, hrf, hempty, hservice, hclosed, hopened, hx, htx, hname, hfits, hpermits, hwindow⟩ :=
      htests
    rw [State.adoption_of_eligible ⟨hactive, Matrix.soleRoute_eq_some_iff.2 ⟨hclosed, hopened⟩, hwarm, hoption, hset, hrf,
      hservice, hempty⟩, Option.map_eq_none_iff] at h
    exact State.adoptable_none h hx ⟨htx, hnames.2 hname, hfits, hpermits⟩ hwindow

end Sys2Proof.Machine

/-! The replies to start-up's query, and a candidate that is muted (R120, R207, R209). -/

namespace Sys2Proof.Machine

open Claims

namespace Bench

variable {e : Env} {b : Bench}

/-! ### A silent transmitter that start-up asks (R207) -/

theorem lose_of_dark {w : DarkReason} (h : b.u.tr.state = .dark w) (why : Detail) (code : Option Nat) (after : Bench → Bench) :
    b.lose e why code after = after b := by
  unfold lose
  rw [h]

theorem statReady_of_asked (hasked : b.u.tr.startup = .asked) (hstate : b.u.tr.state = .dark .portSilent) : b.statReady e =
    b.tr fun r => { r with silence := 0, startup := .candidate, poll := none } := by
  have htest : b.replied.u.tr.asked = true ∧ b.replied.u.tr.state.isDark = true := by
    simp [replied, TxRecord.asked, TxState.isDark, hasked, hstate]
  unfold statReady
  refine (if_pos htest).trans ?_
  unfold replied Bench.tr
  dsimp only
  rw [← hstate]

theorem leaveStartup_of_asked (h : b.u.tr.startup = .asked) : b.leaveStartup =
    b.tr fun r => { r with startup := .done, poll := some (r.poll.getD 0) } := by
  unfold leaveStartup Bench.tr
  dsimp only
  rw [h]
  rfl

theorem statOff_of_asked (hasked : b.u.tr.startup = .asked) (hstate : b.u.tr.state = .dark .portSilent)
    (hslot : b.u.tr.slot = none) : b.statOff e =
    b.tr fun r => { r with silence := 0, startup := .done, poll := some (r.poll.getD 0), state := .dark .off } := by
  unfold statOff
  rw [hstate]
  dsimp only
  rw [leaveStartup_of_asked (b := b.replied) hasked]
  refine (lose_of_dark (w := .portSilent) ?_ _ _ _).trans ?_
  · exact hstate
  refine (darken_of_empty e _ ?_ .off).trans rfl
  exact hslot

theorem statFault_of_asked (hasked : b.u.tr.startup = .asked) (hstate : b.u.tr.state = .dark .portSilent) :
    b.statFault e = (b.sendMute e).replied.leaveStartup.lock e .txFault none := by
  have htest : b.u.tr.asked = true := by simp [TxRecord.asked, hasked]
  have hdark : (b.sendMute e).replied.leaveStartup.u.tr.state = .dark .portSilent := by
    simpa [replied, leaveStartup, sendMute_tr] using hstate
  unfold statFault
  rw [hstate]
  dsimp only
  rw [if_pos htest, lose_of_dark hdark]

/-- A fourth silence ends the query of a transmitter that was silent before (R207). -/
theorem pollInstant_of_absent (h : 3 ≤ b.u.tr.silence) (hstate : b.u.tr.state = .dark .portSilent) :
    b.pollInstant e = (b.polled e).unasked :=
  (if_neg (show ¬ (b.polled e).u.tr.silence < 3 from not_lt.2 h)).trans (if_pos hstate)

/-! ### A candidate being muted (R209) -/

theorem confirmed_of_muting {w : Timer} (h : b.u.tr.startup = .muting w) : b.confirmed e = b.candidateReady := by
  unfold confirmed
  dsimp only
  rw [h]

theorem muteLimitExpired_of_muting {w : Timer} (h : b.u.tr.startup = .muting w) :
    b.muteLimitExpired e = (b.tr fun r => { r with startup := .done, poll := some 0 }).lock e .muteFailed none := by
  unfold muteLimitExpired
  rw [h]

end Bench

theorem queryAnswered : Claims.QueryAnswered := by
  refine ⟨?_, fun s => ⟨?_, ?_⟩⟩
  · intro t s hlive hasked hstate hreported hcontext hslot r at_
    have hquiet : (s.tr t).condition = .quiet := TxRecord.condition_of_off (by rw [hstate]; rfl)
    have hat : ∀ f : TxRecord → TxRecord, s.putBench t ((s.bench t).tr f) = at_ (f r) := fun _ => rfl
    refine ⟨?_, ?_, ?_, fun code => ?_, fun p hp => ?_⟩
    · refine (exec_told (f := Bench.statReady) rfl hlive (Bench.statReady_of_asked hasked hstate) ?_).trans (congrArg _ (hat _))
      exact (TxRecord.condition_of_off (by simp [hstate, TxState.off])).trans hreported.symm
    · refine (exec_told (f := Bench.statOff) rfl hlive (Bench.statOff_of_asked hasked hstate hslot) ?_).trans (congrArg _ (hat _))
      exact (TxRecord.condition_of_off rfl).trans hreported.symm
    · refine ⟨_, exec_csq (f := Bench.statFault) rfl hlive, ?_⟩
      rw [Bench.statFault_of_asked hasked hstate, Bench.lock_of_empty _ _ (by
        simpa [Bench.replied, Bench.leaveStartup, Bench.sendMute_tr] using hslot)]
      refine ⟨?_, ?_, ?_, ?_, ?_, ?_, ?_, raises_of_voice ?_⟩
      all_goals simp [Bench.replied, Bench.leaveStartup, Bench.sendMute_tr, Outbox.event_eq, Claims.locking, lockDetail,
        LockReason.detail, hasked]
    · refine exec_ignored (f := Bench.faultLine code) rfl hlive (hreported.trans hquiet.symm) (if_pos ?_)
      show (s.tr t).state.off = true
      rw [hstate]
      rfl
    · have hexec := exec_csq (i := .statPollInstant t)
        (f := fun e b => if b.u.tr.poll.isSome then b.pollInstant e else b) rfl hlive
      rw [if_pos (by simp [show (s.tr t).poll = some p from hp])] at hexec
      refine ⟨_, hexec, ?_⟩
      by_cases hsilence : (s.tr t).silence < 3
      · rw [Bench.pollInstant_of_counting hsilence]
        refine ⟨?_, raises_of_voice ?_, ?_, ?_, fun _ => ⟨?_, ?_⟩, fun h => absurd hsilence (Nat.not_lt.2 h)⟩
        all_goals simp [Bench.polled, Bench.order, r, hasked]
      · rw [Bench.pollInstant_of_absent (Nat.not_lt.1 hsilence) hstate]
        refine ⟨?_, raises_of_voice ?_, ?_, ?_, fun h => absurd h hsilence, fun _ => ?_⟩
        all_goals simp [Bench.polled, Bench.unasked, Bench.order, r, hasked]
  · simp [State.queryEnded, mem_allTx, TxRecord.asked]
  · simp only [State.adoptionEnded, List.all_eq_true, mem_allTx, forall_const, Bool.not_eq_true', TxRecord.inAdoption]
    refine forall_congr' fun t => ?_
    cases (s.tr t).startup <;> simp

theorem candidateMuted : Claims.CandidateMuted := by
  refine ⟨fun t s hlive hpoll hreported => ?_, fun t w s hlive hmuting hmuted hpending hslot => ⟨?_, ?_⟩⟩
  · refine exec_ignored (f := fun e b => if b.u.tr.poll.isSome then b.pollInstant e else b) rfl hlive hreported (if_neg ?_)
    show ¬ (s.tr t).poll.isSome = true
    rw [hpoll]
    decide
  · have hexec := exec_csq (i := .rfAbsent t) (f := Bench.rfAbsent) rfl hlive
    obtain ⟨c, htr⟩ := (s.bench t).hushed_tr (s.env t)
    rw [Bench.rfAbsent_of_muted hmuted hpending, Bench.confirmed_of_muting (by rw [htr]; exact hmuting)] at hexec
    refine ⟨_, hexec, ?_, ?_, ?_, ?_, ?_, ?_, raises_of_voice ?_⟩
    all_goals simp [Bench.candidateReady, htr]
  · have hexec := exec_csq (i := .muteLimitExpiry t) (f := Bench.muteLimitExpired) rfl hlive
    rw [Bench.muteLimitExpired_of_muting (b := s.bench t) hmuting, Bench.lock_of_empty _ _ hslot] at hexec
    refine ⟨_, hexec, ?_, ?_, ?_, ?_, ?_, ?_, raises_of_voice ?_⟩
    all_goals simp [Outbox.event_eq, Claims.locking, lockDetail, LockReason.detail]

end Sys2Proof.Machine

/-! The adoption of the one candidate (R207 step 6, R209). -/

namespace Sys2Proof.Machine

open Claims

/-! ### MUTE to the transmitters not sent it yet (R207 step 6) -/

/-- The transmitter has been sent MUTE since the reset, or is on air. -/
def TxRecord.spared (r : TxRecord) : Bool := r.mutedOnce || r.state == .onAir

/-- What step 6 makes of a transmitter that it need not adopt. -/
def Bench.mutedLate (e : Env) (b : Bench) : Bench := if b.u.tr.spared then b else (b.sendMute e).reportRow e

theorem State.onStation_eq (s : State) (t : Tx) (f : Env → Bench → Bench) :
    s.onStation t f = s.putBench t (f (s.env t) (s.bench t)) := rfl

theorem State.muteOther_eq (s : State) (t : Tx) : s.muteOther t = s.onStation t Bench.mutedLate := by
  have hspared : (s.tr t).spared = true ↔ (s.tr t).mutedOnce = true ∨ (s.tr t).state = .onAir := by simp [TxRecord.spared]
  unfold State.muteOther
  rw [State.onStation_eq]
  by_cases h : (s.tr t).spared = true
  · have hbench : (s.bench t).mutedLate (s.env t) = s.bench t := if_pos h
    rw [hbench, State.putBench_bench]
    exact if_pos (hspared.1 h)
  · have hbench : (s.bench t).mutedLate (s.env t) = ((s.bench t).sendMute (s.env t)).reportRow (s.env t) := if_neg h
    rw [hbench]
    exact if_neg (mt hspared.2 h)

/-- The state with every such transmitter muted. -/
def State.mutedLate (s : State) : State := s.onEach Bench.mutedLate

theorem State.foldl_muteOther (s : State) : allTx.foldl State.muteOther s = s.mutedLate := by
  have h : (State.muteOther) = fun s t => State.onStation s t Bench.mutedLate :=
    funext fun s => funext fun t => State.muteOther_eq s t
  rw [h]
  rfl

section MutedLate

variable (s : State)

theorem State.mutedLate_station {u : Tx} (h : (s.tr u).spared = true) : s.mutedLate.stations.get u = s.stations.get u :=
  s.onEach_station (f := Bench.mutedLate) (R := fun _ v w => v.tr.spared = true → w = v)
    (fun _ _ hspared => congrArg Bench.u (if_pos hspared)) u h

theorem State.mutedLate_log : s.mutedLate.out.log = s.out.log := by
  refine (s.onEach_out (φ := Outbox.log) (F := fun _ _ x => x) fun e b => ?_).trans (List.foldl_fixed _)
  unfold Bench.mutedLate
  split
  · rfl
  · rw [Bench.reportRow_log, Bench.sendMute_log]

theorem State.mutedLate_voice : s.mutedLate.out.voice = s.out.voice := by
  refine (s.onEach_out (φ := Outbox.voice) (F := fun _ _ x => x) fun e b => ?_).trans (List.foldl_fixed _)
  unfold Bench.mutedLate
  split
  · rfl
  · rw [Bench.reportRow_voice, Bench.sendMute_voice]

/-- The MUTEs that step 6 sends. -/
def State.lateMutes : List (Tx × PortOrder) :=
  (allTx.filter fun v => !(s.tr v).spared).map fun v => (v, .mute)

theorem State.mem_lateMutes {s : State} {o : Tx × PortOrder} :
    o ∈ s.lateMutes ↔ (s.tr o.1).spared = false ∧ o.2 = .mute := by
  obtain ⟨v, p⟩ := o
  simp only [State.lateMutes, List.mem_map, List.mem_filter, mem_allTx, true_and, Bool.not_eq_true', Prod.mk.injEq]
  constructor
  · rintro ⟨w, hw, rfl, rfl⟩
    exact ⟨hw, rfl⟩
  · rintro ⟨hv, rfl⟩
    exact ⟨v, hv, rfl, rfl⟩

theorem Bench.mutedLate_port {e : Env} {b : Bench} :
    (b.mutedLate e).o.port = if b.u.tr.spared then b.o.port else b.o.port ++ [(e.t, .mute)] := by
  unfold Bench.mutedLate
  split
  · rfl
  · rw [Bench.reportRow_port, Bench.sendMute_port]

theorem State.mutedLate_port : s.mutedLate.out.port = s.out.port ++ s.lateMutes := by
  have hturns : ∀ (ts : List Tx) (x : List (Tx × PortOrder)),
      ts.foldl (fun x t => if (s.stations.get t).tr.spared then x else x ++ [((s.env t).t, .mute)]) x =
        x ++ (ts.filter fun v => !(s.tr v).spared).map fun v => (v, .mute) := by
    intro ts
    induction ts with
    | nil => exact fun x => (List.append_nil x).symm
    | cons t ts ih =>
      intro x
      have hturn : (s.stations.get t).tr.spared = (s.tr t).spared := rfl
      have ht : (s.env t).t = t := rfl
      rw [List.foldl_cons, ih, hturn, ht]
      cases h : (s.tr t).spared <;> simp [h]
  have hport := s.onEach_out (f := Bench.mutedLate) (φ := Outbox.port)
    (F := fun e v x => if v.tr.spared then x else x ++ [(e.t, .mute)]) fun _ _ => Bench.mutedLate_port
  exact hport.trans (hturns allTx s.out.port)

end MutedLate

/-! ### The one candidate adopted (R209) -/

/-- A turn that changes nothing but for one of those who have it. -/
theorem foldl_of_only {σ α : Type} {f : σ → α → σ} {s : σ} {u : α} {xs : List α} (hnodup : xs.Nodup) (hu : u ∈ xs)
    (hbefore : ∀ v, v ≠ u → f s v = s) (hafter : ∀ v, v ≠ u → f (f s u) v = f s u) : xs.foldl f s = f s u := by
  induction xs with
  | nil => exact absurd hu List.not_mem_nil
  | cons v xs ih =>
    obtain ⟨hfresh, hnodup⟩ := List.nodup_cons.1 hnodup
    by_cases hv : v = u
    · subst hv
      have hrest : ∀ ys : List α, v ∉ ys → ys.foldl f (f s v) = f s v := fun ys hys => by
        induction ys with
        | nil => rfl
        | cons w ys ih =>
          obtain ⟨hne, hys⟩ := not_or.1 (List.mem_cons.not.1 hys)
          rw [List.foldl_cons, hafter w (Ne.symm hne), ih hys]
      exact hrest xs hfresh
    · rw [List.foldl_cons, hbefore v hv]
      exact ih hnodup ((List.mem_cons.1 hu).resolve_left (Ne.symm hv))

/-- The transmission that an adoption makes the current one (R209). -/
def Bench.adopted (e : Env) (b : Bank) (c : Col) (x : Entry) (day kW : Nat) : Transmission :=
  { work := some (x.work b day), start := e.reading, column := c, kHz := x.kHz, kW := kW, programme := x.programme
    priority := Fin.ofNat 4 x.priority, reserve := if x.primary != c.val then none else x.reserveCol
    reserveUsed := x.primary != c.val, late := false }

/-- The START record of an adoption. -/
def Bench.adoptedEntry (e : Env) (b : Bank) (c : Col) (x : Entry) (day kW : Nat) : LogRecord :=
  logEntry e.reading .start e.t false (some (x.work b day)) (some c) (some x.kHz) (some kW) .adopted

section Adopt

variable {e : Env} {n : Bench} {b : Bank} {c : Col} {x : Entry} {day : Nat}

/-- A transmitter put on air by its adoption, but for the report of its row and its START record. -/
def Bench.takenIn (b : Bank) (c : Col) (x : Entry) (day : Nat) (e : Env) (n : Bench) : Bench :=
  (((n.tr fun r => { r with
      current := some (adopted e b c x day (n.u.tr.desc.powerSent x.kW)), unmuted := true, startup := .done, poll := some 0
    }).setConfirmed e false).station Station.armAdopted).tr fun r => { r with
      state := .onAir, window := some (Timer.start e.protection.restrikeWindow), windowStart := some e.reading }

theorem Bench.adopt_eq : n.adopt b c x day e = ((n.takenIn b c x day e).reportRow e).out fun o =>
    o.record e.reading .start e.t (some (x.work b day)) (some c) (some x.kHz) (some (n.u.tr.desc.powerSent x.kW)) .adopted := rfl

theorem Bench.takenIn_tr : (n.takenIn b c x day e).u.tr = { n.u.tr with
    current := some (adopted e b c x day (n.u.tr.desc.powerSent x.kW)), unmuted := true, startup := .done, poll := some 0
    muteConfirmed := false, state := .onAir, window := some (Timer.start e.protection.restrikeWindow)
    windowStart := some e.reading } := by
  simp [takenIn, setConfirmed_tr, Station.armAdopted]

theorem Bench.takenIn_armed :
    (n.takenIn b c x day e).u.fwd.state = .armed ∧ (n.takenIn b c x day e).u.refl.state = .armed := ⟨rfl, rfl⟩

theorem Bench.takenIn_quiet : (n.takenIn b c x day e).o.port = n.o.port ∧ (n.takenIn b c x day e).o.log = n.o.log ∧
    (n.takenIn b c x day e).o.voice = n.o.voice := by
  simp [takenIn]

end Adopt

end Sys2Proof.Machine

/-! The adoption of the only candidate (R209). -/

namespace Sys2Proof.Machine

open Claims

/-- The state in which step 6 begins. -/
def State.adopting (s : State) : State := { s with boot := { s.boot with phase := .adopt } }

theorem exec_startupAdoption {s : State} (hlive : live s) (hphase : s.boot.phase = .query) (hended : s.queryEnded = true) :
    exec .startupAdoption s = .next (allTx.foldl State.adoptOrMute s.adopting).mutedLate := by
  show execStartupAdoption s = _
  rw [execStartupAdoption, State.take_of_live hlive, if_pos ⟨hphase, hended⟩]
  exact congrArg Host.Outcome.next (State.foldl_muteOther _)

theorem State.adopting_adoption (s : State) (u : Tx) : s.adopting.adoption u = s.adoption u := rfl

theorem State.onEach_boot {f : Env → Bench → Bench} (s : State) : (s.onEach f).boot = s.boot := by
  have h := congrArg State.boot (s.onEach_frame (f := f))
  exact h

section Turn

variable {s : State} {u : Tx} {b : Bank} {c : Col} {x : Entry} {day : Nat}

theorem State.adoptOrMute_of_other (h : (s.tr u).startup ≠ .candidate) : s.adoptOrMute u = s := if_pos h

theorem State.adoptOrMute_of_adopted (h : (s.tr u).startup = .candidate) (hadopted : s.adoption u = some (b, c, x, day)) :
    s.adoptOrMute u = (s.csq u (Bench.adopt b c x day)).onEngine fun g => g.fire x.number day := by
  unfold State.adoptOrMute
  rw [if_neg (not_not.2 h), hadopted]

theorem State.adoptOrMute_of_turnedAway (h : (s.tr u).startup = .candidate) (hnone : s.adoption u = none) :
    s.adoptOrMute u = s.csq u fun e b => b.muteCandidate e := by
  unfold State.adoptOrMute
  rw [if_neg (not_not.2 h), hnone]

theorem State.csq_other_tr (s : State) {u v : Tx} (h : v ≠ u) (f : Env → Bench → Bench) : (s.csq u f).tr v = s.tr v :=
  congrArg Station.tr (s.csq_other u v f h)

theorem State.adoptOrMute_other_tr (s : State) {u v : Tx} (h : v ≠ u) : (s.adoptOrMute u).tr v = s.tr v := by
  unfold State.adoptOrMute
  split
  · rfl
  · split
    · exact State.csq_other_tr s h _
    · exact State.csq_other_tr s h _

/-- With one candidate only its turn changes anything. -/
theorem State.adoptions_of_only {s : State} {u : Tx} (honly : ∀ v, v ≠ u → (s.tr v).startup ≠ .candidate) :
    allTx.foldl State.adoptOrMute s = s.adoptOrMute u := by
  have hbefore : ∀ v, v ≠ u → s.adoptOrMute v = s := fun v hv => State.adoptOrMute_of_other (honly v hv)
  have hafter : ∀ v, v ≠ u → (s.adoptOrMute u).adoptOrMute v = s.adoptOrMute u := fun v hv =>
    State.adoptOrMute_of_other (by rw [s.adoptOrMute_other_tr hv]; exact honly v hv)
  have hfold := foldl_of_only (f := State.adoptOrMute) (s := s) allTx_nodup (mem_allTx u) hbefore hafter
  exact hfold

end Turn

/-- What the adoption of a candidate leaves of its station and of what is put out (R209). -/
structure State.Adopts (s t : State) (u : Tx) (b : Bank) (c : Col) (x : Entry) (day : Nat) : Prop where
  record : ∃ told, (t.tr u) = { s.tr u with
    current := some (Bench.adopted (s.env u) b c x day ((s.tr u).desc.powerSent x.kW)), unmuted := true, startup := .done
    poll := some 0, muteConfirmed := false, state := .onAir
    window := some (Timer.start s.protection.restrikeWindow), windowStart := some s.clock.reading, reported := told }
  armed : (t.stations.get u).fwd.state = .armed ∧ (t.stations.get u).refl.state = .armed
  port : t.out.port = s.out.port
  log : t.out.log = s.out.log.write (Bench.adoptedEntry (s.env u) b c x day ((s.tr u).desc.powerSent x.kW))
  voice : t.out.voice = s.out.voice
  fired : t.engine.firedOn x.number = some day
  boot : t.boot = s.boot

theorem State.adoptOrMute_adopts {s : State} {u : Tx} {b : Bank} {c : Col} {x : Entry} {day : Nat}
    (h : (s.tr u).startup = .candidate) (hadopted : s.adoption u = some (b, c, x, day)) :
    State.Adopts s (s.adoptOrMute u) u b c x day := by
  rw [State.adoptOrMute_of_adopted h hadopted]
  obtain ⟨a, ha⟩ : ∃ a, a = (s.bench u).takenIn b c x day (s.env u) := ⟨_, rfl⟩
  have hbench := s.csq_bench u (Bench.adopt b c x day)
  rw [Bench.adopt_eq, ← ha] at hbench
  obtain ⟨hport, hlog, hvoice⟩ := Bench.takenIn_quiet (e := s.env u) (n := s.bench u) (b := b) (c := c) (x := x) (day := day)
  obtain ⟨hfwd, hrefl⟩ := Bench.takenIn_armed (e := s.env u) (n := s.bench u) (b := b) (c := c) (x := x) (day := day)
  have htr := Bench.takenIn_tr (e := s.env u) (n := s.bench u) (b := b) (c := c) (x := x) (day := day)
  rw [← ha] at hport hlog hvoice hfwd hrefl htr
  generalize hz : s.csq u (Bench.adopt b c x day) = z at hbench
  have hstation := congrArg Bench.u hbench
  have hout := congrArg Bench.o hbench
  have hstation : z.stations.get u = _ := hstation
  have hout : z.out = _ := hout
  have hztr : z.tr u = _ := congrArg Station.tr hstation
  rw [Bench.reportRow_record, Bench.out_u, Bench.reportRow_record, htr] at hztr
  refine ⟨⟨_, hztr⟩, ?_, ?_, ?_, ?_, State.fires_firedOn z x day, ?_⟩
  · show (z.stations.get u).fwd.state = .armed ∧ (z.stations.get u).refl.state = .armed
    rw [hstation]
    simp [hfwd, hrefl]
  · show z.out.port = _
    rw [hout]
    simp [hport]
  · show z.out.log = _
    rw [hout]
    simp [hlog]
    rfl
  · show z.out.voice = _
    rw [hout]
    simp [hvoice]
  · show z.boot = s.boot
    rw [← hz]
    rfl

theorem candidateAdopted : Claims.CandidateAdopted := by
  intro u b c x day s hlive hphase hended hcandidate honly hadoption kW
  obtain ⟨z, hz⟩ : ∃ z, z = s.adopting.adoptOrMute u := ⟨_, rfl⟩
  have hexec : exec .startupAdoption s = .next z.mutedLate := by
    rw [exec_startupAdoption hlive hphase hended, State.adoptions_of_only (s := s.adopting) honly, hz]
  obtain ⟨⟨told, hrecord⟩, ⟨hfwd, hrefl⟩, hport, hlog, hvoice, hfired, hboot⟩ :=
    State.adoptOrMute_adopts (s := s.adopting) hcandidate ((s.adopting_adoption u).trans hadoption)
  rw [← hz] at hrecord hfwd hrefl hport hlog hvoice hfired hboot
  have hstation := State.mutedLate_station z (u := u) (by rw [hrecord]; simp [TxRecord.spared])
  have htr : z.mutedLate.tr u = z.tr u := congrArg Station.tr hstation
  have hlates := z.mutedLate_port
  have hlog' := z.mutedLate_log
  have hvoice' := z.mutedLate_voice
  have hengine : z.mutedLate.engine = z.engine := z.onEach_engine
  have hboot' : z.mutedLate.boot = z.boot := z.onEach_boot
  generalize z.mutedLate = t at hexec hstation htr hlates hlog' hvoice' hengine hboot'
  refine ⟨t, z.lateMutes, Bench.adoptedEntry (s.env u) b c x day kW, hexec, by rw [hboot', hboot]; rfl, ?_, ?_, ?_, ?_,
    ⟨Bench.adopted (s.env u) b c x day kW, ?_, rfl, rfl, rfl, rfl, rfl, rfl⟩, ?_, ?_, ?_, ?_, rfl, rfl, rfl, rfl, rfl, rfl, rfl,
    raises_of_voice ?_, ?_, fun o ho => ?_⟩
  · rw [htr, hrecord]
  · rw [htr, hrecord]
  · rw [htr, hrecord]
  · rw [htr, hrecord]
  · rw [htr, hrecord]
    rfl
  · rw [hstation, hfwd]
  · rw [hstation, hrefl]
  · rw [hengine, hfired]
  · exact hlog'.trans hlog
  · exact hvoice'.trans hvoice
  · exact hlates.trans (congrArg (· ++ z.lateMutes) hport)
  · obtain ⟨hspared, horder⟩ := State.mem_lateMutes.1 ho
    refine ⟨fun hu => ?_, horder⟩
    rw [hu, hrecord] at hspared
    simp [TxRecord.spared] at hspared

end Sys2Proof.Machine

/-! Start-up's end, and its steps out of their place (R189, R207, R210). -/

namespace Sys2Proof.Machine

open Claims

/-! ### What granting slots leaves (R103, R105) -/

/-- Between two boards motor slots are given: the matrix goes on granting, and no minute boundary is handed on. -/
structure Board.Grants (b c : Board) : Prop where
  granting : c.m.granting = b.m.granting
  boundary : ∀ k, Instr.minuteBoundary k ∈ c.o.handed → Instr.minuteBoundary k ∈ b.o.handed

namespace Board.Grants

variable {b c d : Board}

theorem refl (b : Board) : Board.Grants b b := ⟨rfl, fun _ => id⟩

theorem trans (h : Board.Grants b c) (g : Board.Grants c d) : Board.Grants b d :=
  ⟨g.granting.trans h.granting, fun k hk => h.boundary k (g.boundary k hk)⟩

theorem startDrive (travel : Nat) (r : SlotRequest) (b : Board) : Board.Grants b (b.startDrive travel r) := by
  cases h : b.m.startTest r with
  | fails why =>
    rw [Board.startDrive_of_fails h]
    exact ⟨rfl, fun k hk => by simpa [Outbox.hand] using hk⟩
  | already =>
    rw [Board.startDrive_of_already h]
    exact ⟨rfl, fun k hk => by simpa [Outbox.hand] using hk⟩
  | starts =>
    have htells : Outbox.Tells b.o (b.moved travel r).o := b.setPoint_tells ..
    rw [Board.startDrive_of_starts h]
    refine ⟨b.setPoint_granting .., fun k hk => (htells.mem_iff rfl).1 ?_⟩
    simpa [Outbox.hand, Outbox.send] using hk

theorem grantUpTo (travel n : Nat) (b : Board) : Board.Grants b (b.grantUpTo travel n) := by
  induction n generalizing b with
  | zero => exact .refl b
  | succ n ih =>
    unfold Board.grantUpTo
    split
    · split
      · next r rest _ =>
        have hqueue : Board.Grants b { b with m := { b.m with queue := rest } } := ⟨rfl, fun _ => id⟩
        exact (hqueue.trans (startDrive travel r _)).trans (ih _)
      · exact .refl b
    · exact .refl b

theorem grant (travel : Nat) (b : Board) : Board.Grants b (b.grant travel) := grantUpTo travel _ b

end Board.Grants

/-! ### The end of start-up (R210) -/

/-- The state with start-up ended: autorun armed from the option, boundaries raised before dropped, slots granted. -/
def State.started (s : State) : State :=
  let x : State := { s with
    out := { s.out with handed := s.out.handed.filter fun i => !isBoundary i }
    engine := { s.engine with armed := s.store.autorun }, boot := { s.boot with phase := .done } }
  x.onMatrix fun b => Board.grant s.limits.travel { b with m := { b.m with granting := true } }

section Started

variable (s : State)

theorem State.started_granting : s.started.matrix.granting = true := (Board.Grants.grant _ _).granting

theorem State.started_boundary (k : Boundary) : Instr.minuteBoundary k ∉ s.started.out.handed := fun hk => by
  have hbefore := (Board.Grants.grant _ _).boundary k hk
  simp [isBoundary] at hbefore

end Started

theorem exec_startupEnd {s : State} (hlive : live s) (hphase : s.boot.phase = .adopt) (hended : s.adoptionEnded = true) :
    exec .startupEnd s = s.started.serveHead := by
  show execStartupEnd s = _
  rw [execStartupEnd, State.takeAndServe_live _ _ hlive.1, State.settled_of_none s hlive.2, if_pos ⟨hphase, hended⟩]
  rfl

theorem startupEnds {s : State} (hlive : live s) (hphase : s.boot.phase = .adopt) (hended : s.adoptionEnded = true) :
    ∃ t, t.boot.phase = .done ∧ t.engine.armed = s.store.autorun ∧ t.matrix.granting = true ∧ t.link = s.link ∧
      (∀ b, Instr.minuteBoundary b ∉ t.out.handed) ∧
      ((s.link.queue = [] ∨ s.link.reply.isSome) → exec .startupEnd s = .next t) ∧
      ∀ q rest, s.link.queue = q :: rest → s.link.reply = none → (requestOf q.command).isSome = true →
        exec .startupEnd s = exec q.command (takingHead t rest) := by
  have hboot : s.started.boot.phase = .done := rfl
  have hlink : s.started.link = s.link := rfl
  refine ⟨s.started, hboot, rfl, s.started_granting, hlink, s.started_boundary, ?_, fun q rest hqueue hreply hrequest => ?_⟩
  · rw [exec_startupEnd hlive hphase hended]
    rintro (hqueue | hreply)
    · exact State.serveHead_empty _ (hlink ▸ hqueue)
    · refine State.serveHead_of_may_not fun hmay => ?_
      rw [hlink] at hmay
      simp [hmay.2] at hreply
  · rw [exec_startupEnd hlive hphase hended]
    exact State.serveHead_takes _ q rest ((State.mayTake_iff _).2 ⟨hboot, hlink ▸ hreply⟩) (hlink ▸ hqueue) hrequest

/-! ### A step out of its place (R207) -/

theorem exec_startupPollTimeout {s : State} (hlive : live s) : exec .startupPollTimeout s = .next
    (if s.boot.phase = .table then { s with boot := { s.boot with phase := .evaluate, poll := none } } else s) := by
  show execStartupPollTimeout s = _
  rw [execStartupPollTimeout, State.take_of_live hlive]
  rfl

theorem startupStepsInPlace {s : State} (percent : Nat) (hlive : live s) (hqueue : queueServed s) :
    (s.boot.phase ≠ .evaluate → exec (.startupHallEvaluation percent) s = .next s) ∧
    (s.boot.phase ≠ .query → exec .startupAdoption s = .next s) ∧
    (s.boot.phase ≠ .adopt → exec .startupEnd s = .next s) := by
  refine ⟨fun hphase => ?_, fun hphase => ?_, fun hphase => ?_⟩
  · show execStartupHallEvaluation percent s = _
    rw [execStartupHallEvaluation, State.take_of_live hlive, if_neg fun h => hphase h.1]
  · show execStartupAdoption s = _
    rw [execStartupAdoption, State.take_of_live hlive, if_neg fun h => hphase h.1]
  · show execStartupEnd s = _
    rw [execStartupEnd, State.takeAndServe_live _ _ hlive.1, State.settled_of_none s hlive.2, if_neg fun h => hphase h.1]
    exact State.serveHead_of_queueServed hqueue

end Sys2Proof.Machine

/-! Step 6 of start-up: a candidate that may not be adopted is muted, and so is every other transmitter not sent MUTE
yet (R207, R209). -/

namespace Sys2Proof.Machine

open Claims

/-! ### One transmitter's turn -/

section Mute

variable {e : Env} {b : Bench}

theorem Bench.muteCandidate_of_absent (h : b.u.tr.rf = some false) : (b.muteCandidate e).u.tr =
    { b.u.tr with
      unmuted := false, mutedOnce := true, muteConfirmed := true, tripWatch := none, state := .ready, startup := .done
      poll := some 0 } := by
  have hconfirmed : (b.sendMute e).u.tr.muteConfirmed = true := by rw [Bench.sendMute_tr]; simp [h]
  refine (congrArg (fun x : Bench => x.u.tr) (if_pos hconfirmed)).trans ?_
  simp [Bench.candidateReady, Bench.sendMute_tr, h]

theorem Bench.muteCandidate_of_present (h : b.u.tr.rf ≠ some false) : (b.muteCandidate e).u.tr =
    { b.u.tr with
      unmuted := false, mutedOnce := true, muteConfirmed := false, startup := .muting (Timer.start e.limits.mute) } := by
  have hconfirmed : ¬ (b.sendMute e).u.tr.muteConfirmed = true := by rw [Bench.sendMute_tr]; simp [h]
  refine (congrArg (fun x : Bench => x.u.tr) (if_neg hconfirmed)).trans ?_
  simp [Bench.sendMute_tr, h]

theorem Bench.muteCandidate_port : (e.t, .mute) ∈ (b.muteCandidate e).o.port := by
  have hport : (b.muteCandidate e).o = (b.sendMute e).o := (apply_ite Bench.o _ _ _).trans (ite_self _)
  simp [hport]

end Mute

/-! ### The others' turns -/

/-- Steps that may have changed the other stations, what is put out and the engine, but took nothing back that is sent to
a transmitter port. -/
structure State.Aside (u : Tx) (s t : State) : Prop where
  record : t.tr u = s.tr u
  frame : { t with stations := s.stations, out := s.out, engine := s.engine } = s
  port : ∀ x ∈ s.out.port, x ∈ t.out.port

namespace State.Aside

variable {u : Tx} {s t z : State}

theorem refl (s : State) : State.Aside u s s := ⟨rfl, rfl, fun _ => id⟩

theorem trans (h : State.Aside u s t) (g : State.Aside u t z) : State.Aside u s z := by
  refine ⟨g.record.trans h.record, ?_, fun x hx => g.port x (h.port x hx)⟩
  have hframe := h.frame
  rw [← g.frame] at hframe
  exact hframe

theorem adoption (h : State.Aside u s t) : t.adoption u = s.adoption u := by
  obtain ⟨hrecord, hframe, -⟩ := h
  unfold State.adoption State.adoptable
  rw [hrecord, ← hframe]
  rfl

theorem limits (h : State.Aside u s t) : t.limits = s.limits := by
  have hlimits := congrArg State.limits h.frame
  exact hlimits

end State.Aside

theorem State.csq_port {s : State} {v : Tx} {f : Env → Bench → Bench} (hf : ∀ e b, Bench.Puts e Set.univ b (f e b)) :
    ∀ x ∈ s.out.port, x ∈ (s.csq v f).out.port := fun x hx => by
  obtain ⟨orders, horders, -⟩ := (hf (s.env v) (s.bench v)).reportRow.own
  have hport : (s.csq v f).out.port = s.out.port ++ orders := horders
  rw [hport]
  exact List.mem_append_left _ hx

theorem State.adoptOrMute_frame (s : State) (v : Tx) :
    { s.adoptOrMute v with stations := s.stations, out := s.out, engine := s.engine } = s := by
  unfold State.adoptOrMute
  split
  · rfl
  · split <;> rfl

theorem State.adoptions_boot (vs : List Tx) (s : State) : (vs.foldl State.adoptOrMute s).boot = s.boot := by
  induction vs generalizing s with
  | nil => rfl
  | cons v vs ih =>
    have hturn := congrArg State.boot (s.adoptOrMute_frame v)
    exact (ih _).trans hturn

theorem State.adoptOrMute_port (s : State) (v : Tx) : ∀ x ∈ s.out.port, x ∈ (s.adoptOrMute v).out.port := by
  unfold State.adoptOrMute
  split
  · exact fun _ => id
  · split
    · exact State.csq_port fun e b => .adopt (.refl b)
    · exact State.csq_port fun e b => .muteCandidate (.refl b)

theorem State.adoptOrMute_aside {s : State} {u v : Tx} (h : v = u → (s.tr u).startup ≠ .candidate) :
    State.Aside u s (s.adoptOrMute v) := by
  refine ⟨?_, s.adoptOrMute_frame v, s.adoptOrMute_port v⟩
  by_cases hv : u = v
  · subst hv
    rw [State.adoptOrMute_of_other (h rfl)]
  · exact s.adoptOrMute_other_tr hv

theorem State.adoptions_aside {s : State} {u : Tx} {vs : List Tx} (h : ∀ v ∈ vs, v = u → (s.tr u).startup ≠ .candidate) :
    State.Aside u s (vs.foldl State.adoptOrMute s) := by
  induction vs generalizing s with
  | nil => exact .refl s
  | cons v vs ih =>
    have hv := State.adoptOrMute_aside (h v (List.mem_cons_self ..))
    refine hv.trans (ih fun w hw hwu => ?_)
    rw [hv.record]
    exact h w (List.mem_cons_of_mem _ hw) hwu

/-- All turns are one transmitter's, with the others' before and after it. -/
theorem State.adoptions_at (s : State) (u : Tx) : ∃ a : State, State.Aside u s a ∧
    State.Aside u (a.adoptOrMute u) (allTx.foldl State.adoptOrMute s) := by
  obtain ⟨before, after, hsplit⟩ := List.append_of_mem (mem_allTx u)
  have hnodup := allTx_nodup
  rw [hsplit, List.nodup_middle, List.nodup_cons, List.mem_append, not_or] at hnodup
  obtain ⟨⟨hbefore, hafter⟩, -⟩ := hnodup
  refine ⟨before.foldl State.adoptOrMute s, State.adoptions_aside fun v hv hvu => absurd (hvu ▸ hv) hbefore, ?_⟩
  rw [hsplit, List.foldl_append, List.foldl_cons]
  exact State.adoptions_aside fun v hv hvu => absurd (hvu ▸ hv) hafter

/-! ### Step 6 -/

/-- What the muting of a candidate leaves of its record, but for the row condition reported. -/
theorem State.turnedAway {s : State} {u : Tx} (hcandidate : (s.tr u).startup = .candidate) (hnone : s.adoption u = none) :
    (u, .mute) ∈ (s.adoptOrMute u).out.port ∧
    ∃ told, (s.adoptOrMute u).tr u = { ((s.bench u).muteCandidate (s.env u)).u.tr with reported := told } := by
  rw [State.adoptOrMute_of_turnedAway hcandidate hnone]
  have hbench := s.csq_bench u fun e b => b.muteCandidate e
  refine ⟨?_, ((s.bench u).muteCandidate (s.env u)).u.tr.toldOf, ?_⟩
  · have hport := congrArg (fun b : Bench => b.o.port) hbench
    rw [Bench.reportRow_port] at hport
    have hmute : (u, .mute) ∈ ((s.bench u).muteCandidate (s.env u)).o.port := Bench.muteCandidate_port
    rw [← hport] at hmute
    exact hmute
  · have hrecord := congrArg (fun b : Bench => b.u.tr) hbench
    rw [Bench.reportRow_record] at hrecord
    exact hrecord

theorem startupAdopts {s : State} (hlive : live s) (hphase : s.boot.phase = .query) (hended : s.queryEnded = true) :
    ∃ t, exec .startupAdoption s = .next t ∧ t.boot.phase = .adopt ∧
      (∀ u, (s.tr u).startup = .candidate → s.adoption u = none → (u, .mute) ∈ t.out.port ∧
        (t.tr u).unmuted = false ∧
        ((s.tr u).rf = some false → (t.tr u).state = .ready ∧ (t.tr u).muteConfirmed = true ∧
          (t.tr u).startup = .done ∧ (t.tr u).poll = some 0) ∧
        ((s.tr u).rf ≠ some false → (t.tr u).state = (s.tr u).state ∧
          (t.tr u).startup = .muting { count := 0, limit := s.limits.mute })) ∧
      ∀ u, (s.tr u).startup ≠ .candidate → (s.tr u).mutedOnce = false → (s.tr u).state ≠ .onAir →
        (u, .mute) ∈ t.out.port := by
  obtain ⟨z, hz⟩ : ∃ z, z = allTx.foldl State.adoptOrMute s.adopting := ⟨_, rfl⟩
  have hexec : exec .startupAdoption s = .next z.mutedLate := by rw [exec_startupAdoption hlive hphase hended, hz]
  refine ⟨z.mutedLate, hexec, ?_, fun u hcandidate hnone => ?_, fun u hother hnever hair => ?_⟩
  · have hphase : z.boot = s.adopting.boot := by rw [hz, State.adoptions_boot]
    have hlate : z.mutedLate.boot = z.boot := z.onEach_boot
    rw [hlate, hphase]
    rfl
  · obtain ⟨a, hbefore, hafter⟩ := s.adopting.adoptions_at u
    rw [← hz] at hafter
    have hturn := State.turnedAway (s := a) (u := u) (by rw [hbefore.record]; exact hcandidate)
      (by rw [hbefore.adoption, State.adopting_adoption]; exact hnone)
    obtain ⟨hmute, told, hrecord⟩ := hturn
    have hport : (u, .mute) ∈ z.mutedLate.out.port := by
      rw [z.mutedLate_port]
      exact List.mem_append_left _ (hafter.port _ hmute)
    rw [← hafter.record] at hrecord
    have hmuted : ((a.bench u).muteCandidate (a.env u)).u.tr.mutedOnce = true := by
      by_cases hrf : (a.bench u).u.tr.rf = some false
      · rw [Bench.muteCandidate_of_absent hrf]
      · rw [Bench.muteCandidate_of_present hrf]
    have hkept : z.mutedLate.tr u = z.tr u :=
      congrArg Station.tr (State.mutedLate_station z (by simp [hrecord, TxRecord.spared, hmuted]))
    have ha : (a.bench u).u.tr = s.tr u := hbefore.record
    have hlimits : (a.env u).limits = s.limits := hbefore.limits
    rw [hkept, hrecord]
    refine ⟨hport, ?_, fun hrf => ?_, fun hrf => ?_⟩
    · by_cases hrf : (a.bench u).u.tr.rf = some false
      · rw [Bench.muteCandidate_of_absent hrf]
      · rw [Bench.muteCandidate_of_present hrf]
    · rw [Bench.muteCandidate_of_absent (ha ▸ hrf)]
      exact ⟨rfl, rfl, rfl, rfl⟩
    · rw [Bench.muteCandidate_of_present (ha ▸ hrf), hlimits, ha]
      exact ⟨rfl, rfl⟩
  · have hkept : z.tr u = s.tr u := by
      have haside := State.adoptions_aside (s := s.adopting) (u := u) (vs := allTx) fun _ _ _ => hother
      rw [hz]
      exact haside.record
    rw [z.mutedLate_port]
    refine List.mem_append_right _ (State.mem_lateMutes.2 ⟨?_, rfl⟩)
    rw [hkept]
    simp [TxRecord.spared, hnever, hair]

end Sys2Proof.Machine

/-! The hold set of a transmitter changes with the hold messages alone (R141): what a lost transmitter or a carrier taken
down leaves of it. -/

namespace Sys2Proof.Machine

/-- The transmitter is under the same holds. -/
def Bench.SameHolds (b c : Bench) : Prop := c.u.tr.holds = b.u.tr.holds

namespace Bench.SameHolds

variable {e : Env} {b c d : Bench}

theorem refl (b : Bench) : Bench.SameHolds b b := rfl
theorem trans (h : Bench.SameHolds b c) (g : Bench.SameHolds c d) : Bench.SameHolds b d := Eq.trans g h
theorem ite {p : Prop} [Decidable p] (h : Bench.SameHolds b c) (g : Bench.SameHolds b d) :
    Bench.SameHolds b (if p then c else d) := by
  split
  · exact h
  · exact g
theorem when {p : Prop} [Decidable p] (h : Bench.SameHolds b c) (g : Bench.SameHolds c d) :
    Bench.SameHolds b (if p then d else c) := ite (h.trans g) h

/-! ### Orders, reports and records -/

theorem tr (h : Bench.SameHolds b c) {f : TxRecord → TxRecord} (hf : (f c.u.tr).holds = c.u.tr.holds := by rfl) :
    Bench.SameHolds b (c.tr f) := h.trans hf
theorem station (h : Bench.SameHolds b c) {f : Station → Station} (hf : (f c.u).tr = c.u.tr := by rfl) :
    Bench.SameHolds b (c.station f) := h.trans (congrArg TxRecord.holds hf)
theorem out (h : Bench.SameHolds b c) {f : Outbox → Outbox} : Bench.SameHolds b (c.out f) := h
theorem ctx (h : Bench.SameHolds b c) {f : Context → Context} : Bench.SameHolds b (c.ctx f) := h
theorem install (h : Bench.SameHolds b c) {k : Context} : Bench.SameHolds b (c.install k) := h
theorem order (h : Bench.SameHolds b c) {p : PortOrder} : Bench.SameHolds b (c.order e p) := h
theorem sendMute (h : Bench.SameHolds b c) : Bench.SameHolds b (c.sendMute e) :=
  h.trans (by rw [SameHolds, Bench.sendMute_tr])
theorem reportRow (h : Bench.SameHolds b c) : Bench.SameHolds b (c.reportRow e) := h.trans (Bench.reportRow_holds e c)
theorem workEnded (h : Bench.SameHolds b c) {w : Option SchedRef} : Bench.SameHolds b (c.workEnded e w) := by
  unfold Bench.workEnded
  split
  · exact h.out
  · exact h
theorem missSlot (h : Bench.SameHolds b c) {why : Detail} : Bench.SameHolds b (c.missSlot e why) := by
  unfold Bench.missSlot
  split
  · exact out (tr h)
  · exact h
theorem lock (h : Bench.SameHolds b c) {why : LockReason} {code : Option Nat} : Bench.SameHolds b (c.lock e why code) :=
  missSlot (out (tr h))
theorem darken (h : Bench.SameHolds b c) {why : DarkReason} : Bench.SameHolds b (c.darken e why) := missSlot (tr h)

/-! ### Ends and starts of a transmission -/

theorem endRecord (h : Bench.SameHolds b c) {why : Detail} : Bench.SameHolds b (c.endRecord e why) := by
  unfold Bench.endRecord
  split
  · exact h.out
  · exact h
theorem drop (h : Bench.SameHolds b c) : Bench.SameHolds b c.drop := tr (station h)
theorem muteAndEnd (h : Bench.SameHolds b c) {why : Detail} : Bench.SameHolds b (c.muteAndEnd e why) :=
  workEnded (drop (out (endRecord (sendMute h))))

theorem createStart (h : Bench.SameHolds b c) {q : StartRequest} : Bench.SameHolds b (c.createStart e q) := by
  unfold Bench.createStart
  refine out (install ?_)
  split
  · exact tr (station h)
  · exact h

theorem continue_ (h : Bench.SameHolds b c) {q : StartRequest} {x : Transmission} : Bench.SameHolds b (c.continue_ e q x) := by
  have hpower : ∀ kW, Bench.SameHolds b ((if kW = x.kW then c else c.order e (.pwr kW)).tr fun r => { r with openTune := none }) :=
    fun kW => tr (ite h (order h))
  exact out (out (tr (ite (hpower _) (tr (order (hpower _))))))

theorem begin_ (h : Bench.SameHolds b c) {q : StartRequest} : Bench.SameHolds b (c.begin_ e q) := by
  unfold Bench.begin_
  split
  · exact ite (continue_ h) (createStart h)
  · exact createStart h

theorem takeUp (h : Bench.SameHolds b c) : Bench.SameHolds b (c.takeUp e) := by
  unfold Bench.takeUp
  split
  · exact h
  next q _ =>
    have hempty : Bench.SameHolds b (c.tr fun r => { r with slot := none }) := tr h
    refine begin_ (when ?_ (out (refl _)))
    split
    · exact workEnded (endRecord hempty)
    · exact hempty

theorem releaseClaim (h : Bench.SameHolds b c) : Bench.SameHolds b (c.releaseClaim e) := by
  unfold Bench.releaseClaim
  split
  · split
    · exact out (ctx h)
    · exact h
  · exact h

/-! ### A changeover that fails -/

theorem outcomeState (h : Bench.SameHolds b c) {why : Detail} {code : Option Nat} :
    Bench.SameHolds b (c.outcomeState e why code) := by
  unfold Bench.outcomeState
  split
  · exact lock h
  · exact lock h
  · exact darken h
  · exact darken h
  · exact tr h

theorem applyOutcome (h : Bench.SameHolds b c) : Bench.SameHolds b (c.applyOutcome e) := by
  unfold Bench.applyOutcome
  split
  · exact h
  · refine when (reportRow (outcomeState (workEnded (tr (drop (out ?_)))))) (takeUp (refl _))
    exact ite (endRecord h) (out h)

theorem proceed (h : Bench.SameHolds b c) : Bench.SameHolds b (c.proceed e) := by
  unfold Bench.proceed
  split
  · exact h
  · refine ite h ?_
    have hmuted : ∀ p [Decidable p], Bench.SameHolds b (if p then (c.releaseClaim e).sendMute e else c.releaseClaim e) :=
      fun _ _ => when (releaseClaim h) (sendMute (refl _))
    exact ite (ite (hmuted _) (ctx (hmuted _))) (applyOutcome (hmuted _))

theorem cancelWaiting (h : Bench.SameHolds b c) : Bench.SameHolds b (c.cancelWaiting e) := by
  unfold Bench.cancelWaiting
  split
  · exact when h (out (ctx (refl _)))
  · exact h

theorem failAs (h : Bench.SameHolds b c) {why closing : Detail} {code : Option Nat} :
    Bench.SameHolds b (c.failAs e why closing code) := by
  unfold Bench.failAs
  split
  · exact h
  · exact ite (ite (proceed (ctx h)) h) (proceed (cancelWaiting (ctx (when h (station (refl _))))))

/-! ### A carrier taken down, a port that is silent -/

theorem goHeld (h : Bench.SameHolds b c) : Bench.SameHolds b (c.goHeld e) := by
  have hquiet : ∀ p [Decidable p], Bench.SameHolds b
      (if p then (c.sendMute e).station Station.disarm else c.station Station.disarmForward) :=
    fun _ _ => ite (station (sendMute h)) (station h)
  exact reportRow (tr (when (hquiet _) (tr (releaseClaim (refl _)))))

theorem lose (h : Bench.SameHolds b c) {why : Detail} {code : Option Nat} {w : DarkReason} :
    Bench.SameHolds b (c.lose e why code fun x => x.darken e w) := by
  unfold Bench.lose
  split
  · exact failAs h
  · exact darken (muteAndEnd h)
  · exact darken (muteAndEnd h)
  · exact darken (muteAndEnd h)
  · exact darken h

theorem pollInstant (h : Bench.SameHolds b c) : Bench.SameHolds b (c.pollInstant e) :=
  ite (tr (tr (order h))) (ite (tr (tr (order h))) (lose (tr (tr (order h)))))

theorem ask (h : Bench.SameHolds b c) : Bench.SameHolds b (c.ask e) := ite (pollInstant (tr h)) h

end Bench.SameHolds

/-- A hold message adds its source to the hold set, whatever the transmitter does for it (R141). -/
theorem Bench.holdAdd_holds (a : Source) (e : Env) (b : Bench) : (b.holdAdd a e).u.tr.holds = b.u.tr.holds.add a := by
  have hheld : (b.held a).u.tr.holds = b.u.tr.holds.add a := rfl
  refine Eq.trans (b := (b.held a).u.tr.holds) ?_ hheld
  unfold Bench.holdAdd
  dsimp only
  split
  · exact SameHolds.goHeld (.refl _)
  · exact SameHolds.goHeld (.refl _)
  · split
    · exact SameHolds.ite (.goHeld (.refl _)) (.ite (.refl _) (.sendMute (.refl _)))
    · rfl
  · rfl

end Sys2Proof.Machine

/-! What start-up finds the hall in: the mains, the emergency input and the members (R168, R185). -/

namespace Sys2Proof.Machine

/-! ### The mains and the emergency input -/

/-- A source is handed for addition to every hold set and to the suspension set. -/
def Outbox.Orders (o : Outbox) (a : Source) : Prop :=
  (∀ u, Instr.holdAdd u a ∈ o.handed) ∧ Instr.suspensionSourceAdd a ∈ o.handed

theorem mem_holdAdds (u : Tx) (a : Source) : Instr.holdAdd u a ∈ holdAdds allTx a :=
  List.mem_map_of_mem (mem_allTx u)

theorem State.mainsDip_orders (s : State) : s.mainsDip.out.Orders .mains := by
  simp [State.mainsDip, Outbox.Orders, mem_holdAdds]

theorem State.latchEmergency_orders (s : State) : s.latchEmergency.out.Orders .emergency := by
  simp [State.latchEmergency, Outbox.Orders, mem_holdAdds]

theorem State.latchEmergency_handed (s : State) {i : Instr} (h : i ∈ s.out.handed) : i ∈ s.latchEmergency.out.handed := by
  simp [State.latchEmergency, h]

/-- The hall with the mains and the emergency input found. -/
def State.inputsFound (percent : Nat) (s : State) : State :=
  let x := if percent < s.protection.mainsLevel then s.mainsDip else s
  if x.ilu.input = some true then x.latchEmergency else x

section Inputs

variable (percent : Nat) (s : State)

theorem State.findHall_eq : s.findHall percent = allMembers.foldl State.evaluateMember (s.inputsFound percent) := rfl

theorem State.inputsFound_frame : (s.inputsFound percent).stations = s.stations ∧ (s.inputsFound percent).lines = s.lines ∧
    (s.inputsFound percent).ilu.members = s.ilu.members := by
  unfold State.inputsFound
  dsimp only
  split <;> split <;> exact ⟨rfl, rfl, rfl⟩

theorem State.inputsFound_mains (h : percent < s.protection.mainsLevel) :
    (s.inputsFound percent).mains.state = .low ∧ (s.inputsFound percent).out.Orders .mains := by
  unfold State.inputsFound
  rw [if_pos h]
  dsimp only
  split
  · exact ⟨rfl, fun u => State.latchEmergency_handed _ (s.mainsDip_orders.1 u),
      State.latchEmergency_handed _ s.mainsDip_orders.2⟩
  · exact ⟨rfl, s.mainsDip_orders⟩

theorem State.inputsFound_emergency (h : s.ilu.input = some true) :
    (s.inputsFound percent).ilu.emergency = true ∧ (s.inputsFound percent).out.Orders .emergency := by
  have hinput : (if percent < s.protection.mainsLevel then s.mainsDip else s).ilu.input = some true := by
    split
    · exact h
    · exact h
  unfold State.inputsFound
  dsimp only
  rw [if_pos hinput]
  exact ⟨rfl, State.latchEmergency_orders _⟩

end Inputs

/-! ### The members -/

/-- The member is in the Latched Set at its active level. -/
def State.Latched (s : State) (m : Member) : Prop := m ∈ s.ilu.latchedSet ∧ (s.ilu.members.get m).level = .active

/-- The member's line reads its active level. -/
def State.LineActive (s : State) (m : Member) (g : MemberConfig) : Prop :=
  (s.ilu.members.get m).config = some g ∧ (s.lines.get g.line).pin = some g.activeHigh

/-- The state with a member's level recorded. -/
def State.levelled (s : State) (n : Member) (x : MemberLevel) : State := s.onIlu fun u => u.onMember n fun k => { k with level := x }

section Members

variable {s : State} {m n : Member} {g : MemberConfig}

theorem State.levelled_other (h : m ≠ n) (x : MemberLevel) : (s.levelled n x).ilu.members.get m = s.ilu.members.get m :=
  upd_get_other _ _ _ _ h

theorem State.levelled_same (x : MemberLevel) : (s.levelled n x).ilu.members.get n = { s.ilu.members.get n with level := x } :=
  upd_get_same ..

theorem State.evaluateMember_of_none (h : (s.ilu.members.get n).config = none) : s.evaluateMember n = s := by
  unfold State.evaluateMember
  rw [h]

theorem State.evaluateMember_of_some (h : (s.ilu.members.get n).config = some g) : s.evaluateMember n =
    if (s.lines.get g.line).pin = some g.activeHigh then (s.levelled n .active).joinLatched n g
    else s.levelled n (g.levelOf (s.lines.get g.line).pin) := by
  unfold State.evaluateMember
  rw [h]
  dsimp only
  by_cases hpin : (s.lines.get g.line).pin = some g.activeHigh
  · have hlevel := (g.levelOf_eq_active_iff _).2 hpin
    rw [hlevel, if_pos hpin, if_pos rfl]
    rfl
  · have hlevel := mt (g.levelOf_eq_active_iff _).1 hpin
    rw [if_neg hpin, if_neg hlevel]
    rfl

/-- What a member's joining leaves: the levels, the configurations and all that is not the interlocks' or put out. -/
theorem State.joinLatched_level (s : State) (n : Member) (g : MemberConfig) (m : Member) :
    ((s.joinLatched n g).ilu.members.get m).level = (s.ilu.members.get m).level ∧
    ((s.joinLatched n g).ilu.members.get m).config = (s.ilu.members.get m).config := by
  by_cases hn : n ∈ s.ilu.latchedSet
  · rw [State.joinLatched, if_pos hn]
    exact ⟨rfl, rfl⟩
  · rw [State.joinLatched_of_new hn]
    dsimp only
    by_cases hm : m = n
    · subst hm
      rw [upd_get_same]
      exact ⟨rfl, rfl⟩
    · rw [upd_get_other _ _ _ _ hm]
      exact ⟨rfl, rfl⟩

theorem State.mem_joinLatched (s : State) (n : Member) (g : MemberConfig) : n ∈ (s.joinLatched n g).ilu.latchedSet := by
  by_cases hn : n ∈ s.ilu.latchedSet
  · rw [State.joinLatched, if_pos hn]
    exact hn
  · rw [State.joinLatched_of_new hn]
    exact List.mem_append_right _ (List.mem_singleton.2 rfl)

end Members

/-- Between two states levels are recorded and members join the Latched Set. -/
structure State.Joins (s t : State) : Prop where
  stations : t.stations = s.stations
  lines : t.lines = s.lines
  mains : t.mains = s.mains
  emergency : t.ilu.emergency = s.ilu.emergency
  config : ∀ m, (t.ilu.members.get m).config = (s.ilu.members.get m).config
  latched : ∀ m ∈ s.ilu.latchedSet, m ∈ t.ilu.latchedSet
  handed : ∀ i ∈ s.out.handed, i ∈ t.out.handed

namespace State.Joins

variable {s t z : State}

theorem refl (s : State) : State.Joins s s := ⟨rfl, rfl, rfl, rfl, fun _ => rfl, fun _ => id, fun _ => id⟩

theorem trans (h : State.Joins s t) (g : State.Joins t z) : State.Joins s z :=
  ⟨g.stations.trans h.stations, g.lines.trans h.lines, g.mains.trans h.mains, g.emergency.trans h.emergency,
    fun m => (g.config m).trans (h.config m), fun m hm => g.latched m (h.latched m hm),
    fun i hi => g.handed i (h.handed i hi)⟩

theorem levelled (s : State) (n : Member) (x : MemberLevel) : State.Joins s (s.levelled n x) := by
  refine ⟨rfl, rfl, rfl, rfl, fun m => ?_, fun _ => id, fun _ => id⟩
  by_cases hm : m = n
  · subst hm
    rw [State.levelled_same]
  · rw [State.levelled_other hm]

theorem joinLatched (s : State) (n : Member) (g : MemberConfig) : State.Joins s (s.joinLatched n g) := by
  by_cases hn : n ∈ s.ilu.latchedSet
  · rw [State.joinLatched, if_pos hn]
    exact .refl s
  · have hconfig := fun m => (s.joinLatched_level n g m).2
    rw [State.joinLatched_of_new hn] at hconfig ⊢
    refine ⟨rfl, rfl, rfl, rfl, hconfig, fun m => List.mem_append_left _, fun i hi => ?_⟩
    rw [Outbox.event_handed, Outbox.handAll_handed]
    exact List.mem_append_left _ hi

theorem evaluateMember (s : State) (n : Member) : State.Joins s (s.evaluateMember n) := by
  cases hconfig : (s.ilu.members.get n).config with
  | none =>
    rw [State.evaluateMember_of_none hconfig]
    exact .refl s
  | some g =>
    rw [State.evaluateMember_of_some hconfig]
    split
    · exact (levelled s n _).trans (joinLatched _ n g)
    · exact levelled s n _

theorem evaluateMembers (s : State) (ns : List Member) : State.Joins s (ns.foldl State.evaluateMember s) := by
  induction ns generalizing s with
  | nil => exact .refl s
  | cons n ns ih => exact (evaluateMember s n).trans (ih _)

theorem lineActive {m : Member} {g : MemberConfig} (h : State.Joins s t) (hs : s.LineActive m g) : t.LineActive m g :=
  ⟨(h.config m).trans hs.1, h.lines ▸ hs.2⟩

end State.Joins

theorem State.evaluateMember_latches {s : State} {m : Member} {g : MemberConfig} (h : s.LineActive m g) :
    (s.evaluateMember m).Latched m := by
  rw [State.evaluateMember_of_some h.1, if_pos h.2]
  refine ⟨State.mem_joinLatched .., ?_⟩
  rw [((s.levelled m .active).joinLatched_level m g m).1, State.levelled_same]

/-- The evaluation of another member leaves one that has latched. -/
theorem State.Latched.evaluateMember {s : State} {m n : Member} (h : s.Latched m) (hn : m ≠ n) :
    (s.evaluateMember n).Latched m := by
  refine ⟨(State.Joins.evaluateMember s n).latched m h.1, ?_⟩
  have hlevel : ∀ x, ((s.levelled n x).ilu.members.get m).level = .active := fun x => by
    rw [State.levelled_other hn]
    exact h.2
  cases hconfig : (s.ilu.members.get n).config with
  | none =>
    rw [State.evaluateMember_of_none hconfig]
    exact h.2
  | some g =>
    rw [State.evaluateMember_of_some hconfig]
    split
    · rw [((s.levelled n .active).joinLatched_level n g m).1]
      exact hlevel _
    · exact hlevel _

/-- Every member of the list whose line reads its active level latches. -/
theorem State.evaluateMembers_latch {s : State} {m : Member} {g : MemberConfig} (hline : s.LineActive m g)
    {ns : List Member} (h : m ∈ ns ∨ s.Latched m) : (ns.foldl State.evaluateMember s).Latched m := by
  induction ns generalizing s with
  | nil => exact h.resolve_left List.not_mem_nil
  | cons n ns ih =>
    refine ih ((State.Joins.evaluateMember s n).lineActive hline) ?_
    by_cases hn : m = n
    · subst hn
      exact .inr (State.evaluateMember_latches hline)
    · exact h.imp (fun hm => (List.mem_cons.1 hm).resolve_left hn) fun hm => hm.evaluateMember hn

end Sys2Proof.Machine

/-! Start-up's evaluation of the hall: what it finds is in force, and the query begins (R185, R207). -/

namespace Sys2Proof.Machine

open Claims

/-! ### Sources -/

/-- The set has the source. -/
def Sources.Has (x : Sources) : Source → Prop
  | .member m => x.members.getLsbD m.val = true
  | .emergency => x.emergency = true
  | .mains => x.mains = true

theorem Sources.has_add (x : Sources) (a : Source) : (x.add a).Has a := by
  cases a with
  | member m =>
    show (setBit x.members m.val).getLsbD m.val = true
    rw [setBit_getLsbD _ _ _ m.isLt, decide_eq_true rfl, Bool.or_true]
  | emergency => rfl
  | mains => rfl

theorem Sources.Has.add {x : Sources} {b : Source} (h : x.Has b) (a : Source) : (x.add a).Has b := by
  cases b with
  | member n =>
    cases a with
    | member m =>
      have hbit : x.members.getLsbD n.val = true := h
      show (setBit x.members m.val).getLsbD n.val = true
      rw [setBit_getLsbD _ _ _ n.isLt, hbit, Bool.true_or]
    | emergency => exact h
    | mains => exact h
  | emergency =>
    cases a with
    | emergency => rfl
    | member m => exact h
    | mains => exact h
  | mains =>
    cases a with
    | mains => rfl
    | member m => exact h
    | emergency => exact h

/-! ### The messages put in force (R207 step 4) -/

/-- Between two states holds, gates and suspension sources are put in force: none is taken back, and a DARK transmitter
takes no notice but of its hold. -/
structure State.Forces (s t : State) : Prop where
  ilu : t.ilu = s.ilu
  mains : t.mains = s.mains
  holds : ∀ u a, (s.tr u).holds.Has a → (t.tr u).holds.Has a
  suspension : ∀ a, s.matrix.suspension.Has a → t.matrix.suspension.Has a
  dark : ∀ u w, (s.tr u).state = .dark w →
    (t.tr u).desc = (s.tr u).desc ∧ (t.tr u).state = .dark w ∧ (t.tr u).silence = (s.tr u).silence

namespace State.Forces

variable {s t z : State}

theorem refl (s : State) : State.Forces s s := ⟨rfl, rfl, fun _ _ => id, fun _ => id, fun _ _ h => ⟨rfl, h, rfl⟩⟩

theorem trans (h : State.Forces s t) (g : State.Forces t z) : State.Forces s z := by
  refine ⟨g.ilu.trans h.ilu, g.mains.trans h.mains, fun u a ha => g.holds u a (h.holds u a ha),
    fun a ha => g.suspension a (h.suspension a ha), fun u w hw => ?_⟩
  obtain ⟨hdesc, hstate, hsilence⟩ := h.dark u w hw
  obtain ⟨gdesc, gstate, gsilence⟩ := g.dark u w hstate
  exact ⟨gdesc.trans hdesc, gstate, gsilence.trans hsilence⟩

end State.Forces

theorem Bench.holdAdd_of_dark {b : Bench} {w : DarkReason} (h : b.u.tr.state = .dark w) (a : Source) (e : Env) :
    b.holdAdd a e = b.held a := by
  simp [holdAdd, held, h]

theorem Board.suspend_suspension (a : Source) (b : Board) : (b.suspend a).m.suspension = b.m.suspension.add a := by
  cases h : b.m.suspension.empty with
  | false => rw [Board.suspend_of_suspended h]; rfl
  | true =>
    rw [Board.suspend_of_normal h]
    exact Board.suspendDrives_suspension ..

section InForce

variable (s : State) (t : Tx) (a : Source)

/-- The record that a hold leaves, but for the row condition reported. -/
theorem State.holdInForce_tr : ((s.csq t (Bench.holdAdd a)).tr t) =
    { ((s.bench t).holdAdd a (s.env t)).u.tr with reported := ((s.bench t).holdAdd a (s.env t)).u.tr.toldOf } :=
  (congrArg (fun b : Bench => b.u.tr) (s.csq_bench t (Bench.holdAdd a))).trans (Bench.reportRow_record ..)

theorem State.holdInForce_holds : ((s.csq t (Bench.holdAdd a)).tr t).holds = (s.tr t).holds.add a := by
  rw [s.holdInForce_tr]
  exact Bench.holdAdd_holds a _ _

theorem State.suspensionInForce : (s.onMatrix (Board.suspend a)).matrix.suspension = s.matrix.suspension.add a :=
  Board.suspend_suspension ..

theorem State.Forces.hold : State.Forces s (s.csq t (Bench.holdAdd a)) := by
  refine ⟨rfl, rfl, fun u b hb => ?_, fun b => id, fun u w hw => ?_⟩
  · by_cases hu : u = t
    · subst hu
      rw [s.holdInForce_holds]
      exact hb.add a
    · rwa [State.csq_other_tr s hu]
  · by_cases hu : u = t
    · subst hu
      rw [s.holdInForce_tr, Bench.holdAdd_of_dark (b := s.bench u) hw]
      exact ⟨rfl, hw, rfl⟩
    · rw [State.csq_other_tr s hu]
      exact ⟨rfl, hw, rfl⟩

theorem State.Forces.board (f : Board → Board)
    (hf : ∀ b : Board, ∀ a, b.m.suspension.Has a → (f b).m.suspension.Has a) : State.Forces s (s.onMatrix f) :=
  ⟨rfl, rfl, fun _ _ => id, hf s.board, fun _ _ hw => ⟨rfl, hw, rfl⟩⟩

theorem State.Forces.putInForce (i : Instr) : State.Forces s (s.putInForce i) := by
  unfold State.putInForce
  split
  · exact State.Forces.hold s _ _
  · exact State.Forces.board s _ fun b a ha => by rwa [Board.service_suspension]
  · exact State.Forces.board s _ fun b a ha => by
      rw [Board.suspend_suspension]
      exact ha.add _
  · exact .refl s

theorem State.Forces.all (is : List Instr) : State.Forces s (is.foldl State.putInForce s) := by
  induction is generalizing s with
  | nil => exact .refl s
  | cons i is ih => exact (putInForce s i).trans (ih _)

end InForce

/-- What one of the messages puts in force is in force when all are. -/
theorem State.inForce_of_mem {P : State → Prop} (hkeep : ∀ x y, State.Forces x y → P x → P y) {i : Instr}
    (hset : ∀ x : State, P (x.putInForce i)) {is : List Instr} (hi : i ∈ is) (s : State) : P (is.foldl State.putInForce s) := by
  induction is generalizing s with
  | nil => exact absurd hi List.not_mem_nil
  | cons j is ih =>
    rcases List.mem_cons.1 hi with rfl | hi
    · exact hkeep _ _ (State.Forces.all _ is) (hset s)
    · exact ih hi _

/-- The source is in every hold set and in the suspension set. -/
def State.Under (s : State) (a : Source) : Prop := (∀ u, (s.tr u).holds.Has a) ∧ s.matrix.suspension.Has a

theorem State.under_of_orders {is : List Instr} {a : Source} (hholds : ∀ u, Instr.holdAdd u a ∈ is)
    (hsuspension : Instr.suspensionSourceAdd a ∈ is) (s : State) : (is.foldl State.putInForce s).Under a := by
  refine ⟨fun u => ?_, ?_⟩
  · refine State.inForce_of_mem (P := fun x => (x.tr u).holds.Has a) (fun x y h => h.holds u a) (fun x => ?_) (hholds u) s
    have hx : ((x.putInForce (.holdAdd u a)).tr u).holds = (x.tr u).holds.add a := x.holdInForce_holds u a
    rw [hx]
    exact Sources.has_add ..
  · refine State.inForce_of_mem (P := fun x => x.matrix.suspension.Has a) (fun x y h => h.suspension a) (fun x => ?_)
      hsuspension s
    have hx : (x.putInForce (.suspensionSourceAdd a)).matrix.suspension = x.matrix.suspension.add a := x.suspensionInForce a
    rw [hx]
    exact Sources.has_add ..

/-! ### The query begins (R207 step 5) -/

/-- The transmitter has been asked for its first reply. -/
def TxRecord.Awaits (r : TxRecord) : Prop := r.startup = .asked ∧ r.poll = some 0

/-- The transmitter is present and available, and silent since the reset. -/
def TxRecord.Silent (r : TxRecord) : Prop :=
  r.desc.present = true ∧ r.desc.available = true ∧ r.state = .dark .portSilent ∧ r.silence = 0

/-- One transmitter's turn as the query begins. -/
def Bench.queried (e : Env) (b : Bench) : Bench := (b.ask e).reportRow e

theorem Bench.ask_of_silent {b : Bench} (h : b.u.tr.Silent) (e : Env) : b.ask e =
    ((b.tr fun r => { r with startup := .asked }).polled e).tr fun r => { r with silence := r.silence + 1 } := by
  obtain ⟨hpresent, havailable, -, hsilence⟩ := h
  refine (if_pos ⟨hpresent, havailable⟩).trans (Bench.pollInstant_of_counting ?_)
  show b.u.tr.silence < 3
  omega

theorem Bench.queried_of_silent {b : Bench} (h : b.u.tr.Silent) (e : Env) :
    (b.queried e).u.tr.Awaits ∧ (e.t, .stat) ∈ (b.queried e).o.port := by
  unfold Bench.queried
  rw [Bench.ask_of_silent h]
  refine ⟨?_, ?_⟩
  · rw [Bench.reportRow_record]
    exact ⟨rfl, rfl⟩
  · rw [Bench.reportRow_port]
    simp [Bench.polled, Bench.order]

theorem Bench.queried_holds (e : Env) (b : Bench) : (b.queried e).u.tr.holds = b.u.tr.holds :=
  SameHolds.reportRow (.ask (.refl b))

section Query

variable (s : State)

theorem State.queried_holds (u : Tx) : ((s.onEach Bench.queried).tr u).holds = (s.tr u).holds :=
  s.onEach_station (f := Bench.queried) (R := fun _ v w => w.tr.holds = v.tr.holds) (fun e b => b.queried_holds e) u

theorem State.queried_awaits {u : Tx} (h : (s.tr u).Silent) :
    ((s.onEach Bench.queried).tr u).Awaits ∧ (u, .stat) ∈ (s.onEach Bench.queried).out.port := by
  refine ⟨s.onEach_station (f := Bench.queried) (R := fun _ v w => v.tr.Silent → w.tr.Awaits)
    (fun e b hb => (Bench.queried_of_silent hb e).1) u h, ?_⟩
  refine s.onEach_adds (f := Bench.queried) (P := fun o => (u, PortOrder.stat) ∈ o.port) u (fun e b hb => ?_) fun o => ?_
  · have hputs : Bench.Puts e Set.univ b (b.queried e) := .reportRow (.ask (.refl b))
    obtain ⟨orders, horders, -⟩ := hputs.own
    rw [horders]
    exact List.mem_append_left _ hb
  · exact (Bench.queried_of_silent h _).2

theorem State.queried_under {a : Source} (h : s.Under a) : (s.onEach Bench.queried).Under a := by
  refine ⟨fun u => ?_, ?_⟩
  · rw [s.queried_holds]
    exact h.1 u
  · rw [s.onEach_matrix]
    exact h.2

theorem State.onEach_ilu {f : Env → Bench → Bench} : (s.onEach f).ilu = s.ilu := by
  have h := congrArg State.ilu (s.onEach_frame (f := f))
  exact h

theorem State.onEach_mains {f : Env → Bench → Bench} : (s.onEach f).mains = s.mains := by
  have h := congrArg State.mains (s.onEach_frame (f := f))
  exact h

end Query

end Sys2Proof.Machine

/-! Start-up's steps, and all that start-up does (R34, R46-R48, R207-R210; O60). -/

namespace Sys2Proof.Machine

open Claims

/-! ### The hall evaluated (R185, R207 step 4) -/

/-- What was found put in force, the messages that were on their way before put back. -/
def State.forced (before : List Instr) (x : State) : State :=
  x.out.handed.foldl State.putInForce (x.onOut fun o => { o with handed := before })

/-- The query begun. -/
def State.asQuery (x : State) : State := { x with boot := { x.boot with phase := .query } }

/-- The state whose inputs are found. -/
def State.cleared (s : State) : State := s.onOut fun o => { o with handed := [] }

/-- The hall as found, with nothing else on its way. -/
def State.hallFound (percent : Nat) (s : State) : State := s.cleared.findHall percent

theorem State.evaluateHall_queried (percent : Nat) (s : State) : s.evaluateHall percent =
    (((s.hallFound percent).forced (s.out.handed.filter fun i => !levelChange i)).asQuery).onEach Bench.queried := by
  rw [s.evaluateHall_eq]
  unfold State.hallInForce State.forced State.asQuery State.hallFound State.cleared Bench.queried
  rfl

section Forced

variable (before : List Instr) (x : State)

theorem State.forced_forces : State.Forces (x.onOut fun o => { o with handed := before }) (x.forced before) :=
  State.Forces.all _ _

theorem State.forced_ilu : (x.forced before).asQuery.ilu = x.ilu := (x.forced_forces before).ilu

theorem State.forced_mains : (x.forced before).asQuery.mains = x.mains := (x.forced_forces before).mains

theorem State.forced_under {a : Source} (h : x.out.Orders a) : (x.forced before).asQuery.Under a :=
  State.under_of_orders h.1 h.2 (x.onOut fun o => { o with handed := before })

theorem State.forced_silent {u : Tx} (h : (x.tr u).Silent) : ((x.forced before).asQuery.tr u).Silent := by
  obtain ⟨hpresent, havailable, hstate, hsilence⟩ := h
  obtain ⟨hdesc, hdark, hsilent⟩ := (x.forced_forces before).dark u .portSilent hstate
  exact ⟨(congrArg TxDesc.present hdesc).trans hpresent, (congrArg TxDesc.available hdesc).trans havailable, hdark,
    hsilent.trans hsilence⟩

end Forced

section Found

variable (percent : Nat) (s : State)

theorem State.hallFound_joins : State.Joins (s.cleared.inputsFound percent) (s.hallFound percent) :=
  State.Joins.evaluateMembers _ allMembers

theorem State.hallFound_stations : (s.hallFound percent).stations = s.stations :=
  (s.hallFound_joins percent).stations.trans (s.cleared.inputsFound_frame percent).1

theorem State.hallFound_tr (u : Tx) : (s.hallFound percent).tr u = s.tr u :=
  congrArg (fun v : Vector Station 12 => (v.get u).tr) (s.hallFound_stations percent)

theorem State.hallFound_mains (h : percent < s.protection.mainsLevel) :
    (s.hallFound percent).mains.state = .low ∧ (s.hallFound percent).out.Orders .mains := by
  obtain ⟨hlow, hholds, hsuspension⟩ := s.cleared.inputsFound_mains percent h
  have hjoins := s.hallFound_joins percent
  exact ⟨(congrArg MainsMonitor.state hjoins.mains).trans hlow, fun u => hjoins.handed _ (hholds u), hjoins.handed _ hsuspension⟩

theorem State.hallFound_emergency (h : s.ilu.input = some true) :
    (s.hallFound percent).ilu.emergency = true ∧ (s.hallFound percent).out.Orders .emergency := by
  obtain ⟨hlatched, hholds, hsuspension⟩ := s.cleared.inputsFound_emergency percent h
  have hjoins := s.hallFound_joins percent
  exact ⟨hjoins.emergency.trans hlatched, fun u => hjoins.handed _ (hholds u), hjoins.handed _ hsuspension⟩

theorem State.hallFound_latched {m : Member} {g : MemberConfig} (h : s.LineActive m g) : (s.hallFound percent).Latched m := by
  obtain ⟨-, hlines, hmembers⟩ := s.cleared.inputsFound_frame percent
  have hline : (s.cleared.inputsFound percent).LineActive m g := by
    unfold State.LineActive
    rw [hlines, hmembers]
    exact h
  exact State.evaluateMembers_latch hline (.inl (mem_allMembers m))

end Found

theorem exec_startupHallEvaluation {percent : Nat} {s : State} (hlive : live s) (hphase : s.boot.phase = .evaluate)
    (hsettled : s.levelsSettled = true) : exec (.startupHallEvaluation percent) s = .next (s.evaluateHall percent) := by
  show execStartupHallEvaluation percent s = _
  rw [execStartupHallEvaluation, State.take_of_live hlive, if_pos ⟨hphase, hsettled⟩]

theorem startupEvaluates {percent : Nat} {s : State} (hlive : live s) (hphase : s.boot.phase = .evaluate)
    (hsettled : s.levelsSettled = true) :
    ∃ t, exec (.startupHallEvaluation percent) s = .next t ∧ t.boot.phase = .query ∧
      (percent < s.protection.mainsLevel → t.mains.state = .low ∧ t.matrix.suspension.mains = true ∧
        ∀ u, (t.tr u).holds.mains = true) ∧
      (s.ilu.input = some true → t.ilu.emergency = true ∧ t.matrix.suspension.emergency = true ∧
        ∀ u, (t.tr u).holds.emergency = true) ∧
      (∀ m g, (s.ilu.members.get m).config = some g → (s.lines.get g.line).pin = some g.activeHigh →
        m ∈ t.ilu.latchedSet ∧ (t.ilu.members.get m).level = .active) ∧
      (∀ u, (s.tr u).desc.present = true → (s.tr u).desc.available = true → (s.tr u).state = .dark .portSilent →
        (s.tr u).silence = 0 → (t.tr u).startup = .asked ∧ (t.tr u).poll = some 0 ∧ (u, .stat) ∈ t.out.port) := by
  obtain ⟨z, hz⟩ : ∃ z, z = ((s.hallFound percent).forced (s.out.handed.filter fun i => !levelChange i)).asQuery := ⟨_, rfl⟩
  have hphase' : z.boot.phase = .query := by rw [hz]; rfl
  have hilu : z.ilu = (s.hallFound percent).ilu := by rw [hz, State.forced_ilu]
  have hmains : z.mains = (s.hallFound percent).mains := by rw [hz, State.forced_mains]
  have hunder : ∀ a, (s.hallFound percent).out.Orders a → z.Under a := fun a ha => by
    rw [hz]
    exact State.forced_under _ _ ha
  have hsilent : ∀ u, (s.tr u).Silent → (z.tr u).Silent := fun u hu => by
    rw [hz]
    refine State.forced_silent _ _ ?_
    rwa [State.hallFound_tr]
  have hexec := exec_startupHallEvaluation (percent := percent) hlive hphase hsettled
  rw [s.evaluateHall_queried, ← hz] at hexec
  refine ⟨_, hexec, by rw [State.onEach_boot, hphase'], fun hlow => ?_, fun hinput => ?_, fun m g hconfig hpin => ?_,
    fun u hpresent havailable hstate hsilence => ?_⟩
  · obtain ⟨hstate, horders⟩ := s.hallFound_mains percent hlow
    obtain ⟨hholds, hsuspension⟩ := z.queried_under (hunder _ horders)
    exact ⟨by rw [State.onEach_mains, hmains, hstate], hsuspension, hholds⟩
  · obtain ⟨hlatched, horders⟩ := s.hallFound_emergency percent hinput
    obtain ⟨hholds, hsuspension⟩ := z.queried_under (hunder _ horders)
    exact ⟨by rw [State.onEach_ilu, hilu, hlatched], hsuspension, hholds⟩
  · rw [State.onEach_ilu, hilu]
    exact s.hallFound_latched percent ⟨hconfig, hpin⟩
  · obtain ⟨⟨hasked, hpoll⟩, hstat⟩ := z.queried_awaits (hsilent u ⟨hpresent, havailable, hstate, hsilence⟩)
    exact ⟨hasked, hpoll, hstat⟩

/-! ### All of start-up -/

theorem startupStepsFollow : Claims.StartupStepsFollow :=
  ⟨fun _ hlive => exec_startupPollTimeout hlive, fun _ _ hlive hphase hsettled => startupEvaluates hlive hphase hsettled,
    fun _ hlive hphase hended => startupAdopts hlive hphase hended,
    fun _ hlive hphase hended => startupEnds hlive hphase hended,
    fun percent _ hlive hqueue => startupStepsInPlace percent hlive hqueue⟩

/-- Settles O60: the store that a reset cuts, start-up's bank tests, and each of its steps read off in its own lemma. -/
theorem startupFollows : Obligations.StartupFollows :=
  ⟨cellWritesCut, startupTestsTheBanks, oneActiveBankKept, startupStepsFollow, queryAnswered, adoptionTested,
    candidateAdopted, candidateMuted⟩

end Sys2Proof.Machine
